-- ==== Sys2Proof/Word.lean ====
section
/-! DEFINITION. The machine word and its plainest arithmetic. Control registers are 32 bits wide (R4). -/
namespace Sys2Proof

/-- A 32-bit control register word (R4). -/
abbrev Word := BitVec 32

/-- A byte of memory. -/
abbrev Byte := BitVec 8

/-- One of the two actuators of the drive. -/
inductive Act where
  | a | b
  deriving DecidableEq, Repr

/-- The actuator as an index: 0 for A, 1 for B. -/
def Act.idx : Act → Nat
  | .a => 0
  | .b => 1

/-- The other actuator. -/
def Act.other : Act → Act
  | .a => .b
  | .b => .a

end Sys2Proof
end

