-- ==== Sys2Proof/Machine/Bits.lean ====
section
/-! DEFINITION. Bit-field, sign-extension, rounding and byte-order helpers used by every family. -/
namespace Sys2Proof.Machine

/-- Bits [lo+w-1 : lo] of a natural number. -/
def bitField (v lo w : Nat) : Nat := v / 2 ^ lo % 2 ^ w

/-- Bit i of a natural number. -/
def bitAt (v i : Nat) : Bool := v / 2 ^ i % 2 == 1

/-- v with bit i set or cleared. -/
def putBit (v i : Nat) (b : Bool) : Nat :=
  if bitAt v i then (if b then v else v - 2 ^ i) else (if b then v + 2 ^ i else v)

/-- The two's-complement value of the low w bits of n. -/
def signedOf (w n : Nat) : Int :=
  if n % 2 ^ w < 2 ^ (w - 1) then ((n % 2 ^ w : Nat) : Int) else ((n % 2 ^ w : Nat) : Int) - ((2 ^ w : Nat) : Int)

/-- The w-bit two's-complement code of z. -/
def twosOf (w : Nat) (z : Int) : Nat := (z % ((2 ^ w : Nat) : Int)).toNat

/-- z held between lo and hi. -/
def clampInt (lo hi z : Int) : Int := if z < lo then lo else if hi < z then hi else z

/-- z saturated to w-bit two's complement. -/
def satSigned (w : Nat) (z : Int) : Int :=
  clampInt (-((2 ^ (w - 1) : Nat) : Int)) (((2 ^ (w - 1) : Nat) : Int) - 1) z

/-- z / 2^n rounded to nearest, halves upward. -/
def roundShift (z : Int) (n : Nat) : Int :=
  if n = 0 then z else (z + ((2 ^ (n - 1) : Nat) : Int)) / ((2 ^ n : Nat) : Int)

/-- a / b rounded to nearest, halves upward (b > 0). -/
def roundDiv (a b : Int) : Int := (2 * a + b) / (2 * b)

/-- The natural number whose set bits are the members of the list. -/
def maskOf (l : List Nat) : Nat := l.eraseDups.foldl (fun m i => m + 2 ^ i) 0

/-- The indices below n whose bits are set in v. -/
def bitsOf (v n : Nat) : List Nat := (List.range n).filter (fun i => bitAt v i)

/-- Little-endian value of a byte list. -/
def leValue : List Byte → Nat
  | [] => 0
  | b :: bs => b.toNat + 256 * leValue bs

/-- The n little-endian bytes of v. -/
def leBytes : Nat → Nat → List Byte
  | 0, _ => []
  | n + 1, v => BitVec.ofNat 8 v :: leBytes n (v / 256)

/-- a + b, held at m. -/
def satAdd (m a b : Nat) : Nat := min m (a + b)

end Sys2Proof.Machine
end

