-- ==== Sys2Proof/Machine/Field.lean ====
section
/-! DEFINITION. The descriptor of one field of a control register, as the spec's register maps give it. -/
namespace Sys2Proof.Machine

/-- The access types of R7. -/
inductive Access where
  | ro | rw | w1c | w1s | rc | wo | rwl
  deriving DecidableEq, Repr

/-- The boundaries that a Shadowed field may name (R17). -/
inductive Boundary where
  | sample | wedge | sector | band | revolution
  deriving DecidableEq, Repr

/-- The effect classes of R16; status, counter and command fields have none. -/
inductive Effect where
  | none | live | stat
  | shadowed (b : Boundary)
  deriving DecidableEq, Repr

/-- One field of a register map: the block's index (R31), the byte offset of its register, its lowest bit and width,
its access type and effect class, its reset value, which resets leave it alone (R12, R13, R14, R569), the number of
registers in its array and the distance between them, the life-cycle states in which an RWL field is unlocked (R10),
and the range outside which a written value is refused. -/
structure Field where
  blk : Nat
  off : Nat
  lo : Nat
  w : Nat
  acc : Access := .ro
  eff : Effect := .none
  rst : Nat := 0
  rsts : List Nat := []
  warmKept : Bool := false
  blockKept : Bool := false
  aon : Bool := false
  n : Nat := 1
  stride : Nat := 4
  unlock : List Nat := []
  rng : Option (Nat × Nat) := none
  deriving DecidableEq, Repr

/-- The key of a field in the register store: block index, byte offset and lowest bit. -/
def fieldKey (blk off lo : Nat) : Nat := (blk * 65536 + off) * 32 + lo

/-- The key of this field. -/
def Field.key (f : Field) : Nat := fieldKey f.blk f.off f.lo

/-- The field of register i of an array. -/
def Field.at (f : Field) (i : Nat) : Field :=
  { f with off := f.off + i * f.stride, rst := f.rsts.getD i f.rst, n := 1, rsts := [] }

/-- The same field in instance k of a block with several instances (R6). -/
def Field.inst (f : Field) (k : Nat) : Field := { f with blk := f.blk + k }

/-- The same field d bytes further on. -/
def Field.plus (f : Field) (d : Nat) : Field := { f with off := f.off + d }

/-- The block of a key. -/
def keyBlk (k : Nat) : Nat := k / 32 / 65536

/-- The byte offset of a key. -/
def keyOff (k : Nat) : Nat := k / 32 % 65536

/-- The lowest bit of a key. -/
def keyLo (k : Nat) : Nat := k % 32

/-- The register store: (field key, value) pairs, keys strictly rising; a key that is not listed reads its reset value. -/
abbrev RegStore := List (Nat × Word)

/-- The value listed for a key. -/
def regFind : RegStore → Nat → Option Word
  | [], _ => none
  | (k, v) :: r, q => if q = k then some v else if q < k then none else regFind r q

/-- The store with v listed for key q. -/
def regPut : RegStore → Nat → Word → RegStore
  | [], q, v => [(q, v)]
  | (k, u) :: r, q, v =>
    if q < k then (q, v) :: (k, u) :: r else if q = k then (k, v) :: r else (k, u) :: regPut r q v

/-- The keys of a store rise strictly. -/
def regWf : RegStore → Bool
  | [] => true
  | [_] => true
  | (k, _) :: (k', v') :: r => decide (k < k') && regWf ((k', v') :: r)

end Sys2Proof.Machine
end

