-- ==== Sys2Proof/Machine/RegMapCal.lean ====
section
/-! DEFINITION. The register maps of EVR, CAL and BST: one descriptor per field of the spec's register tables,
with its place, access type (R7), effect class (R16), reset value (R14) and the range whose violation is refused. -/
namespace Sys2Proof.Machine.R

/-! EVR_CTL, offset 0x0000 (spec/19_calibration_records.md) -/
def EVR_CTL_srst : Field :=
  { blk := 4, off := 0x0, lo := 31, w := 1, acc := .rw, eff := .live }
def EVR_CTL_en : Field :=
  { blk := 4, off := 0x0, lo := 0, w := 1, acc := .rw, eff := .live }
/-! EVR_STAT, offset 0x0004 (spec/19_calibration_records.md) -/
def EVR_STAT_clearing : Field :=
  { blk := 4, off := 0x4, lo := 31, w := 1, acc := .ro }
def EVR_STAT_in_use : Field :=
  { blk := 4, off := 0x4, lo := 24, w := 2, acc := .ro }
def EVR_STAT_store_fail : Field :=
  { blk := 4, off := 0x4, lo := 0, w := 3, acc := .ro }
/-! EVR_CFG, offset 0x0008 (spec/19_calibration_records.md) -/
def EVR_CFG_flush_ms : Field :=
  { blk := 4, off := 0x8, lo := 16, w := 16, acc := .rw, eff := .live, rst := 100 }
def EVR_CFG_irq_sev : Field :=
  { blk := 4, off := 0x8, lo := 0, w := 3, acc := .rw, eff := .live, rst := 4 }
/-! EVR_SEQ, offset 0x000C (spec/19_calibration_records.md) -/
def EVR_SEQ_seq : Field :=
  { blk := 4, off := 0xC, lo := 0, w := 32, acc := .rw, eff := .stat, aon := true }
/-! EVR_STORE_NEXT01, offset 0x0010 + 4 × i, i < 2 (spec/19_calibration_records.md) -/
def EVR_STORE_NEXT01_next : Field :=
  { blk := 4, off := 0x10, lo := 0, w := 32, acc := .rw, eff := .stat, aon := true, n := 2, stride := 4 }
/-! EVR_STORE2_NEXT, offset 0x0018 (spec/19_calibration_records.md) -/
def EVR_STORE2_NEXT_next : Field :=
  { blk := 4, off := 0x18, lo := 0, w := 32, acc := .rw, eff := .live, aon := true }
/-! EVR_STORE_CTL, offset 0x0020 (spec/19_calibration_records.md) -/
def EVR_STORE_CTL_mfail : Field :=
  { blk := 4, off := 0x20, lo := 8, w := 1, acc := .wo }
def EVR_STORE_CTL_retry : Field :=
  { blk := 4, off := 0x20, lo := 0, w := 3, acc := .wo }
/-! EVR_FLASH_POS, offset 0x0024 + 4 × i, i < 2 (spec/19_calibration_records.md) -/
def EVR_FLASH_POS_pos : Field :=
  { blk := 4, off := 0x24, lo := 0, w := 26, acc := .rw, eff := .stat, rst := 0x2010000, aon := true, n := 2, stride := 4 }
/-! EVR_CLR, offset 0x0030 (spec/19_calibration_records.md) -/
def EVR_CLR_go : Field :=
  { blk := 4, off := 0x30, lo := 31, w := 1, acc := .rwl, eff := .live, unlock := [3] }
/-! EVR_CLR_FLOOR, offset 0x0034 (spec/19_calibration_records.md) -/
def EVR_CLR_FLOOR_floor : Field :=
  { blk := 4, off := 0x34, lo := 0, w := 32, acc := .ro, aon := true }
/-! EVR_CNT, offset 0x0040 (spec/19_calibration_records.md) -/
def EVR_CNT_lost : Field :=
  { blk := 4, off := 0x40, lo := 16, w := 16, acc := .rc }
def EVR_CNT_dropped : Field :=
  { blk := 4, off := 0x40, lo := 8, w := 8, acc := .rc }
def EVR_CNT_fail : Field :=
  { blk := 4, off := 0x40, lo := 0, w := 8, acc := .rc }
/-! EVR_POST_P, offset 0x0100 + 64 × i, i < 6 (spec/19_calibration_records.md) -/
def EVR_POST_P_param : Field :=
  { blk := 4, off := 0x100, lo := 0, w := 32, acc := .rw, eff := .live, n := 6, stride := 64 }
/-! EVR_POST_CTL, offset 0x0128 + 64 × i, i < 6 (spec/19_calibration_records.md) -/
def EVR_POST_CTL_code : Field :=
  { blk := 4, off := 0x128, lo := 16, w := 16, acc := .wo, n := 6, stride := 64 }
def EVR_POST_CTL_sev : Field :=
  { blk := 4, off := 0x128, lo := 8, w := 3, acc := .wo, n := 6, stride := 64, rng := some (0, 6) }
def EVR_POST_CTL_source : Field :=
  { blk := 4, off := 0x128, lo := 0, w := 8, acc := .wo, n := 6, stride := 64 }
def evrTable0 : List Field :=
  [EVR_CTL_srst, EVR_CTL_en, EVR_STAT_clearing, EVR_STAT_in_use, EVR_STAT_store_fail, EVR_CFG_flush_ms, EVR_CFG_irq_sev, EVR_SEQ_seq, EVR_STORE_NEXT01_next, EVR_STORE2_NEXT_next, EVR_STORE_CTL_mfail, EVR_STORE_CTL_retry, EVR_FLASH_POS_pos, EVR_CLR_go, EVR_CLR_FLOOR_floor, EVR_CNT_lost, EVR_CNT_dropped, EVR_CNT_fail, EVR_POST_P_param, EVR_POST_CTL_code, EVR_POST_CTL_sev, EVR_POST_CTL_source, EVR_POST_P_param.plus 4, EVR_POST_P_param.plus 8]
def evrTable1 : List Field :=
  [EVR_POST_P_param.plus 12, EVR_POST_P_param.plus 16, EVR_POST_P_param.plus 20, EVR_POST_P_param.plus 24, EVR_POST_P_param.plus 28, EVR_POST_P_param.plus 32, EVR_POST_P_param.plus 36]
/-- Every field of the EVR register map. -/
def evrTable : List Field :=
  evrTable0 ++ evrTable1

/-! CAL_CTL, offset 0x0000 (spec/19_calibration_records.md) -/
def CAL_CTL_srst : Field :=
  { blk := 5, off := 0x0, lo := 31, w := 1, acc := .rw, eff := .live }
def CAL_CTL_en : Field :=
  { blk := 5, off := 0x0, lo := 0, w := 1, acc := .rw, eff := .live }
/-! CAL_STAT, offset 0x0004 (spec/19_calibration_records.md) -/
def CAL_STAT_busy : Field :=
  { blk := 5, off := 0x4, lo := 31, w := 1, acc := .ro }
def CAL_STAT_code : Field :=
  { blk := 5, off := 0x4, lo := 28, w := 3, acc := .ro }
def CAL_STAT_inst : Field :=
  { blk := 5, off := 0x4, lo := 16, w := 5, acc := .ro }
def CAL_STAT_fail : Field :=
  { blk := 5, off := 0x4, lo := 8, w := 8, acc := .ro }
/-! CAL_RUN, offset 0x0008 (spec/19_calibration_records.md) -/
def CAL_RUN_go : Field :=
  { blk := 5, off := 0x8, lo := 31, w := 1, acc := .wo }
def CAL_RUN_abort : Field :=
  { blk := 5, off := 0x8, lo := 30, w := 1, acc := .wo }
def CAL_RUN_inst : Field :=
  { blk := 5, off := 0x8, lo := 0, w := 5, acc := .rw, eff := .live }
/-! CAL_CFG, offset 0x000C (spec/19_calibration_records.md) -/
def CAL_CFG_quiet : Field :=
  { blk := 5, off := 0xC, lo := 24, w := 8, acc := .rw, eff := .live, rst := 4 }
def CAL_CFG_tstab : Field :=
  { blk := 5, off := 0xC, lo := 8, w := 8, acc := .rw, eff := .live, rst := 16 }
/-! CAL_STROBE, offset 0x0010 (spec/19_calibration_records.md) -/
def CAL_STROBE_go : Field :=
  { blk := 5, off := 0x10, lo := 31, w := 1, acc := .wo }
def CAL_STROBE_inst : Field :=
  { blk := 5, off := 0x10, lo := 0, w := 5, acc := .rw, eff := .live }
/-! CAL_PEND, offset 0x0014 (spec/19_calibration_records.md) -/
def CAL_PEND_pend : Field :=
  { blk := 5, off := 0x14, lo := 0, w := 32, acc := .ro }
/-! CAL_VMON_STAT, offset 0x0020 (spec/19_calibration_records.md) -/
def CAL_VMON_STAT_in3 : Field :=
  { blk := 5, off := 0x20, lo := 16, w := 1, acc := .ro }
def CAL_VMON_STAT_out : Field :=
  { blk := 5, off := 0x20, lo := 0, w := 9, acc := .w1c }
/-! CAL_VMON_DIV, offset 0x0024 (spec/19_calibration_records.md) -/
def CAL_VMON_DIV_div12 : Field :=
  { blk := 5, off := 0x24, lo := 16, w := 16, acc := .rw, eff := .live, rst := 1088 }
def CAL_VMON_DIV_div5 : Field :=
  { blk := 5, off := 0x24, lo := 0, w := 16, acc := .rw, eff := .live, rst := 480 }
/-! CAL_VMON, offset 0x0040 + 8 × i, i < 9 (spec/19_calibration_records.md) -/
def CAL_VMON_mv : Field :=
  { blk := 5, off := 0x40, lo := 0, w := 16, acc := .ro, n := 9, stride := 8 }
/-! CAL_VMON_LIM, offset 0x0044 + 8 × i, i < 9 (spec/19_calibration_records.md) -/
def CAL_VMON_LIM_hi : Field :=
  { blk := 5, off := 0x44, lo := 16, w := 16, acc := .rw, eff := .live, rst := 65535, n := 9, stride := 8 }
def CAL_VMON_LIM_lo : Field :=
  { blk := 5, off := 0x44, lo := 0, w := 16, acc := .rw, eff := .live, n := 9, stride := 8 }
/-! CAL_PMON, offset 0x0100 + 4 × i, i < 7 (spec/19_calibration_records.md) -/
def CAL_PMON_ref : Field :=
  { blk := 5, off := 0x100, lo := 16, w := 16, acc := .ro, n := 7, stride := 4 }
def CAL_PMON_mhz : Field :=
  { blk := 5, off := 0x100, lo := 0, w := 16, acc := .ro, n := 7, stride := 4 }
/-! CAL_TRIM, offset 0x0200 + 4 × i, i < 52 (spec/19_calibration_records.md) -/
def CAL_TRIM_active : Field :=
  { blk := 5, off := 0x200, lo := 16, w := 16, acc := .ro, n := 52, stride := 4 }
def CAL_TRIM_shadow : Field :=
  { blk := 5, off := 0x200, lo := 0, w := 16, acc := .rw, eff := .live, n := 52, stride := 4 }
/-! CAL_CNT, offset 0x0400 + 16 × i, i < 32 (spec/19_calibration_records.md) -/
def CAL_CNT_count : Field :=
  { blk := 5, off := 0x400, lo := 0, w := 32, acc := .ro, warmKept := true, blockKept := true, n := 32, stride := 16 }
/-! CAL_LAST_LO, offset 0x0404 + 16 × i, i < 32 (spec/19_calibration_records.md) -/
def CAL_LAST_LO_dt : Field :=
  { blk := 5, off := 0x404, lo := 0, w := 32, acc := .ro, warmKept := true, blockKept := true, n := 32, stride := 16 }
/-! CAL_LAST_HI, offset 0x0408 + 16 × i, i < 32 (spec/19_calibration_records.md) -/
def CAL_LAST_HI_dt : Field :=
  { blk := 5, off := 0x408, lo := 0, w := 32, acc := .ro, warmKept := true, blockKept := true, n := 32, stride := 16 }
/-! CAL_CNT_EVT, offset 0x0600 (spec/19_calibration_records.md) -/
def CAL_CNT_EVT_aborts : Field :=
  { blk := 5, off := 0x600, lo := 16, w := 16, acc := .rc }
def CAL_CNT_EVT_vmon : Field :=
  { blk := 5, off := 0x600, lo := 0, w := 16, acc := .rc }
def calTable0 : List Field :=
  [CAL_CTL_srst, CAL_CTL_en, CAL_STAT_busy, CAL_STAT_code, CAL_STAT_inst, CAL_STAT_fail, CAL_RUN_go, CAL_RUN_abort, CAL_RUN_inst, CAL_CFG_quiet, CAL_CFG_tstab, CAL_STROBE_go, CAL_STROBE_inst, CAL_PEND_pend, CAL_VMON_STAT_in3, CAL_VMON_STAT_out, CAL_VMON_DIV_div12, CAL_VMON_DIV_div5, CAL_VMON_mv, CAL_VMON_LIM_hi, CAL_VMON_LIM_lo, CAL_PMON_ref, CAL_PMON_mhz, CAL_TRIM_active]
def calTable1 : List Field :=
  [CAL_TRIM_shadow, CAL_CNT_count, CAL_LAST_LO_dt, CAL_LAST_HI_dt, CAL_CNT_EVT_aborts, CAL_CNT_EVT_vmon]
/-- Every field of the CAL register map. -/
def calTable : List Field :=
  calTable0 ++ calTable1

/-! BST_CTL, offset 0x0000 (spec/20_self_test.md) -/
def BST_CTL_srst : Field :=
  { blk := 6, off := 0x0, lo := 31, w := 1, acc := .rw, eff := .live }
def BST_CTL_en : Field :=
  { blk := 6, off := 0x0, lo := 0, w := 1, acc := .rw, eff := .live }
/-! BST_STAT, offset 0x0004 (spec/20_self_test.md) -/
def BST_STAT_busy : Field :=
  { blk := 6, off := 0x4, lo := 31, w := 1, acc := .ro }
def BST_STAT_code : Field :=
  { blk := 6, off := 0x4, lo := 28, w := 3, acc := .ro }
def BST_STAT_target : Field :=
  { blk := 6, off := 0x4, lo := 16, w := 5, acc := .ro }
/-! BST_RUN, offset 0x0008 (spec/20_self_test.md) -/
def BST_RUN_go : Field :=
  { blk := 6, off := 0x8, lo := 31, w := 1, acc := .rwl, eff := .live, unlock := [1, 3] }
def BST_RUN_abort : Field :=
  { blk := 6, off := 0x8, lo := 30, w := 1, acc := .wo }
def BST_RUN_mode : Field :=
  { blk := 6, off := 0x8, lo := 8, w := 1, acc := .rw, eff := .live }
def BST_RUN_target : Field :=
  { blk := 6, off := 0x8, lo := 0, w := 5, acc := .rw, eff := .live }
/-! BST_PASS, offset 0x000C (spec/20_self_test.md) -/
def BST_PASS_pass : Field :=
  { blk := 6, off := 0xC, lo := 0, w := 19, acc := .w1c }
/-! BST_FAIL, offset 0x0010 (spec/20_self_test.md) -/
def BST_FAIL_fail : Field :=
  { blk := 6, off := 0x10, lo := 0, w := 19, acc := .w1c }
/-! BST_MISR, offset 0x0014 + 4 × i, i < 2 (spec/20_self_test.md) -/
def BST_MISR_misr : Field :=
  { blk := 6, off := 0x14, lo := 0, w := 32, acc := .ro, n := 2, stride := 4 }
/-! BST_BSCAN, offset 0x0020 (spec/20_self_test.md) -/
def BST_BSCAN_active : Field :=
  { blk := 6, off := 0x20, lo := 31, w := 1, acc := .ro }
def BST_BSCAN_groups : Field :=
  { blk := 6, off := 0x20, lo := 0, w := 5, acc := .rwl, eff := .live, unlock := [1, 3] }
/-! BST_CNT, offset 0x0024 (spec/20_self_test.md) -/
def BST_CNT_runs : Field :=
  { blk := 6, off := 0x24, lo := 16, w := 16, acc := .rc }
def BST_CNT_fails : Field :=
  { blk := 6, off := 0x24, lo := 0, w := 16, acc := .rc }
def bstTable0 : List Field :=
  [BST_CTL_srst, BST_CTL_en, BST_STAT_busy, BST_STAT_code, BST_STAT_target, BST_RUN_go, BST_RUN_abort, BST_RUN_mode, BST_RUN_target, BST_PASS_pass, BST_FAIL_fail, BST_MISR_misr, BST_BSCAN_active, BST_BSCAN_groups, BST_CNT_runs, BST_CNT_fails]
/-- Every field of the BST register map. -/
def bstTable : List Field :=
  bstTable0

end Sys2Proof.Machine.R
end

