-- ==== Sys2Proof/Machine/RegMapHost.lean ====
section
/-! DEFINITION. The register maps of PAR, HQE, CLP, OBJ, BUF, DRC, FRK and HIF: one descriptor per field of the spec's register tables,
with its place, access type (R7), effect class (R16), reset value (R14) and the range whose violation is refused. -/
namespace Sys2Proof.Machine.R

/-! PAR_CTL, offset 0x0000 (spec/11_slot_parity.md) -/
def PAR_CTL_srst : Field :=
  { blk := 30, off := 0x0, lo := 31, w := 1, acc := .rw, eff := .live }
def PAR_CTL_en : Field :=
  { blk := 30, off := 0x0, lo := 0, w := 1, acc := .rw, eff := .live }
/-! PAR_STAT, offset 0x0004 (spec/11_slot_parity.md) -/
def PAR_STAT_wlk_b : Field :=
  { blk := 30, off := 0x4, lo := 9, w := 1, acc := .ro }
def PAR_STAT_wlk_a : Field :=
  { blk := 30, off := 0x4, lo := 8, w := 1, acc := .ro }
def PAR_STAT_bound : Field :=
  { blk := 30, off := 0x4, lo := 0, w := 8, acc := .ro }
/-! PAR_GEO, offset 0x0008 (spec/11_slot_parity.md) -/
def PAR_GEO_n : Field :=
  { blk := 30, off := 0x8, lo := 0, w := 5, acc := .rw, eff := .stat }
/-! PAR_ACC_BASE, offset 0x0010 (spec/11_slot_parity.md) -/
def PAR_ACC_BASE_base : Field :=
  { blk := 30, off := 0x10, lo := 0, w := 6, acc := .rw, eff := .stat }
/-! PAR_ACC_MBASE, offset 0x0014 (spec/11_slot_parity.md) -/
def PAR_ACC_MBASE_base : Field :=
  { blk := 30, off := 0x14, lo := 0, w := 32, acc := .rw, eff := .stat }
/-! PAR_BPT_BASE, offset 0x0018 (spec/11_slot_parity.md) -/
def PAR_BPT_BASE_base : Field :=
  { blk := 30, off := 0x18, lo := 0, w := 32, acc := .rw, eff := .stat }
/-! PAR_REMAP_BASE, offset 0x001C (spec/11_slot_parity.md) -/
def PAR_REMAP_BASE_base : Field :=
  { blk := 30, off := 0x1C, lo := 0, w := 32, acc := .rw, eff := .stat }
/-! PAR_RET, offset 0x0020 (spec/11_slot_parity.md) -/
def PAR_RET_ret : Field :=
  { blk := 30, off := 0x20, lo := 0, w := 32, acc := .rw, eff := .live }
/-! PAR_ERR, offset 0x0030 (spec/11_slot_parity.md) -/
def PAR_ERR_valid : Field :=
  { blk := 30, off := 0x30, lo := 31, w := 1, acc := .w1c }
def PAR_ERR_overflow : Field :=
  { blk := 30, off := 0x30, lo := 30, w := 1, acc := .w1c }
def PAR_ERR_cause : Field :=
  { blk := 30, off := 0x30, lo := 27, w := 3, acc := .ro }
def PAR_ERR_acc : Field :=
  { blk := 30, off := 0x30, lo := 22, w := 3, acc := .ro }
def PAR_ERR_index : Field :=
  { blk := 30, off := 0x30, lo := 0, w := 22, acc := .ro }
/-! PAR_ACC_CTL, offset 0x0040 + 16 × i, i < 8 (spec/11_slot_parity.md) -/
def PAR_ACC_CTL_cmd : Field :=
  { blk := 30, off := 0x40, lo := 28, w := 4, acc := .wo, n := 8, stride := 16 }
def PAR_ACC_CTL_act : Field :=
  { blk := 30, off := 0x40, lo := 20, w := 1, acc := .rw, eff := .live, n := 8, stride := 16 }
def PAR_ACC_CTL_slot : Field :=
  { blk := 30, off := 0x40, lo := 0, w := 17, acc := .rw, eff := .live, n := 8, stride := 16 }
/-! PAR_ACC_STAT, offset 0x0044 + 16 × i, i < 8 (spec/11_slot_parity.md) -/
def PAR_ACC_STAT_state : Field :=
  { blk := 30, off := 0x44, lo := 29, w := 3, acc := .ro, n := 8, stride := 16 }
def PAR_ACC_STAT_scan_busy : Field :=
  { blk := 30, off := 0x44, lo := 28, w := 1, acc := .ro, n := 8, stride := 16 }
def PAR_ACC_STAT_lanes : Field :=
  { blk := 30, off := 0x44, lo := 24, w := 4, acc := .ro, n := 8, stride := 16 }
def PAR_ACC_STAT_hw : Field :=
  { blk := 30, off := 0x44, lo := 0, w := 17, acc := .ro, n := 8, stride := 16 }
/-! PAR_ACC_SCAN, offset 0x0048 + 16 × i, i < 8 (spec/11_slot_parity.md) -/
def PAR_ACC_SCAN_nonzero : Field :=
  { blk := 30, off := 0x48, lo := 16, w := 16, acc := .ro, n := 8, stride := 16 }
def PAR_ACC_SCAN_first : Field :=
  { blk := 30, off := 0x48, lo := 0, w := 16, acc := .ro, n := 8, stride := 16 }
/-! PAR_WLK_STAT, offset 0x0100 + 16 × i, i < 2 (spec/11_slot_parity.md) -/
def PAR_WLK_STAT_busy : Field :=
  { blk := 30, off := 0x100, lo := 31, w := 1, acc := .ro, n := 2, stride := 16 }
def PAR_WLK_STAT_range : Field :=
  { blk := 30, off := 0x100, lo := 30, w := 1, acc := .ro, n := 2, stride := 16 }
def PAR_WLK_STAT_erasures : Field :=
  { blk := 30, off := 0x100, lo := 28, w := 2, acc := .ro, n := 2, stride := 16 }
def PAR_WLK_STAT_survivors : Field :=
  { blk := 30, off := 0x100, lo := 16, w := 4, acc := .ro, n := 2, stride := 16 }
def PAR_WLK_STAT_remaining : Field :=
  { blk := 30, off := 0x100, lo := 0, w := 16, acc := .ro, n := 2, stride := 16 }
/-! PAR_CNT_ADD, offset 0x0180 (spec/11_slot_parity.md) -/
def PAR_CNT_ADD_count : Field :=
  { blk := 30, off := 0x180, lo := 0, w := 32, acc := .rc }
/-! PAR_CNT_SRC, offset 0x0184 (spec/11_slot_parity.md) -/
def PAR_CNT_SRC_count : Field :=
  { blk := 30, off := 0x184, lo := 0, w := 32, acc := .rc }
/-! PAR_CNT_RBLD, offset 0x0188 (spec/11_slot_parity.md) -/
def PAR_CNT_RBLD_ok : Field :=
  { blk := 30, off := 0x188, lo := 16, w := 16, acc := .rc }
def PAR_CNT_RBLD_fail : Field :=
  { blk := 30, off := 0x188, lo := 0, w := 16, acc := .rc }
/-! PAR_CNT_MISC, offset 0x018C (spec/11_slot_parity.md) -/
def PAR_CNT_MISC_surv_fail : Field :=
  { blk := 30, off := 0x18C, lo := 16, w := 16, acc := .rc }
def PAR_CNT_MISC_nobind : Field :=
  { blk := 30, off := 0x18C, lo := 8, w := 8, acc := .rc }
def PAR_CNT_MISC_dram_ue : Field :=
  { blk := 30, off := 0x18C, lo := 0, w := 8, acc := .rc }
def parTable0 : List Field :=
  [PAR_CTL_srst, PAR_CTL_en, PAR_STAT_wlk_b, PAR_STAT_wlk_a, PAR_STAT_bound, PAR_GEO_n, PAR_ACC_BASE_base, PAR_ACC_MBASE_base, PAR_BPT_BASE_base, PAR_REMAP_BASE_base, PAR_RET_ret, PAR_ERR_valid, PAR_ERR_overflow, PAR_ERR_cause, PAR_ERR_acc, PAR_ERR_index, PAR_ACC_CTL_cmd, PAR_ACC_CTL_act, PAR_ACC_CTL_slot, PAR_ACC_STAT_state, PAR_ACC_STAT_scan_busy, PAR_ACC_STAT_lanes, PAR_ACC_STAT_hw, PAR_ACC_SCAN_nonzero]
def parTable1 : List Field :=
  [PAR_ACC_SCAN_first, PAR_WLK_STAT_busy, PAR_WLK_STAT_range, PAR_WLK_STAT_erasures, PAR_WLK_STAT_survivors, PAR_WLK_STAT_remaining, PAR_CNT_ADD_count, PAR_CNT_SRC_count, PAR_CNT_RBLD_ok, PAR_CNT_RBLD_fail, PAR_CNT_MISC_surv_fail, PAR_CNT_MISC_nobind, PAR_CNT_MISC_dram_ue]
/-- Every field of the PAR register map. -/
def parTable : List Field :=
  parTable0 ++ parTable1

/-! HQE_CTL, offset 0x0000 (spec/13_queue_ordering.md) -/
def HQE_CTL_srst : Field :=
  { blk := 31, off := 0x0, lo := 31, w := 1, acc := .rw, eff := .live }
def HQE_CTL_fetch1 : Field :=
  { blk := 31, off := 0x0, lo := 2, w := 1, acc := .rw, eff := .live }
def HQE_CTL_fetch0 : Field :=
  { blk := 31, off := 0x0, lo := 1, w := 1, acc := .rw, eff := .live }
def HQE_CTL_en : Field :=
  { blk := 31, off := 0x0, lo := 0, w := 1, acc := .rw, eff := .live }
/-! HQE_STAT, offset 0x0004 (spec/13_queue_ordering.md) -/
def HQE_STAT_ctx_used : Field :=
  { blk := 31, off := 0x4, lo := 16, w := 15, acc := .ro }
def HQE_STAT_fetching : Field :=
  { blk := 31, off := 0x4, lo := 0, w := 2, acc := .ro }
/-! HQE_CTX_CFG, offset 0x0008 (spec/13_queue_ordering.md) -/
def HQE_CTX_CFG_lim1 : Field :=
  { blk := 31, off := 0x8, lo := 16, w := 15, acc := .rw, eff := .stat, rst := 16384, rng := some (1, 16384) }
def HQE_CTX_CFG_lim0 : Field :=
  { blk := 31, off := 0x8, lo := 0, w := 15, acc := .rw, eff := .stat, rst := 16384, rng := some (1, 16384) }
/-! HQE_SCHED_CFG, offset 0x000C (spec/13_queue_ordering.md) -/
def HQE_SCHED_CFG_age_max : Field :=
  { blk := 31, off := 0xC, lo := 24, w := 8, acc := .rw, eff := .live, rst := 200 }
def HQE_SCHED_CFG_max_lanes : Field :=
  { blk := 31, off := 0xC, lo := 20, w := 4, acc := .rw, eff := .live, rst := 8 }
def HQE_SCHED_CFG_depth : Field :=
  { blk := 31, off := 0xC, lo := 16, w := 4, acc := .rw, eff := .stat, rst := 2 }
def HQE_SCHED_CFG_urgent_first : Field :=
  { blk := 31, off := 0xC, lo := 0, w := 1, acc := .rw, eff := .live, rst := 1 }
/-! HQE_STAMP, offset 0x0010 + 4 × i, i < 2 (spec/13_queue_ordering.md) -/
def HQE_STAMP_stamp : Field :=
  { blk := 31, off := 0x10, lo := 0, w := 32, acc := .ro, rst := 1, n := 2, stride := 4, rsts := [1, 0] }
/-! HQE_READY, offset 0x0018 (spec/13_queue_ordering.md) -/
def HQE_READY_valid : Field :=
  { blk := 31, off := 0x18, lo := 31, w := 1, acc := .ro }
def HQE_READY_ctx : Field :=
  { blk := 31, off := 0x18, lo := 0, w := 14, acc := .ro }
/-! HQE_CNT_FETCH, offset 0x0020 (spec/13_queue_ordering.md) -/
def HQE_CNT_FETCH_count : Field :=
  { blk := 31, off := 0x20, lo := 0, w := 32, acc := .rc }
/-! HQE_CNT_STALL, offset 0x0024 (spec/13_queue_ordering.md) -/
def HQE_CNT_STALL_count : Field :=
  { blk := 31, off := 0x24, lo := 0, w := 32, acc := .rc }
/-! HQE_CNT_DISC, offset 0x0028 (spec/13_queue_ordering.md) -/
def HQE_CNT_DISC_count : Field :=
  { blk := 31, off := 0x28, lo := 0, w := 32, acc := .rc }
/-! HQE_CNT_AGE, offset 0x002C (spec/13_queue_ordering.md) -/
def HQE_CNT_AGE_count : Field :=
  { blk := 31, off := 0x2C, lo := 0, w := 32, acc := .rc }
/-! HQE_SEEK, offset 0x0100 + 4 × i, i < 16 (spec/13_queue_ordering.md) -/
def HQE_SEEK_dist : Field :=
  { blk := 31, off := 0x100, lo := 14, w := 18, acc := .rw, eff := .stat, n := 16, stride := 4 }
def HQE_SEEK_time : Field :=
  { blk := 31, off := 0x100, lo := 0, w := 14, acc := .rw, eff := .stat, n := 16, stride := 4 }
def hqeTable0 : List Field :=
  [HQE_CTL_srst, HQE_CTL_fetch1, HQE_CTL_fetch0, HQE_CTL_en, HQE_STAT_ctx_used, HQE_STAT_fetching, HQE_CTX_CFG_lim1, HQE_CTX_CFG_lim0, HQE_SCHED_CFG_age_max, HQE_SCHED_CFG_max_lanes, HQE_SCHED_CFG_depth, HQE_SCHED_CFG_urgent_first, HQE_STAMP_stamp, HQE_READY_valid, HQE_READY_ctx, HQE_CNT_FETCH_count, HQE_CNT_STALL_count, HQE_CNT_DISC_count, HQE_CNT_AGE_count, HQE_SEEK_dist, HQE_SEEK_time]
/-- Every field of the HQE register map. -/
def hqeTable : List Field :=
  hqeTable0

/-! CLP_CTL, offset 0x0000 (spec/13_queue_ordering.md) -/
def CLP_CTL_srst : Field :=
  { blk := 32, off := 0x0, lo := 31, w := 1, acc := .rw, eff := .live }
def CLP_CTL_en : Field :=
  { blk := 32, off := 0x0, lo := 0, w := 1, acc := .rw, eff := .live }
/-! CLP_STAT, offset 0x0004 (spec/13_queue_ordering.md) -/
def CLP_STAT_full : Field :=
  { blk := 32, off := 0x4, lo := 31, w := 1, acc := .ro }
def CLP_STAT_waiting : Field :=
  { blk := 32, off := 0x4, lo := 16, w := 13, acc := .ro }
def CLP_STAT_used : Field :=
  { blk := 32, off := 0x4, lo := 0, w := 13, acc := .ro }
/-! CLP_OP, offset 0x0010 (spec/13_queue_ordering.md) -/
def CLP_OP_go : Field :=
  { blk := 32, off := 0x10, lo := 31, w := 1, acc := .wo }
def CLP_OP_op : Field :=
  { blk := 32, off := 0x10, lo := 29, w := 2, acc := .rw, eff := .live }
def CLP_OP_space : Field :=
  { blk := 32, off := 0x10, lo := 26, w := 3, acc := .rw, eff := .live, rng := some (0, 3) }
def CLP_OP_append : Field :=
  { blk := 32, off := 0x10, lo := 25, w := 1, acc := .rw, eff := .live }
def CLP_OP_owner : Field :=
  { blk := 32, off := 0x10, lo := 23, w := 2, acc := .rw, eff := .live }
def CLP_OP_ctx : Field :=
  { blk := 32, off := 0x10, lo := 0, w := 14, acc := .rw, eff := .live }
/-! CLP_OP_ENT, offset 0x0014 (spec/13_queue_ordering.md) -/
def CLP_OP_ENT_entry : Field :=
  { blk := 32, off := 0x14, lo := 0, w := 12, acc := .rw, eff := .live }
/-! CLP_OP_START, offset 0x0018 + 4 × i, i < 2 (spec/13_queue_ordering.md) -/
def CLP_OP_START_addr : Field :=
  { blk := 32, off := 0x18, lo := 0, w := 32, acc := .rw, eff := .live, n := 2, stride := 4 }
/-! CLP_OP_END, offset 0x0020 + 4 × i, i < 2 (spec/13_queue_ordering.md) -/
def CLP_OP_END_addr : Field :=
  { blk := 32, off := 0x20, lo := 0, w := 32, acc := .rw, eff := .live, n := 2, stride := 4 }
/-! CLP_OP_STAT, offset 0x0028 (spec/13_queue_ordering.md) -/
def CLP_OP_STAT_done : Field :=
  { blk := 32, off := 0x28, lo := 31, w := 1, acc := .w1c }
def CLP_OP_STAT_err : Field :=
  { blk := 32, off := 0x28, lo := 30, w := 1, acc := .w1c }
def CLP_OP_STAT_waiters : Field :=
  { blk := 32, off := 0x28, lo := 16, w := 12, acc := .ro }
def CLP_OP_STAT_entry : Field :=
  { blk := 32, off := 0x28, lo := 0, w := 12, acc := .ro }
/-! CLP_ENT_SEL, offset 0x0030 (spec/13_queue_ordering.md) -/
def CLP_ENT_SEL_entry : Field :=
  { blk := 32, off := 0x30, lo := 0, w := 12, acc := .rw, eff := .live }
/-! CLP_ENT_D0, offset 0x0034 (spec/13_queue_ordering.md) -/
def CLP_ENT_D0_valid : Field :=
  { blk := 32, off := 0x34, lo := 31, w := 1, acc := .ro }
def CLP_ENT_D0_space : Field :=
  { blk := 32, off := 0x34, lo := 28, w := 3, acc := .ro }
def CLP_ENT_D0_append : Field :=
  { blk := 32, off := 0x34, lo := 27, w := 1, acc := .ro }
def CLP_ENT_D0_owner : Field :=
  { blk := 32, off := 0x34, lo := 25, w := 2, acc := .ro }
def CLP_ENT_D0_waiters : Field :=
  { blk := 32, off := 0x34, lo := 12, w := 13, acc := .ro }
/-! CLP_ENT_D1, offset 0x0038 (spec/13_queue_ordering.md) -/
def CLP_ENT_D1_ctx : Field :=
  { blk := 32, off := 0x38, lo := 0, w := 14, acc := .ro }
/-! CLP_ENT_D25, offset 0x003C + 4 × i, i < 4 (spec/13_queue_ordering.md) -/
def CLP_ENT_D25_addr : Field :=
  { blk := 32, off := 0x3C, lo := 0, w := 32, acc := .ro, n := 4, stride := 4 }
/-! CLP_CNT, offset 0x0050 (spec/13_queue_ordering.md) -/
def CLP_CNT_stalls : Field :=
  { blk := 32, off := 0x50, lo := 16, w := 16, acc := .rc }
def CLP_CNT_full : Field :=
  { blk := 32, off := 0x50, lo := 0, w := 16, acc := .rc }
def clpTable0 : List Field :=
  [CLP_CTL_srst, CLP_CTL_en, CLP_STAT_full, CLP_STAT_waiting, CLP_STAT_used, CLP_OP_go, CLP_OP_op, CLP_OP_space, CLP_OP_append, CLP_OP_owner, CLP_OP_ctx, CLP_OP_ENT_entry, CLP_OP_START_addr, CLP_OP_END_addr, CLP_OP_STAT_done, CLP_OP_STAT_err, CLP_OP_STAT_waiters, CLP_OP_STAT_entry, CLP_ENT_SEL_entry, CLP_ENT_D0_valid, CLP_ENT_D0_space, CLP_ENT_D0_append, CLP_ENT_D0_owner, CLP_ENT_D0_waiters]
def clpTable1 : List Field :=
  [CLP_ENT_D1_ctx, CLP_ENT_D25_addr, CLP_CNT_stalls, CLP_CNT_full]
/-- Every field of the CLP register map. -/
def clpTable : List Field :=
  clpTable0 ++ clpTable1

/-! OBJ_CTL, offset 0x0000 (spec/14_object_services.md) -/
def OBJ_CTL_srst : Field :=
  { blk := 33, off := 0x0, lo := 31, w := 1, acc := .rw, eff := .live }
def OBJ_CTL_en : Field :=
  { blk := 33, off := 0x0, lo := 0, w := 1, acc := .rw, eff := .live }
/-! OBJ_STAT, offset 0x0004 (spec/14_object_services.md) -/
def OBJ_STAT_open : Field :=
  { blk := 33, off := 0x4, lo := 0, w := 7, acc := .ro }
/-! OBJ_CTX_BASE, offset 0x0008 (spec/14_object_services.md) -/
def OBJ_CTX_BASE_base : Field :=
  { blk := 33, off := 0x8, lo := 0, w := 32, acc := .rw, eff := .stat }
/-! OBJ_RING_BASE, offset 0x000C (spec/14_object_services.md) -/
def OBJ_RING_BASE_base : Field :=
  { blk := 33, off := 0xC, lo := 0, w := 32, acc := .rw, eff := .stat }
/-! OBJ_RING_SIZE, offset 0x0010 (spec/14_object_services.md) -/
def OBJ_RING_SIZE_log2 : Field :=
  { blk := 33, off := 0x10, lo := 0, w := 4, acc := .rw, eff := .stat, rst := 8, rng := some (6, 12) }
/-! OBJ_RING_HEAD, offset 0x0014 (spec/14_object_services.md) -/
def OBJ_RING_HEAD_head : Field :=
  { blk := 33, off := 0x14, lo := 0, w := 12, acc := .ro }
/-! OBJ_RING_TAIL, offset 0x0018 (spec/14_object_services.md) -/
def OBJ_RING_TAIL_tail : Field :=
  { blk := 33, off := 0x18, lo := 0, w := 12, acc := .rw, eff := .live }
/-! OBJ_CTX_CMD, offset 0x001C (spec/14_object_services.md) -/
def OBJ_CTX_CMD_op : Field :=
  { blk := 33, off := 0x1C, lo := 30, w := 2, acc := .wo }
def OBJ_CTX_CMD_ctx : Field :=
  { blk := 33, off := 0x1C, lo := 0, w := 6, acc := .wo }
/-! OBJ_DONE, offset 0x0020 + 4 × i, i < 2 (spec/14_object_services.md) -/
def OBJ_DONE_done : Field :=
  { blk := 33, off := 0x20, lo := 0, w := 32, acc := .w1c, n := 2, stride := 4 }
/-! OBJ_MISM, offset 0x0028 + 4 × i, i < 2 (spec/14_object_services.md) -/
def OBJ_MISM_mism : Field :=
  { blk := 33, off := 0x28, lo := 0, w := 32, acc := .w1c, n := 2, stride := 4 }
/-! OBJ_ERR, offset 0x0030 (spec/14_object_services.md) -/
def OBJ_ERR_valid : Field :=
  { blk := 33, off := 0x30, lo := 31, w := 1, acc := .w1c }
def OBJ_ERR_overflow : Field :=
  { blk := 33, off := 0x30, lo := 30, w := 1, acc := .w1c }
def OBJ_ERR_cause : Field :=
  { blk := 33, off := 0x30, lo := 27, w := 3, acc := .ro }
def OBJ_ERR_ctx : Field :=
  { blk := 33, off := 0x30, lo := 12, w := 6, acc := .ro }
def OBJ_ERR_entry : Field :=
  { blk := 33, off := 0x30, lo := 0, w := 12, acc := .ro }
/-! OBJ_CNT_BYTES, offset 0x0038 + 4 × i, i < 2 (spec/14_object_services.md) -/
def OBJ_CNT_BYTES_bytes : Field :=
  { blk := 33, off := 0x38, lo := 0, w := 32, acc := .ro, n := 2, stride := 4 }
/-! OBJ_CNT_EVT, offset 0x0040 (spec/14_object_services.md) -/
def OBJ_CNT_EVT_finals : Field :=
  { blk := 33, off := 0x40, lo := 16, w := 16, acc := .rc }
def OBJ_CNT_EVT_mism : Field :=
  { blk := 33, off := 0x40, lo := 8, w := 8, acc := .rc }
def OBJ_CNT_EVT_err : Field :=
  { blk := 33, off := 0x40, lo := 0, w := 8, acc := .rc }
def objTable0 : List Field :=
  [OBJ_CTL_srst, OBJ_CTL_en, OBJ_STAT_open, OBJ_CTX_BASE_base, OBJ_RING_BASE_base, OBJ_RING_SIZE_log2, OBJ_RING_HEAD_head, OBJ_RING_TAIL_tail, OBJ_CTX_CMD_op, OBJ_CTX_CMD_ctx, OBJ_DONE_done, OBJ_MISM_mism, OBJ_ERR_valid, OBJ_ERR_overflow, OBJ_ERR_cause, OBJ_ERR_ctx, OBJ_ERR_entry, OBJ_CNT_BYTES_bytes, OBJ_CNT_EVT_finals, OBJ_CNT_EVT_mism, OBJ_CNT_EVT_err]
/-- Every field of the OBJ register map. -/
def objTable : List Field :=
  objTable0

/-! BUF_CTL, offset 0x0000 (spec/15_buffer_memory.md) -/
def BUF_CTL_srst : Field :=
  { blk := 34, off := 0x0, lo := 31, w := 1, acc := .rw, eff := .live }
def BUF_CTL_en : Field :=
  { blk := 34, off := 0x0, lo := 0, w := 1, acc := .rw, eff := .live }
/-! BUF_STAT, offset 0x0004 (spec/15_buffer_memory.md) -/
def BUF_STAT_victims : Field :=
  { blk := 34, off := 0x4, lo := 8, w := 5, acc := .ro }
def BUF_STAT_spad_busy : Field :=
  { blk := 34, off := 0x4, lo := 2, w := 1, acc := .ro }
def BUF_STAT_maint_busy : Field :=
  { blk := 34, off := 0x4, lo := 1, w := 1, acc := .ro }
def BUF_STAT_draining : Field :=
  { blk := 34, off := 0x4, lo := 0, w := 1, acc := .ro }
/-! BUF_SPAD, offset 0x0008 (spec/15_buffer_memory.md) -/
def BUF_SPAD_ways : Field :=
  { blk := 34, off := 0x8, lo := 0, w := 4, acc := .rw, eff := .live, rng := some (0, 8) }
/-! BUF_TW_CFG, offset 0x000C (spec/15_buffer_memory.md) -/
def BUF_TW_CFG_thresh : Field :=
  { blk := 34, off := 0xC, lo := 8, w := 8, acc := .rw, eff := .stat, rst := 64, rng := some (8, 255) }
def BUF_TW_CFG_tw_en : Field :=
  { blk := 34, off := 0xC, lo := 0, w := 1, acc := .rw, eff := .stat, rst := 1 }
/-! BUF_MAINT, offset 0x0010 (spec/15_buffer_memory.md) -/
def BUF_MAINT_go : Field :=
  { blk := 34, off := 0x10, lo := 31, w := 1, acc := .wo }
def BUF_MAINT_op : Field :=
  { blk := 34, off := 0x10, lo := 28, w := 3, acc := .rw, eff := .live, rng := some (1, 4) }
def BUF_MAINT_sw : Field :=
  { blk := 34, off := 0x10, lo := 27, w := 1, acc := .rw, eff := .live }
def BUF_MAINT_all : Field :=
  { blk := 34, off := 0x10, lo := 26, w := 1, acc := .rw, eff := .live }
def BUF_MAINT_count : Field :=
  { blk := 34, off := 0x10, lo := 0, w := 16, acc := .rw, eff := .live }
/-! BUF_MAINT_ADDR, offset 0x0014 + 4 × i, i < 2 (spec/15_buffer_memory.md) -/
def BUF_MAINT_ADDR_addr : Field :=
  { blk := 34, off := 0x14, lo := 0, w := 32, acc := .rw, eff := .live, n := 2, stride := 4 }
/-! BUF_MAINT_SW, offset 0x001C (spec/15_buffer_memory.md) -/
def BUF_MAINT_SW_set : Field :=
  { blk := 34, off := 0x1C, lo := 16, w := 13, acc := .rw, eff := .live }
def BUF_MAINT_SW_way : Field :=
  { blk := 34, off := 0x1C, lo := 0, w := 4, acc := .rw, eff := .live }
/-! BUF_ERR, offset 0x0020 (spec/15_buffer_memory.md) -/
def BUF_ERR_valid : Field :=
  { blk := 34, off := 0x20, lo := 31, w := 1, acc := .w1c }
def BUF_ERR_overflow : Field :=
  { blk := 34, off := 0x20, lo := 30, w := 1, acc := .w1c }
def BUF_ERR_cause : Field :=
  { blk := 34, off := 0x20, lo := 27, w := 3, acc := .ro }
def BUF_ERR_bank : Field :=
  { blk := 34, off := 0x20, lo := 21, w := 6, acc := .ro }
def BUF_ERR_set : Field :=
  { blk := 34, off := 0x20, lo := 8, w := 13, acc := .ro }
def BUF_ERR_way : Field :=
  { blk := 34, off := 0x20, lo := 4, w := 4, acc := .ro }
/-! BUF_CNT_HIT, offset 0x0024 (spec/15_buffer_memory.md) -/
def BUF_CNT_HIT_count : Field :=
  { blk := 34, off := 0x24, lo := 0, w := 32, acc := .rc }
/-! BUF_CNT_MISS, offset 0x0028 (spec/15_buffer_memory.md) -/
def BUF_CNT_MISS_count : Field :=
  { blk := 34, off := 0x28, lo := 0, w := 32, acc := .rc }
/-! BUF_CNT_EVT, offset 0x002C (spec/15_buffer_memory.md) -/
def BUF_CNT_EVT_merges : Field :=
  { blk := 34, off := 0x2C, lo := 24, w := 8, acc := .rc }
def BUF_CNT_EVT_waits : Field :=
  { blk := 34, off := 0x2C, lo := 16, w := 8, acc := .rc }
def BUF_CNT_EVT_tw : Field :=
  { blk := 34, off := 0x2C, lo := 8, w := 8, acc := .rc }
def BUF_CNT_EVT_sram_ce : Field :=
  { blk := 34, off := 0x2C, lo := 0, w := 8, acc := .rc }
def bufTable0 : List Field :=
  [BUF_CTL_srst, BUF_CTL_en, BUF_STAT_victims, BUF_STAT_spad_busy, BUF_STAT_maint_busy, BUF_STAT_draining, BUF_SPAD_ways, BUF_TW_CFG_thresh, BUF_TW_CFG_tw_en, BUF_MAINT_go, BUF_MAINT_op, BUF_MAINT_sw, BUF_MAINT_all, BUF_MAINT_count, BUF_MAINT_ADDR_addr, BUF_MAINT_SW_set, BUF_MAINT_SW_way, BUF_ERR_valid, BUF_ERR_overflow, BUF_ERR_cause, BUF_ERR_bank, BUF_ERR_set, BUF_ERR_way, BUF_CNT_HIT_count]
def bufTable1 : List Field :=
  [BUF_CNT_MISS_count, BUF_CNT_EVT_merges, BUF_CNT_EVT_waits, BUF_CNT_EVT_tw, BUF_CNT_EVT_sram_ce]
/-- Every field of the BUF register map. -/
def bufTable : List Field :=
  bufTable0 ++ bufTable1

/-! DRC_CTL, offset 0x0000 (spec/15_buffer_memory.md) -/
def DRC_CTL_srst : Field :=
  { blk := 35, off := 0x0, lo := 31, w := 1, acc := .rw, eff := .live }
def DRC_CTL_retrain : Field :=
  { blk := 35, off := 0x0, lo := 1, w := 1, acc := .wo }
def DRC_CTL_en : Field :=
  { blk := 35, off := 0x0, lo := 0, w := 1, acc := .rw, eff := .live }
/-! DRC_STAT, offset 0x0004 (spec/15_buffer_memory.md) -/
def DRC_STAT_trn_fail : Field :=
  { blk := 35, off := 0x4, lo := 8, w := 4, acc := .w1c }
def DRC_STAT_ready : Field :=
  { blk := 35, off := 0x4, lo := 4, w := 4, acc := .ro }
def DRC_STAT_rate : Field :=
  { blk := 35, off := 0x4, lo := 0, w := 2, acc := .ro }
/-! DRC_CFG, offset 0x0008 (spec/15_buffer_memory.md) -/
def DRC_CFG_rate : Field :=
  { blk := 35, off := 0x8, lo := 28, w := 2, acc := .rw, eff := .stat, rng := some (0, 2) }
def DRC_CFG_density : Field :=
  { blk := 35, off := 0x8, lo := 24, w := 2, acc := .rw, eff := .stat, rng := some (0, 2) }
def DRC_CFG_ranks : Field :=
  { blk := 35, off := 0x8, lo := 23, w := 1, acc := .rw, eff := .stat }
def DRC_CFG_dbi : Field :=
  { blk := 35, off := 0x8, lo := 0, w := 1, acc := .rw, eff := .stat, rst := 1 }
/-! DRC_TRN_CFG, offset 0x000C (spec/15_buffer_memory.md) -/
def DRC_TRN_CFG_period : Field :=
  { blk := 35, off := 0xC, lo := 8, w := 8, acc := .rw, eff := .live, rst := 10 }
/-! DRC_SCRUB_CFG, offset 0x0010 (spec/15_buffer_memory.md) -/
def DRC_SCRUB_CFG_en : Field :=
  { blk := 35, off := 0x10, lo := 31, w := 1, acc := .rw, eff := .live, rst := 1 }
def DRC_SCRUB_CFG_period : Field :=
  { blk := 35, off := 0x10, lo := 0, w := 8, acc := .rw, eff := .live, rst := 24, rng := some (1, 255) }
/-! DRC_ERR, offset 0x0018 (spec/15_buffer_memory.md) -/
def DRC_ERR_valid : Field :=
  { blk := 35, off := 0x18, lo := 31, w := 1, acc := .w1c }
def DRC_ERR_overflow : Field :=
  { blk := 35, off := 0x18, lo := 30, w := 1, acc := .w1c }
def DRC_ERR_cause : Field :=
  { blk := 35, off := 0x18, lo := 27, w := 3, acc := .ro }
def DRC_ERR_source : Field :=
  { blk := 35, off := 0x18, lo := 25, w := 2, acc := .ro }
/-! DRC_ERR_ADDR, offset 0x001C + 4 × i, i < 2 (spec/15_buffer_memory.md) -/
def DRC_ERR_ADDR_addr : Field :=
  { blk := 35, off := 0x1C, lo := 0, w := 32, acc := .ro, n := 2, stride := 4 }
/-! DRC_CNT_CE, offset 0x0024 (spec/15_buffer_memory.md) -/
def DRC_CNT_CE_count : Field :=
  { blk := 35, off := 0x24, lo := 0, w := 32, acc := .rc }
/-! DRC_CNT_UE, offset 0x0028 (spec/15_buffer_memory.md) -/
def DRC_CNT_UE_ue : Field :=
  { blk := 35, off := 0x28, lo := 16, w := 16, acc := .rc }
def DRC_CNT_UE_poison : Field :=
  { blk := 35, off := 0x28, lo := 0, w := 16, acc := .rc }
/-! DRC_INJ, offset 0x002C (spec/15_buffer_memory.md) -/
def DRC_INJ_arm : Field :=
  { blk := 35, off := 0x2C, lo := 31, w := 1, acc := .rwl, eff := .live, unlock := [1, 3] }
def DRC_INJ_nbits : Field :=
  { blk := 35, off := 0x2C, lo := 29, w := 2, acc := .rwl, eff := .live, unlock := [1, 3] }
def DRC_INJ_word : Field :=
  { blk := 35, off := 0x2C, lo := 0, w := 29, acc := .rwl, eff := .live, unlock := [1, 3] }
def drcTable0 : List Field :=
  [DRC_CTL_srst, DRC_CTL_retrain, DRC_CTL_en, DRC_STAT_trn_fail, DRC_STAT_ready, DRC_STAT_rate, DRC_CFG_rate, DRC_CFG_density, DRC_CFG_ranks, DRC_CFG_dbi, DRC_TRN_CFG_period, DRC_SCRUB_CFG_en, DRC_SCRUB_CFG_period, DRC_ERR_valid, DRC_ERR_overflow, DRC_ERR_cause, DRC_ERR_source, DRC_ERR_ADDR_addr, DRC_CNT_CE_count, DRC_CNT_UE_ue, DRC_CNT_UE_poison, DRC_INJ_arm, DRC_INJ_nbits, DRC_INJ_word]
/-- Every field of the DRC register map. -/
def drcTable : List Field :=
  drcTable0

/-! FRK_CTL, offset 0x0000 (spec/18_fretik_ring.md) -/
def FRK_CTL_srst : Field :=
  { blk := 36, off := 0x0, lo := 31, w := 1, acc := .rw, eff := .live }
def FRK_CTL_en : Field :=
  { blk := 36, off := 0x0, lo := 0, w := 1, acc := .rw, eff := .live }
/-! FRK_STAT, offset 0x0004 (spec/18_fretik_ring.md) -/
def FRK_STAT_state : Field :=
  { blk := 36, off := 0x4, lo := 28, w := 4, acc := .ro }
def FRK_STAT_bypass : Field :=
  { blk := 36, off := 0x4, lo := 27, w := 1, acc := .ro }
def FRK_STAT_in_lock : Field :=
  { blk := 36, off := 0x4, lo := 26, w := 1, acc := .ro }
def FRK_STAT_brk_at : Field :=
  { blk := 36, off := 0x4, lo := 16, w := 8, acc := .ro, rst := 255 }
def FRK_STAT_nodes : Field :=
  { blk := 36, off := 0x4, lo := 8, w := 8, acc := .ro }
def FRK_STAT_addr : Field :=
  { blk := 36, off := 0x4, lo := 0, w := 8, acc := .ro, rst := 254 }
/-! FRK_CFG, offset 0x0008 (spec/18_fretik_ring.md) -/
def FRK_CFG_prio : Field :=
  { blk := 36, off := 0x8, lo := 24, w := 8, acc := .rw, eff := .stat }
def FRK_CFG_listen : Field :=
  { blk := 36, off := 0x8, lo := 16, w := 8, acc := .rw, eff := .stat, rst := 1 }
def FRK_CFG_lost : Field :=
  { blk := 36, off := 0x8, lo := 8, w := 8, acc := .rw, eff := .stat, rst := 50 }
def FRK_CFG_solo : Field :=
  { blk := 36, off := 0x8, lo := 0, w := 8, acc := .rw, eff := .stat }
/-! FRK_TOK_CFG, offset 0x0010 (spec/18_fretik_ring.md) -/
def FRK_TOK_CFG_spin_max : Field :=
  { blk := 36, off := 0x10, lo := 24, w := 8, acc := .rw, eff := .live, rst := 1 }
def FRK_TOK_CFG_pwr_max : Field :=
  { blk := 36, off := 0x10, lo := 16, w := 8, acc := .rw, eff := .live }
def FRK_TOK_CFG_lease : Field :=
  { blk := 36, off := 0x10, lo := 8, w := 8, acc := .rw, eff := .stat, rst := 60 }
def FRK_TOK_CFG_spin_lease : Field :=
  { blk := 36, off := 0x10, lo := 0, w := 8, acc := .rw, eff := .stat, rst := 40 }
/-! FRK_TOK_CTL, offset 0x0014 (spec/18_fretik_ring.md) -/
def FRK_TOK_CTL_cancel_pwr : Field :=
  { blk := 36, off := 0x14, lo := 5, w := 1, acc := .wo }
def FRK_TOK_CTL_cancel_spin : Field :=
  { blk := 36, off := 0x14, lo := 4, w := 1, acc := .wo }
def FRK_TOK_CTL_rel_pwr : Field :=
  { blk := 36, off := 0x14, lo := 3, w := 1, acc := .wo }
def FRK_TOK_CTL_req_pwr : Field :=
  { blk := 36, off := 0x14, lo := 1, w := 1, acc := .wo }
def FRK_TOK_CTL_req_spin : Field :=
  { blk := 36, off := 0x14, lo := 0, w := 1, acc := .wo }
/-! FRK_TOK_STAT, offset 0x0018 (spec/18_fretik_ring.md) -/
def FRK_TOK_STAT_spin_held : Field :=
  { blk := 36, off := 0x18, lo := 24, w := 8, acc := .ro }
def FRK_TOK_STAT_pwr_held : Field :=
  { blk := 36, off := 0x18, lo := 16, w := 8, acc := .ro }
def FRK_TOK_STAT_pwr_q : Field :=
  { blk := 36, off := 0x18, lo := 3, w := 1, acc := .ro }
def FRK_TOK_STAT_spin_q : Field :=
  { blk := 36, off := 0x18, lo := 2, w := 1, acc := .ro }
def FRK_TOK_STAT_pwr : Field :=
  { blk := 36, off := 0x18, lo := 1, w := 1, acc := .ro }
def FRK_TOK_STAT_local : Field :=
  { blk := 36, off := 0x18, lo := 0, w := 1, acc := .ro }
/-! FRK_LOCAL, offset 0x001C (spec/18_fretik_ring.md) -/
def FRK_LOCAL_pwr_en : Field :=
  { blk := 36, off := 0x1C, lo := 1, w := 1, acc := .rw, eff := .live, rst := 1 }
def FRK_LOCAL_spin_en : Field :=
  { blk := 36, off := 0x1C, lo := 0, w := 1, acc := .rw, eff := .live, rst := 1 }
/-! FRK_TB_CFG, offset 0x0020 (spec/18_fretik_ring.md) -/
def FRK_TB_CFG_step_ns : Field :=
  { blk := 36, off := 0x20, lo := 16, w := 16, acc := .rw, eff := .live, rst := 1000 }
def FRK_TB_CFG_period : Field :=
  { blk := 36, off := 0x20, lo := 0, w := 16, acc := .rw, eff := .stat, rst := 100 }
/-! FRK_TB_STAT, offset 0x0024 (spec/18_fretik_ring.md) -/
def FRK_TB_STAT_sync : Field :=
  { blk := 36, off := 0x24, lo := 31, w := 1, acc := .ro }
def FRK_TB_STAT_offset : Field :=
  { blk := 36, off := 0x24, lo := 0, w := 31, acc := .ro }
/-! FRK_SEEK_CFG, offset 0x0028 (spec/18_fretik_ring.md) -/
def FRK_SEEK_CFG_en : Field :=
  { blk := 36, off := 0x28, lo := 31, w := 1, acc := .rw, eff := .live }
def FRK_SEEK_CFG_min_trk : Field :=
  { blk := 36, off := 0x28, lo := 0, w := 16, acc := .rw, eff := .live, rst := 4096 }
/-! FRK_EVT_CFG, offset 0x002C (spec/18_fretik_ring.md) -/
def FRK_EVT_CFG_rate : Field :=
  { blk := 36, off := 0x2C, lo := 8, w := 8, acc := .rw, eff := .live, rst := 16 }
def FRK_EVT_CFG_min_sev : Field :=
  { blk := 36, off := 0x2C, lo := 0, w := 8, acc := .rw, eff := .live, rst := 3 }
/-! FRK_RX_BASE, offset 0x0030 (spec/18_fretik_ring.md) -/
def FRK_RX_BASE_base : Field :=
  { blk := 36, off := 0x30, lo := 0, w := 32, acc := .rw, eff := .stat }
/-! FRK_RX_HEAD, offset 0x0034 (spec/18_fretik_ring.md) -/
def FRK_RX_HEAD_head : Field :=
  { blk := 36, off := 0x34, lo := 0, w := 6, acc := .rw, eff := .live }
/-! FRK_RX_TAIL, offset 0x0038 (spec/18_fretik_ring.md) -/
def FRK_RX_TAIL_tail : Field :=
  { blk := 36, off := 0x38, lo := 0, w := 6, acc := .ro }
/-! FRK_TX_ADDR, offset 0x003C (spec/18_fretik_ring.md) -/
def FRK_TX_ADDR_addr : Field :=
  { blk := 36, off := 0x3C, lo := 0, w := 32, acc := .rw, eff := .live }
/-! FRK_TX_CTL, offset 0x0040 (spec/18_fretik_ring.md) -/
def FRK_TX_CTL_go : Field :=
  { blk := 36, off := 0x40, lo := 31, w := 1, acc := .wo }
def FRK_TX_CTL_busy : Field :=
  { blk := 36, off := 0x40, lo := 30, w := 1, acc := .ro }
def FRK_TX_CTL_status : Field :=
  { blk := 36, off := 0x40, lo := 0, w := 2, acc := .ro }
/-! FRK_CNT, offset 0x0044 (spec/18_fretik_ring.md) -/
def FRK_CNT_crc : Field :=
  { blk := 36, off := 0x44, lo := 16, w := 16, acc := .rc }
def FRK_CNT_evt_drop : Field :=
  { blk := 36, off := 0x44, lo := 8, w := 8, acc := .rc }
def FRK_CNT_reenum : Field :=
  { blk := 36, off := 0x44, lo := 0, w := 8, acc := .rc }
def frkTable0 : List Field :=
  [FRK_CTL_srst, FRK_CTL_en, FRK_STAT_state, FRK_STAT_bypass, FRK_STAT_in_lock, FRK_STAT_brk_at, FRK_STAT_nodes, FRK_STAT_addr, FRK_CFG_prio, FRK_CFG_listen, FRK_CFG_lost, FRK_CFG_solo, FRK_TOK_CFG_spin_max, FRK_TOK_CFG_pwr_max, FRK_TOK_CFG_lease, FRK_TOK_CFG_spin_lease, FRK_TOK_CTL_cancel_pwr, FRK_TOK_CTL_cancel_spin, FRK_TOK_CTL_rel_pwr, FRK_TOK_CTL_req_pwr, FRK_TOK_CTL_req_spin, FRK_TOK_STAT_spin_held, FRK_TOK_STAT_pwr_held, FRK_TOK_STAT_pwr_q]
def frkTable1 : List Field :=
  [FRK_TOK_STAT_spin_q, FRK_TOK_STAT_pwr, FRK_TOK_STAT_local, FRK_LOCAL_pwr_en, FRK_LOCAL_spin_en, FRK_TB_CFG_step_ns, FRK_TB_CFG_period, FRK_TB_STAT_sync, FRK_TB_STAT_offset, FRK_SEEK_CFG_en, FRK_SEEK_CFG_min_trk, FRK_EVT_CFG_rate, FRK_EVT_CFG_min_sev, FRK_RX_BASE_base, FRK_RX_HEAD_head, FRK_RX_TAIL_tail, FRK_TX_ADDR_addr, FRK_TX_CTL_go, FRK_TX_CTL_busy, FRK_TX_CTL_status, FRK_CNT_crc, FRK_CNT_evt_drop, FRK_CNT_reenum]
/-- Every field of the FRK register map. -/
def frkTable : List Field :=
  frkTable0 ++ frkTable1

/-! HIF_CTL, offset 0x0000 (spec/12_host_interface.md) -/
def HIF_CTL_srst : Field :=
  { blk := 37, off := 0x0, lo := 31, w := 1, acc := .rw, eff := .live }
def HIF_CTL_cfg_ready : Field :=
  { blk := 37, off := 0x0, lo := 1, w := 1, acc := .w1s }
def HIF_CTL_en : Field :=
  { blk := 37, off := 0x0, lo := 0, w := 1, acc := .rw, eff := .live }
/-! HIF_STAT, offset 0x0004 (spec/12_host_interface.md) -/
def HIF_STAT_up1 : Field :=
  { blk := 37, off := 0x4, lo := 2, w := 1, acc := .ro }
def HIF_STAT_up0 : Field :=
  { blk := 37, off := 0x4, lo := 1, w := 1, acc := .ro }
def HIF_STAT_mode : Field :=
  { blk := 37, off := 0x4, lo := 0, w := 1, acc := .ro }
/-! HIF_PORT_CFG, offset 0x0008 (spec/12_host_interface.md) -/
def HIF_PORT_CFG_clk_mode_ssc : Field :=
  { blk := 37, off := 0x8, lo := 5, w := 1, acc := .rw, eff := .stat }
def HIF_PORT_CFG_clk_mode : Field :=
  { blk := 37, off := 0x8, lo := 4, w := 1, acc := .rw, eff := .stat }
def HIF_PORT_CFG_max_rate : Field :=
  { blk := 37, off := 0x8, lo := 2, w := 2, acc := .rw, eff := .stat, rst := 3, rng := some (1, 3) }
def HIF_PORT_CFG_mode : Field :=
  { blk := 37, off := 0x8, lo := 0, w := 1, acc := .rw, eff := .stat }
/-! HIF_ID_VD, offset 0x0010 (spec/12_host_interface.md) -/
def HIF_ID_VD_did : Field :=
  { blk := 37, off := 0x10, lo := 16, w := 16, acc := .rw, eff := .stat }
def HIF_ID_VD_vid : Field :=
  { blk := 37, off := 0x10, lo := 0, w := 16, acc := .rw, eff := .stat }
/-! HIF_ID_SS, offset 0x0014 (spec/12_host_interface.md) -/
def HIF_ID_SS_ssid : Field :=
  { blk := 37, off := 0x14, lo := 16, w := 16, acc := .rw, eff := .stat }
def HIF_ID_SS_ssvid : Field :=
  { blk := 37, off := 0x14, lo := 0, w := 16, acc := .rw, eff := .stat }
/-! HIF_REV, offset 0x0018 (spec/12_host_interface.md) -/
def HIF_REV_rev : Field :=
  { blk := 37, off := 0x18, lo := 0, w := 8, acc := .rw, eff := .stat }
/-! HIF_LINK, offset 0x0020 + 4 × i, i < 2 (spec/12_host_interface.md) -/
def HIF_LINK_dstate : Field :=
  { blk := 37, off := 0x20, lo := 18, w := 2, acc := .ro, n := 2, stride := 4 }
def HIF_LINK_pm : Field :=
  { blk := 37, off := 0x20, lo := 16, w := 2, acc := .ro, n := 2, stride := 4 }
def HIF_LINK_width : Field :=
  { blk := 37, off := 0x20, lo := 12, w := 4, acc := .ro, n := 2, stride := 4 }
def HIF_LINK_speed : Field :=
  { blk := 37, off := 0x20, lo := 8, w := 4, acc := .ro, n := 2, stride := 4 }
def HIF_LINK_ltssm : Field :=
  { blk := 37, off := 0x20, lo := 0, w := 6, acc := .ro, n := 2, stride := 4 }
/-! HIF_RST_EVT, offset 0x0030 (spec/12_host_interface.md) -/
def HIF_RST_EVT_port1 : Field :=
  { blk := 37, off := 0x30, lo := 8, w := 6, acc := .w1c }
def HIF_RST_EVT_port0 : Field :=
  { blk := 37, off := 0x30, lo := 0, w := 6, acc := .w1c }
/-! HIF_AER_CNT, offset 0x0040 + 4 × i, i < 2 (spec/12_host_interface.md) -/
def HIF_AER_CNT_corr : Field :=
  { blk := 37, off := 0x40, lo := 16, w := 16, acc := .rc, n := 2, stride := 4 }
def HIF_AER_CNT_uncorr : Field :=
  { blk := 37, off := 0x40, lo := 0, w := 16, acc := .rc, n := 2, stride := 4 }
/-! HIF_MI_CFG, offset 0x0050 (spec/12_host_interface.md) -/
def HIF_MI_CFG_en : Field :=
  { blk := 37, off := 0x50, lo := 31, w := 1, acc := .rw, eff := .live }
def HIF_MI_CFG_addr : Field :=
  { blk := 37, off := 0x50, lo := 0, w := 7, acc := .rw, eff := .stat, rst := 29 }
/-! HIF_MI_CNT, offset 0x0054 (spec/12_host_interface.md) -/
def HIF_MI_CNT_pec_err : Field :=
  { blk := 37, off := 0x54, lo := 16, w := 16, acc := .rc }
def HIF_MI_CNT_msgs : Field :=
  { blk := 37, off := 0x54, lo := 0, w := 16, acc := .rc }
def hifTable0 : List Field :=
  [HIF_CTL_srst, HIF_CTL_cfg_ready, HIF_CTL_en, HIF_STAT_up1, HIF_STAT_up0, HIF_STAT_mode, HIF_PORT_CFG_clk_mode_ssc, HIF_PORT_CFG_clk_mode, HIF_PORT_CFG_max_rate, HIF_PORT_CFG_mode, HIF_ID_VD_did, HIF_ID_VD_vid, HIF_ID_SS_ssid, HIF_ID_SS_ssvid, HIF_REV_rev, HIF_LINK_dstate, HIF_LINK_pm, HIF_LINK_width, HIF_LINK_speed, HIF_LINK_ltssm, HIF_RST_EVT_port1, HIF_RST_EVT_port0, HIF_AER_CNT_corr, HIF_AER_CNT_uncorr]
def hifTable1 : List Field :=
  [HIF_MI_CFG_en, HIF_MI_CFG_addr, HIF_MI_CNT_pec_err, HIF_MI_CNT_msgs]
/-- Every field of the HIF register map. -/
def hifTable : List Field :=
  hifTable0 ++ hifTable1

end Sys2Proof.Machine.R
end

