-- ==== Sys2Proof/Machine/RegMapMedia.lean ====
section
/-! DEFINITION. The register maps of GCK, RCH, WCH and MSQ: one descriptor per field of the spec's register tables,
with its place, access type (R7), effect class (R16), reset value (R14) and the range whose violation is refused. -/
namespace Sys2Proof.Machine.R

/-! GCK_CTL, offset 0x0000 (spec/04_gauge_timebase.md) -/
def GCK_CTL_srst : Field :=
  { blk := 7, off := 0x0, lo := 31, w := 1, acc := .rw, eff := .live }
def GCK_CTL_swap : Field :=
  { blk := 7, off := 0x0, lo := 8, w := 1, acc := .wo }
def GCK_CTL_relock : Field :=
  { blk := 7, off := 0x0, lo := 7, w := 1, acc := .wo }
def GCK_CTL_unload : Field :=
  { blk := 7, off := 0x0, lo := 6, w := 1, acc := .wo }
def GCK_CTL_load : Field :=
  { blk := 7, off := 0x0, lo := 5, w := 1, acc := .wo }
def GCK_CTL_auto_load : Field :=
  { blk := 7, off := 0x0, lo := 3, w := 1, acc := .rw, eff := .live, rst := 1 }
def GCK_CTL_spare_mon : Field :=
  { blk := 7, off := 0x0, lo := 2, w := 1, acc := .rw, eff := .live, rst := 1 }
def GCK_CTL_auto_spare : Field :=
  { blk := 7, off := 0x0, lo := 1, w := 1, acc := .rw, eff := .live, rst := 1 }
def GCK_CTL_en : Field :=
  { blk := 7, off := 0x0, lo := 0, w := 1, acc := .rw, eff := .live }
/-! GCK_STAT, offset 0x0004 (spec/04_gauge_timebase.md) -/
def GCK_STAT_tries_left : Field :=
  { blk := 7, off := 0x4, lo := 12, w := 4, acc := .ro }
def GCK_STAT_clamp : Field :=
  { blk := 7, off := 0x4, lo := 11, w := 1, acc := .w1c }
def GCK_STAT_spare_ok : Field :=
  { blk := 7, off := 0x4, lo := 10, w := 1, acc := .ro }
def GCK_STAT_spare_fly : Field :=
  { blk := 7, off := 0x4, lo := 9, w := 1, acc := .ro }
def GCK_STAT_prim_fly : Field :=
  { blk := 7, off := 0x4, lo := 8, w := 1, acc := .ro }
def GCK_STAT_dp_src : Field :=
  { blk := 7, off := 0x4, lo := 6, w := 2, acc := .ro, rst := 2 }
def GCK_STAT_active : Field :=
  { blk := 7, off := 0x4, lo := 5, w := 1, acc := .ro }
def GCK_STAT_lock : Field :=
  { blk := 7, off := 0x4, lo := 4, w := 1, acc := .ro }
def GCK_STAT_state : Field :=
  { blk := 7, off := 0x4, lo := 0, w := 4, acc := .ro }
/-! GCK_DPHASE, offset 0x0008 (spec/04_gauge_timebase.md) -/
def GCK_DPHASE_dphase : Field :=
  { blk := 7, off := 0x8, lo := 0, w := 32, acc := .ro }
/-! GCK_REV_PERIOD, offset 0x000C (spec/04_gauge_timebase.md) -/
def GCK_REV_PERIOD_period : Field :=
  { blk := 7, off := 0xC, lo := 0, w := 32, acc := .ro }
/-! GCK_IDX_DT, offset 0x0010 + 4 × i, i < 2 (spec/04_gauge_timebase.md) -/
def GCK_IDX_DT_dt : Field :=
  { blk := 7, off := 0x10, lo := 0, w := 32, acc := .ro, n := 2, stride := 4 }
/-! GCK_DP_STEP, offset 0x0034 (spec/04_gauge_timebase.md) -/
def GCK_DP_STEP_step : Field :=
  { blk := 7, off := 0x34, lo := 0, w := 32, acc := .ro }
/-! GCK_LOAD_CFG, offset 0x0018 (spec/04_gauge_timebase.md) -/
def GCK_LOAD_CFG_unload_rpm : Field :=
  { blk := 7, off := 0x18, lo := 16, w := 16, acc := .rw, eff := .stat, rst := 2800 }
def GCK_LOAD_CFG_load_rpm : Field :=
  { blk := 7, off := 0x18, lo := 0, w := 16, acc := .rw, eff := .stat, rst := 3000, rng := some (2500, 3500) }
/-! GCK_PLL_CFG, offset 0x001C (spec/04_gauge_timebase.md) -/
def GCK_PLL_CFG_loss_win : Field :=
  { blk := 7, off := 0x1C, lo := 16, w := 8, acc := .rw, eff := .stat, rst := 128 }
def GCK_PLL_CFG_lock_win : Field :=
  { blk := 7, off := 0x1C, lo := 8, w := 8, acc := .rw, eff := .stat, rst := 16 }
def GCK_PLL_CFG_bw : Field :=
  { blk := 7, off := 0x1C, lo := 0, w := 4, acc := .rw, eff := .stat, rst := 6 }
/-! GCK_LOSS_CFG, offset 0x0020 (spec/04_gauge_timebase.md) -/
def GCK_LOSS_CFG_tries : Field :=
  { blk := 7, off := 0x20, lo := 24, w := 4, acc := .rw, eff := .stat, rst := 3 }
def GCK_LOSS_CFG_hold_max : Field :=
  { blk := 7, off := 0x20, lo := 16, w := 8, acc := .rw, eff := .stat, rst := 16 }
def GCK_LOSS_CFG_amp_min : Field :=
  { blk := 7, off := 0x20, lo := 0, w := 8, acc := .rw, eff := .stat, rst := 64 }
/-! GCK_SPARE_OFS, offset 0x0024 (spec/04_gauge_timebase.md) -/
def GCK_SPARE_OFS_ofs : Field :=
  { blk := 7, off := 0x24, lo := 0, w := 24, acc := .rw, eff := .stat }
/-! GCK_SPARE_MEAS, offset 0x0028 (spec/04_gauge_timebase.md) -/
def GCK_SPARE_MEAS_fresh : Field :=
  { blk := 7, off := 0x28, lo := 31, w := 1, acc := .ro }
def GCK_SPARE_MEAS_meas_ofs : Field :=
  { blk := 7, off := 0x28, lo := 0, w := 24, acc := .ro }
/-! GCK_CORR_CFG, offset 0x002C (spec/04_gauge_timebase.md) -/
def GCK_CORR_CFG_clamp : Field :=
  { blk := 7, off := 0x2C, lo := 16, w := 16, acc := .rw, eff := .shadowed .revolution, rst := 512 }
def GCK_CORR_CFG_k1 : Field :=
  { blk := 7, off := 0x2C, lo := 12, w := 4, acc := .rw, eff := .shadowed .revolution, rst := 8 }
def GCK_CORR_CFG_k0 : Field :=
  { blk := 7, off := 0x2C, lo := 8, w := 4, acc := .rw, eff := .shadowed .revolution, rst := 6 }
def GCK_CORR_CFG_harm_en : Field :=
  { blk := 7, off := 0x2C, lo := 1, w := 1, acc := .rw, eff := .shadowed .revolution, rst := 1 }
def GCK_CORR_CFG_en : Field :=
  { blk := 7, off := 0x2C, lo := 0, w := 1, acc := .rw, eff := .shadowed .revolution, rst := 1 }
/-! GCK_RATE_CFG, offset 0x0030 (spec/04_gauge_timebase.md) -/
def GCK_RATE_CFG_jig_rpm : Field :=
  { blk := 7, off := 0x30, lo := 0, w := 14, acc := .rw, eff := .stat }
/-! GCK_EVT_CNT, offset 0x0038 (spec/04_gauge_timebase.md) -/
def GCK_EVT_CNT_clamp : Field :=
  { blk := 7, off := 0x38, lo := 24, w := 8, acc := .rc }
def GCK_EVT_CNT_idx_miss : Field :=
  { blk := 7, off := 0x38, lo := 16, w := 8, acc := .rc }
def GCK_EVT_CNT_switch : Field :=
  { blk := 7, off := 0x38, lo := 8, w := 8, acc := .rc }
def GCK_EVT_CNT_loss : Field :=
  { blk := 7, off := 0x38, lo := 0, w := 8, acc := .rc }
/-! GCK_CH_STAT, offset 0x003C (spec/04_gauge_timebase.md) -/
def GCK_CH_STAT_self : Field :=
  { blk := 7, off := 0x3C, lo := 16, w := 8, acc := .ro }
def GCK_CH_STAT_rate_err : Field :=
  { blk := 7, off := 0x3C, lo := 8, w := 8, acc := .ro }
def GCK_CH_STAT_synth_lock : Field :=
  { blk := 7, off := 0x3C, lo := 0, w := 8, acc := .ro }
/-! GCK_AMP, offset 0x0040 (spec/04_gauge_timebase.md) -/
def GCK_AMP_prim_amp : Field :=
  { blk := 7, off := 0x40, lo := 8, w := 8, acc := .ro }
def GCK_AMP_spare_amp : Field :=
  { blk := 7, off := 0x40, lo := 0, w := 8, acc := .ro }
/-! GCK_RATIO, offset 0x0100 + 4 × i, i < 66 (spec/04_gauge_timebase.md) -/
def GCK_RATIO_ratio : Field :=
  { blk := 7, off := 0x100, lo := 0, w := 32, acc := .rw, eff := .stat, n := 66, stride := 4 }
/-! GCK_CH_SEL, offset 0x0300 + 4 × i, i < 8 (spec/04_gauge_timebase.md) -/
def GCK_CH_SEL_self : Field :=
  { blk := 7, off := 0x300, lo := 16, w := 1, acc := .rw, eff := .shadowed .wedge, n := 8, stride := 4 }
def GCK_CH_SEL_annulus : Field :=
  { blk := 7, off := 0x300, lo := 8, w := 7, acc := .rw, eff := .shadowed .wedge, n := 8, stride := 4 }
def GCK_CH_SEL_head : Field :=
  { blk := 7, off := 0x300, lo := 0, w := 5, acc := .rw, eff := .shadowed .wedge, n := 8, stride := 4 }
/-! GCK_HCORR_C0, offset 0x0400 + 16 × i, i < 32 (spec/04_gauge_timebase.md) -/
def GCK_HCORR_C0_value : Field :=
  { blk := 7, off := 0x400, lo := 0, w := 32, acc := .rw, eff := .live, n := 32, stride := 16 }
/-! GCK_HCORR_C1, offset 0x0404 + 16 × i, i < 32 (spec/04_gauge_timebase.md) -/
def GCK_HCORR_C1_value : Field :=
  { blk := 7, off := 0x404, lo := 0, w := 32, acc := .rw, eff := .live, n := 32, stride := 16 }
/-! GCK_HCORR_S1, offset 0x0408 + 16 × i, i < 32 (spec/04_gauge_timebase.md) -/
def GCK_HCORR_S1_value : Field :=
  { blk := 7, off := 0x408, lo := 0, w := 32, acc := .rw, eff := .live, n := 32, stride := 16 }
/-! GCK_PHOFS_OFS, offset 0x1000 + 8 × i, i < 2048 (spec/04_gauge_timebase.md) -/
def GCK_PHOFS_OFS_ofs : Field :=
  { blk := 7, off := 0x1000, lo := 0, w := 32, acc := .rw, eff := .shadowed .wedge, n := 2048, stride := 8 }
/-! GCK_PHOFS_SLOPE, offset 0x1004 + 8 × i, i < 2048 (spec/04_gauge_timebase.md) -/
def GCK_PHOFS_SLOPE_slope : Field :=
  { blk := 7, off := 0x1004, lo := 0, w := 32, acc := .rw, eff := .shadowed .wedge, n := 2048, stride := 8 }
def gckTable0 : List Field :=
  [GCK_CTL_srst, GCK_CTL_swap, GCK_CTL_relock, GCK_CTL_unload, GCK_CTL_load, GCK_CTL_auto_load, GCK_CTL_spare_mon, GCK_CTL_auto_spare, GCK_CTL_en, GCK_STAT_tries_left, GCK_STAT_clamp, GCK_STAT_spare_ok, GCK_STAT_spare_fly, GCK_STAT_prim_fly, GCK_STAT_dp_src, GCK_STAT_active, GCK_STAT_lock, GCK_STAT_state, GCK_DPHASE_dphase, GCK_REV_PERIOD_period, GCK_IDX_DT_dt, GCK_DP_STEP_step, GCK_LOAD_CFG_unload_rpm, GCK_LOAD_CFG_load_rpm]
def gckTable1 : List Field :=
  [GCK_PLL_CFG_loss_win, GCK_PLL_CFG_lock_win, GCK_PLL_CFG_bw, GCK_LOSS_CFG_tries, GCK_LOSS_CFG_hold_max, GCK_LOSS_CFG_amp_min, GCK_SPARE_OFS_ofs, GCK_SPARE_MEAS_fresh, GCK_SPARE_MEAS_meas_ofs, GCK_CORR_CFG_clamp, GCK_CORR_CFG_k1, GCK_CORR_CFG_k0, GCK_CORR_CFG_harm_en, GCK_CORR_CFG_en, GCK_RATE_CFG_jig_rpm, GCK_EVT_CNT_clamp, GCK_EVT_CNT_idx_miss, GCK_EVT_CNT_switch, GCK_EVT_CNT_loss, GCK_CH_STAT_self, GCK_CH_STAT_rate_err, GCK_CH_STAT_synth_lock, GCK_AMP_prim_amp, GCK_AMP_spare_amp]
def gckTable2 : List Field :=
  [GCK_RATIO_ratio, GCK_CH_SEL_self, GCK_CH_SEL_annulus, GCK_CH_SEL_head, GCK_HCORR_C0_value, GCK_HCORR_C1_value, GCK_HCORR_S1_value, GCK_PHOFS_OFS_ofs, GCK_PHOFS_SLOPE_slope]
/-- Every field of the GCK register map. -/
def gckTable : List Field :=
  gckTable0 ++ gckTable1 ++ gckTable2

/-! RCH_CTL, offset 0x0000 (spec/05_read_channels.md) -/
def RCH_CTL_srst : Field :=
  { blk := 8, off := 0x0, lo := 31, w := 1, acc := .rw, eff := .live }
def RCH_CTL_en : Field :=
  { blk := 8, off := 0x0, lo := 0, w := 1, acc := .rw, eff := .live }
/-! RCH_STAT, offset 0x0004 (spec/05_read_channels.md) -/
def RCH_STAT_rset_ovf : Field :=
  { blk := 8, off := 0x4, lo := 5, w := 1, acc := .w1c }
def RCH_STAT_stored_dec : Field :=
  { blk := 8, off := 0x4, lo := 4, w := 1, acc := .ro }
def RCH_STAT_reading : Field :=
  { blk := 8, off := 0x4, lo := 3, w := 1, acc := .ro }
def RCH_STAT_sb_frozen : Field :=
  { blk := 8, off := 0x4, lo := 1, w := 2, acc := .ro }
def RCH_STAT_rcv_open : Field :=
  { blk := 8, off := 0x4, lo := 0, w := 1, acc := .ro }
/-! RCH_SYNC_CFG, offset 0x0010 (spec/05_read_channels.md) -/
def RCH_SYNC_CFG_force_en : Field :=
  { blk := 8, off := 0x10, lo := 16, w := 1, acc := .rw, eff := .shadowed .sector, rst := 1 }
def RCH_SYNC_CFG_win : Field :=
  { blk := 8, off := 0x10, lo := 8, w := 6, acc := .rw, eff := .shadowed .sector, rst := 12, rng := some (4, 32) }
def RCH_SYNC_CFG_thr : Field :=
  { blk := 8, off := 0x10, lo := 0, w := 3, acc := .rw, eff := .shadowed .sector, rst := 2, rng := some (0, 4) }
/-! RCH_SYNC_PAT, offset 0x0014 (spec/05_read_channels.md) -/
def RCH_SYNC_PAT_pattern : Field :=
  { blk := 8, off := 0x14, lo := 0, w := 24, acc := .rw, eff := .stat }
/-! RCH_DEC_CFG, offset 0x0018 (spec/05_read_channels.md) -/
def RCH_DEC_CFG_cmb_otf : Field :=
  { blk := 8, off := 0x18, lo := 16, w := 1, acc := .rw, eff := .shadowed .sector, rst := 1 }
def RCH_DEC_CFG_otf_iter : Field :=
  { blk := 8, off := 0x18, lo := 0, w := 3, acc := .rw, eff := .shadowed .sector, rst := 4, rng := some (1, 4) }
/-! RCH_TRK_CFG, offset 0x001C (spec/05_read_channels.md) -/
def RCH_TRK_CFG_agc_target : Field :=
  { blk := 8, off := 0x1C, lo := 24, w := 8, acc := .rw, eff := .shadowed .sector, rst := 40 }
def RCH_TRK_CFG_kg : Field :=
  { blk := 8, off := 0x1C, lo := 16, w := 4, acc := .rw, eff := .shadowed .sector, rst := 6 }
def RCH_TRK_CFG_ko : Field :=
  { blk := 8, off := 0x1C, lo := 12, w := 4, acc := .rw, eff := .shadowed .sector, rst := 6 }
def RCH_TRK_CFG_km : Field :=
  { blk := 8, off := 0x1C, lo := 8, w := 4, acc := .rw, eff := .shadowed .sector, rst := 8 }
def RCH_TRK_CFG_g_en : Field :=
  { blk := 8, off := 0x1C, lo := 2, w := 1, acc := .rw, eff := .shadowed .sector, rst := 1 }
def RCH_TRK_CFG_o_en : Field :=
  { blk := 8, off := 0x1C, lo := 1, w := 1, acc := .rw, eff := .shadowed .sector, rst := 1 }
def RCH_TRK_CFG_m_en : Field :=
  { blk := 8, off := 0x1C, lo := 0, w := 1, acc := .rw, eff := .shadowed .sector, rst := 1 }
/-! RCH_DET_TGT, offset 0x0060 + 4 × i, i < 4 (spec/05_read_channels.md) -/
def RCH_DET_TGT_t2 : Field :=
  { blk := 8, off := 0x60, lo := 24, w := 8, acc := .rw, eff := .stat, n := 4, stride := 4 }
def RCH_DET_TGT_t1 : Field :=
  { blk := 8, off := 0x60, lo := 16, w := 8, acc := .rw, eff := .stat, n := 4, stride := 4 }
def RCH_DET_TGT_t0 : Field :=
  { blk := 8, off := 0x60, lo := 8, w := 8, acc := .rw, eff := .stat, n := 4, stride := 4 }
/-! RCH_TRK_STAT, offset 0x0020 (spec/05_read_channels.md) -/
def RCH_TRK_STAT_vga : Field :=
  { blk := 8, off := 0x20, lo := 24, w := 8, acc := .ro }
def RCH_TRK_STAT_offset : Field :=
  { blk := 8, off := 0x20, lo := 16, w := 8, acc := .ro }
def RCH_TRK_STAT_mra : Field :=
  { blk := 8, off := 0x20, lo := 8, w := 8, acc := .ro }
/-! RCH_RCV_STAT, offset 0x0040 (spec/05_read_channels.md) -/
def RCH_RCV_STAT_rung : Field :=
  { blk := 8, off := 0x40, lo := 28, w := 4, acc := .ro }
def RCH_RCV_STAT_repeat : Field :=
  { blk := 8, off := 0x40, lo := 26, w := 2, acc := .ro }
def RCH_RCV_STAT_open : Field :=
  { blk := 8, off := 0x40, lo := 21, w := 5, acc := .ro }
def RCH_RCV_STAT_skipped : Field :=
  { blk := 8, off := 0x40, lo := 16, w := 5, acc := .ro }
def RCH_RCV_STAT_revs : Field :=
  { blk := 8, off := 0x40, lo := 0, w := 16, acc := .ro }
/-! RCH_RSET_OVF, offset 0x0044 (spec/05_read_channels.md) -/
def RCH_RSET_OVF_track : Field :=
  { blk := 8, off := 0x44, lo := 11, w := 21, acc := .ro }
def RCH_RSET_OVF_sector : Field :=
  { blk := 8, off := 0x44, lo := 0, w := 11, acc := .ro }
/-! RCH_RPT_LO, offset 0x0050 (spec/05_read_channels.md) -/
def RCH_RPT_LO_track : Field :=
  { blk := 8, off := 0x50, lo := 11, w := 21, acc := .ro }
def RCH_RPT_LO_sector : Field :=
  { blk := 8, off := 0x50, lo := 0, w := 11, acc := .ro }
/-! RCH_RPT_HI, offset 0x0054 (spec/05_read_channels.md) -/
def RCH_RPT_HI_valid : Field :=
  { blk := 8, off := 0x54, lo := 31, w := 1, acc := .ro }
def RCH_RPT_HI_outcome : Field :=
  { blk := 8, off := 0x54, lo := 28, w := 3, acc := .ro }
def RCH_RPT_HI_rung : Field :=
  { blk := 8, off := 0x54, lo := 24, w := 4, acc := .ro }
def RCH_RPT_HI_head : Field :=
  { blk := 8, off := 0x54, lo := 19, w := 5, acc := .ro }
def RCH_RPT_HI_iter : Field :=
  { blk := 8, off := 0x54, lo := 13, w := 6, acc := .ro }
def RCH_RPT_HI_captures : Field :=
  { blk := 8, off := 0x54, lo := 10, w := 3, acc := .ro }
/-! RCH_RSET_A, offset 0x0080 + 8 × i, i < 16 (spec/05_read_channels.md) -/
def RCH_RSET_A_valid : Field :=
  { blk := 8, off := 0x80, lo := 31, w := 1, acc := .ro, n := 16, stride := 8 }
def RCH_RSET_A_status : Field :=
  { blk := 8, off := 0x80, lo := 28, w := 3, acc := .ro, n := 16, stride := 8 }
def RCH_RSET_A_rung : Field :=
  { blk := 8, off := 0x80, lo := 24, w := 4, acc := .ro, n := 16, stride := 8 }
def RCH_RSET_A_samples : Field :=
  { blk := 8, off := 0x80, lo := 23, w := 1, acc := .ro, n := 16, stride := 8 }
def RCH_RSET_A_captures : Field :=
  { blk := 8, off := 0x80, lo := 20, w := 3, acc := .ro, n := 16, stride := 8 }
/-! RCH_RSET_B, offset 0x0084 + 8 × i, i < 16 (spec/05_read_channels.md) -/
def RCH_RSET_B_track : Field :=
  { blk := 8, off := 0x84, lo := 11, w := 21, acc := .ro, n := 16, stride := 8 }
def RCH_RSET_B_sector : Field :=
  { blk := 8, off := 0x84, lo := 0, w := 11, acc := .ro, n := 16, stride := 8 }
/-! RCH_CNT_SECT, offset 0x0100 (spec/05_read_channels.md) -/
def RCH_CNT_SECT_count : Field :=
  { blk := 8, off := 0x100, lo := 0, w := 32, acc := .rc }
/-! RCH_CNT_OTF_FAIL, offset 0x0104 (spec/05_read_channels.md) -/
def RCH_CNT_OTF_FAIL_count : Field :=
  { blk := 8, off := 0x104, lo := 0, w := 32, acc := .rc }
/-! RCH_CNT_UNREC, offset 0x0110 (spec/05_read_channels.md) -/
def RCH_CNT_UNREC_count : Field :=
  { blk := 8, off := 0x110, lo := 0, w := 32, acc := .rc }
/-! RCH_CNT_GUARD, offset 0x0118 (spec/05_read_channels.md) -/
def RCH_CNT_GUARD_count : Field :=
  { blk := 8, off := 0x118, lo := 0, w := 32, acc := .rc }
/-! RCH_CNT_RUNG, offset 0x0140 + 4 × i, i < 16 (spec/05_read_channels.md) -/
def RCH_CNT_RUNG_count : Field :=
  { blk := 8, off := 0x140, lo := 0, w := 32, acc := .rc, n := 16, stride := 4 }
/-! RCH_CNT_SYNC, offset 0x0108 (spec/05_read_channels.md) -/
def RCH_CNT_SYNC_forced_ok : Field :=
  { blk := 8, off := 0x108, lo := 16, w := 16, acc := .rc }
def RCH_CNT_SYNC_forced_fail : Field :=
  { blk := 8, off := 0x108, lo := 0, w := 16, acc := .rc }
/-! RCH_CNT_CAND, offset 0x010C (spec/05_read_channels.md) -/
def RCH_CNT_CAND_multi : Field :=
  { blk := 8, off := 0x10C, lo := 16, w := 16, acc := .rc }
def RCH_CNT_CAND_alt_ok : Field :=
  { blk := 8, off := 0x10C, lo := 0, w := 16, acc := .rc }
/-! RCH_CNT_MISC, offset 0x0114 (spec/05_read_channels.md) -/
def RCH_CNT_MISC_rpt_drop : Field :=
  { blk := 8, off := 0x114, lo := 16, w := 16, acc := .rc }
def RCH_CNT_MISC_sb_none : Field :=
  { blk := 8, off := 0x114, lo := 8, w := 8, acc := .rc }
def RCH_CNT_MISC_ecc : Field :=
  { blk := 8, off := 0x114, lo := 0, w := 8, acc := .rc }
/-! RCH_LAD_W0, offset 0x0200 + 8 × i, i < 16 (spec/05_read_channels.md) -/
def RCH_LAD_W0_kind : Field :=
  { blk := 8, off := 0x200, lo := 28, w := 4, acc := .rw, eff := .stat, n := 16, stride := 8 }
def RCH_LAD_W0_repeat : Field :=
  { blk := 8, off := 0x200, lo := 24, w := 2, acc := .rw, eff := .stat, n := 16, stride := 8 }
def RCH_LAD_W0_capture : Field :=
  { blk := 8, off := 0x200, lo := 23, w := 1, acc := .rw, eff := .stat, n := 16, stride := 8 }
def RCH_LAD_W0_clr : Field :=
  { blk := 8, off := 0x200, lo := 22, w := 1, acc := .rw, eff := .stat, n := 16, stride := 8 }
def RCH_LAD_W0_iter : Field :=
  { blk := 8, off := 0x200, lo := 16, w := 6, acc := .rw, eff := .stat, n := 16, stride := 8 }
/-! RCH_LAD_W1, offset 0x0204 + 8 × i, i < 16 (spec/05_read_channels.md) -/
def RCH_LAD_W1_step : Field :=
  { blk := 8, off := 0x204, lo := 28, w := 4, acc := .rw, eff := .stat, n := 16, stride := 8 }
def RCH_LAD_W1_heat : Field :=
  { blk := 8, off := 0x204, lo := 16, w := 5, acc := .rw, eff := .stat, n := 16, stride := 8 }
def RCH_LAD_W1_eq : Field :=
  { blk := 8, off := 0x204, lo := 12, w := 2, acc := .rw, eff := .stat, n := 16, stride := 8 }
def RCH_LAD_W1_rmax : Field :=
  { blk := 8, off := 0x204, lo := 0, w := 3, acc := .rw, eff := .stat, n := 16, stride := 8 }
/-! RCH_CMB_STAT, offset 0x0800 (spec/05_read_channels.md) -/
def RCH_CMB_STAT_used : Field :=
  { blk := 8, off := 0x800, lo := 0, w := 7, acc := .ro }
/-! RCH_CMB_CNT, offset 0x0804 (spec/05_read_channels.md) -/
def RCH_CMB_CNT_refused : Field :=
  { blk := 8, off := 0x804, lo := 16, w := 16, acc := .rc }
def RCH_CMB_CNT_combined : Field :=
  { blk := 8, off := 0x804, lo := 0, w := 16, acc := .rc }
/-! RCH_AT0, offset 0x2000 + 8 × i, i < 1056 (spec/05_read_channels.md) -/
def RCH_AT0_vga : Field :=
  { blk := 8, off := 0x2000, lo := 24, w := 8, acc := .rw, eff := .shadowed .sector, n := 1056, stride := 8 }
def RCH_AT0_fc : Field :=
  { blk := 8, off := 0x2000, lo := 18, w := 6, acc := .rw, eff := .shadowed .sector, n := 1056, stride := 8 }
def RCH_AT0_boost : Field :=
  { blk := 8, off := 0x2000, lo := 13, w := 5, acc := .rw, eff := .shadowed .sector, n := 1056, stride := 8 }
def RCH_AT0_det : Field :=
  { blk := 8, off := 0x2000, lo := 11, w := 2, acc := .rw, eff := .shadowed .sector, n := 1056, stride := 8 }
def RCH_AT0_llr : Field :=
  { blk := 8, off := 0x2000, lo := 6, w := 5, acc := .rw, eff := .shadowed .sector, n := 1056, stride := 8 }
/-! RCH_AT1, offset 0x2004 + 8 × i, i < 1056 (spec/05_read_channels.md) -/
def RCH_AT1_offset : Field :=
  { blk := 8, off := 0x2004, lo := 24, w := 8, acc := .rw, eff := .shadowed .sector, n := 1056, stride := 8 }
def RCH_AT1_mra : Field :=
  { blk := 8, off := 0x2004, lo := 16, w := 8, acc := .rw, eff := .shadowed .sector, n := 1056, stride := 8 }
/-! RCH_FIR, offset 0x7000 + 4 × i, i < 9216 (spec/05_read_channels.md) -/
def RCH_FIR_tap0 : Field :=
  { blk := 8, off := 0x7000, lo := 0, w := 10, acc := .rw, eff := .shadowed .sector, n := 9216, stride := 4 }
def RCH_FIR_tap1 : Field :=
  { blk := 8, off := 0x7000, lo := 16, w := 10, acc := .rw, eff := .shadowed .sector, n := 9216, stride := 4 }
def rchTable0 : List Field :=
  [RCH_CTL_srst, RCH_CTL_en, RCH_STAT_rset_ovf, RCH_STAT_stored_dec, RCH_STAT_reading, RCH_STAT_sb_frozen, RCH_STAT_rcv_open, RCH_SYNC_CFG_force_en, RCH_SYNC_CFG_win, RCH_SYNC_CFG_thr, RCH_SYNC_PAT_pattern, RCH_DEC_CFG_cmb_otf, RCH_DEC_CFG_otf_iter, RCH_TRK_CFG_agc_target, RCH_TRK_CFG_kg, RCH_TRK_CFG_ko, RCH_TRK_CFG_km, RCH_TRK_CFG_g_en, RCH_TRK_CFG_o_en, RCH_TRK_CFG_m_en, RCH_DET_TGT_t2, RCH_DET_TGT_t1, RCH_DET_TGT_t0, RCH_TRK_STAT_vga]
def rchTable1 : List Field :=
  [RCH_TRK_STAT_offset, RCH_TRK_STAT_mra, RCH_RCV_STAT_rung, RCH_RCV_STAT_repeat, RCH_RCV_STAT_open, RCH_RCV_STAT_skipped, RCH_RCV_STAT_revs, RCH_RSET_OVF_track, RCH_RSET_OVF_sector, RCH_RPT_LO_track, RCH_RPT_LO_sector, RCH_RPT_HI_valid, RCH_RPT_HI_outcome, RCH_RPT_HI_rung, RCH_RPT_HI_head, RCH_RPT_HI_iter, RCH_RPT_HI_captures, RCH_RSET_A_valid, RCH_RSET_A_status, RCH_RSET_A_rung, RCH_RSET_A_samples, RCH_RSET_A_captures, RCH_RSET_B_track, RCH_RSET_B_sector]
def rchTable2 : List Field :=
  [RCH_CNT_SECT_count, RCH_CNT_OTF_FAIL_count, RCH_CNT_UNREC_count, RCH_CNT_GUARD_count, RCH_CNT_RUNG_count, RCH_CNT_SYNC_forced_ok, RCH_CNT_SYNC_forced_fail, RCH_CNT_CAND_multi, RCH_CNT_CAND_alt_ok, RCH_CNT_MISC_rpt_drop, RCH_CNT_MISC_sb_none, RCH_CNT_MISC_ecc, RCH_LAD_W0_kind, RCH_LAD_W0_repeat, RCH_LAD_W0_capture, RCH_LAD_W0_clr, RCH_LAD_W0_iter, RCH_LAD_W1_step, RCH_LAD_W1_heat, RCH_LAD_W1_eq, RCH_LAD_W1_rmax, RCH_CMB_STAT_used, RCH_CMB_CNT_refused, RCH_CMB_CNT_combined]
def rchTable3 : List Field :=
  [RCH_AT0_vga, RCH_AT0_fc, RCH_AT0_boost, RCH_AT0_det, RCH_AT0_llr, RCH_AT1_offset, RCH_AT1_mra, RCH_FIR_tap0, RCH_FIR_tap1]
/-- Every field of the RCH register map. -/
def rchTable : List Field :=
  rchTable0 ++ rchTable1 ++ rchTable2 ++ rchTable3

/-! WCH_CTL, offset 0x0000 (spec/06_write_laser.md) -/
def WCH_CTL_srst : Field :=
  { blk := 16, off := 0x0, lo := 31, w := 1, acc := .rw, eff := .live }
def WCH_CTL_wt_valid : Field :=
  { blk := 16, off := 0x0, lo := 1, w := 1, acc := .rw, eff := .live }
def WCH_CTL_en : Field :=
  { blk := 16, off := 0x0, lo := 0, w := 1, acc := .rw, eff := .live }
/-! WCH_STAT, offset 0x0004 (spec/06_write_laser.md) -/
def WCH_STAT_strobe : Field :=
  { blk := 16, off := 0x4, lo := 4, w := 1, acc := .ro }
def WCH_STAT_lane_active : Field :=
  { blk := 16, off := 0x4, lo := 3, w := 1, acc := .ro }
def WCH_STAT_gate_req : Field :=
  { blk := 16, off := 0x4, lo := 2, w := 1, acc := .ro }
def WCH_STAT_preheat_done : Field :=
  { blk := 16, off := 0x4, lo := 1, w := 1, acc := .ro }
def WCH_STAT_writing : Field :=
  { blk := 16, off := 0x4, lo := 0, w := 1, acc := .ro }
/-! WCH_GATE_STAT, offset 0x0008 (spec/06_write_laser.md) -/
def WCH_GATE_STAT_cond : Field :=
  { blk := 16, off := 0x8, lo := 0, w := 9, acc := .ro }
/-! WCH_CFG, offset 0x0010 (spec/06_write_laser.md) -/
def WCH_CFG_wr_retry : Field :=
  { blk := 16, off := 0x10, lo := 28, w := 4, acc := .rw, eff := .stat, rst := 4 }
def WCH_CFG_def_heat : Field :=
  { blk := 16, off := 0x10, lo := 16, w := 8, acc := .rw, eff := .stat }
def WCH_CFG_preheat : Field :=
  { blk := 16, off := 0x10, lo := 8, w := 8, acc := .rw, eff := .stat, rst := 8, rng := some (1, 64) }
def WCH_CFG_lead : Field :=
  { blk := 16, off := 0x10, lo := 0, w := 6, acc := .rw, eff := .stat, rst := 32 }
/-! WCH_BWP, offset 0x0014 (spec/06_write_laser.md) -/
def WCH_BWP_valid : Field :=
  { blk := 16, off := 0x14, lo := 31, w := 1, acc := .rw, eff := .live }
def WCH_BWP_ptr : Field :=
  { blk := 16, off := 0x14, lo := 0, w := 17, acc := .rw, eff := .live }
/-! WCH_UNSAFE, offset 0x0100 + 4 × i, i < 17 (spec/06_write_laser.md) -/
def WCH_UNSAFE_lim : Field :=
  { blk := 16, off := 0x100, lo := 0, w := 32, acc := .rw, eff := .shadowed .wedge, rst := 0x26262626, n := 17, stride := 4 }
/-! WCH_FLT, offset 0x0020 (spec/06_write_laser.md) -/
def WCH_FLT_valid : Field :=
  { blk := 16, off := 0x20, lo := 31, w := 1, acc := .w1c }
def WCH_FLT_overflow : Field :=
  { blk := 16, off := 0x20, lo := 30, w := 1, acc := .w1c }
def WCH_FLT_cause : Field :=
  { blk := 16, off := 0x20, lo := 26, w := 4, acc := .ro }
def WCH_FLT_wedge : Field :=
  { blk := 16, off := 0x20, lo := 16, w := 10, acc := .ro }
def WCH_FLT_sector : Field :=
  { blk := 16, off := 0x20, lo := 0, w := 16, acc := .ro }
/-! WCH_FLT_CNT, offset 0x0024 (spec/06_write_laser.md) -/
def WCH_FLT_CNT_count : Field :=
  { blk := 16, off := 0x24, lo := 0, w := 32, acc := .rc }
/-! WCH_CNT_SECT, offset 0x0030 (spec/06_write_laser.md) -/
def WCH_CNT_SECT_count : Field :=
  { blk := 16, off := 0x30, lo := 0, w := 32, acc := .rc }
/-! WCH_CNT_INC, offset 0x0034 (spec/06_write_laser.md) -/
def WCH_CNT_INC_count : Field :=
  { blk := 16, off := 0x34, lo := 0, w := 32, acc := .rc }
/-! WCH_HL_CFG, offset 0x0800 (spec/06_write_laser.md) -/
def WCH_HL_CFG_rd_retry : Field :=
  { blk := 16, off := 0x800, lo := 0, w := 2, acc := .rw, eff := .stat, rst := 2 }
/-! WCH_HL_STAT, offset 0x0804 (spec/06_write_laser.md) -/
def WCH_HL_STAT_fw_busy : Field :=
  { blk := 16, off := 0x804, lo := 31, w := 1, acc := .ro }
def WCH_HL_STAT_fault_line : Field :=
  { blk := 16, off := 0x804, lo := 30, w := 1, acc := .ro }
def WCH_HL_STAT_link_err : Field :=
  { blk := 16, off := 0x804, lo := 29, w := 1, acc := .w1c }
def WCH_HL_STAT_pa_fault : Field :=
  { blk := 16, off := 0x804, lo := 28, w := 1, acc := .w1c }
def WCH_HL_STAT_init_done : Field :=
  { blk := 16, off := 0x804, lo := 27, w := 1, acc := .ro }
def WCH_HL_STAT_pa_stat : Field :=
  { blk := 16, off := 0x804, lo := 16, w := 8, acc := .ro }
def WCH_HL_STAT_depth : Field :=
  { blk := 16, off := 0x804, lo := 0, w := 5, acc := .ro }
/-! WCH_HL_CMD, offset 0x0808 (spec/06_write_laser.md) -/
def WCH_HL_CMD_cmd : Field :=
  { blk := 16, off := 0x808, lo := 0, w := 32, acc := .wo }
/-! WCH_HL_RDATA, offset 0x080C (spec/06_write_laser.md) -/
def WCH_HL_RDATA_valid : Field :=
  { blk := 16, off := 0x80C, lo := 31, w := 1, acc := .rc }
def WCH_HL_RDATA_crc_err : Field :=
  { blk := 16, off := 0x80C, lo := 30, w := 1, acc := .ro }
def WCH_HL_RDATA_data : Field :=
  { blk := 16, off := 0x80C, lo := 0, w := 16, acc := .ro }
/-! WCH_HL_CNT, offset 0x0810 (spec/06_write_laser.md) -/
def WCH_HL_CNT_crc_err : Field :=
  { blk := 16, off := 0x810, lo := 16, w := 16, acc := .rc }
def WCH_HL_CNT_merged : Field :=
  { blk := 16, off := 0x810, lo := 0, w := 16, acc := .rc }
/-! WCH_WT0, offset 0x2000 + 8 × i, i < 1056 (spec/06_write_laser.md) -/
def WCH_WT0_heat_w : Field :=
  { blk := 16, off := 0x2000, lo := 24, w := 8, acc := .rw, eff := .shadowed .sector, n := 1056, stride := 8 }
def WCH_WT0_heat_r : Field :=
  { blk := 16, off := 0x2000, lo := 16, w := 8, acc := .rw, eff := .shadowed .sector, n := 1056, stride := 8 }
def WCH_WT0_laser : Field :=
  { blk := 16, off := 0x2000, lo := 8, w := 8, acc := .rw, eff := .shadowed .sector, n := 1056, stride := 8 }
def WCH_WT0_iw : Field :=
  { blk := 16, off := 0x2000, lo := 0, w := 8, acc := .rw, eff := .shadowed .sector, n := 1056, stride := 8 }
/-! WCH_WT1, offset 0x2004 + 8 × i, i < 1056 (spec/06_write_laser.md) -/
def WCH_WT1_mode2 : Field :=
  { blk := 16, off := 0x2004, lo := 31, w := 1, acc := .rw, eff := .shadowed .sector, n := 1056, stride := 8 }
def WCH_WT1_phase : Field :=
  { blk := 16, off := 0x2004, lo := 24, w := 6, acc := .rw, eff := .shadowed .sector, n := 1056, stride := 8 }
def WCH_WT1_width : Field :=
  { blk := 16, off := 0x2004, lo := 16, w := 5, acc := .rw, eff := .shadowed .sector, n := 1056, stride := 8 }
def WCH_WT1_ovs : Field :=
  { blk := 16, off := 0x2004, lo := 8, w := 4, acc := .rw, eff := .shadowed .sector, n := 1056, stride := 8 }
def WCH_WT1_mrb : Field :=
  { blk := 16, off := 0x2004, lo := 0, w := 8, acc := .rw, eff := .shadowed .sector, n := 1056, stride := 8 }
def wchTable0 : List Field :=
  [WCH_CTL_srst, WCH_CTL_wt_valid, WCH_CTL_en, WCH_STAT_strobe, WCH_STAT_lane_active, WCH_STAT_gate_req, WCH_STAT_preheat_done, WCH_STAT_writing, WCH_GATE_STAT_cond, WCH_CFG_wr_retry, WCH_CFG_def_heat, WCH_CFG_preheat, WCH_CFG_lead, WCH_BWP_valid, WCH_BWP_ptr, WCH_UNSAFE_lim, WCH_FLT_valid, WCH_FLT_overflow, WCH_FLT_cause, WCH_FLT_wedge, WCH_FLT_sector, WCH_FLT_CNT_count, WCH_CNT_SECT_count, WCH_CNT_INC_count]
def wchTable1 : List Field :=
  [WCH_HL_CFG_rd_retry, WCH_HL_STAT_fw_busy, WCH_HL_STAT_fault_line, WCH_HL_STAT_link_err, WCH_HL_STAT_pa_fault, WCH_HL_STAT_init_done, WCH_HL_STAT_pa_stat, WCH_HL_STAT_depth, WCH_HL_CMD_cmd, WCH_HL_RDATA_valid, WCH_HL_RDATA_crc_err, WCH_HL_RDATA_data, WCH_HL_CNT_crc_err, WCH_HL_CNT_merged, WCH_WT0_heat_w, WCH_WT0_heat_r, WCH_WT0_laser, WCH_WT0_iw, WCH_WT1_mode2, WCH_WT1_phase, WCH_WT1_width, WCH_WT1_ovs, WCH_WT1_mrb]
/-- Every field of the WCH register map. -/
def wchTable : List Field :=
  wchTable0 ++ wchTable1

/-! MSQ_CTL, offset 0x0000 (spec/07_media_sequencer.md) -/
def MSQ_CTL_srst : Field :=
  { blk := 24, off := 0x0, lo := 31, w := 1, acc := .rw, eff := .live }
def MSQ_CTL_flush : Field :=
  { blk := 24, off := 0x0, lo := 8, w := 1, acc := .wo }
def MSQ_CTL_abort : Field :=
  { blk := 24, off := 0x0, lo := 7, w := 1, acc := .wo }
def MSQ_CTL_run : Field :=
  { blk := 24, off := 0x0, lo := 1, w := 1, acc := .rw, eff := .live }
def MSQ_CTL_en : Field :=
  { blk := 24, off := 0x0, lo := 0, w := 1, acc := .rw, eff := .live }
/-! MSQ_STAT, offset 0x0004 (spec/07_media_sequencer.md) -/
def MSQ_STAT_state : Field :=
  { blk := 24, off := 0x4, lo := 29, w := 3, acc := .ro }
def MSQ_STAT_held : Field :=
  { blk := 24, off := 0x4, lo := 28, w := 1, acc := .ro }
def MSQ_STAT_urgent : Field :=
  { blk := 24, off := 0x4, lo := 27, w := 1, acc := .ro }
def MSQ_STAT_wto : Field :=
  { blk := 24, off := 0x4, lo := 26, w := 1, acc := .w1c }
def MSQ_STAT_entry : Field :=
  { blk := 24, off := 0x4, lo := 12, w := 12, acc := .ro }
def MSQ_STAT_pc : Field :=
  { blk := 24, off := 0x4, lo := 0, w := 12, acc := .ro }
/-! MSQ_CFG, offset 0x0008 (spec/07_media_sequencer.md) -/
def MSQ_CFG_wait_lim : Field :=
  { blk := 24, off := 0x8, lo := 24, w := 8, acc := .rw, eff := .stat, rst := 20, rng := some (1, 255) }
def MSQ_CFG_inv_limit : Field :=
  { blk := 24, off := 0x8, lo := 16, w := 6, acc := .rw, eff := .stat, rst := 7 }
/-! MSQ_GEO, offset 0x000C (spec/07_media_sequencer.md) -/
def MSQ_GEO_w : Field :=
  { blk := 24, off := 0xC, lo := 16, w := 11, acc := .rw, eff := .stat }
def MSQ_GEO_g : Field :=
  { blk := 24, off := 0xC, lo := 0, w := 9, acc := .rw, eff := .stat }
/-! MSQ_RING_BASE, offset 0x0010 (spec/07_media_sequencer.md) -/
def MSQ_RING_BASE_base : Field :=
  { blk := 24, off := 0x10, lo := 0, w := 32, acc := .rw, eff := .stat }
/-! MSQ_RING_SIZE, offset 0x0014 (spec/07_media_sequencer.md) -/
def MSQ_RING_SIZE_log2 : Field :=
  { blk := 24, off := 0x14, lo := 0, w := 4, acc := .rw, eff := .stat, rst := 4, rng := some (4, 10) }
/-! MSQ_RING_HEAD, offset 0x0018 (spec/07_media_sequencer.md) -/
def MSQ_RING_HEAD_head : Field :=
  { blk := 24, off := 0x18, lo := 0, w := 10, acc := .ro }
/-! MSQ_RING_TAIL, offset 0x001C (spec/07_media_sequencer.md) -/
def MSQ_RING_TAIL_tail : Field :=
  { blk := 24, off := 0x1C, lo := 0, w := 10, acc := .rw, eff := .live }
/-! MSQ_BPT_BASE, offset 0x0020 (spec/07_media_sequencer.md) -/
def MSQ_BPT_BASE_base : Field :=
  { blk := 24, off := 0x20, lo := 0, w := 32, acc := .rw, eff := .stat }
/-! MSQ_URG_ADDR, offset 0x0024 (spec/07_media_sequencer.md) -/
def MSQ_URG_ADDR_addr : Field :=
  { blk := 24, off := 0x24, lo := 0, w := 32, acc := .rw, eff := .live }
/-! MSQ_URG_CTL, offset 0x0028 (spec/07_media_sequencer.md) -/
def MSQ_URG_CTL_busy : Field :=
  { blk := 24, off := 0x28, lo := 1, w := 1, acc := .ro }
def MSQ_URG_CTL_go : Field :=
  { blk := 24, off := 0x28, lo := 0, w := 1, acc := .wo }
/-! MSQ_MCHK, offset 0x0030 (spec/07_media_sequencer.md) -/
def MSQ_MCHK_valid : Field :=
  { blk := 24, off := 0x30, lo := 31, w := 1, acc := .w1c }
def MSQ_MCHK_overflow : Field :=
  { blk := 24, off := 0x30, lo := 30, w := 1, acc := .w1c }
def MSQ_MCHK_kind : Field :=
  { blk := 24, off := 0x30, lo := 27, w := 3, acc := .ro }
def MSQ_MCHK_half : Field :=
  { blk := 24, off := 0x30, lo := 26, w := 1, acc := .ro }
def MSQ_MCHK_opcode : Field :=
  { blk := 24, off := 0x30, lo := 16, w := 8, acc := .ro }
def MSQ_MCHK_addr : Field :=
  { blk := 24, off := 0x30, lo := 0, w := 12, acc := .ro }
/-! MSQ_CNT_OPS, offset 0x0034 (spec/07_media_sequencer.md) -/
def MSQ_CNT_OPS_count : Field :=
  { blk := 24, off := 0x34, lo := 0, w := 32, acc := .rc }
/-! MSQ_CNT_EVT, offset 0x0038 (spec/07_media_sequencer.md) -/
def MSQ_CNT_EVT_restarts : Field :=
  { blk := 24, off := 0x38, lo := 24, w := 8, acc := .rc }
def MSQ_CNT_EVT_preempts : Field :=
  { blk := 24, off := 0x38, lo := 16, w := 8, acc := .rc }
def MSQ_CNT_EVT_wto : Field :=
  { blk := 24, off := 0x38, lo := 8, w := 8, acc := .rc }
def MSQ_CNT_EVT_mchk : Field :=
  { blk := 24, off := 0x38, lo := 0, w := 8, acc := .rc }
/-! MSQ_CS_ADDR, offset 0x0040 (spec/07_media_sequencer.md) -/
def MSQ_CS_ADDR_addr : Field :=
  { blk := 24, off := 0x40, lo := 0, w := 12, acc := .rw, eff := .live }
/-! MSQ_CS_CTL, offset 0x0044 (spec/07_media_sequencer.md) -/
def MSQ_CS_CTL_rd : Field :=
  { blk := 24, off := 0x44, lo := 1, w := 1, acc := .wo }
def MSQ_CS_CTL_wr : Field :=
  { blk := 24, off := 0x44, lo := 0, w := 1, acc := .wo }
/-! MSQ_CS_DATA, offset 0x0050 + 4 × i, i < 4 (spec/07_media_sequencer.md) -/
def MSQ_CS_DATA_data : Field :=
  { blk := 24, off := 0x50, lo := 0, w := 32, acc := .rw, eff := .live, n := 4, stride := 4 }
/-! MSQ_LANE_TRK, offset 0x0100 + 16 × i, i < 4 (spec/07_media_sequencer.md) -/
def MSQ_LANE_TRK_track : Field :=
  { blk := 24, off := 0x100, lo := 0, w := 21, acc := .ro, n := 4, stride := 16 }
/-! MSQ_LANE_SEC, offset 0x0104 + 16 × i, i < 4 (spec/07_media_sequencer.md) -/
def MSQ_LANE_SEC_remaining : Field :=
  { blk := 24, off := 0x104, lo := 16, w := 16, acc := .ro, n := 4, stride := 16 }
def MSQ_LANE_SEC_sector : Field :=
  { blk := 24, off := 0x104, lo := 0, w := 11, acc := .ro, n := 4, stride := 16 }
/-! MSQ_LANE_PROG, offset 0x0108 + 16 × i, i < 4 (spec/07_media_sequencer.md) -/
def MSQ_LANE_PROG_progress : Field :=
  { blk := 24, off := 0x108, lo := 0, w := 16, acc := .ro, n := 4, stride := 16 }
/-! MSQ_DT, offset 0x0400 + 4 × i, i < 256 (spec/07_media_sequencer.md) -/
def MSQ_DT_par : Field :=
  { blk := 24, off := 0x400, lo := 31, w := 1, acc := .ro, n := 256, stride := 4 }
def MSQ_DT_valid : Field :=
  { blk := 24, off := 0x400, lo := 12, w := 1, acc := .rw, eff := .live, n := 256, stride := 4 }
def MSQ_DT_addr : Field :=
  { blk := 24, off := 0x400, lo := 0, w := 12, acc := .rw, eff := .live, n := 256, stride := 4 }
/-! MSQ_FAIL, offset 0x0800 + 4 × i, i < 128 (spec/07_media_sequencer.md) -/
def MSQ_FAIL_bits : Field :=
  { blk := 24, off := 0x800, lo := 0, w := 32, acc := .ro, blockKept := true, n := 128, stride := 4 }
/-! MSQ_RLD, offset 0x0A00 + 4 × i, i < 128 (spec/07_media_sequencer.md) -/
def MSQ_RLD_bits : Field :=
  { blk := 24, off := 0xA00, lo := 0, w := 32, acc := .ro, blockKept := true, n := 128, stride := 4 }
/-! MSQ_FMT_W0, offset 0x1000 + 8 × i, i < 66 (spec/07_media_sequencer.md) -/
def MSQ_FMT_W0_span_cells : Field :=
  { blk := 24, off := 0x1000, lo := 14, w := 18, acc := .rw, eff := .stat, n := 66, stride := 8 }
def MSQ_FMT_W0_s : Field :=
  { blk := 24, off := 0x1000, lo := 0, w := 11, acc := .rw, eff := .stat, n := 66, stride := 8 }
/-! MSQ_FMT_W1, offset 0x1004 + 8 × i, i < 66 (spec/07_media_sequencer.md) -/
def MSQ_FMT_W1_sys : Field :=
  { blk := 24, off := 0x1004, lo := 31, w := 1, acc := .rw, eff := .stat, n := 66, stride := 8 }
def MSQ_FMT_W1_skew : Field :=
  { blk := 24, off := 0x1004, lo := 0, w := 10, acc := .rw, eff := .stat, n := 66, stride := 8 }
def msqTable0 : List Field :=
  [MSQ_CTL_srst, MSQ_CTL_flush, MSQ_CTL_abort, MSQ_CTL_run, MSQ_CTL_en, MSQ_STAT_state, MSQ_STAT_held, MSQ_STAT_urgent, MSQ_STAT_wto, MSQ_STAT_entry, MSQ_STAT_pc, MSQ_CFG_wait_lim, MSQ_CFG_inv_limit, MSQ_GEO_w, MSQ_GEO_g, MSQ_RING_BASE_base, MSQ_RING_SIZE_log2, MSQ_RING_HEAD_head, MSQ_RING_TAIL_tail, MSQ_BPT_BASE_base, MSQ_URG_ADDR_addr, MSQ_URG_CTL_busy, MSQ_URG_CTL_go, MSQ_MCHK_valid]
def msqTable1 : List Field :=
  [MSQ_MCHK_overflow, MSQ_MCHK_kind, MSQ_MCHK_half, MSQ_MCHK_opcode, MSQ_MCHK_addr, MSQ_CNT_OPS_count, MSQ_CNT_EVT_restarts, MSQ_CNT_EVT_preempts, MSQ_CNT_EVT_wto, MSQ_CNT_EVT_mchk, MSQ_CS_ADDR_addr, MSQ_CS_CTL_rd, MSQ_CS_CTL_wr, MSQ_CS_DATA_data, MSQ_LANE_TRK_track, MSQ_LANE_SEC_remaining, MSQ_LANE_SEC_sector, MSQ_LANE_PROG_progress, MSQ_DT_par, MSQ_DT_valid, MSQ_DT_addr, MSQ_FAIL_bits, MSQ_RLD_bits, MSQ_FMT_W0_span_cells]
def msqTable2 : List Field :=
  [MSQ_FMT_W0_s, MSQ_FMT_W1_sys, MSQ_FMT_W1_skew]
/-- Every field of the MSQ register map. -/
def msqTable : List Field :=
  msqTable0 ++ msqTable1 ++ msqTable2

end Sys2Proof.Machine.R
end

