-- ==== Sys2Proof/Machine/RegMapMotion.lean ====
section
/-! DEFINITION. The register maps of SRV, CLE, SPM and ACT: one descriptor per field of the spec's register tables,
with its place, access type (R7), effect class (R16), reset value (R14) and the range whose violation is refused. -/
namespace Sys2Proof.Machine.R

/-! SRV_CTL, offset 0x0000 (spec/08_servo_demod.md) -/
def SRV_CTL_srst : Field :=
  { blk := 26, off := 0x0, lo := 31, w := 1, acc := .rw, eff := .live }
def SRV_CTL_force_en : Field :=
  { blk := 26, off := 0x0, lo := 5, w := 1, acc := .rw, eff := .live, rst := 1 }
def SRV_CTL_rofs_valid : Field :=
  { blk := 26, off := 0x0, lo := 4, w := 1, acc := .rw, eff := .live }
def SRV_CTL_act_b : Field :=
  { blk := 26, off := 0x0, lo := 2, w := 1, acc := .rw, eff := .live }
def SRV_CTL_act_a : Field :=
  { blk := 26, off := 0x0, lo := 1, w := 1, acc := .rw, eff := .live }
def SRV_CTL_en : Field :=
  { blk := 26, off := 0x0, lo := 0, w := 1, acc := .rw, eff := .live }
/-! SRV_STAT, offset 0x0004 (spec/08_servo_demod.md) -/
def SRV_STAT_demod : Field :=
  { blk := 26, off := 0x4, lo := 8, w := 8, acc := .ro }
def SRV_STAT_state_b : Field :=
  { blk := 26, off := 0x4, lo := 2, w := 2, acc := .ro }
def SRV_STAT_state_a : Field :=
  { blk := 26, off := 0x4, lo := 0, w := 2, acc := .ro }
/-! SRV_FIELD_CFG, offset 0x0008 (spec/08_servo_demod.md) -/
def SRV_FIELD_CFG_ratio : Field :=
  { blk := 26, off := 0x8, lo := 24, w := 8, acc := .rw, eff := .stat, rst := 64, rng := some (16, 128) }
def SRV_FIELD_CFG_pre : Field :=
  { blk := 26, off := 0x8, lo := 16, w := 8, acc := .rw, eff := .stat, rst := 104 }
def SRV_FIELD_CFG_burst : Field :=
  { blk := 26, off := 0x8, lo := 8, w := 8, acc := .rw, eff := .stat, rst := 48 }
def SRV_FIELD_CFG_rec : Field :=
  { blk := 26, off := 0x8, lo := 0, w := 8, acc := .rw, eff := .stat, rst := 40 }
/-! SRV_SYNC_PAT, offset 0x000C (spec/08_servo_demod.md) -/
def SRV_SYNC_PAT_pattern : Field :=
  { blk := 26, off := 0xC, lo := 0, w := 16, acc := .rw, eff := .stat }
/-! SRV_WIN_CFG, offset 0x0010 (spec/08_servo_demod.md) -/
def SRV_WIN_CFG_follow_miss : Field :=
  { blk := 26, off := 0x10, lo := 20, w := 4, acc := .rw, eff := .shadowed .wedge, rst := 4 }
def SRV_WIN_CFG_thr : Field :=
  { blk := 26, off := 0x10, lo := 16, w := 4, acc := .rw, eff := .shadowed .wedge, rst := 1 }
def SRV_WIN_CFG_follow_win : Field :=
  { blk := 26, off := 0x10, lo := 8, w := 8, acc := .rw, eff := .shadowed .wedge, rst := 32 }
def SRV_WIN_CFG_sync_win : Field :=
  { blk := 26, off := 0x10, lo := 0, w := 8, acc := .rw, eff := .shadowed .wedge, rst := 8 }
/-! SRV_Q_CFG, offset 0x0014 (spec/08_servo_demod.md) -/
def SRV_Q_CFG_agc_s : Field :=
  { blk := 26, off := 0x14, lo := 24, w := 8, acc := .rw, eff := .shadowed .wedge, rst := 48 }
def SRV_Q_CFG_amp_lo : Field :=
  { blk := 26, off := 0x14, lo := 8, w := 8, acc := .rw, eff := .shadowed .wedge, rst := 40 }
def SRV_Q_CFG_amp_min : Field :=
  { blk := 26, off := 0x14, lo := 0, w := 8, acc := .rw, eff := .shadowed .wedge, rst := 16 }
/-! SRV_CHK_CFG, offset 0x0018 (spec/08_servo_demod.md) -/
def SRV_CHK_CFG_margin : Field :=
  { blk := 26, off := 0x18, lo := 24, w := 8, acc := .rw, eff := .shadowed .wedge, rst := 8 }
def SRV_CHK_CFG_warn : Field :=
  { blk := 26, off := 0x18, lo := 16, w := 8, acc := .rw, eff := .shadowed .wedge, rst := 4 }
def SRV_CHK_CFG_jump : Field :=
  { blk := 26, off := 0x18, lo := 8, w := 8, acc := .rw, eff := .shadowed .wedge, rst := 4 }
def SRV_CHK_CFG_vmin : Field :=
  { blk := 26, off := 0x18, lo := 0, w := 8, acc := .rw, eff := .shadowed .wedge, rst := 1 }
/-! SRV_REF_CFG, offset 0x001C (spec/08_servo_demod.md) -/
def SRV_REF_CFG_ref_b : Field :=
  { blk := 26, off := 0x1C, lo := 8, w := 5, acc := .rw, eff := .stat, rst := 16 }
def SRV_REF_CFG_ref_a : Field :=
  { blk := 26, off := 0x1C, lo := 0, w := 5, acc := .rw, eff := .stat }
/-! SRV_CH_POS, offset 0x0100 + 16 × i, i < 8 (spec/08_servo_demod.md) -/
def SRV_CH_POS_pos : Field :=
  { blk := 26, off := 0x100, lo := 0, w := 32, acc := .ro, n := 8, stride := 16 }
/-! SRV_ACT_POS, offset 0x0020 + 8 × i, i < 2 (spec/08_servo_demod.md) -/
def SRV_ACT_POS_pos : Field :=
  { blk := 26, off := 0x20, lo := 0, w := 32, acc := .ro, n := 2, stride := 8 }
/-! SRV_CH_PES, offset 0x0104 + 16 × i, i < 8 (spec/08_servo_demod.md) -/
def SRV_CH_PES_sum : Field :=
  { blk := 26, off := 0x104, lo := 16, w := 16, acc := .ro, n := 8, stride := 16 }
def SRV_CH_PES_pes : Field :=
  { blk := 26, off := 0x104, lo := 0, w := 16, acc := .ro, n := 8, stride := 16 }
/-! SRV_CH_NQ, offset 0x010C + 16 × i, i < 8 (spec/08_servo_demod.md) -/
def SRV_CH_NQ_n : Field :=
  { blk := 26, off := 0x10C, lo := 16, w := 16, acc := .ro, n := 8, stride := 16 }
def SRV_CH_NQ_q : Field :=
  { blk := 26, off := 0x10C, lo := 0, w := 16, acc := .ro, n := 8, stride := 16 }
/-! SRV_CH_FLG, offset 0x0108 + 16 × i, i < 8 (spec/08_servo_demod.md) -/
def SRV_CH_FLG_valid : Field :=
  { blk := 26, off := 0x108, lo := 31, w := 1, acc := .ro, n := 8, stride := 16 }
/-! SRV_ACT_FLG, offset 0x0024 + 8 × i, i < 2 (spec/08_servo_demod.md) -/
def SRV_ACT_FLG_valid : Field :=
  { blk := 26, off := 0x24, lo := 31, w := 1, acc := .ro, n := 2, stride := 8 }
/-! SRV_CH_FLG, offset 0x0108 + 16 × i, i < 8 (spec/08_servo_demod.md) -/
def SRV_CH_FLG_reason : Field :=
  { blk := 26, off := 0x108, lo := 28, w := 3, acc := .ro, n := 8, stride := 16 }
/-! SRV_ACT_FLG, offset 0x0024 + 8 × i, i < 2 (spec/08_servo_demod.md) -/
def SRV_ACT_FLG_reason : Field :=
  { blk := 26, off := 0x24, lo := 28, w := 3, acc := .ro, n := 2, stride := 8 }
/-! SRV_CH_FLG, offset 0x0108 + 16 × i, i < 8 (spec/08_servo_demod.md) -/
def SRV_CH_FLG_quality : Field :=
  { blk := 26, off := 0x108, lo := 23, w := 5, acc := .ro, n := 8, stride := 16 }
/-! SRV_ACT_FLG, offset 0x0024 + 8 × i, i < 2 (spec/08_servo_demod.md) -/
def SRV_ACT_FLG_quality : Field :=
  { blk := 26, off := 0x24, lo := 23, w := 5, acc := .ro, n := 2, stride := 8 }
def SRV_ACT_FLG_chan : Field :=
  { blk := 26, off := 0x24, lo := 20, w := 3, acc := .ro, n := 2, stride := 8 }
/-! SRV_CH_FLG, offset 0x0108 + 16 × i, i < 8 (spec/08_servo_demod.md) -/
def SRV_CH_FLG_wedge : Field :=
  { blk := 26, off := 0x108, lo := 10, w := 10, acc := .ro, n := 8, stride := 16 }
/-! SRV_ACT_FLG, offset 0x0024 + 8 × i, i < 2 (spec/08_servo_demod.md) -/
def SRV_ACT_FLG_wedge : Field :=
  { blk := 26, off := 0x24, lo := 10, w := 10, acc := .ro, n := 2, stride := 8 }
/-! SRV_CH_FLG, offset 0x0108 + 16 × i, i < 8 (spec/08_servo_demod.md) -/
def SRV_CH_FLG_invcnt : Field :=
  { blk := 26, off := 0x108, lo := 0, w := 8, acc := .ro, n := 8, stride := 16 }
/-! SRV_ACT_FLG, offset 0x0024 + 8 × i, i < 2 (spec/08_servo_demod.md) -/
def SRV_ACT_FLG_invcnt : Field :=
  { blk := 26, off := 0x24, lo := 0, w := 8, acc := .ro, n := 2, stride := 8 }
/-! SRV_WIN_STAT, offset 0x0030 (spec/08_servo_demod.md) -/
def SRV_WIN_STAT_span : Field :=
  { blk := 26, off := 0x30, lo := 16, w := 16, acc := .ro }
def SRV_WIN_STAT_over_b : Field :=
  { blk := 26, off := 0x30, lo := 1, w := 1, acc := .w1c }
def SRV_WIN_STAT_over_a : Field :=
  { blk := 26, off := 0x30, lo := 0, w := 1, acc := .w1c }
/-! SRV_CNT0, offset 0x0040 (spec/08_servo_demod.md) -/
def SRV_CNT0_missing : Field :=
  { blk := 26, off := 0x40, lo := 16, w := 16, acc := .rc }
def SRV_CNT0_wedge : Field :=
  { blk := 26, off := 0x40, lo := 0, w := 16, acc := .rc }
/-! SRV_CNT1, offset 0x0044 (spec/08_servo_demod.md) -/
def SRV_CNT1_stale : Field :=
  { blk := 26, off := 0x44, lo := 16, w := 16, acc := .rc }
def SRV_CNT1_range : Field :=
  { blk := 26, off := 0x44, lo := 0, w := 16, acc := .rc }
/-! SRV_CNT2, offset 0x0048 (spec/08_servo_demod.md) -/
def SRV_CNT2_forced_ok : Field :=
  { blk := 26, off := 0x48, lo := 16, w := 16, acc := .rc }
def SRV_CNT2_amp : Field :=
  { blk := 26, off := 0x48, lo := 0, w := 16, acc := .rc }
/-! SRV_SFE, offset 0x0200 + 4 × i, i < 32 (spec/08_servo_demod.md) -/
def SRV_SFE_vga : Field :=
  { blk := 26, off := 0x200, lo := 24, w := 8, acc := .rw, eff := .live, n := 32, stride := 4 }
def SRV_SFE_fc : Field :=
  { blk := 26, off := 0x200, lo := 18, w := 6, acc := .rw, eff := .live, n := 32, stride := 4 }
def SRV_SFE_boost : Field :=
  { blk := 26, off := 0x200, lo := 13, w := 5, acc := .rw, eff := .live, n := 32, stride := 4 }
/-! SRV_RECC, offset 0x0300 + 4 × i, i < 32 (spec/08_servo_demod.md) -/
def SRV_RECC_c1 : Field :=
  { blk := 26, off := 0x300, lo := 16, w := 16, acc := .rw, eff := .shadowed .wedge, n := 32, stride := 4 }
def SRV_RECC_s1 : Field :=
  { blk := 26, off := 0x300, lo := 0, w := 16, acc := .rw, eff := .shadowed .wedge, n := 32, stride := 4 }
/-! SRV_ROFS0, offset 0x2000 + 8 × i, i < 2048 (spec/08_servo_demod.md) -/
def SRV_ROFS0_ofs : Field :=
  { blk := 26, off := 0x2000, lo := 0, w := 32, acc := .rw, eff := .shadowed .wedge, n := 2048, stride := 8 }
/-! SRV_ROFS1, offset 0x2004 + 8 × i, i < 2048 (spec/08_servo_demod.md) -/
def SRV_ROFS1_slope : Field :=
  { blk := 26, off := 0x2004, lo := 0, w := 32, acc := .rw, eff := .shadowed .wedge, n := 2048, stride := 8 }
def srvTable0 : List Field :=
  [SRV_CTL_srst, SRV_CTL_force_en, SRV_CTL_rofs_valid, SRV_CTL_act_b, SRV_CTL_act_a, SRV_CTL_en, SRV_STAT_demod, SRV_STAT_state_b, SRV_STAT_state_a, SRV_FIELD_CFG_ratio, SRV_FIELD_CFG_pre, SRV_FIELD_CFG_burst, SRV_FIELD_CFG_rec, SRV_SYNC_PAT_pattern, SRV_WIN_CFG_follow_miss, SRV_WIN_CFG_thr, SRV_WIN_CFG_follow_win, SRV_WIN_CFG_sync_win, SRV_Q_CFG_agc_s, SRV_Q_CFG_amp_lo, SRV_Q_CFG_amp_min, SRV_CHK_CFG_margin, SRV_CHK_CFG_warn, SRV_CHK_CFG_jump]
def srvTable1 : List Field :=
  [SRV_CHK_CFG_vmin, SRV_REF_CFG_ref_b, SRV_REF_CFG_ref_a, SRV_CH_POS_pos, SRV_ACT_POS_pos, SRV_CH_PES_sum, SRV_CH_PES_pes, SRV_CH_NQ_n, SRV_CH_NQ_q, SRV_CH_FLG_valid, SRV_ACT_FLG_valid, SRV_CH_FLG_reason, SRV_ACT_FLG_reason, SRV_CH_FLG_quality, SRV_ACT_FLG_quality, SRV_ACT_FLG_chan, SRV_CH_FLG_wedge, SRV_ACT_FLG_wedge, SRV_CH_FLG_invcnt, SRV_ACT_FLG_invcnt, SRV_WIN_STAT_span, SRV_WIN_STAT_over_b, SRV_WIN_STAT_over_a, SRV_CNT0_missing]
def srvTable2 : List Field :=
  [SRV_CNT0_wedge, SRV_CNT1_stale, SRV_CNT1_range, SRV_CNT2_forced_ok, SRV_CNT2_amp, SRV_SFE_vga, SRV_SFE_fc, SRV_SFE_boost, SRV_RECC_c1, SRV_RECC_s1, SRV_ROFS0_ofs, SRV_ROFS1_slope]
/-- Every field of the SRV register map. -/
def srvTable : List Field :=
  srvTable0 ++ srvTable1 ++ srvTable2

/-! CLE_CTL, offset 0x0000 (spec/09_control_engine.md) -/
def CLE_CTL_srst : Field :=
  { blk := 27, off := 0x0, lo := 31, w := 1, acc := .rw, eff := .live }
def CLE_CTL_en : Field :=
  { blk := 27, off := 0x0, lo := 0, w := 1, acc := .rw, eff := .live }
/-! CLE_STAT, offset 0x0004 (spec/09_control_engine.md) -/
def CLE_STAT_spd_lost : Field :=
  { blk := 27, off := 0x4, lo := 31, w := 1, acc := .w1c }
def CLE_STAT_aux_active : Field :=
  { blk := 27, off := 0x4, lo := 30, w := 1, acc := .ro }
/-! CLE_SWAP, offset 0x0008 (spec/09_control_engine.md) -/
def CLE_SWAP_swap : Field :=
  { blk := 27, off := 0x8, lo := 0, w := 24, acc := .w1s }
/-! CLE_OVR, offset 0x000C (spec/09_control_engine.md) -/
def CLE_OVR_ovr : Field :=
  { blk := 27, off := 0xC, lo := 0, w := 24, acc := .w1c }
/-! CLE_REF_CFG, offset 0x0020 (spec/09_control_engine.md) -/
def CLE_REF_CFG_aux_span : Field :=
  { blk := 27, off := 0x20, lo := 24, w := 8, acc := .rw, eff := .live, rst := 1 }
def CLE_REF_CFG_aux_slot : Field :=
  { blk := 27, off := 0x20, lo := 16, w := 5, acc := .rwl, eff := .live, unlock := [1, 3] }
def CLE_REF_CFG_spd_ppr : Field :=
  { blk := 27, off := 0x20, lo := 8, w := 8, acc := .rw, eff := .live, rst := 1 }
def CLE_REF_CFG_aux_ext : Field :=
  { blk := 27, off := 0x20, lo := 1, w := 1, acc := .rwl, eff := .live, unlock := [1, 3] }
def CLE_REF_CFG_spd_ext : Field :=
  { blk := 27, off := 0x20, lo := 0, w := 1, acc := .rw, eff := .live }
/-! CLE_SPD_MEAS, offset 0x0024 (spec/09_control_engine.md) -/
def CLE_SPD_MEAS_rpm : Field :=
  { blk := 27, off := 0x24, lo := 0, w := 16, acc := .ro }
/-! CLE_AUX_MEAS, offset 0x0028 (spec/09_control_engine.md) -/
def CLE_AUX_MEAS_code : Field :=
  { blk := 27, off := 0x28, lo := 0, w := 12, acc := .ro }
/-! CLE_TIMER, offset 0x002C (spec/09_control_engine.md) -/
def CLE_TIMER_period : Field :=
  { blk := 27, off := 0x2C, lo := 0, w := 16, acc := .rw, eff := .live, rst := 1000 }
/-! CLE_VEL, offset 0x0030 + 4 × i, i < 2 (spec/09_control_engine.md) -/
def CLE_VEL_vel : Field :=
  { blk := 27, off := 0x30, lo := 0, w := 32, acc := .ro, n := 2, stride := 4 }
/-! CLE_CNT, offset 0x0038 (spec/09_control_engine.md) -/
def CLE_CNT_ovr : Field :=
  { blk := 27, off := 0x38, lo := 16, w := 16, acc := .rc }
def CLE_CNT_swaps : Field :=
  { blk := 27, off := 0x38, lo := 0, w := 16, acc := .rc }
/-! CLE_CFG, offset 0x0100 + 64 × i, i < 24 (spec/09_control_engine.md) -/
def CLE_CFG_en : Field :=
  { blk := 27, off := 0x100, lo := 31, w := 1, acc := .rw, eff := .live, n := 24, stride := 64 }
def CLE_CFG_law : Field :=
  { blk := 27, off := 0x100, lo := 28, w := 2, acc := .rw, eff := .stat, n := 24, stride := 64 }
def CLE_CFG_nbq : Field :=
  { blk := 27, off := 0x100, lo := 24, w := 4, acc := .rw, eff := .stat, n := 24, stride := 64 }
def CLE_CFG_order : Field :=
  { blk := 27, off := 0x100, lo := 21, w := 3, acc := .rw, eff := .stat, rst := 1, n := 24, stride := 64 }
def CLE_CFG_vel_idx : Field :=
  { blk := 27, off := 0x100, lo := 18, w := 3, acc := .rw, eff := .stat, rst := 1, n := 24, stride := 64 }
def CLE_CFG_auto_bank : Field :=
  { blk := 27, off := 0x100, lo := 17, w := 1, acc := .rw, eff := .stat, n := 24, stride := 64 }
def CLE_CFG_sat_irq : Field :=
  { blk := 27, off := 0x100, lo := 16, w := 1, acc := .rw, eff := .live, n := 24, stride := 64 }
def CLE_CFG_mode : Field :=
  { blk := 27, off := 0x100, lo := 15, w := 1, acc := .rw, eff := .shadowed .sample, n := 24, stride := 64 }
def CLE_CFG_trig : Field :=
  { blk := 27, off := 0x100, lo := 13, w := 2, acc := .rw, eff := .stat, n := 24, stride := 64 }
def CLE_CFG_fb : Field :=
  { blk := 27, off := 0x100, lo := 8, w := 5, acc := .rw, eff := .stat, n := 24, stride := 64 }
/-! CLE_TGT, offset 0x0104 + 64 × i, i < 24 (spec/09_control_engine.md) -/
def CLE_TGT_tgt : Field :=
  { blk := 27, off := 0x104, lo := 0, w := 32, acc := .rw, eff := .live, n := 24, stride := 64 }
/-! CLE_RATE, offset 0x0108 + 64 × i, i < 24 (spec/09_control_engine.md) -/
def CLE_RATE_rate : Field :=
  { blk := 27, off := 0x108, lo := 0, w := 32, acc := .rw, eff := .shadowed .sample, n := 24, stride := 64 }
/-! CLE_REF, offset 0x010C + 64 × i, i < 24 (spec/09_control_engine.md) -/
def CLE_REF_ref : Field :=
  { blk := 27, off := 0x10C, lo := 0, w := 32, acc := .ro, n := 24, stride := 64 }
/-! CLE_Y, offset 0x0110 + 64 × i, i < 24 (spec/09_control_engine.md) -/
def CLE_Y_y : Field :=
  { blk := 27, off := 0x110, lo := 0, w := 32, acc := .ro, n := 24, stride := 64 }
/-! CLE_U, offset 0x0114 + 64 × i, i < 24 (spec/09_control_engine.md) -/
def CLE_U_u : Field :=
  { blk := 27, off := 0x114, lo := 0, w := 32, acc := .ro, n := 24, stride := 64 }
/-! CLE_S_LO, offset 0x0118 + 64 × i, i < 24 (spec/09_control_engine.md) -/
def CLE_S_LO_s : Field :=
  { blk := 27, off := 0x118, lo := 0, w := 32, acc := .ro, n := 24, stride := 64 }
/-! CLE_S_HI, offset 0x011C + 64 × i, i < 24 (spec/09_control_engine.md) -/
def CLE_S_HI_s : Field :=
  { blk := 27, off := 0x11C, lo := 0, w := 32, acc := .ro, n := 24, stride := 64 }
/-! CLE_MEAS, offset 0x0120 + 64 × i, i < 24 (spec/09_control_engine.md) -/
def CLE_MEAS_meas : Field :=
  { blk := 27, off := 0x120, lo := 0, w := 32, acc := .rw, eff := .live, n := 24, stride := 64 }
/-! CLE_SSTAT, offset 0x0124 + 64 × i, i < 24 (spec/09_control_engine.md) -/
def CLE_SSTAT_invcnt : Field :=
  { blk := 27, off := 0x124, lo := 24, w := 8, acc := .ro, n := 24, stride := 64 }
def CLE_SSTAT_sat : Field :=
  { blk := 27, off := 0x124, lo := 22, w := 2, acc := .ro, n := 24, stride := 64 }
def CLE_SSTAT_bank : Field :=
  { blk := 27, off := 0x124, lo := 21, w := 1, acc := .ro, n := 24, stride := 64 }
def CLE_SSTAT_ramping : Field :=
  { blk := 27, off := 0x124, lo := 20, w := 1, acc := .ro, n := 24, stride := 64 }
def CLE_SSTAT_xsat : Field :=
  { blk := 27, off := 0x124, lo := 19, w := 1, acc := .ro, n := 24, stride := 64 }
/-! CLE_BANK, offset 0x4000 + 4 × i, i < 3072 (spec/09_control_engine.md) -/
def CLE_BANK_coef : Field :=
  { blk := 27, off := 0x4000, lo := 0, w := 32, acc := .rw, eff := .live, n := 3072, stride := 4 }
/-! CLE_STATE, offset 0x8000 + 4 × i, i < 768 (spec/09_control_engine.md) -/
def CLE_STATE_state : Field :=
  { blk := 27, off := 0x8000, lo := 0, w := 32, acc := .ro, n := 768, stride := 4 }
def cleTable0 : List Field :=
  [CLE_CTL_srst, CLE_CTL_en, CLE_STAT_spd_lost, CLE_STAT_aux_active, CLE_SWAP_swap, CLE_OVR_ovr, CLE_REF_CFG_aux_span, CLE_REF_CFG_aux_slot, CLE_REF_CFG_spd_ppr, CLE_REF_CFG_aux_ext, CLE_REF_CFG_spd_ext, CLE_SPD_MEAS_rpm, CLE_AUX_MEAS_code, CLE_TIMER_period, CLE_VEL_vel, CLE_CNT_ovr, CLE_CNT_swaps, CLE_CFG_en, CLE_CFG_law, CLE_CFG_nbq, CLE_CFG_order, CLE_CFG_vel_idx, CLE_CFG_auto_bank, CLE_CFG_sat_irq]
def cleTable1 : List Field :=
  [CLE_CFG_mode, CLE_CFG_trig, CLE_CFG_fb, CLE_TGT_tgt, CLE_RATE_rate, CLE_REF_ref, CLE_Y_y, CLE_U_u, CLE_S_LO_s, CLE_S_HI_s, CLE_MEAS_meas, CLE_SSTAT_invcnt, CLE_SSTAT_sat, CLE_SSTAT_bank, CLE_SSTAT_ramping, CLE_SSTAT_xsat, CLE_BANK_coef, CLE_STATE_state]
/-- Every field of the CLE register map. -/
def cleTable : List Field :=
  cleTable0 ++ cleTable1

/-! SPM_CTL, offset 0x0000 (spec/10_spindle.md) -/
def SPM_CTL_srst : Field :=
  { blk := 28, off := 0x0, lo := 31, w := 1, acc := .rw, eff := .live }
def SPM_CTL_stop : Field :=
  { blk := 28, off := 0x0, lo := 2, w := 1, acc := .wo }
def SPM_CTL_start : Field :=
  { blk := 28, off := 0x0, lo := 1, w := 1, acc := .wo }
def SPM_CTL_en : Field :=
  { blk := 28, off := 0x0, lo := 0, w := 1, acc := .rw, eff := .live }
/-! SPM_STAT, offset 0x0004 (spec/10_spindle.md) -/
def SPM_STAT_state : Field :=
  { blk := 28, off := 0x4, lo := 28, w := 4, acc := .ro }
def SPM_STAT_ang_src : Field :=
  { blk := 28, off := 0x4, lo := 26, w := 2, acc := .ro }
def SPM_STAT_lock : Field :=
  { blk := 28, off := 0x4, lo := 25, w := 1, acc := .ro }
def SPM_STAT_obs_conv : Field :=
  { blk := 28, off := 0x4, lo := 24, w := 1, acc := .ro }
def SPM_STAT_fw : Field :=
  { blk := 28, off := 0x4, lo := 23, w := 1, acc := .ro }
def SPM_STAT_pending : Field :=
  { blk := 28, off := 0x4, lo := 22, w := 1, acc := .ro }
def SPM_STAT_reverse : Field :=
  { blk := 28, off := 0x4, lo := 21, w := 1, acc := .w1c }
def SPM_STAT_start_fail : Field :=
  { blk := 28, off := 0x4, lo := 20, w := 1, acc := .w1c }
def SPM_STAT_sector : Field :=
  { blk := 28, off := 0x4, lo := 16, w := 3, acc := .ro }
/-! SPM_CFG, offset 0x0008 (spec/10_spindle.md) -/
def SPM_CFG_pp : Field :=
  { blk := 28, off := 0x8, lo := 0, w := 4, acc := .rw, eff := .stat, rst := 4 }
/-! SPM_PWM, offset 0x000C (spec/10_spindle.md) -/
def SPM_PWM_dead : Field :=
  { blk := 28, off := 0xC, lo := 24, w := 8, acc := .rw, eff := .stat, rst := 20 }
def SPM_PWM_period : Field :=
  { blk := 28, off := 0xC, lo := 0, w := 13, acc := .rw, eff := .stat, rst := 4166 }
/-! SPM_SHUNT, offset 0x0010 (spec/10_spindle.md) -/
def SPM_SHUNT_t_min : Field :=
  { blk := 28, off := 0x10, lo := 16, w := 12, acc := .rw, eff := .stat, rst := 240 }
def SPM_SHUNT_t_samp : Field :=
  { blk := 28, off := 0x10, lo := 0, w := 12, acc := .rw, eff := .stat, rst := 160 }
/-! SPM_CATCH, offset 0x0014 (spec/10_spindle.md) -/
def SPM_CATCH_catch_rpm : Field :=
  { blk := 28, off := 0x14, lo := 20, w := 12, acc := .rw, eff := .stat, rst := 300 }
def SPM_CATCH_rev_rpm : Field :=
  { blk := 28, off := 0x14, lo := 12, w := 8, acc := .rw, eff := .stat, rst := 30 }
def SPM_CATCH_amp_min : Field :=
  { blk := 28, off := 0x14, lo := 0, w := 12, acc := .rw, eff := .stat, rst := 16 }
/-! SPM_START, offset 0x0018 (spec/10_spindle.md) -/
def SPM_START_align_ms : Field :=
  { blk := 28, off := 0x18, lo := 24, w := 8, acc := .rw, eff := .stat, rst := 30 }
def SPM_START_align_i : Field :=
  { blk := 28, off := 0x18, lo := 12, w := 12, acc := .rw, eff := .stat }
def SPM_START_open_i : Field :=
  { blk := 28, off := 0x18, lo := 0, w := 12, acc := .rw, eff := .stat }
/-! SPM_OPEN, offset 0x001C (spec/10_spindle.md) -/
def SPM_OPEN_acc : Field :=
  { blk := 28, off := 0x1C, lo := 16, w := 16, acc := .rw, eff := .stat, rst := 500 }
def SPM_OPEN_open_max : Field :=
  { blk := 28, off := 0x1C, lo := 8, w := 8, acc := .rw, eff := .stat, rst := 20 }
/-! SPM_BRAKE, offset 0x0020 (spec/10_spindle.md) -/
def SPM_BRAKE_ilim : Field :=
  { blk := 28, off := 0x20, lo := 20, w := 12, acc := .rw, eff := .stat }
def SPM_BRAKE_stop_i : Field :=
  { blk := 28, off := 0x20, lo := 8, w := 12, acc := .rw, eff := .stat }
def SPM_BRAKE_brake_max : Field :=
  { blk := 28, off := 0x20, lo := 0, w := 8, acc := .rw, eff := .stat, rst := 30 }
/-! SPM_OBS, offset 0x0024 (spec/10_spindle.md) -/
def SPM_OBS_r_ph : Field :=
  { blk := 28, off := 0x24, lo := 16, w := 16, acc := .rw, eff := .stat }
def SPM_OBS_l_ph : Field :=
  { blk := 28, off := 0x24, lo := 0, w := 16, acc := .rw, eff := .stat }
/-! SPM_OBS_PLL, offset 0x0028 (spec/10_spindle.md) -/
def SPM_OBS_PLL_kp : Field :=
  { blk := 28, off := 0x28, lo := 16, w := 16, acc := .rw, eff := .stat }
def SPM_OBS_PLL_ki : Field :=
  { blk := 28, off := 0x28, lo := 0, w := 16, acc := .rw, eff := .stat }
/-! SPM_OBS_LOSS, offset 0x002C (spec/10_spindle.md) -/
def SPM_OBS_LOSS_conv_deg : Field :=
  { blk := 28, off := 0x2C, lo := 24, w := 8, acc := .rw, eff := .stat, rst := 5 }
def SPM_OBS_LOSS_loss_deg : Field :=
  { blk := 28, off := 0x2C, lo := 16, w := 8, acc := .rw, eff := .stat, rst := 30 }
def SPM_OBS_LOSS_xchk_deg : Field :=
  { blk := 28, off := 0x2C, lo := 8, w := 8, acc := .rw, eff := .stat, rst := 15 }
def SPM_OBS_LOSS_loss_n : Field :=
  { blk := 28, off := 0x2C, lo := 0, w := 8, acc := .rw, eff := .stat, rst := 24 }
/-! SPM_GANG_CFG, offset 0x0030 (spec/10_spindle.md) -/
def SPM_GANG_CFG_ofs_src : Field :=
  { blk := 28, off := 0x30, lo := 0, w := 1, acc := .rw, eff := .stat }
/-! SPM_GANG_OFS, offset 0x0034 (spec/10_spindle.md) -/
def SPM_GANG_OFS_ofs : Field :=
  { blk := 28, off := 0x34, lo := 0, w := 32, acc := .rw, eff := .stat }
/-! SPM_GANG_MEAS, offset 0x0038 (spec/10_spindle.md) -/
def SPM_GANG_MEAS_meas : Field :=
  { blk := 28, off := 0x38, lo := 0, w := 32, acc := .ro }
/-! SPM_FW, offset 0x003C (spec/10_spindle.md) -/
def SPM_FW_fw_en : Field :=
  { blk := 28, off := 0x3C, lo := 31, w := 1, acc := .rw, eff := .live }
def SPM_FW_id_lim : Field :=
  { blk := 28, off := 0x3C, lo := 24, w := 7, acc := .rw, eff := .stat, rst := 40, rng := some (0, 40) }
def SPM_FW_irated : Field :=
  { blk := 28, off := 0x3C, lo := 12, w := 12, acc := .rw, eff := .stat }
/-! SPM_FW2, offset 0x0040 (spec/10_spindle.md) -/
def SPM_FW2_vmod_lo : Field :=
  { blk := 28, off := 0x40, lo := 24, w := 8, acc := .rw, eff := .shadowed .revolution, rst := 230 }
def SPM_FW2_vmod_hi : Field :=
  { blk := 28, off := 0x40, lo := 16, w := 8, acc := .rw, eff := .shadowed .revolution, rst := 243 }
def SPM_FW2_base_rpm : Field :=
  { blk := 28, off := 0x40, lo := 0, w := 14, acc := .rw, eff := .shadowed .revolution, rst := 7600 }
/-! SPM_LOCK, offset 0x0044 (spec/10_spindle.md) -/
def SPM_LOCK_tol : Field :=
  { blk := 28, off := 0x44, lo := 16, w := 16, acc := .rw, eff := .shadowed .revolution, rst := 2000 }
def SPM_LOCK_revs : Field :=
  { blk := 28, off := 0x44, lo := 8, w := 8, acc := .rw, eff := .shadowed .revolution, rst := 16 }
/-! SPM_SQ, offset 0x0048 (spec/10_spindle.md) -/
def SPM_SQ_sq_i : Field :=
  { blk := 28, off := 0x48, lo := 20, w := 12, acc := .rw, eff := .stat }
def SPM_SQ_v_hold : Field :=
  { blk := 28, off := 0x48, lo := 0, w := 20, acc := .rw, eff := .stat, rst := 10000 }
/-! SPM_TOK, offset 0x004C (spec/10_spindle.md) -/
def SPM_TOK_held : Field :=
  { blk := 28, off := 0x4C, lo := 0, w := 1, acc := .rw, eff := .live }
/-! SPM_SPEED, offset 0x0050 (spec/10_spindle.md) -/
def SPM_SPEED_obs_rpm : Field :=
  { blk := 28, off := 0x50, lo := 16, w := 16, acc := .ro }
def SPM_SPEED_rpm : Field :=
  { blk := 28, off := 0x50, lo := 0, w := 16, acc := .ro }
/-! SPM_ANGLE, offset 0x0054 (spec/10_spindle.md) -/
def SPM_ANGLE_theta : Field :=
  { blk := 28, off := 0x54, lo := 0, w := 32, acc := .ro }
/-! SPM_IDQ, offset 0x0058 (spec/10_spindle.md) -/
def SPM_IDQ_i_q : Field :=
  { blk := 28, off := 0x58, lo := 16, w := 16, acc := .ro }
def SPM_IDQ_i_d : Field :=
  { blk := 28, off := 0x58, lo := 0, w := 16, acc := .ro }
/-! SPM_VDQ, offset 0x005C (spec/10_spindle.md) -/
def SPM_VDQ_v_q : Field :=
  { blk := 28, off := 0x5C, lo := 16, w := 16, acc := .ro }
def SPM_VDQ_v_d : Field :=
  { blk := 28, off := 0x5C, lo := 0, w := 16, acc := .ro }
/-! SPM_IDREF, offset 0x0060 (spec/10_spindle.md) -/
def SPM_IDREF_id_ref : Field :=
  { blk := 28, off := 0x60, lo := 0, w := 16, acc := .ro }
/-! SPM_CNT, offset 0x0064 (spec/10_spindle.md) -/
def SPM_CNT_obs_loss : Field :=
  { blk := 28, off := 0x64, lo := 24, w := 8, acc := .rc }
def SPM_CNT_coasts : Field :=
  { blk := 28, off := 0x64, lo := 16, w := 8, acc := .rc }
def SPM_CNT_catches : Field :=
  { blk := 28, off := 0x64, lo := 8, w := 8, acc := .rc }
def SPM_CNT_reverses : Field :=
  { blk := 28, off := 0x64, lo := 0, w := 8, acc := .rc }
/-! SPM_CNT2, offset 0x0068 (spec/10_spindle.md) -/
def SPM_CNT2_shifted : Field :=
  { blk := 28, off := 0x68, lo := 16, w := 16, acc := .rc }
def SPM_CNT2_missing : Field :=
  { blk := 28, off := 0x68, lo := 0, w := 16, acc := .rc }
def spmTable0 : List Field :=
  [SPM_CTL_srst, SPM_CTL_stop, SPM_CTL_start, SPM_CTL_en, SPM_STAT_state, SPM_STAT_ang_src, SPM_STAT_lock, SPM_STAT_obs_conv, SPM_STAT_fw, SPM_STAT_pending, SPM_STAT_reverse, SPM_STAT_start_fail, SPM_STAT_sector, SPM_CFG_pp, SPM_PWM_dead, SPM_PWM_period, SPM_SHUNT_t_min, SPM_SHUNT_t_samp, SPM_CATCH_catch_rpm, SPM_CATCH_rev_rpm, SPM_CATCH_amp_min, SPM_START_align_ms, SPM_START_align_i, SPM_START_open_i]
def spmTable1 : List Field :=
  [SPM_OPEN_acc, SPM_OPEN_open_max, SPM_BRAKE_ilim, SPM_BRAKE_stop_i, SPM_BRAKE_brake_max, SPM_OBS_r_ph, SPM_OBS_l_ph, SPM_OBS_PLL_kp, SPM_OBS_PLL_ki, SPM_OBS_LOSS_conv_deg, SPM_OBS_LOSS_loss_deg, SPM_OBS_LOSS_xchk_deg, SPM_OBS_LOSS_loss_n, SPM_GANG_CFG_ofs_src, SPM_GANG_OFS_ofs, SPM_GANG_MEAS_meas, SPM_FW_fw_en, SPM_FW_id_lim, SPM_FW_irated, SPM_FW2_vmod_lo, SPM_FW2_vmod_hi, SPM_FW2_base_rpm, SPM_LOCK_tol, SPM_LOCK_revs]
def spmTable2 : List Field :=
  [SPM_SQ_sq_i, SPM_SQ_v_hold, SPM_TOK_held, SPM_SPEED_obs_rpm, SPM_SPEED_rpm, SPM_ANGLE_theta, SPM_IDQ_i_q, SPM_IDQ_i_d, SPM_VDQ_v_q, SPM_VDQ_v_d, SPM_IDREF_id_ref, SPM_CNT_obs_loss, SPM_CNT_coasts, SPM_CNT_catches, SPM_CNT_reverses, SPM_CNT2_shifted, SPM_CNT2_missing]
/-- Every field of the SPM register map. -/
def spmTable : List Field :=
  spmTable0 ++ spmTable1 ++ spmTable2

/-! ACT_CTL, offset 0x0000 (spec/09_control_engine.md) -/
def ACT_CTL_srst : Field :=
  { blk := 29, off := 0x0, lo := 31, w := 1, acc := .rw, eff := .live }
def ACT_CTL_act_b : Field :=
  { blk := 29, off := 0x0, lo := 2, w := 1, acc := .rw, eff := .live }
def ACT_CTL_act_a : Field :=
  { blk := 29, off := 0x0, lo := 1, w := 1, acc := .rw, eff := .live }
def ACT_CTL_en : Field :=
  { blk := 29, off := 0x0, lo := 0, w := 1, acc := .rw, eff := .live }
/-! ACT_CMD, offset 0x0100 + 256 × i, i < 2 (spec/09_control_engine.md) -/
def ACT_CMD_retract : Field :=
  { blk := 29, off := 0x100, lo := 1, w := 1, acc := .wo, n := 2, stride := 256 }
def ACT_CMD_load : Field :=
  { blk := 29, off := 0x100, lo := 0, w := 1, acc := .wo, n := 2, stride := 256 }
/-! ACT_STAT, offset 0x0104 + 256 × i, i < 2 (spec/09_control_engine.md) -/
def ACT_STAT_state : Field :=
  { blk := 29, off := 0x104, lo := 29, w := 3, acc := .ro, n := 2, stride := 256 }
def ACT_STAT_settle : Field :=
  { blk := 29, off := 0x104, lo := 28, w := 1, acc := .ro, n := 2, stride := 256 }
def ACT_STAT_ret_to : Field :=
  { blk := 29, off := 0x104, lo := 27, w := 1, acc := .w1c, n := 2, stride := 256 }
def ACT_STAT_load_fail : Field :=
  { blk := 29, off := 0x104, lo := 26, w := 1, acc := .w1c, n := 2, stride := 256 }
def ACT_STAT_count : Field :=
  { blk := 29, off := 0x104, lo := 16, w := 8, acc := .ro, n := 2, stride := 256 }
/-! ACT_SEEK, offset 0x0108 + 256 × i, i < 2 (spec/09_control_engine.md) -/
def ACT_SEEK_v_max : Field :=
  { blk := 29, off := 0x108, lo := 16, w := 16, acc := .rw, eff := .shadowed .wedge, rst := 1000, n := 2, stride := 256 }
def ACT_SEEK_a_max : Field :=
  { blk := 29, off := 0x108, lo := 0, w := 16, acc := .rw, eff := .shadowed .wedge, rst := 1024, n := 2, stride := 256 }
/-! ACT_SETTLE, offset 0x010C + 256 × i, i < 2 (spec/09_control_engine.md) -/
def ACT_SETTLE_settle_n : Field :=
  { blk := 29, off := 0x10C, lo := 24, w := 8, acc := .rw, eff := .shadowed .wedge, rst := 4, n := 2, stride := 256 }
def ACT_SETTLE_win : Field :=
  { blk := 29, off := 0x10C, lo := 0, w := 16, acc := .rw, eff := .shadowed .wedge, rst := 16, n := 2, stride := 256 }
/-! ACT_TGT, offset 0x0110 + 256 × i, i < 2 (spec/09_control_engine.md) -/
def ACT_TGT_c : Field :=
  { blk := 29, off := 0x110, lo := 0, w := 32, acc := .ro, n := 2, stride := 256 }
/-! ACT_REF, offset 0x0114 + 256 × i, i < 2 (spec/09_control_engine.md) -/
def ACT_REF_r : Field :=
  { blk := 29, off := 0x114, lo := 0, w := 32, acc := .ro, n := 2, stride := 256 }
/-! ACT_LOAD, offset 0x0118 + 256 × i, i < 2 (spec/09_control_engine.md) -/
def ACT_LOAD_load_v : Field :=
  { blk := 29, off := 0x118, lo := 16, w := 16, acc := .rw, eff := .stat, rst := 5120, n := 2, stride := 256 }
def ACT_LOAD_load_max : Field :=
  { blk := 29, off := 0x118, lo := 8, w := 8, acc := .rw, eff := .stat, rst := 100, n := 2, stride := 256 }
/-! ACT_RET, offset 0x011C + 256 × i, i < 2 (spec/09_control_engine.md) -/
def ACT_RET_ret_v : Field :=
  { blk := 29, off := 0x11C, lo := 16, w := 16, acc := .rw, eff := .stat, rst := 5120, n := 2, stride := 256 }
def ACT_RET_vpark : Field :=
  { blk := 29, off := 0x11C, lo := 8, w := 8, acc := .rw, eff := .stat, rst := 64, n := 2, stride := 256 }
def ACT_RET_ret_max : Field :=
  { blk := 29, off := 0x11C, lo := 0, w := 8, acc := .rw, eff := .stat, rst := 200, n := 2, stride := 256 }
/-! ACT_PWM, offset 0x0120 + 256 × i, i < 2 (spec/09_control_engine.md) -/
def ACT_PWM_dead : Field :=
  { blk := 29, off := 0x120, lo := 24, w := 8, acc := .rw, eff := .stat, rst := 20, n := 2, stride := 256 }
def ACT_PWM_period : Field :=
  { blk := 29, off := 0x120, lo := 0, w := 12, acc := .rw, eff := .stat, rst := 2083, n := 2, stride := 256 }
/-! ACT_BEMF, offset 0x0124 + 256 × i, i < 2 (spec/09_control_engine.md) -/
def ACT_BEMF_r_coil : Field :=
  { blk := 29, off := 0x124, lo := 16, w := 16, acc := .rw, eff := .stat, n := 2, stride := 256 }
def ACT_BEMF_kb_inv : Field :=
  { blk := 29, off := 0x124, lo := 0, w := 16, acc := .rw, eff := .stat, n := 2, stride := 256 }
/-! ACT_VLAW, offset 0x0128 + 256 × i, i < 2 (spec/09_control_engine.md) -/
def ACT_VLAW_kv : Field :=
  { blk := 29, off := 0x128, lo := 16, w := 16, acc := .rw, eff := .stat, n := 2, stride := 256 }
def ACT_VLAW_ilim : Field :=
  { blk := 29, off := 0x128, lo := 8, w := 8, acc := .rw, eff := .stat, n := 2, stride := 256 }
/-! ACT_VEST, offset 0x012C + 256 × i, i < 2 (spec/09_control_engine.md) -/
def ACT_VEST_vest : Field :=
  { blk := 29, off := 0x12C, lo := 0, w := 16, acc := .ro, n := 2, stride := 256 }
/-! ACT_IMEAS, offset 0x0130 + 256 × i, i < 2 (spec/09_control_engine.md) -/
def ACT_IMEAS_code : Field :=
  { blk := 29, off := 0x130, lo := 0, w := 12, acc := .ro, n := 2, stride := 256 }
/-! ACT_OFT, offset 0x0134 + 256 × i, i < 2 (spec/09_control_engine.md) -/
def ACT_OFT_disp : Field :=
  { blk := 29, off := 0x134, lo := 0, w := 32, acc := .ro, n := 2, stride := 256 }
/-! ACT_CNT, offset 0x0138 + 256 × i, i < 2 (spec/09_control_engine.md) -/
def ACT_CNT_settles : Field :=
  { blk := 29, off := 0x138, lo := 16, w := 16, acc := .rc, n := 2, stride := 256 }
def ACT_CNT_seeks : Field :=
  { blk := 29, off := 0x138, lo := 0, w := 16, acc := .rc, n := 2, stride := 256 }
/-! ACT_MA_GAIN, offset 0x1000 + 4 × i, i < 32 (spec/09_control_engine.md) -/
def ACT_MA_GAIN_gain : Field :=
  { blk := 29, off := 0x1000, lo := 0, w := 16, acc := .rw, eff := .live, rst := 4096, n := 32, stride := 4 }
/-! ACT_MA_CMD, offset 0x1100 + 4 × i, i < 32 (spec/09_control_engine.md) -/
def ACT_MA_CMD_dac : Field :=
  { blk := 29, off := 0x1100, lo := 16, w := 16, acc := .ro, n := 32, stride := 4 }
def ACT_MA_CMD_m : Field :=
  { blk := 29, off := 0x1100, lo := 0, w := 16, acc := .ro, n := 32, stride := 4 }
/-! ACT_MA_CLAMP, offset 0x1200 (spec/09_control_engine.md) -/
def ACT_MA_CLAMP_clamp : Field :=
  { blk := 29, off := 0x1200, lo := 0, w := 32, acc := .w1c }
def actTable0 : List Field :=
  [ACT_CTL_srst, ACT_CTL_act_b, ACT_CTL_act_a, ACT_CTL_en, ACT_CMD_retract, ACT_CMD_load, ACT_STAT_state, ACT_STAT_settle, ACT_STAT_ret_to, ACT_STAT_load_fail, ACT_STAT_count, ACT_SEEK_v_max, ACT_SEEK_a_max, ACT_SETTLE_settle_n, ACT_SETTLE_win, ACT_TGT_c, ACT_REF_r, ACT_LOAD_load_v, ACT_LOAD_load_max, ACT_RET_ret_v, ACT_RET_vpark, ACT_RET_ret_max, ACT_PWM_dead, ACT_PWM_period]
def actTable1 : List Field :=
  [ACT_BEMF_r_coil, ACT_BEMF_kb_inv, ACT_VLAW_kv, ACT_VLAW_ilim, ACT_VEST_vest, ACT_IMEAS_code, ACT_OFT_disp, ACT_CNT_settles, ACT_CNT_seeks, ACT_MA_GAIN_gain, ACT_MA_CMD_dac, ACT_MA_CMD_m, ACT_MA_CLAMP_clamp]
/-- Every field of the ACT register map. -/
def actTable : List Field :=
  actTable0 ++ actTable1

end Sys2Proof.Machine.R
end

