-- ==== Sys2Proof/Machine/RegMapSys.lean ====
section
/-! DEFINITION. The register maps of SYS, JIG, PWR and THM: one descriptor per field of the spec's register tables,
with its place, access type (R7), effect class (R16), reset value (R14) and the range whose violation is refused. -/
namespace Sys2Proof.Machine.R

/-! SYS_ID, offset 0x0000 (spec/01_architecture.md) -/
def SYS_ID_part : Field :=
  { blk := 0, off := 0x0, lo := 16, w := 16, acc := .ro, rst := 17424 }
def SYS_ID_rev : Field :=
  { blk := 0, off := 0x0, lo := 8, w := 8, acc := .ro, rst := 65 }
def SYS_ID_grade : Field :=
  { blk := 0, off := 0x0, lo := 4, w := 4, acc := .ro }
/-! SYS_RST_CTL, offset 0x0004 (spec/01_architecture.md) -/
def SYS_RST_CTL_core_run : Field :=
  { blk := 0, off := 0x4, lo := 8, w := 6, acc := .rw, eff := .live, rst := 1 }
def SYS_RST_CTL_warm : Field :=
  { blk := 0, off := 0x4, lo := 0, w := 1, acc := .wo }
/-! SYS_RST_CAUSE, offset 0x0008 (spec/01_architecture.md) -/
def SYS_RST_CAUSE_soft : Field :=
  { blk := 0, off := 0x8, lo := 2, w := 1, acc := .w1c, warmKept := true, blockKept := true }
def SYS_RST_CAUSE_pin : Field :=
  { blk := 0, off := 0x8, lo := 1, w := 1, acc := .w1c, warmKept := true, blockKept := true }
def SYS_RST_CAUSE_por : Field :=
  { blk := 0, off := 0x8, lo := 0, w := 1, acc := .w1c, rst := 1, warmKept := true, blockKept := true }
/-! SYS_CFG_ERR, offset 0x0010 (spec/01_architecture.md) -/
def SYS_CFG_ERR_valid : Field :=
  { blk := 0, off := 0x10, lo := 31, w := 1, acc := .w1c }
def SYS_CFG_ERR_overflow : Field :=
  { blk := 0, off := 0x10, lo := 30, w := 1, acc := .w1c }
def SYS_CFG_ERR_cause : Field :=
  { blk := 0, off := 0x10, lo := 27, w := 3, acc := .ro }
def SYS_CFG_ERR_write : Field :=
  { blk := 0, off := 0x10, lo := 26, w := 1, acc := .ro }
def SYS_CFG_ERR_initiator : Field :=
  { blk := 0, off := 0x10, lo := 23, w := 3, acc := .ro }
def SYS_CFG_ERR_block : Field :=
  { blk := 0, off := 0x10, lo := 16, w := 6, acc := .ro }
def SYS_CFG_ERR_offset : Field :=
  { blk := 0, off := 0x10, lo := 0, w := 16, acc := .ro }
/-! SYS_CFG_ERR_CNT, offset 0x0014 (spec/01_architecture.md) -/
def SYS_CFG_ERR_CNT_count : Field :=
  { blk := 0, off := 0x14, lo := 0, w := 32, acc := .rc }
/-! SYS_BRG_BUSY0, offset 0x0020 (spec/01_architecture.md) -/
def SYS_BRG_BUSY0_busy : Field :=
  { blk := 0, off := 0x20, lo := 0, w := 32, acc := .ro }
/-! SYS_BRG_BUSY1, offset 0x0024 (spec/01_architecture.md) -/
def SYS_BRG_BUSY1_busy : Field :=
  { blk := 0, off := 0x24, lo := 0, w := 6, acc := .ro }
/-! SYS_RTWIN, offset 0x0030 + 4 × i, i < 2 (spec/01_architecture.md) -/
def SYS_RTWIN_base : Field :=
  { blk := 0, off := 0x30, lo := 0, w := 4, acc := .rw, eff := .live, n := 2, stride := 4, rng := some (0, 13) }
/-! SYS_IRQ_PEND, offset 0x0100 + 4 × i, i < 8 (spec/01_architecture.md) -/
def SYS_IRQ_PEND_pend : Field :=
  { blk := 0, off := 0x100, lo := 0, w := 32, acc := .ro, n := 8, stride := 4 }
/-! SYS_IRQ_CLAIM, offset 0x0140 + 4 × i, i < 6 (spec/01_architecture.md) -/
def SYS_IRQ_CLAIM_valid : Field :=
  { blk := 0, off := 0x140, lo := 31, w := 1, acc := .ro, n := 6, stride := 4 }
def SYS_IRQ_CLAIM_source : Field :=
  { blk := 0, off := 0x140, lo := 0, w := 8, acc := .rw, n := 6, stride := 4 }
/-! SYS_IRQ_SW, offset 0x0180 (spec/01_architecture.md) -/
def SYS_IRQ_SW_sw : Field :=
  { blk := 0, off := 0x180, lo := 0, w := 4, acc := .rw, eff := .live }
/-! SYS_IRQ_CFG, offset 0x0400 + 4 × i, i < 256 (spec/01_architecture.md) -/
def SYS_IRQ_CFG_nmi : Field :=
  { blk := 0, off := 0x400, lo := 31, w := 1, acc := .rw, eff := .live, n := 256, stride := 4 }
def SYS_IRQ_CFG_target : Field :=
  { blk := 0, off := 0x400, lo := 8, w := 6, acc := .rw, eff := .live, n := 256, stride := 4 }
def SYS_IRQ_CFG_prio : Field :=
  { blk := 0, off := 0x400, lo := 0, w := 3, acc := .rw, eff := .live, n := 256, stride := 4 }
/-! SYS_SLOT_USED, offset 0x1000 + 4 × i, i < 4 (spec/21_pins_package.md) -/
def SYS_SLOT_USED_used : Field :=
  { blk := 0, off := 0x1000, lo := 0, w := 32, acc := .ro, n := 4, stride := 4, rsts := [15, 0, 4160749568, 4026535183] }
/-! SYS_GPIO_DIR, offset 0x1010 (spec/21_pins_package.md) -/
def SYS_GPIO_DIR_dir : Field :=
  { blk := 0, off := 0x1010, lo := 0, w := 16, acc := .rw, eff := .live }
/-! SYS_GPIO_OUT, offset 0x1014 (spec/21_pins_package.md) -/
def SYS_GPIO_OUT_out : Field :=
  { blk := 0, off := 0x1014, lo := 0, w := 16, acc := .rw, eff := .live }
/-! SYS_GPIO_IN, offset 0x1018 (spec/21_pins_package.md) -/
def SYS_GPIO_IN_in : Field :=
  { blk := 0, off := 0x1018, lo := 0, w := 16, acc := .ro }
/-! SYS_GPIO_PULL, offset 0x101C (spec/21_pins_package.md) -/
def SYS_GPIO_PULL_up : Field :=
  { blk := 0, off := 0x101C, lo := 16, w := 16, acc := .rw, eff := .live }
def SYS_GPIO_PULL_down : Field :=
  { blk := 0, off := 0x101C, lo := 0, w := 16, acc := .rw, eff := .live, rst := 65535 }
/-! SYS_VIB, offset 0x1020 + 4 × i, i < 4 (spec/21_pins_package.md) -/
def SYS_VIB_hi : Field :=
  { blk := 0, off := 0x1020, lo := 16, w := 12, acc := .ro, n := 4, stride := 4 }
def SYS_VIB_lo : Field :=
  { blk := 0, off := 0x1020, lo := 0, w := 12, acc := .ro, n := 4, stride := 4 }
/-! SYS_UART_DIV, offset 0x1030 (spec/21_pins_package.md) -/
def SYS_UART_DIV_div : Field :=
  { blk := 0, off := 0x1030, lo := 0, w := 16, acc := .rw, eff := .live, rst := 1067, rng := some (16, 65535) }
/-! SYS_UART_STAT, offset 0x1034 (spec/21_pins_package.md) -/
def SYS_UART_STAT_tx_free : Field :=
  { blk := 0, off := 0x1034, lo := 8, w := 5, acc := .ro, rst := 16 }
def SYS_UART_STAT_rx_cnt : Field :=
  { blk := 0, off := 0x1034, lo := 0, w := 5, acc := .ro }
/-! SYS_UART_TX, offset 0x1038 (spec/21_pins_package.md) -/
def SYS_UART_TX_data : Field :=
  { blk := 0, off := 0x1038, lo := 0, w := 8, acc := .wo }
/-! SYS_UART_RX, offset 0x103C (spec/21_pins_package.md) -/
def SYS_UART_RX_valid : Field :=
  { blk := 0, off := 0x103C, lo := 31, w := 1, acc := .ro }
def SYS_UART_RX_ovr : Field :=
  { blk := 0, off := 0x103C, lo := 30, w := 1, acc := .ro }
def SYS_UART_RX_data : Field :=
  { blk := 0, off := 0x103C, lo := 0, w := 8, acc := .ro }
def sysTable0 : List Field :=
  [SYS_ID_part, SYS_ID_rev, SYS_ID_grade, SYS_RST_CTL_core_run, SYS_RST_CTL_warm, SYS_RST_CAUSE_soft, SYS_RST_CAUSE_pin, SYS_RST_CAUSE_por, SYS_CFG_ERR_valid, SYS_CFG_ERR_overflow, SYS_CFG_ERR_cause, SYS_CFG_ERR_write, SYS_CFG_ERR_initiator, SYS_CFG_ERR_block, SYS_CFG_ERR_offset, SYS_CFG_ERR_CNT_count, SYS_BRG_BUSY0_busy, SYS_BRG_BUSY1_busy, SYS_RTWIN_base, SYS_IRQ_PEND_pend, SYS_IRQ_CLAIM_valid, SYS_IRQ_CLAIM_source, SYS_IRQ_SW_sw, SYS_IRQ_CFG_nmi]
def sysTable1 : List Field :=
  [SYS_IRQ_CFG_target, SYS_IRQ_CFG_prio, SYS_SLOT_USED_used, SYS_GPIO_DIR_dir, SYS_GPIO_OUT_out, SYS_GPIO_IN_in, SYS_GPIO_PULL_up, SYS_GPIO_PULL_down, SYS_VIB_hi, SYS_VIB_lo, SYS_UART_DIV_div, SYS_UART_STAT_tx_free, SYS_UART_STAT_rx_cnt, SYS_UART_TX_data, SYS_UART_RX_valid, SYS_UART_RX_ovr, SYS_UART_RX_data]
/-- Every field of the SYS register map. -/
def sysTable : List Field :=
  sysTable0 ++ sysTable1

/-! JIG_STAT, offset 0x0000 (spec/02_jig_boot_lifecycle.md) -/
def JIG_STAT_lockout : Field :=
  { blk := 1, off := 0x0, lo := 11, w := 1, acc := .ro, warmKept := true }
def JIG_STAT_busy : Field :=
  { blk := 1, off := 0x0, lo := 10, w := 1, acc := .ro }
def JIG_STAT_gold_ok : Field :=
  { blk := 1, off := 0x0, lo := 9, w := 1, acc := .ro }
def JIG_STAT_boot_copy : Field :=
  { blk := 1, off := 0x0, lo := 4, w := 4, acc := .ro }
def JIG_STAT_lc_state : Field :=
  { blk := 1, off := 0x0, lo := 0, w := 3, acc := .ro }
/-! JIG_STRAP, offset 0x0004 (spec/02_jig_boot_lifecycle.md) -/
def JIG_STRAP_xtal : Field :=
  { blk := 1, off := 0x4, lo := 4, w := 1, acc := .ro }
def JIG_STRAP_role : Field :=
  { blk := 1, off := 0x4, lo := 2, w := 2, acc := .ro }
def JIG_STRAP_boot : Field :=
  { blk := 1, off := 0x4, lo := 0, w := 2, acc := .ro }
/-! JIG_UID, offset 0x0008 + 4 × i, i < 2 (spec/02_jig_boot_lifecycle.md) -/
def JIG_UID_uid : Field :=
  { blk := 1, off := 0x8, lo := 0, w := 32, acc := .ro, n := 2, stride := 4 }
/-! JIG_RBK_STAT, offset 0x0010 (spec/02_jig_boot_lifecycle.md) -/
def JIG_RBK_STAT_floor : Field :=
  { blk := 1, off := 0x10, lo := 0, w := 7, acc := .ro }
/-! JIG_RBK_CTL, offset 0x0014 (spec/02_jig_boot_lifecycle.md) -/
def JIG_RBK_CTL_target : Field :=
  { blk := 1, off := 0x14, lo := 0, w := 7, acc := .wo }
/-! JIG_IMG_INFO, offset 0x0018 (spec/02_jig_boot_lifecycle.md) -/
def JIG_IMG_INFO_key_slot : Field :=
  { blk := 1, off := 0x18, lo := 8, w := 8, acc := .ro }
def JIG_IMG_INFO_sec_ver : Field :=
  { blk := 1, off := 0x18, lo := 0, w := 8, acc := .ro }
/-! JIG_IMG_GEN, offset 0x001C (spec/02_jig_boot_lifecycle.md) -/
def JIG_IMG_GEN_generation : Field :=
  { blk := 1, off := 0x1C, lo := 0, w := 32, acc := .ro }
/-! JIG_GOLD_BASE, offset 0x0020 (spec/02_jig_boot_lifecycle.md) -/
def JIG_GOLD_BASE_lock : Field :=
  { blk := 1, off := 0x20, lo := 31, w := 1, acc := .w1s, eff := .live }
def JIG_GOLD_BASE_stage_lock : Field :=
  { blk := 1, off := 0x20, lo := 30, w := 1, acc := .rw, eff := .live }
def JIG_GOLD_BASE_half : Field :=
  { blk := 1, off := 0x20, lo := 29, w := 1, acc := .ro }
def JIG_GOLD_BASE_swap : Field :=
  { blk := 1, off := 0x20, lo := 28, w := 1, acc := .wo }
def JIG_GOLD_BASE_base : Field :=
  { blk := 1, off := 0x20, lo := 0, w := 14, acc := .rw, eff := .live }
/-! JIG_GOLD_STAT, offset 0x0024 (spec/02_jig_boot_lifecycle.md) -/
def JIG_GOLD_STAT_refused : Field :=
  { blk := 1, off := 0x24, lo := 0, w := 32, acc := .rc }
/-! JIG_LC_CTL, offset 0x0030 (spec/02_jig_boot_lifecycle.md) -/
def JIG_LC_CTL_chal : Field :=
  { blk := 1, off := 0x30, lo := 8, w := 1, acc := .wo }
def JIG_LC_CTL_req : Field :=
  { blk := 1, off := 0x30, lo := 0, w := 3, acc := .wo }
/-! JIG_LC_STAT, offset 0x0034 (spec/02_jig_boot_lifecycle.md) -/
def JIG_LC_STAT_fail_cnt : Field :=
  { blk := 1, off := 0x34, lo := 8, w := 4, acc := .ro, warmKept := true }
def JIG_LC_STAT_result : Field :=
  { blk := 1, off := 0x34, lo := 0, w := 3, acc := .ro }
/-! JIG_CHAL, offset 0x0040 + 4 × i, i < 8 (spec/02_jig_boot_lifecycle.md) -/
def JIG_CHAL_nonce : Field :=
  { blk := 1, off := 0x40, lo := 0, w := 32, acc := .ro, n := 8, stride := 4 }
/-! JIG_RESP, offset 0x0060 + 4 × i, i < 8 (spec/02_jig_boot_lifecycle.md) -/
def JIG_RESP_resp : Field :=
  { blk := 1, off := 0x60, lo := 0, w := 32, acc := .wo, n := 8, stride := 4 }
/-! JIG_KEY_CTL, offset 0x0080 (spec/02_jig_boot_lifecycle.md) -/
def JIG_KEY_CTL_op : Field :=
  { blk := 1, off := 0x80, lo := 4, w := 2, acc := .rwl, eff := .live, unlock := [1, 3] }
def JIG_KEY_CTL_slot : Field :=
  { blk := 1, off := 0x80, lo := 2, w := 2, acc := .rwl, eff := .live, unlock := [1, 3] }
def JIG_KEY_CTL_go : Field :=
  { blk := 1, off := 0x80, lo := 0, w := 1, acc := .wo }
/-! JIG_KEY_DATA, offset 0x0090 + 4 × i, i < 12 (spec/02_jig_boot_lifecycle.md) -/
def JIG_KEY_DATA_data : Field :=
  { blk := 1, off := 0x90, lo := 0, w := 32, acc := .wo, n := 12, stride := 4 }
/-! JIG_KEY_STAT, offset 0x00C0 (spec/02_jig_boot_lifecycle.md) -/
def JIG_KEY_STAT_svc : Field :=
  { blk := 1, off := 0xC0, lo := 8, w := 1, acc := .ro }
def JIG_KEY_STAT_revoked : Field :=
  { blk := 1, off := 0xC0, lo := 4, w := 4, acc := .ro }
def JIG_KEY_STAT_programmed : Field :=
  { blk := 1, off := 0xC0, lo := 0, w := 4, acc := .ro }
/-! JIG_ENTRY, offset 0x0100 + 4 × i, i < 12 (spec/02_jig_boot_lifecycle.md) -/
def JIG_ENTRY_addr : Field :=
  { blk := 1, off := 0x100, lo := 0, w := 32, acc := .rw, eff := .live, n := 12, stride := 4 }
/-! JIG_LOAD_CTL, offset 0x0200 (spec/02_jig_boot_lifecycle.md) -/
def JIG_LOAD_CTL_go : Field :=
  { blk := 1, off := 0x200, lo := 31, w := 1, acc := .wo }
def JIG_LOAD_CTL_word : Field :=
  { blk := 1, off := 0x200, lo := 30, w := 1, acc := .rw, eff := .live }
def JIG_LOAD_CTL_src : Field :=
  { blk := 1, off := 0x200, lo := 29, w := 1, acc := .rw, eff := .live }
def JIG_LOAD_CTL_index : Field :=
  { blk := 1, off := 0x200, lo := 16, w := 12, acc := .rw, eff := .live }
def JIG_LOAD_CTL_type : Field :=
  { blk := 1, off := 0x200, lo := 0, w := 16, acc := .rw, eff := .live }
/-! JIG_LOAD_STAT, offset 0x0204 (spec/02_jig_boot_lifecycle.md) -/
def JIG_LOAD_STAT_err : Field :=
  { blk := 1, off := 0x204, lo := 1, w := 1, acc := .w1c }
def JIG_LOAD_STAT_done : Field :=
  { blk := 1, off := 0x204, lo := 0, w := 1, acc := .w1c }
def jigTable0 : List Field :=
  [JIG_STAT_lockout, JIG_STAT_busy, JIG_STAT_gold_ok, JIG_STAT_boot_copy, JIG_STAT_lc_state, JIG_STRAP_xtal, JIG_STRAP_role, JIG_STRAP_boot, JIG_UID_uid, JIG_RBK_STAT_floor, JIG_RBK_CTL_target, JIG_IMG_INFO_key_slot, JIG_IMG_INFO_sec_ver, JIG_IMG_GEN_generation, JIG_GOLD_BASE_lock, JIG_GOLD_BASE_stage_lock, JIG_GOLD_BASE_half, JIG_GOLD_BASE_swap, JIG_GOLD_BASE_base, JIG_GOLD_STAT_refused, JIG_LC_CTL_chal, JIG_LC_CTL_req, JIG_LC_STAT_fail_cnt, JIG_LC_STAT_result]
def jigTable1 : List Field :=
  [JIG_CHAL_nonce, JIG_RESP_resp, JIG_KEY_CTL_op, JIG_KEY_CTL_slot, JIG_KEY_CTL_go, JIG_KEY_DATA_data, JIG_KEY_STAT_svc, JIG_KEY_STAT_revoked, JIG_KEY_STAT_programmed, JIG_ENTRY_addr, JIG_LOAD_CTL_go, JIG_LOAD_CTL_word, JIG_LOAD_CTL_src, JIG_LOAD_CTL_index, JIG_LOAD_CTL_type, JIG_LOAD_STAT_err, JIG_LOAD_STAT_done]
/-- Every field of the JIG register map. -/
def jigTable : List Field :=
  jigTable0 ++ jigTable1

/-! PWR_PLVL, offset 0x0000 (spec/16_power_states.md) -/
def PWR_PLVL_req : Field :=
  { blk := 2, off := 0x0, lo := 0, w := 2, acc := .rw, eff := .live, rst := 2 }
/-! PWR_PLVL_STAT, offset 0x0004 (spec/16_power_states.md) -/
def PWR_PLVL_STAT_fail : Field :=
  { blk := 2, off := 0x4, lo := 3, w := 1, acc := .w1c }
def PWR_PLVL_STAT_busy : Field :=
  { blk := 2, off := 0x4, lo := 2, w := 1, acc := .ro }
def PWR_PLVL_STAT_cur : Field :=
  { blk := 2, off := 0x4, lo := 0, w := 2, acc := .ro, rst := 2 }
/-! PWR_LVL, offset 0x0010 + 4 × i, i < 4 (spec/16_power_states.md) -/
def PWR_LVL_base : Field :=
  { blk := 2, off := 0x10, lo := 24, w := 8, acc := .rw, eff := .stat, n := 4, stride := 4, rsts := [92, 80, 63, 44] }
def PWR_LVL_lanes : Field :=
  { blk := 2, off := 0x10, lo := 20, w := 4, acc := .rw, eff := .stat, n := 4, stride := 4, rsts := [8, 8, 2, 1] }
def PWR_LVL_vnom : Field :=
  { blk := 2, off := 0x10, lo := 0, w := 12, acc := .rw, eff := .stat, n := 4, stride := 4, rsts := [800, 720, 640, 600], rng := some (500, 900) }
/-! PWR_ADJ, offset 0x0020 (spec/16_power_states.md) -/
def PWR_ADJ_adj : Field :=
  { blk := 2, off := 0x20, lo := 0, w := 32, acc := .rw, eff := .live }
/-! PWR_SLEEP_CTL, offset 0x0040 (spec/16_power_states.md) -/
def PWR_SLEEP_CTL_go : Field :=
  { blk := 2, off := 0x40, lo := 31, w := 1, acc := .wo }
def PWR_SLEEP_CTL_target : Field :=
  { blk := 2, off := 0x40, lo := 0, w := 2, acc := .rw, eff := .live, rng := some (0, 2) }
/-! PWR_SLEEP_STAT, offset 0x0044 (spec/16_power_states.md) -/
def PWR_SLEEP_STAT_phase : Field :=
  { blk := 2, off := 0x44, lo := 29, w := 3, acc := .ro }
def PWR_SLEEP_STAT_abort_by : Field :=
  { blk := 2, off := 0x44, lo := 25, w := 4, acc := .ro }
def PWR_SLEEP_STAT_votes : Field :=
  { blk := 2, off := 0x44, lo := 0, w := 11, acc := .ro }
/-! PWR_SLEEP_CFG, offset 0x0048 (spec/16_power_states.md) -/
def PWR_SLEEP_CFG_prep_tmo : Field :=
  { blk := 2, off := 0x48, lo := 16, w := 16, acc := .rw, eff := .live, rst := 10 }
def PWR_SLEEP_CFG_backoff : Field :=
  { blk := 2, off := 0x48, lo := 0, w := 16, acc := .rw, eff := .live, rst := 50 }
/-! PWR_VOTE, offset 0x004C (spec/16_power_states.md) -/
def PWR_VOTE_yes : Field :=
  { blk := 2, off := 0x4C, lo := 0, w := 6, acc := .rw, eff := .live }
/-! PWR_RET, offset 0x0050 (spec/16_power_states.md) -/
def PWR_RET_rt1 : Field :=
  { blk := 2, off := 0x50, lo := 17, w := 1, acc := .rw, eff := .live }
def PWR_RET_rt0 : Field :=
  { blk := 2, off := 0x50, lo := 16, w := 1, acc := .rw, eff := .live }
def PWR_RET_ways : Field :=
  { blk := 2, off := 0x50, lo := 0, w := 16, acc := .rw, eff := .live }
/-! PWR_IDLE, offset 0x0060 + 4 × i, i < 3 (spec/16_power_states.md) -/
def PWR_IDLE_ms : Field :=
  { blk := 2, off := 0x60, lo := 0, w := 24, acc := .rw, eff := .live, n := 3, stride := 4 }
/-! PWR_IDLE_STAT, offset 0x006C (spec/16_power_states.md) -/
def PWR_IDLE_STAT_reached : Field :=
  { blk := 2, off := 0x6C, lo := 24, w := 3, acc := .w1c }
def PWR_IDLE_STAT_count : Field :=
  { blk := 2, off := 0x6C, lo := 0, w := 24, acc := .ro }
/-! PWR_ARB_CFG, offset 0x0080 + 4 × i, i < 3 (spec/16_power_states.md) -/
def PWR_ARB_CFG_step_max : Field :=
  { blk := 2, off := 0x80, lo := 16, w := 16, acc := .rw, eff := .live, n := 3, stride := 4 }
def PWR_ARB_CFG_window : Field :=
  { blk := 2, off := 0x80, lo := 0, w := 16, acc := .rw, eff := .live, rst := 1000, n := 3, stride := 4 }
/-! PWR_ARB_REQ, offset 0x008C (spec/16_power_states.md) -/
def PWR_ARB_REQ_go : Field :=
  { blk := 2, off := 0x8C, lo := 31, w := 1, acc := .wo }
def PWR_ARB_REQ_granted : Field :=
  { blk := 2, off := 0x8C, lo := 30, w := 1, acc := .ro, rst := 1 }
def PWR_ARB_REQ_rail : Field :=
  { blk := 2, off := 0x8C, lo := 16, w := 2, acc := .rw, eff := .live }
def PWR_ARB_REQ_ma : Field :=
  { blk := 2, off := 0x8C, lo := 0, w := 16, acc := .rw, eff := .live }
/-! PWR_ARB_STAT, offset 0x0090 (spec/16_power_states.md) -/
def PWR_ARB_STAT_over : Field :=
  { blk := 2, off := 0x90, lo := 16, w := 16, acc := .rc }
def PWR_ARB_STAT_queued : Field :=
  { blk := 2, off := 0x90, lo := 0, w := 8, acc := .ro }
/-! PWR_EST, offset 0x00A0 (spec/16_power_states.md) -/
def PWR_EST_over : Field :=
  { blk := 2, off := 0xA0, lo := 31, w := 1, acc := .ro }
def PWR_EST_mw : Field :=
  { blk := 2, off := 0xA0, lo := 0, w := 16, acc := .ro }
/-! PWR_CAP, offset 0x00A4 (spec/16_power_states.md) -/
def PWR_CAP_cap : Field :=
  { blk := 2, off := 0xA4, lo := 0, w := 16, acc := .rw, eff := .live, rst := 65535 }
/-! PWR_WGT, offset 0x00A8 (spec/16_power_states.md) -/
def PWR_WGT_mech : Field :=
  { blk := 2, off := 0xA8, lo := 16, w := 16, acc := .rw, eff := .stat }
def PWR_WGT_lane : Field :=
  { blk := 2, off := 0xA8, lo := 0, w := 16, acc := .rw, eff := .stat }
/-! PWR_CNT, offset 0x00AC (spec/16_power_states.md) -/
def PWR_CNT_aborts : Field :=
  { blk := 2, off := 0xAC, lo := 16, w := 16, acc := .rc }
def PWR_CNT_entries : Field :=
  { blk := 2, off := 0xAC, lo := 0, w := 16, acc := .rc }
/-! PWR_AON_STAT, offset 0x0100 (spec/16_power_states.md) -/
def PWR_AON_STAT_calm_exit : Field :=
  { blk := 2, off := 0x100, lo := 1, w := 1, acc := .w1c, aon := true }
def PWR_AON_STAT_dol_exit : Field :=
  { blk := 2, off := 0x100, lo := 0, w := 1, acc := .w1c, aon := true }
/-! PWR_WAKE_EN, offset 0x0104 (spec/16_power_states.md) -/
def PWR_WAKE_EN_en : Field :=
  { blk := 2, off := 0x104, lo := 0, w := 8, acc := .rw, eff := .live, rst := 7, aon := true }
/-! PWR_WAKE_SRC, offset 0x0108 (spec/16_power_states.md) -/
def PWR_WAKE_SRC_src : Field :=
  { blk := 2, off := 0x108, lo := 0, w := 8, acc := .w1c, aon := true }
/-! PWR_DT, offset 0x0110 + 4 × i, i < 2 (spec/16_power_states.md) -/
def PWR_DT_dt : Field :=
  { blk := 2, off := 0x110, lo := 0, w := 32, acc := .ro, aon := true, n := 2, stride := 4 }
/-! PWR_DT_Q, offset 0x0118 (spec/16_power_states.md) -/
def PWR_DT_Q_frac : Field :=
  { blk := 2, off := 0x118, lo := 2, w := 6, acc := .ro, aon := true }
def PWR_DT_Q_q : Field :=
  { blk := 2, off := 0x118, lo := 0, w := 2, acc := .ro, aon := true }
/-! PWR_ALARM, offset 0x0120 + 4 × i, i < 2 (spec/16_power_states.md) -/
def PWR_ALARM_cnt : Field :=
  { blk := 2, off := 0x120, lo := 0, w := 32, acc := .rw, eff := .live, aon := true, n := 2, stride := 4 }
/-! PWR_AVS_CFG, offset 0x8000 (spec/16_power_states.md) -/
def PWR_AVS_CFG_tmo : Field :=
  { blk := 2, off := 0x8000, lo := 16, w := 16, acc := .rw, eff := .live, rst := 200, aon := true }
def PWR_AVS_CFG_rail : Field :=
  { blk := 2, off := 0x8000, lo := 0, w := 4, acc := .rw, eff := .live, aon := true }
/-! PWR_AVS_STAT, offset 0x8004 (spec/16_power_states.md) -/
def PWR_AVS_STAT_vdone : Field :=
  { blk := 2, off := 0x8004, lo := 31, w := 1, acc := .ro, aon := true }
def PWR_AVS_STAT_mv : Field :=
  { blk := 2, off := 0x8004, lo := 0, w := 12, acc := .ro, aon := true }
/-! PWR_PMB_CMD, offset 0x8010 (spec/16_power_states.md) -/
def PWR_PMB_CMD_go : Field :=
  { blk := 2, off := 0x8010, lo := 31, w := 1, acc := .wo, aon := true }
def PWR_PMB_CMD_busy : Field :=
  { blk := 2, off := 0x8010, lo := 30, w := 1, acc := .ro, aon := true }
def PWR_PMB_CMD_read : Field :=
  { blk := 2, off := 0x8010, lo := 29, w := 1, acc := .rw, eff := .live, aon := true }
def PWR_PMB_CMD_addr : Field :=
  { blk := 2, off := 0x8010, lo := 8, w := 7, acc := .rw, eff := .live, aon := true }
def PWR_PMB_CMD_cmd : Field :=
  { blk := 2, off := 0x8010, lo := 0, w := 8, acc := .rw, eff := .live, aon := true }
/-! PWR_PMB_DATA, offset 0x8014 (spec/16_power_states.md) -/
def PWR_PMB_DATA_nack : Field :=
  { blk := 2, off := 0x8014, lo := 31, w := 1, acc := .ro, aon := true }
def PWR_PMB_DATA_data : Field :=
  { blk := 2, off := 0x8014, lo := 0, w := 16, acc := .rw, eff := .live, aon := true }
def pwrTable0 : List Field :=
  [PWR_PLVL_req, PWR_PLVL_STAT_fail, PWR_PLVL_STAT_busy, PWR_PLVL_STAT_cur, PWR_LVL_base, PWR_LVL_lanes, PWR_LVL_vnom, PWR_ADJ_adj, PWR_SLEEP_CTL_go, PWR_SLEEP_CTL_target, PWR_SLEEP_STAT_phase, PWR_SLEEP_STAT_abort_by, PWR_SLEEP_STAT_votes, PWR_SLEEP_CFG_prep_tmo, PWR_SLEEP_CFG_backoff, PWR_VOTE_yes, PWR_RET_rt1, PWR_RET_rt0, PWR_RET_ways, PWR_IDLE_ms, PWR_IDLE_STAT_reached, PWR_IDLE_STAT_count, PWR_ARB_CFG_step_max, PWR_ARB_CFG_window]
def pwrTable1 : List Field :=
  [PWR_ARB_REQ_go, PWR_ARB_REQ_granted, PWR_ARB_REQ_rail, PWR_ARB_REQ_ma, PWR_ARB_STAT_over, PWR_ARB_STAT_queued, PWR_EST_over, PWR_EST_mw, PWR_CAP_cap, PWR_WGT_mech, PWR_WGT_lane, PWR_CNT_aborts, PWR_CNT_entries, PWR_AON_STAT_calm_exit, PWR_AON_STAT_dol_exit, PWR_WAKE_EN_en, PWR_WAKE_SRC_src, PWR_DT_dt, PWR_DT_Q_frac, PWR_DT_Q_q, PWR_ALARM_cnt, PWR_AVS_CFG_tmo, PWR_AVS_CFG_rail, PWR_AVS_STAT_vdone]
def pwrTable2 : List Field :=
  [PWR_AVS_STAT_mv, PWR_PMB_CMD_go, PWR_PMB_CMD_busy, PWR_PMB_CMD_read, PWR_PMB_CMD_addr, PWR_PMB_CMD_cmd, PWR_PMB_DATA_nack, PWR_PMB_DATA_data]
/-- Every field of the PWR register map. -/
def pwrTable : List Field :=
  pwrTable0 ++ pwrTable1 ++ pwrTable2

/-! THM_CTL, offset 0x0000 (spec/17_thermal_squall.md) -/
def THM_CTL_sd_req : Field :=
  { blk := 3, off := 0x0, lo := 0, w := 1, acc := .wo }
/-! THM_STAT, offset 0x0004 (spec/17_thermal_squall.md) -/
def THM_STAT_latched : Field :=
  { blk := 3, off := 0x4, lo := 31, w := 1, acc := .ro, warmKept := true }
def THM_STAT_sd_seq : Field :=
  { blk := 3, off := 0x4, lo := 30, w := 1, acc := .ro, warmKept := true }
def THM_STAT_squall : Field :=
  { blk := 3, off := 0x4, lo := 29, w := 1, acc := .ro }
def THM_STAT_restored : Field :=
  { blk := 3, off := 0x4, lo := 28, w := 1, acc := .ro }
def THM_STAT_retracted : Field :=
  { blk := 3, off := 0x4, lo := 27, w := 1, acc := .ro }
def THM_STAT_warn : Field :=
  { blk := 3, off := 0x4, lo := 26, w := 1, acc := .ro }
def THM_STAT_flash : Field :=
  { blk := 3, off := 0x4, lo := 24, w := 2, acc := .ro, warmKept := true }
def THM_STAT_sd_cause : Field :=
  { blk := 3, off := 0x4, lo := 21, w := 3, acc := .ro, warmKept := true }
def THM_STAT_sd_sensor : Field :=
  { blk := 3, off := 0x4, lo := 16, w := 5, acc := .ro, warmKept := true }
/-! THM_LIMITS, offset 0x0008 (spec/17_thermal_squall.md) -/
def THM_LIMITS_warn : Field :=
  { blk := 3, off := 0x8, lo := 16, w := 8, acc := .rw, eff := .live, rst := 95 }
def THM_LIMITS_throttle : Field :=
  { blk := 3, off := 0x8, lo := 8, w := 8, acc := .rw, eff := .live, rst := 100 }
def THM_LIMITS_shutdown : Field :=
  { blk := 3, off := 0x8, lo := 0, w := 8, acc := .rwl, eff := .live, rst := 115, unlock := [1, 3] }
/-! THM_RATE_CFG, offset 0x000C (spec/17_thermal_squall.md) -/
def THM_RATE_CFG_slow : Field :=
  { blk := 3, off := 0xC, lo := 16, w := 16, acc := .rw, eff := .live, rst := 48 }
def THM_RATE_CFG_fast : Field :=
  { blk := 3, off := 0xC, lo := 0, w := 16, acc := .rw, eff := .live, rst := 24, rng := some (1, 65535) }
/-! THM_THR_CFG, offset 0x0010 (spec/17_thermal_squall.md) -/
def THM_THR_CFG_step_ms : Field :=
  { blk := 3, off := 0x10, lo := 16, w := 16, acc := .rw, eff := .live, rst := 500 }
def THM_THR_CFG_hyst : Field :=
  { blk := 3, off := 0x10, lo := 12, w := 4, acc := .rw, eff := .live, rst := 3 }
def THM_THR_CFG_max : Field :=
  { blk := 3, off := 0x10, lo := 4, w := 3, acc := .rw, eff := .live, rst := 7 }
def THM_THR_CFG_floor : Field :=
  { blk := 3, off := 0x10, lo := 0, w := 3, acc := .rw, eff := .live }
/-! THM_THR_STAT, offset 0x0014 (spec/17_thermal_squall.md) -/
def THM_THR_STAT_level : Field :=
  { blk := 3, off := 0x14, lo := 0, w := 3, acc := .ro }
/-! THM_SQ_CFG, offset 0x0018 (spec/17_thermal_squall.md) -/
def THM_SQ_CFG_restore_ms : Field :=
  { blk := 3, off := 0x18, lo := 16, w := 16, acc := .rw, eff := .live, rst := 100 }
def THM_SQ_CFG_dgl : Field :=
  { blk := 3, off := 0x18, lo := 0, w := 4, acc := .rw, eff := .live, rst := 4 }
/-! THM_MAX, offset 0x001C (spec/17_thermal_squall.md) -/
def THM_MAX_sensor : Field :=
  { blk := 3, off := 0x1C, lo := 16, w := 5, acc := .ro }
def THM_MAX_tmax : Field :=
  { blk := 3, off := 0x1C, lo := 0, w := 16, acc := .ro }
/-! THM_RISE, offset 0x0020 (spec/17_thermal_squall.md) -/
def THM_RISE_slow : Field :=
  { blk := 3, off := 0x20, lo := 16, w := 16, acc := .ro }
def THM_RISE_fast : Field :=
  { blk := 3, off := 0x20, lo := 0, w := 16, acc := .ro }
/-! THM_CNT, offset 0x0024 (spec/17_thermal_squall.md) -/
def THM_CNT_squalls : Field :=
  { blk := 3, off := 0x24, lo := 24, w := 8, acc := .rc }
def THM_CNT_levels : Field :=
  { blk := 3, off := 0x24, lo := 16, w := 8, acc := .rc }
def THM_CNT_fault : Field :=
  { blk := 3, off := 0x24, lo := 0, w := 16, acc := .rc }
/-! THM_PAUSE, offset 0x0040 + 4 × i, i < 8 (spec/17_thermal_squall.md) -/
def THM_PAUSE_media : Field :=
  { blk := 3, off := 0x40, lo := 16, w := 16, acc := .rw, eff := .live, n := 8, stride := 4, rsts := [0, 250, 500, 1000, 2000, 4000, 8333, 33333] }
def THM_PAUSE_dma : Field :=
  { blk := 3, off := 0x40, lo := 0, w := 16, acc := .rw, eff := .live, n := 8, stride := 4, rsts := [0, 100, 200, 400, 800, 1600, 3200, 12800] }
/-! THM_DIODE_CFG, offset 0x0060 + 4 × i, i < 4 (spec/17_thermal_squall.md) -/
def THM_DIODE_CFG_en : Field :=
  { blk := 3, off := 0x60, lo := 31, w := 1, acc := .rw, eff := .live, n := 4, stride := 4 }
def THM_DIODE_CFG_sd : Field :=
  { blk := 3, off := 0x60, lo := 16, w := 8, acc := .rw, eff := .live, n := 4, stride := 4 }
def THM_DIODE_CFG_thr : Field :=
  { blk := 3, off := 0x60, lo := 8, w := 8, acc := .rw, eff := .live, n := 4, stride := 4 }
/-! THM_SENS, offset 0x0080 + 4 × i, i < 16 (spec/17_thermal_squall.md) -/
def THM_SENS_valid : Field :=
  { blk := 3, off := 0x80, lo := 31, w := 1, acc := .ro, n := 16, stride := 4 }
/-! THM_DIODE, offset 0x00C0 + 4 × i, i < 4 (spec/17_thermal_squall.md) -/
def THM_DIODE_valid : Field :=
  { blk := 3, off := 0xC0, lo := 31, w := 1, acc := .ro, n := 4, stride := 4 }
def THM_DIODE_open : Field :=
  { blk := 3, off := 0xC0, lo := 30, w := 1, acc := .ro, n := 4, stride := 4 }
/-! THM_SENS, offset 0x0080 + 4 × i, i < 16 (spec/17_thermal_squall.md) -/
def THM_SENS_value : Field :=
  { blk := 3, off := 0x80, lo := 0, w := 16, acc := .ro, n := 16, stride := 4 }
/-! THM_DIODE, offset 0x00C0 + 4 × i, i < 4 (spec/17_thermal_squall.md) -/
def THM_DIODE_value : Field :=
  { blk := 3, off := 0xC0, lo := 0, w := 16, acc := .ro, n := 4, stride := 4 }
/-! THM_AON_STAT, offset 0x0100 (spec/17_thermal_squall.md) -/
def THM_AON_STAT_sd_cause : Field :=
  { blk := 3, off := 0x100, lo := 5, w := 3, acc := .ro, aon := true }
def THM_AON_STAT_sq : Field :=
  { blk := 3, off := 0x100, lo := 1, w := 1, acc := .w1c, aon := true }
def THM_AON_STAT_sd : Field :=
  { blk := 3, off := 0x100, lo := 0, w := 1, acc := .w1c, aon := true }
def thmTable0 : List Field :=
  [THM_CTL_sd_req, THM_STAT_latched, THM_STAT_sd_seq, THM_STAT_squall, THM_STAT_restored, THM_STAT_retracted, THM_STAT_warn, THM_STAT_flash, THM_STAT_sd_cause, THM_STAT_sd_sensor, THM_LIMITS_warn, THM_LIMITS_throttle, THM_LIMITS_shutdown, THM_RATE_CFG_slow, THM_RATE_CFG_fast, THM_THR_CFG_step_ms, THM_THR_CFG_hyst, THM_THR_CFG_max, THM_THR_CFG_floor, THM_THR_STAT_level, THM_SQ_CFG_restore_ms, THM_SQ_CFG_dgl, THM_MAX_sensor, THM_MAX_tmax]
def thmTable1 : List Field :=
  [THM_RISE_slow, THM_RISE_fast, THM_CNT_squalls, THM_CNT_levels, THM_CNT_fault, THM_PAUSE_media, THM_PAUSE_dma, THM_DIODE_CFG_en, THM_DIODE_CFG_sd, THM_DIODE_CFG_thr, THM_SENS_valid, THM_DIODE_valid, THM_DIODE_open, THM_SENS_value, THM_DIODE_value, THM_AON_STAT_sd_cause, THM_AON_STAT_sq, THM_AON_STAT_sd]
/-- Every field of the THM register map. -/
def thmTable : List Field :=
  thmTable0 ++ thmTable1

end Sys2Proof.Machine.R
end

