-- ==== Sys2Proof/Machine/Memory.lean ====
section
/-! DEFINITION. Usable DRAM as a sorted list of (address, byte) pairs. Addresses are usable byte addresses (R439); a byte
that is not listed reads 0, because the spec gives DRAM no contents after POR or WARM (R443, DESIGN CHOICE, assumption 5). -/
namespace Sys2Proof.Machine

/-- DRAM contents: cells with strictly rising addresses, none of them holding 0. -/
abbrev Memory := List Host.Cell

/-- What an unlisted address reads as (DESIGN CHOICE, assumption 5). -/
def Memory.blank : Byte := 0

/-- The byte at an address. -/
def memRead : Memory → Nat → Byte
  | [], _ => Memory.blank
  | (k, v) :: r, q => if q = k then v else if q < k then Memory.blank else memRead r q

/-- Memory with one byte written; writing the blank byte removes the entry. -/
def memWrite : Memory → Nat → Byte → Memory
  | [], q, v => if v = Memory.blank then [] else [(q, v)]
  | (k, u) :: r, q, v =>
    if q < k then (if v = Memory.blank then (k, u) :: r else (q, v) :: (k, u) :: r)
    else if q = k then (if v = Memory.blank then r else (k, v) :: r)
    else (k, u) :: memWrite r q v

/-- Memory with consecutive bytes written from an address upward. -/
def memWriteBytes : Memory → Nat → List Byte → Memory
  | m, _, [] => m
  | m, a, b :: bs => memWriteBytes (memWrite m a b) (a + 1) bs

/-- n consecutive bytes from an address upward. -/
def memReadBytes (m : Memory) (a n : Nat) : List Byte := (List.range n).map (fun i => memRead m (a + i))

/-- The little-endian value of n bytes at an address. -/
def memReadLe (m : Memory) (a n : Nat) : Nat := leValue (memReadBytes m a n)

/-- Memory with the n little-endian bytes of v written at an address. -/
def memWriteLe (m : Memory) (a n v : Nat) : Memory := memWriteBytes m a (leBytes n v)

/-- The canonical form: addresses strictly rising, and no entry equal to the blank byte. -/
def Memory.wf : Memory → Bool
  | [] => true
  | [(_, v)] => decide (v ≠ Memory.blank)
  | (k, v) :: (k', v') :: r => decide (v ≠ Memory.blank) && decide (k < k') && Memory.wf ((k', v') :: r)

end Sys2Proof.Machine
end

