-- ==== Sys2Proof/Syntax/Args.lean ====
section
/-! DEFINITION. The operand types of the commands: initiators, lanes and heads, images, and the measurements that an
event brings with it from outside the block. -/
namespace Sys2Proof

/-- The initiators of the control space, in the order of R36. -/
inductive Init where
  | ac0 | ac1 | ac2 | ac3 | rt0 | rt1 | dbg | jig
  deriving DecidableEq, Repr

/-- The number SYS_CFG_ERR.initiator reports for an initiator. -/
def Init.code : Init → Nat
  | .ac0 => 0
  | .ac1 => 1
  | .ac2 => 2
  | .ac3 => 3
  | .rt0 => 4
  | .rt1 => 5
  | .dbg => 6
  | .jig => 7

/-- One of the two gauge heads. -/
inductive GaugeHead where
  | primary | spare
  deriving DecidableEq, Repr

/-- The gauge head as GCK_STAT.active encodes it. -/
def GaugeHead.code : GaugeHead → Nat
  | .primary => 0
  | .spare => 1

/-- The other gauge head. -/
def GaugeHead.other : GaugeHead → GaugeHead
  | .primary => .spare
  | .spare => .primary

/-- A flash boot record (R59); crcOk tells whether the stored CRC-32C matches the stored bytes. -/
structure BootRecord where
  magic : BitVec 32
  seq : Nat
  preferred : Nat
  crcOk : Bool
  deriving DecidableEq, Repr

/-- A sync-mark candidate: found position minus predicted position in 1/16 cell, the integer part in cells being the
window position (R154), and the number of differing bits (R151). -/
structure SyncCand where
  ofs16 : Int
  diff : Nat
  deriving DecidableEq, Repr

/-- What a decode delivers: whether the syndrome is zero, the iterations it took, and the 4,112 information bytes after
descrambling under R91 with the position being read: the 4,096 user bytes, then the 16 metadata bytes (R90, R92). -/
structure Decoded where
  zeroSyndrome : Bool
  iter : BitVec 6
  info : List Byte
  deriving DecidableEq, Repr

/-- What the detector measures over a sector for the tracking loops of R144, and the soft values of R147. -/
structure SectorMeasure where
  meanAbs : Int
  errorDc : Int
  errorAsym : Int
  soft : List Int
  deriving DecidableEq, Repr

/-- What a servo field yields at a channel: the sync candidates in servo cells, the Gray track number, the 12 wedge-field
bits, the four burst amplitudes and the mean preamble amplitude (R238, R247, R248, R241). -/
structure ServoField where
  cands : List SyncCand
  gray : BitVec 24
  wedge : BitVec 12
  a : BitVec 16
  b : BitVec 16
  c : BitVec 16
  d : BitVec 16
  preAmp : BitVec 8
  deriving DecidableEq, Repr

/-- A frame of the Fretik ring without its CRC, which is a function of the rest (R488). -/
structure RingFrame where
  type : Nat
  dst : Nat
  src : Nat
  hops : Nat
  seq : Nat
  payload : List Byte
  deriving DecidableEq, Repr

/-- The two kinds of token (R490). -/
inductive TokKind where
  | spin | power
  deriving DecidableEq, Repr

/-- What SPM converts and GCK delivers in one spindle PWM period: the shunt codes in the active vectors with one and with
two phases high (R288), the code sampled while braking (R301), the phase voltages and the 12 V rail in mV, and GCK's
mechanical angle and speed in rpm (R133). -/
structure SpmPeriod where
  single : BitVec 12
  double : BitVec 12
  brake : BitVec 12
  vu : BitVec 16
  vv : BitVec 16
  vw : BitVec 16
  rail : BitVec 16
  dp : Word
  rpm : BitVec 16
  deriving DecidableEq, Repr

/-- The decode of one survivor's sector in a rebuild walker's round: local surface index of the band, and band sector
(R322). -/
structure SurvivorRead where
  band : Nat
  sector : Nat
  dec : Decoded
  deriving DecidableEq, Repr

/-- The requesters of BUF, in the order of R423. -/
inductive BufSrc where
  | hif
  | rch (n : Fin 8)
  | wch (n : Fin 8)
  | par | obj | jig
  | core (c : Fin 6)
  deriving DecidableEq, Repr

/-- What a request asks of a line: n bytes read from it, bytes written to it, or the line zeroed (R425). -/
inductive LineOp where
  | read (n : Nat)
  | write (bytes : List Byte)
  | zero
  deriving DecidableEq, Repr

/-- An error met in BUF's SRAM: none, a corrected one, an uncorrectable one in the set's tag row, or one in the data of the
line addressed (R435, R436). -/
inductive SramErr where
  | none | corrected | tag | data
  deriving DecidableEq, Repr

/-- An error met in a DRAM word: none, corrected, uncorrectable, an undecidable poison byte, or one on a data path (R435,
R438, R439). -/
inductive DramErr where
  | none | corrected | uncorrectable | slot | path
  deriving DecidableEq, Repr

/-- What a request asks of a DRAM word: its 32 bytes, or the bytes that a mask selects written. -/
inductive WordOp where
  | read
  | write (mask : BitVec 32) (bytes : List Byte)
  deriving DecidableEq, Repr

/-- A block of 4,096 bytes. -/
abbrev Block := List Byte

/-- The actions of Zone Management Send (R343). -/
inductive ZoneAct where
  | open | close | finish | reset | offline
  deriving DecidableEq, Repr

/-- Which features a Get or Set Features command names (R347). -/
inductive FeatSel where
  | current | default | saved
  deriving DecidableEq, Repr

/-- The condition that a Store sets on its key (R407). -/
inductive StoreOpt where
  | any | mustExist | mustNotExist
  deriving DecidableEq, Repr

/-- The data structures that Identify returns (R339 to R344), with vendor-specific bytes among the first. -/
inductive IdentSel where
  | controller | anyNamespace (nsid : Nat) | zonedController | zonedNamespace (nsid : Nat) | nvmNamespace (nsid : Nat)
  | kvNamespace (nsid : Nat) | activeNamespaces | commandSets
  deriving DecidableEq, Repr

/-- The protection information that a command carries (R362, R363): PRACT, the guard, application and reference checks of
PRCHK, PIREMAP, the initial reference tag, and the guards that the host sends with the blocks of a write. -/
structure Prot where
  pract : Bool
  guard : Bool
  app : Bool
  ref : Bool
  remap : Bool
  tag : BitVec 48
  guards : List (BitVec 64)
  tags : List (BitVec 48)
  deriving DecidableEq, Repr

/-- A host command as HQE fetches it: its fields, and for a write the data that host memory holds. nlb is the number of
blocks minus 1. -/
inductive HostCmd where
  | flush (nsid : BitVec 32)
  | read (nsid : BitVec 32) (slba : BitVec 64) (nlb : BitVec 16) (prot : Prot)
  | write (nsid : BitVec 32) (slba : BitVec 64) (data : List Block) (prot : Prot)
  | writeZeroes (nsid : BitVec 32) (slba : BitVec 64) (nlb : BitVec 16)
  | verify (nsid : BitVec 32) (slba : BitVec 64) (nlb : BitVec 16)
  | append (nsid : BitVec 32) (zslba : BitVec 64) (data : List Block) (prot : Prot)
  | zoneSend (nsid : BitVec 32) (act : ZoneAct) (all : Bool) (zslba : BitVec 64)
  | reportZones (nsid : BitVec 32) (slba : BitVec 64) (extended : Bool) (option : BitVec 8) (part : Bool) (max : BitVec 16)
  | store (key : List Byte) (value : List Byte) (opt : StoreOpt)
  | retrieve (key : List Byte) (size : Nat)
  | delete (key : List Byte)
  | exist (key : List Byte)
  | list (key : List Byte) (max : Nat)
  | identify (sel : IdentSel)
  | getLog (lid : BitVec 8) (nsid : BitVec 32) (lsp : BitVec 7) (offset : BitVec 64) (index : BitVec 48) (rae : Bool) (bytes : Nat)
  | setFeature (fid : BitVec 8) (nsid : BitVec 32) (save : Bool) (value : Word) (data : List Nat)
  | getFeature (fid : BitVec 8) (nsid : BitVec 32) (sel : FeatSel) (dw11 : Word)
  | abort (ctx : BitVec 14)
  | asyncEvent
  | download (offset : BitVec 32) (data : List Byte)
  | commit (action slot : BitVec 3)
  | other (admin : Bool) (nsid : BitVec 32) (opcode : BitVec 8)
  deriving DecidableEq, Repr

/-- One operation descriptor as the base firmware builds it for an item (R378): the actuator, the number of lanes, lane 0's
first track and the Drive Phase of its first sector start, the band pointer indices that it writes, and the 256 bytes. -/
structure ItemSpec where
  act : Act
  lanes : Nat
  track : Nat
  phase : Word
  bands : List Nat
  desc : List Byte
  deriving DecidableEq, Repr

/-- The steps in which the base firmware rebuilds a group's accumulator at power-up (R319). -/
inductive RecoverStep where
  | rebuild | ready
  deriving DecidableEq, Repr

/-- The steps in which the base firmware scrubs a group (R327): CHECK, SCAN, then the judgement with the band sectors that
held an unrecovered sector left out, and RELEASE. -/
inductive ScrubStep where
  | check | scan | judge (unrecovered : List Nat)
  deriving DecidableEq, Repr

/-- Why a function's PCIe reset domain is asserted (R366). -/
inductive PcieReset where
  | perst | hot | linkDown
  deriving DecidableEq, Repr

end Sys2Proof
end

