-- ==== Sys2Proof/Config.lean ====
section
/-! DEFINITION. What the spec leaves to an implementation or to a standard it only names: every constant here is opaque,
so no proof can depend on a value of it. -/
namespace Sys2Proof.Config

/-- FREE VALUE: the n-th value that the spec leaves open (DESIGN CHOICE, assumption 1). -/
opaque freeValue : Nat → BitVec 64

/-- SHA-384 of a byte string; the standard is named by R51 and R53 and not reproduced in the spec (DESIGN CHOICE, assumption 2). -/
opaque sha384 : List Byte → BitVec 384

/-- SHA-256 of a byte string, named by the object-services chapter (DESIGN CHOICE, assumption 2). -/
opaque sha256 : List Byte → BitVec 256

/-- The SHA-256 state before the first block, as OBJ's contexts hold it (R411, DESIGN CHOICE, assumption 2). -/
opaque sha256Init : BitVec 256
/-- SHA-256's step over one block (DESIGN CHOICE, assumption 2). -/
opaque sha256Step : BitVec 256 → List Byte → BitVec 256
/-- The digest from a state, the number of bytes digested and those of the last, partial block (DESIGN CHOICE, assumption 2). -/
opaque sha256Final : BitVec 256 → Nat → List Byte → BitVec 256

/-- Whether an ECDSA P-384 signature r‖s over a digest verifies with a public key (R53, check 3): the 97 bytes of the key,
the digest, the 96 bytes of the signature. -/
opaque ecdsaOk : List Byte → BitVec 384 → List Byte → Bool

/-- HMAC-SHA-256 of a byte string under a key (R75). -/
opaque hmacSha256 : BitVec 256 → List Byte → BitVec 256

/-- The SHA-384 of the Camterad provisioning key, held in the boot ROM (R54). -/
opaque provisioningHash : BitVec 384

/-- The 64-bit guard CRC over the 4,096 user bytes of a sector, which R92 takes from the NVM command set (DESIGN CHOICE, assumption 2). -/
opaque guard64 : List Byte → BitVec 64

/-- The current in µA that one code of the spindle's shunt converter stands for; the spec gives no scale (DESIGN CHOICE, assumption 10). -/
opaque shuntMicroAmp : Nat

/-- CRC-32C of a byte string (R59, R520). -/
opaque crc32c : List Byte → BitVec 32

/-- The value for word w of bank b of a loop slot in a CLE_COEF section's bytes; R269 gives the layout of a bank and no
place of a bank in the section (DESIGN CHOICE, assumption 19): slot, bank, word. -/
opaque cleCoef : List Byte → Nat → Nat → Nat → Word

/-- The words for PWR_LVL0 to PWR_LVL3 and PWR_WGT in a PWR_LVL section's bytes; the spec gives the section no layout
(DESIGN CHOICE, assumption 19). -/
opaque pwrLvl : List Byte → Nat → Word

/-- The spindle speed in rpm that an image sets (R85, R576); the spec names no section's field for it (DESIGN CHOICE, assumption 54). -/
opaque jigRpm : List Byte → Nat

/-- Dword 0 of an Asynchronous Event Request's completion for an event of R360: the NVMe specification encodes type and
information, and the spec only names it (DESIGN CHOICE, assumption 2). -/
opaque asyncDword : Nat → Word

/-- The high 64 bits of the part's version-8 UUID; R339 gives the low ones only (DESIGN CHOICE, assumption 1). -/
opaque uuidHigh : BitVec 64 → BitVec 64

/-- Whether hexadecimal digits are written with capital letters in R339's strings, which the spec leaves open (DESIGN CHOICE, assumption 1). -/
opaque hexCapital : Bool

/-- The golden signature of a BIST target in short (0) or full (1) mode, fixed in hardware and not given by R537 (DESIGN CHOICE, assumption 1). -/
opaque goldenSig : Nat → Nat → BitVec 64

/-- FREE VALUE: the bytes of a logical block that nothing has written, which the spec does not give (DESIGN CHOICE, assumption 1). -/
opaque openBlock : Nat → List Byte

end Sys2Proof.Config
end

