-- ==== Sys2Proof/Syntax.lean ====
section
/-! DEFINITION. The commands of the block: one constructor for each row of spec/opcode_table.json, in the table's order. -/
namespace Sys2Proof

/-- The commands and events of the ZN4410, one per row of the opcode table. Operands are what the command or the event
brings with it; a register a command is a write or read of is named by the row. -/
inductive Instr where
  /-- REGISTER_WRITE (R567): A write to a register that has no row of its own is judged field by field and stored or ignored. -/
  | registerWrite (who : Init) (addr : Nat) (v : Word)
  /-- BRIDGE_WRITE_APPLY (R36): A bridge applies a queued posted write to its block, in FIFO order, when the block can take it. -/
  | bridgeWriteApply (blk : Fin 38)
  /-- WRITE_TIMEOUT (R37): A write that has not entered a full bridge FIFO within 4,096 core cycles is dropped and recorded with cause TIMEOUT. -/
  | writeTimeout (blk : Fin 38)
  /-- UNMAPPED_ACCESS (R33): An access to an unoccupied address, an unimplemented offset or an absent instance reads 0 or is ignored, and is recorded. -/
  | unmappedAccess (who : Init) (isWrite : Bool) (addr : Nat)
  /-- DEBUG_PORT_ACCESS (R574): A debug-port request is served, refused at the port or answered with an error, as the life-cycle gate allows. -/
  | debugPortAccess (isWrite : Bool) (addr : Nat) (v : Word)
  /-- PAIR_LOW_READ (R5): A read of the low word of a 64-bit pair captures the high word into the shared holding register. -/
  | pairLowRead (who : Init) (addr : Nat)
  /-- RC_FIELD_READ (R7): A read of an RC field returns its value and clears it. -/
  | rcFieldRead (who : Init) (addr : Nat)
  /-- POWER_ON_RESET (R12): Power-on reset of the core supplies resets everything except fuses and the AON domain. -/
  | powerOnReset
  /-- AON_POWER_UP (R461): The AON supply powers up, resetting the AON domain and starting Drive Time at 0 with quality exact. -/
  | aonPowerUp
  /-- RESET_N_LOW (R553): RESET_N going low asserts WARM. -/
  | resetNLow
  /-- WARM_REQUEST (R12): A write of 1 to SYS_RST_CTL.warm schedules WARM 64 core cycles after it reaches SYS. -/
  | warmRequest (who : Init)
  /-- WARM_ASSERT (R572): WARM is asserted, abandoning every access in flight and resetting all but AON, sticky fields and fuses. -/
  | warmAssert
  /-- POR_RELEASE (R64): At POR release AC0 starts the boot ROM at P2, straps are latched and fuses sensed. -/
  | porRelease (strapBoot strapRole : BitVec 2) (strapXtal : Bool)
  /-- DRAM_TRAINING_DONE (R443): LPDDR5 training ends, at 6,400 MT/s or after fallback to 3,200 MT/s. -/
  | dramTrainingDone (fast slow : BitVec 4) (density : Fin 3) (ranks : Bool)
  /-- DRAM_TRAINING_RETRY (R443): After failed training at both rates the boot ROM repeats training once per second. -/
  | dramTrainingRetry
  /-- IMAGE_STREAM_DONE (R53): The image has been streamed and hashed into golden slot 0 and its checks complete, accepting it or trying the other copy. -/
  | imageStreamDone
  /-- UART_RECOVERY_IMAGE (R62): An image received over the debug UART is checked under R53 and run from DRAM. -/
  | uartRecoveryImage (bytes : List Byte)
  /-- CORE_RUN_WRITE (R66): A write of SYS_RST_CTL.core_run runs or holds cores, refused if it would stop all six. -/
  | coreRunWrite (who : Init) (run : BitVec 6)
  /-- IRQ_CLAIM (R44): A read of SYS_IRQ_CLAIMc returns and marks in service the best pending source for core c. -/
  | irqClaim (core : Fin 6)
  /-- IRQ_COMPLETE (R46): A write of a source number to SYS_IRQ_CLAIMc completes that source. -/
  | irqComplete (who : Init) (core : Fin 6) (source : BitVec 8)
  /-- KEY_PROGRAM_SLOT (R54): JIG_KEY_CTL.go with op 1 starts programming a key-slot hash into fuses. -/
  | keyProgramSlot (who : Init) (slot : Fin 4)
  /-- KEY_REVOKE_SLOT (R55): JIG_KEY_CTL.go with op 2 blows the revocation fuse of a key slot. -/
  | keyRevokeSlot (who : Init) (slot : Fin 4)
  /-- KEY_PROGRAM_SERVICE (R54): JIG_KEY_CTL.go with op 3 starts programming the service key into fuses. -/
  | keyProgramService (who : Init) (slot : Fin 4)
  /-- FUSE_PROGRAM_DONE (R54): A key or revocation fuse program ends and is sensed, clearing busy or raising source 12 on failure. -/
  | fuseProgramDone (ok : Bool)
  /-- ROLLBACK_RAISE (R56): A write of JIG_RBK_CTL.target starts blowing roll-back fuses up to the target. -/
  | rollbackRaise (who : Init) (target : BitVec 7)
  /-- ROLLBACK_PROGRAM_DONE (R56): The last roll-back fuse is programmed and sensed, and source 13 is raised. -/
  | rollbackProgramDone
  /-- LOAD_SECTION (R69): JIG_LOAD_CTL.go with word 0 starts loading a whole section into its disabled block. -/
  | loadSection (who : Init) (type : BitVec 16) (src : Bool) (index : BitVec 12)
  /-- LOAD_WORD (R69): JIG_LOAD_CTL.go with word 1 starts loading one control-store word, digesting the whole section. -/
  | loadWord (who : Init) (type : BitVec 16) (src : Bool) (index : BitVec 12)
  /-- LOAD_DONE (R575): A load ends, setting done or err and raising source 8 or 9. -/
  | loadDone
  /-- GOLD_LOCK (R68): A write of JIG_GOLD_BASE.lock locks the golden base and its write protection until WARM. -/
  | goldLock (who : Init)
  /-- GOLD_SWAP (R71): A write of JIG_GOLD_BASE.swap starts a slot swap by reading both boot records. -/
  | goldSwap (who : Init)
  /-- GOLD_SWAP_EFFECT (R71): The swap takes effect: half toggles, stage_lock clears, boot_copy and image information are reloaded. -/
  | goldSwapEffect
  /-- GOLD_REPAIR_DONE (R70): The re-read section is checked and rewritten with gold_ok set, or its loads are refused. -/
  | goldRepairDone
  /-- LC_REQUEST (R74): A write of JIG_LC_CTL.req requests a life-cycle transition, judged against R74 and R76. -/
  | lcRequest (who : Init) (req : BitVec 3)
  /-- CHALLENGE (R75): A write of JIG_LC_CTL.chal fills JIG_CHAL0–7 with a fresh nonce. -/
  | challenge (who : Init)
  /-- NONCE_EXPIRE (R75): A nonce expires 60 s after it was generated. -/
  | nonceExpire
  /-- LC_TRANSITION_DONE (R74): A fuse transition of the life cycle ends and lc_state changes, raising source 10. -/
  | lcTransitionDone (ok : Bool)
  /-- FIRMWARE_IMAGE_DOWNLOAD (R68): The host's Firmware Image Download places image data in golden slot 1. -/
  | firmwareImageDownload (ctx : Fin 16384)
  /-- FW_COMMIT_REPLACE (R78): Firmware Commit action 0 checks the image and writes it to the named flash copy. -/
  | fwCommitReplace (ctx : Fin 16384)
  /-- FW_COMMIT_REPLACE_ACTIVATE (R78): Firmware Commit action 1 writes the image and a boot record preferring it, effective at the next reset. -/
  | fwCommitReplaceActivate (ctx : Fin 16384)
  /-- FW_COMMIT_ACTIVATE (R78): Firmware Commit action 2 writes only the boot record that prefers the named copy. -/
  | fwCommitActivate (ctx : Fin 16384)
  /-- FW_COMMIT_IMMEDIATE (R79): Firmware Commit action 3 writes the image and starts immediate activation. -/
  | fwCommitImmediate (ctx : Fin 16384)
  /-- ACTIVATION_DRAIN_DEADLINE (R79): At the step 2 deadline commands still running are stopped and completed with Command Abort Requested. -/
  | activationDrainDeadline
  /-- ACTIVATION_FLUSH_DONE (R79): The write-cache flush of activation ends and the commit-point boot record is written. -/
  | activationFlushDone
  /-- ACTIVATION_FLUSH_DEADLINE (R79): A flush that passes its deadline abandons the activation and resumes fetching. -/
  | activationFlushDeadline
  /-- ACTIVATION_RESUME (R79): After the reload and swap of step 5, fetching resumes and held commands are processed. -/
  | activationResume
  /-- GAUGE_LOAD_SPEED (R115): Spindle speed reaching load_rpm with auto_load set drives the gauge load outputs. -/
  | gaugeLoadSpeed
  /-- GAUGE_UNLOAD_SPEED (R115): Spindle speed falling below unload_rpm unloads both gauge heads. -/
  | gaugeUnloadSpeed
  /-- GCK_LOAD_CMD (R115): A write of GCK_CTL.load loads the gauge heads now. -/
  | gckLoadCmd (who : Init)
  /-- GCK_UNLOAD_CMD (R115): A write of GCK_CTL.unload unloads both gauge heads. -/
  | gckUnloadCmd (who : Init)
  /-- GCK_SWAP_CMD (R118): A write of GCK_CTL.swap starts a changeover to the other gauge head. -/
  | gckSwapCmd (who : Init)
  /-- GCK_RELOCK_CMD (R118): A write of GCK_CTL.relock leaves FAULT for ACQ with a new sequence. -/
  | gckRelockCmd (who : Init)
  /-- GCK_DISABLE (R118): Clearing GCK_CTL.en or setting srst unloads the heads and withdraws lock. -/
  | gckDisable (who : Init) (srst : Bool)
  /-- GAUGE_HEAD_FLYING (R115): A gauge head's fly bit rises 20 ms after its load output is driven. -/
  | gaugeHeadFlying (head : GaugeHead)
  /-- GAUGE_AMPLITUDE_OK (R118): Amplitude above amp_min for 256 cycles moves LOAD to ACQ with the PLL seeded from SPM speed. -/
  | gaugeAmplitudeOk (amp : BitVec 8)
  /-- GAUGE_LOAD_TIMEOUT (R118): LOAD lasting 50 ms makes the spare active or enters FAULT. -/
  | gaugeLoadTimeout
  /-- GAUGE_PHASE_LOCK (R118): 4,096 consecutive cycles within lock_win move ACQ to INDEX. -/
  | gaugePhaseLock
  /-- GAUGE_ACQ_TIMEOUT (R118): ACQ lasting 2 revolutions makes a failed attempt, retried, switched or faulted. -/
  | gaugeAcqTimeout (amp : BitVec 8)
  /-- GAUGE_INDEX (R118): An index on the active gauge head sets the count, asserts lock or confirms it, and captures Drive Time. -/
  | gaugeIndex (count : BitVec 16) (phase step : Word) (ns : BitVec 32)
  /-- GAUGE_INDEX_TIMEOUT (R118): No index within 65,600 cycles in INDEX or SWITCH fails the attempt. -/
  | gaugeIndexTimeout (amp : BitVec 8)
  /-- GAUGE_INDEX_MISSING (R117): A single expected index that is absent is counted and raises source 54. -/
  | gaugeIndexMissing
  /-- GAUGE_LOSS (R117): A loss criterion on the active gauge head moves LOCKED to HOLD and withdraws lock. -/
  | gaugeLoss (amp : BitVec 8)
  /-- GAUGE_HOLD_END (R118): After hold_max × 256 cycles HOLD returns to INDEX or makes a failed attempt. -/
  | gaugeHoldEnd (amp : BitVec 8) (phaseOk : Bool)
  /-- SWITCH_PHASE_LOCK (R135): After 1,024 cycles of phase lock on the new head the DCO phase is set and the Drive Phase step recorded. -/
  | switchPhaseLock (step : Word)
  /-- SWITCH_TIMEOUT (R135): SWITCH without lock after one revolution plus 1,024 cycles enters FAULT. -/
  | switchTimeout
  /-- GAUGE_UNLOAD_DONE (R118): 20 ms after unload GCK enters OFF and raises source 62. -/
  | gaugeUnloadDone
  /-- SPARE_INDEX (R134): An index on the monitored spare captures meas_ofs and updates fresh and spare_ok. -/
  | spareIndex (phase : Word) (apart : BitVec 32)
  /-- SECTOR_READ (R151): A reading channel takes a presented sector: loads adaptation, searches the sync window and fills a sample slot. -/
  | sectorRead (ch : Fin 8) (cands : List SyncCand) (samples : List (BitVec 7)) (slotEcc sumEcc : Bool)
  /-- SECTOR_DECODE_DONE (R149): The on-the-fly decode of a sector ends, delivering it or opening a recovery entry. -/
  | sectorDecodeDone (ch : Fin 8) (d : Decoded) (m : SectorMeasure)
  /-- STORED_DECODE_DONE (R161): A stored decode of held samples or combined soft values ends in success or failure. -/
  | storedDecodeDone (ch : Fin 8) (d : Decoded) (ecc : Bool)
  /-- REPORT_POP (R175): A read of RCH_RPT_HI returns and removes the oldest report. -/
  | reportPop (who : Init) (ch : Fin 8)
  /-- RCH_DISABLE (R174): Clearing RCH_CTL.en or setting srst closes open entries ABANDONED and releases slots and combine entries. -/
  | rchDisable (who : Init) (ch : Fin 8) (srst : Bool)
  /-- SECTOR_ASSEMBLE (R182): WCH assembles a sector ahead of the head, or records UNDERRUN if it is not ready 64 cells before. -/
  | sectorAssemble (ch : Fin 8) (ready : Bool)
  /-- WRITE_RUN_GRANT (R190): At the instant a run's lane would become active, WCH grants it only if every gate condition holds. -/
  | writeRunGrant (ch : Fin 8)
  /-- SECTOR_COMPLETE (R194): Strobes have covered every cell of a sector; the band pointer advances. -/
  | sectorComplete (ch : Fin 8)
  /-- PREAMP_FAULT_LINE (R193): Assertion of HL_x_FAULT_N stops the actuator's writes and queues a PA_STAT read. -/
  | preampFaultLine (x : Act)
  /-- PREHEAT_DONE (R192): The preheat interval after a WRITE_READY frame elapses. -/
  | preheatDone (ch : Fin 8)
  /-- WCH_ENABLE (R208): Setting WCH_CTL.en enables the channel and, in WCH0 or WCH4, starts the Head Link initialisation. -/
  | wchEnable (who : Init) (ch : Fin 8)
  /-- HL_FRAME_DONE (R201): A Head Link frame completes at the preamp, returning read data where it is a read. -/
  | hlFrameDone (x : Act) (data : BitVec 16) (crc : BitVec 8)
  /-- HL_CMD (R203): A write of WCH_HL_CMD queues a firmware frame with its CRC. -/
  | hlCmd (who : Init) (x : Act) (cmd : Word)
  /-- RING_TAIL_WRITE (R211): A write of MSQ_RING_TAIL posts descriptors to a sequencer ring. -/
  | ringTailWrite (who : Init) (x : Act) (v : BitVec 10)
  /-- DISPATCH (R223): DISPATCH restarts the current routine or retires the descriptor and takes the next work. -/
  | dispatch (x : Act) (flip flipFe : BitVec 14) (flipW : BitVec 128)
  /-- WAIT_END (R221): A microword's wait ends, cond is sampled and the next or alt word is fetched. -/
  | waitEnd (x : Act) (flip : BitVec 128)
  /-- WAIT_TIMEOUT (R221): A wait that exceeds wait_lim continues at alt and sets wto. -/
  | waitTimeout (x : Act) (flip : BitVec 128)
  /-- COMMIT_OPEN (R228): A word with its commit bit opens a commit region and starts its bound. -/
  | commitOpen (x : Act)
  /-- COMMIT_CLOSE (R228): An end word closes the commit region and delivers held breaks. -/
  | commitClose (x : Act)
  /-- COMMIT_BOUND_EXCEEDED (R228): A commit region open past its bound abandons and restarts the routine. -/
  | commitBoundExceeded (x : Act) (flip : BitVec 128)
  /-- CHOP_SELECT (R217): Microword chop SELECT sets GCK_CHn_SEL from each lane record. -/
  | chopSelect (x : Act)
  /-- CHOP_READ_ON (R217): Microword chop READ_ON starts reading each sector the formatter presents. -/
  | chopReadOn (x : Act)
  /-- CHOP_READ_OFF (R217): Microword chop READ_OFF stops reading after the sector in progress. -/
  | chopReadOff (x : Act)
  /-- CHOP_ARM (R217): Microword chop ARM loads WCH_BWP from the lane's pointer entry on its first use. -/
  | chopArm (x : Act)
  /-- CHOP_WRITE_ON (R217): Microword chop WRITE_ON makes WCH assemble each presented sector. -/
  | chopWriteOn (x : Act)
  /-- CHOP_WRITE_OFF (R217): Microword chop WRITE_OFF stops writing after the sector in progress. -/
  | chopWriteOff (x : Act)
  /-- CHOP_RELEASE (R217): Microword chop RELEASE idles the channel and unselects the lane. -/
  | chopRelease (x : Act)
  /-- HMODE_FRAME (R216): Microword hmode sends a PA_HCTL mode and laser-bias frame to the lane heads. -/
  | hmodeFrame (x : Act)
  /-- WRITE_GATE_REQUEST (R222): Microword wg bits request the write gate for their lanes. -/
  | writeGateRequest (x : Act)
  /-- FMT_LOAD (R226): Microword fmt LOAD positions each lane at the sector given by its progress. -/
  | fmtLoad (x : Act)
  /-- FMT_NEXT_TRACK (R226): Microword fmt NEXT_TRACK moves lanes whose track is finished to the next track. -/
  | fmtNextTrack (x : Act)
  /-- FMT_HALT (R217): Microword fmt HALT presents no further sectors. -/
  | fmtHalt (x : Act)
  /-- FMT_RCV_FIRST (R217): Microword fmt RCV_FIRST presents the open entries of the lowest track holding any. -/
  | fmtRcvFirst (x : Act)
  /-- FMT_RCV_NEXT (R217): Microword fmt RCV_NEXT presents the open entries of the next higher track. -/
  | fmtRcvNext (x : Act)
  /-- FMT_OVF (R159): Microword fmt OVF reloads each lane from the overflow position to its end. -/
  | fmtOvf (x : Act)
  /-- POS_SEEK (R281): Microword pos SEEK commands the VCM and milliactuators to the lanes' tracks after the window check. -/
  | posSeek (x : Act)
  /-- POS_TRACK_STEP (R217): Microword pos TRACK_STEP moves the position reference to the next track. -/
  | posTrackStep (x : Act)
  /-- POS_OFFTRACK_SET (R283): Microword pos OFFTRACK_SET applies the current OFFTRACK displacement to each lane. -/
  | posOfftrackSet (x : Act)
  /-- POS_OFFTRACK_CLR (R283): Microword pos OFFTRACK_CLR removes the displacements. -/
  | posOfftrackClr (x : Act)
  /-- POS_RETRACT (R280): Microword pos RETRACT commands the actuator into RETRACT. -/
  | posRetract (x : Act)
  /-- PAR_OP_OPEN (R312): Microword par OPEN binds each band lane to its slot group's accumulator or records NOBIND. -/
  | parOpOpen (x : Act)
  /-- PAR_OP_CLOSE (R312): Microword par CLOSE releases the operation's accumulator bindings. -/
  | parOpClose (x : Act)
  /-- PAR_OP_SOURCE (R315): Microword par SOURCE makes write lanes take sector data from the accumulator. -/
  | parOpSource (x : Act)
  /-- PAR_OP_REBUILD (R321): Microword par REBUILD starts the actuator's walker on an entry or range request. -/
  | parOpRebuild (x : Act)
  /-- BOP_LOAD (R213): Microword bop LOAD sets each lane's buffer pointers to its progress. -/
  | bopLoad (x : Act)
  /-- CTR_LOAD (R217): Microword ctr LOAD sets the counter to imm. -/
  | ctrLoad (x : Act)
  /-- CTR_DEC (R217): Microword ctr DEC decrements the counter, saturating at 0. -/
  | ctrDec (x : Act)
  /-- POST_WBACK (R198): Microword post WBACK writes each band lane's pointer back to its table entry. -/
  | postWback (x : Act)
  /-- POST_STATUS (R215): Microword post STATUS writes the status word and progress and sets op_done. -/
  | postStatus (x : Act)
  /-- POST_WBACK_STATUS (R215): Microword post WBACK_STATUS writes pointers back and then posts the status. -/
  | postWbackStatus (x : Act)
  /-- ROP_NEXT (R217): Microword rop NEXT advances every lane channel to the next rung or to PARITY at the limit. -/
  | ropNext (x : Act)
  /-- ROP_APPLY (R217): Microword rop APPLY applies the current rung's channel settings. -/
  | ropApply (x : Act)
  /-- ROP_REPEAT (R217): Microword rop REPEAT counts one completed repeat of the rung. -/
  | ropRepeat (x : Act)
  /-- ROP_STORED (R217): Microword rop STORED starts the rung's stored decodes on open entries. -/
  | ropStored (x : Act)
  /-- ROP_RESTORE (R167): Microword rop RESTORE restores settings changed by the rung. -/
  | ropRestore (x : Act)
  /-- ROP_CLOSE (R171): Microword rop CLOSE ends the ladder, making open entries UNRECOVERED. -/
  | ropClose (x : Act)
  /-- MSQ_ABORT (R231): A write of MSQ_CTL.abort abandons the current operation and posts ABORTED. -/
  | msqAbort (who : Init) (x : Act)
  /-- MSQ_FLUSH (R231): A write of MSQ_CTL.flush aborts and empties the ring. -/
  | msqFlush (who : Init) (x : Act)
  /-- MSQ_RUN_WRITE (R225): A write of MSQ_CTL.run moves the sequencer between IDLE, PAUSED and PARKED. -/
  | msqRunWrite (who : Init) (x : Act) (v : Bool)
  /-- MSQ_ENABLE_WRITE (R225): A write of MSQ_CTL.en or srst enables the sequencer or sends it to OFF without status. -/
  | msqEnableWrite (who : Init) (x : Act) (srst en : Bool)
  /-- URGENT_GO (R232): A write of MSQ_URG_CTL.go posts an urgent descriptor. -/
  | urgentGo (who : Init) (x : Act)
  /-- PREEMPTION (R232): At the first abandonable instant the running operation is saved and the urgent descriptor dispatched. -/
  | preemption (x : Act) (flip flipFe : BitVec 14) (flipW : BitVec 128)
  /-- RETRACT_COUNT_REACHED (R229): An invalid-sample count reaching inv_limit + 1 raises the retract break. -/
  | retractCountReached (x : Act) (flip : BitVec 14) (flipW : BitVec 128)
  /-- CS_WRITE (R235): MSQ_CS_CTL.wr writes the DATA registers into a store word with regenerated parity. -/
  | csWrite (who : Init) (x : Act)
  /-- CS_READ (R235): MSQ_CS_CTL.rd copies a store word into the DATA registers. -/
  | csRead (who : Init) (x : Act)
  /-- WEDGE_BOUNDARY (R246): A head's predicted servo field start passes in GAUGE or FOLLOW. -/
  | wedgeBoundary (h : Fin 32) (w : Nat)
  /-- SERVO_FIELD_SAMPLE (R249): A demodulating channel produces one position sample from a servo field. -/
  | servoFieldSample (ch : Fin 8) (f : ServoField)
  /-- HUNT_SYNC (R244): A servo sync found in HUNT is recorded as a candidate or moves the actuator to FOLLOW. -/
  | huntSync (ch : Fin 8) (code : BitVec 12) (apart : BitVec 32)
  /-- HUNT_MISSING_TICK (R245): Once per wedge period in HUNT a MISSING sample is produced on every demodulating channel. -/
  | huntMissingTick (x : Act)
  /-- FOLLOW_MISS (R244): follow_miss wedges without sync return FOLLOW to HUNT. -/
  | followMiss (x : Act)
  /-- SRV_ACT_WRITE (R244): A write of SRV_CTL.en, act_a, act_b or srst starts or stops an actuator's timing state. -/
  | srvActWrite (who : Init) (srst en actA actB : Bool)
  /-- LOOP_TRIGGER (R262): A loop slot's trigger makes its sample pending, replacing an older pending one with an overrun. -/
  | loopTrigger (k : Fin 24) (wrap : Bool)
  /-- LOOP_COMPUTE (R265): CLE computes a pending slot sample and sends its output to the destination. -/
  | loopCompute
  /-- BANK_SWAP_REQUEST (R270): A write of a CLE_SWAP bit requests a bank swap for a slot. -/
  | bankSwapRequest (who : Init) (bits : BitVec 24)
  /-- SLOT_ENABLE (R261): A write of a slot's CFG.en enables it with cleared state or disables it to its off value. -/
  | slotEnable (who : Init) (k : Fin 24) (on : Bool)
  /-- SLOT_TARGET_WRITE (R273): A write of a slot's TGT sets r to the present y before ramping. -/
  | slotTargetWrite (who : Init) (k : Fin 24) (v : Word)
  /-- MEAS_WRITE (R260): A write of a slot's MEAS triggers slots whose trig is 1. -/
  | measWrite (who : Init) (k : Fin 24) (v : Word)
  /-- CLE_TIMER_TICK (R260): CLE_TIMER expires and triggers the slots whose trig is 2. -/
  | cleTimerTick
  /-- SPD_REF_EDGE (R274): A rising edge on SPD_REF updates the external speed reference. -/
  | spdRefEdge (ns : BitVec 32)
  /-- SPD_REF_LOST (R274): No SPD_REF edge within twice the period returns slot 14 to the ramp and sets spd_lost. -/
  | spdRefLost
  /-- AUX_FOLLOW_START (R275): Setting aux_ext makes the named slot follow AUX_REF from the present p_act. -/
  | auxFollowStart (who : Init) (slot : BitVec 5)
  /-- VCM_PWM_PERIOD (R276): Each VCM PWM period applies the duty, converts the shunt current and triggers slot 0 or 1. -/
  | vcmPwmPeriod (x : Act) (code : BitVec 12) (mV mA : BitVec 16) (aux : BitVec 12) (vib : List (BitVec 12))
  /-- ACT_ENABLE_WRITE (R280): A write of ACT_CTL.en, act_x or srst moves an actuator between OFF and PARKED. -/
  | actEnableWrite (who : Init) (srst en actA actB : Bool)
  /-- ACT_LOAD_CMD (R280): ACT_x_CMD.load loads the heads from PARKED when the spindle and servo allow. -/
  | actLoadCmd (who : Init) (x : Act)
  /-- ACT_RETRACT_CMD (R280): ACT_x_CMD.retract moves a loaded actuator to RETRACT. -/
  | actRetractCmd (who : Init) (x : Act)
  /-- ACT_LOAD_TIMEOUT (R280): LOADING lasting load_max ms sets load_fail and retracts. -/
  | actLoadTimeout (x : Act)
  /-- RETRACT_PARKED (R280): Velocity held within vpark for 2 ms ends RETRACT in PARKED. -/
  | retractParked (x : Act)
  /-- RETRACT_TIMEOUT (R280): RETRACT lasting ret_max ms ends in PARKED with ret_to set. -/
  | retractTimeout (x : Act)
  /-- SPM_PWM_PERIOD (R287): Each spindle PWM period modulates, samples the shunt, runs the observer and triggers slots 2 and 3. -/
  | spmPwmPeriod (p : SpmPeriod)
  /-- OBSERVER_CONVERGED (R292): The observer error stays small for 48 periods and obs_conv is set. -/
  | observerConverged
  /-- OBSERVER_LOSS (R299): Observer loss reseeds from the gauge or coasts the motor, dropping spindle lock. -/
  | observerLoss
  /-- OBSERVER_MARK (R293): The observer's mechanical revolution mark passes while the gauge is not locked. -/
  | observerMark
  /-- SPM_START (R298): SPM_CTL.start with the spin token held begins MEASURE. -/
  | spmStart (who : Init)
  /-- SPM_STOP (R298): SPM_CTL.stop brakes the spindle when both actuators are parked. -/
  | spmStop (who : Init)
  /-- SPM_STILL (R298): The phase-sense amplitude stays below amp_min for 20 ms, moving to ALIGN or IDLE. -/
  | spmStill
  /-- MEASURE_ORDER_FOUND (R300): MEASURE finds the rotation order and speed and catches, brakes or reverses. -/
  | measureOrderFound (forward : Bool) (rpm : BitVec 16) (theta : Word)
  /-- MEASURE_TIMEOUT (R298): No rotation order within 1,000 ms sends MEASURE to BRAKE. -/
  | measureTimeout
  /-- REVERSE_CHECK (R301): Every 100 ms REVERSE measures order and speed and brakes below rev_rpm. -/
  | reverseCheck (rpm : BitVec 16)
  /-- BRAKE_TIMEOUT (R298): BRAKE lasting brake_max s without still sets start_fail and goes IDLE. -/
  | brakeTimeout
  /-- ALIGN_DONE (R302): ALIGN ends after align_ms and OPEN starts. -/
  | alignDone
  /-- OPEN_TIMEOUT (R298): OPEN lasting open_max sets start_fail and brakes. -/
  | openTimeout
  /-- COAST_END (R298): After 2 electrical revolutions in COAST the motor is measured again for a catch. -/
  | coastEnd
  /-- GAUGE_ANGLE_VALID (R294): GCK marks its angle valid and SPM hands commutation over to the gauge angle. -/
  | gaugeAngleValid
  /-- GAUGE_OFFSET_MEASURED (R294): With ofs_src 1 the averaged offset is written to SPM_GANG_MEAS and handover follows. -/
  | gaugeOffsetMeasured (mean : Word)
  /-- GAUGE_ANGLE_WITHDRAWN (R296): GCK withdraws its angle and SPM hands back to the observer or coasts. -/
  | gaugeAngleWithdrawn
  /-- SPM_DISABLE (R298): Clearing SPM_CTL.en or setting srst turns the bridge off and enters OFF. -/
  | spmDisable (who : Init) (srst : Bool)
  /-- ACC_ATTACH (R311): PAR_ACCk_CTL.cmd ATTACH takes a free accumulator for a slot group. -/
  | accAttach (who : Init) (k : Fin 8) (x : Act) (slot : BitVec 17)
  /-- ACC_REBUILD (R311): PAR_ACCk_CTL.cmd REBUILD takes or resets an accumulator for rebuilding. -/
  | accRebuild (who : Init) (k : Fin 8) (x : Act) (slot : BitVec 17)
  /-- ACC_READY (R311): PAR_ACCk_CTL.cmd READY moves a rebuilt accumulator to ATTACHED. -/
  | accReady (who : Init) (k : Fin 8)
  /-- ACC_SEAL (R315): PAR_ACCk_CTL.cmd SEAL moves an accumulator to SEALING. -/
  | accSeal (who : Init) (k : Fin 8)
  /-- ACC_CHECK (R311): PAR_ACCk_CTL.cmd CHECK takes a free accumulator for a scrub check. -/
  | accCheck (who : Init) (k : Fin 8) (x : Act) (slot : BitVec 17)
  /-- ACC_SCAN (R316): PAR_ACCk_CTL.cmd SCAN starts scanning P and Q for non-zero sectors. -/
  | accScan (who : Init) (k : Fin 8)
  /-- SCAN_DONE (R316): A scan ends, recording the non-zero count and first non-zero sector. -/
  | scanDone (k : Fin 8)
  /-- ACC_RELEASE (R311): PAR_ACCk_CTL.cmd RELEASE frees an accumulator with no lane bound. -/
  | accRelease (who : Init) (k : Fin 8)
  /-- WALKER_ROUND (R322): A walker round of survivor reads ends and solves the targets it can. -/
  | walkerRound (x : Act) (reads : List SurvivorRead)
  /-- PAR_DISABLE (R311): Clearing PAR_CTL.en or setting srst frees every accumulator and drops bindings. -/
  | parDisable (who : Init) (srst : Bool)
  /-- HEAD_RETIRE (R324): The base firmware retires a head, marking its bands DEGRADED and re-stating its zones. -/
  | headRetire (h : Fin 32)
  /-- BAND_RELOCATION (R326): A band is copied to a pool target and its remap entry swapped. -/
  | bandRelocation (index : BitVec 21) (surface : BitVec 4) (position : BitVec 17)
  /-- SCRUB_GROUP (R327): A sealed group is read through a CHECK accumulator and any located band queued for relocation. -/
  | scrubGroup (k : Fin 8) (x : Act) (slot : BitVec 17) (step : ScrubStep)
  /-- ACCUMULATOR_RECOVERY (R319): At power-up each recorded group's accumulator is rebuilt from its data bands. -/
  | accumulatorRecovery (k : Fin 8) (x : Act) (slot : BitVec 17) (step : RecoverStep)
  /-- COMMAND_FETCH (R368): HQE fetches a command into a free context and stamps it. -/
  | commandFetch (ctrl : Fin 2) (urgent : Bool) (cmd : HostCmd)
  /-- CLAMP_INSERT (R373): A command's clamp entry is inserted in stamp order once a table slot is free. -/
  | clampInsert
  /-- READY_POP (R375): A read of HQE_READY returns and removes a ready context. -/
  | readyPop (who : Init)
  /-- COMPLETION_POST (R374): HQE posts a completion and releases the context's clamp entries. -/
  | completionPost (ctx : Fin 16384)
  /-- CLP_ADD (R376): CLP_OP ADD inserts an entry with a new stamp. -/
  | clpAdd (who : Init) (space : BitVec 3) (append : Bool) (owner : BitVec 2) (ctx : BitVec 14)
  /-- CLP_NARROW (R376): CLP_OP NARROW shrinks an entry's range and frees later waiters. -/
  | clpNarrow (who : Init) (space : BitVec 3) (append : Bool) (owner : BitVec 2) (ctx : BitVec 14)
  /-- CLP_RELEASE (R376): CLP_OP RELEASE releases one entry. -/
  | clpRelease (who : Init) (space : BitVec 3) (append : Bool) (owner : BitVec 2) (ctx : BitVec 14)
  /-- ITEM_POST (R379): HQE posts the best eligible media item to a sequencer ring. -/
  | itemPost (x : Act)
  /-- APPEND_ASSIGN (R382): A Zone Append's LBA is assigned when its data transfer ends and its entry is narrowed. -/
  | appendAssign (ctx : Fin 16384) (items : List (List ItemSpec))
  /-- NVM_FLUSH (R395): Flush completes once every earlier completed write of its namespaces is on media. -/
  | nvmFlush (ctx : Fin 16384)
  /-- NVM_WRITE (R385): A Write is accepted at the zone pointer or journalled and completes per the write cache. -/
  | nvmWrite (ctx : Fin 16384) (items : List (List ItemSpec))
  /-- NVM_READ (R377): A Read returns the data of every overlapping earlier write. -/
  | nvmRead (ctx : Fin 16384) (items : List ItemSpec) (got : List (Nat × Option Block))
  /-- WRITE_ZEROES (R393): Write Zeroes writes zeroed blocks to the conventional namespace. -/
  | writeZeroes (ctx : Fin 16384) (items : List (List ItemSpec))
  /-- NVM_VERIFY (R345): Verify reads and checks every block through the retry ladder without transfer. -/
  | nvmVerify (ctx : Fin 16384) (items : List ItemSpec) (got : List (Nat × Option Block))
  /-- ZONE_APPEND (R382): Zone Append writes to a zone at an LBA assigned when its data arrive. -/
  | zoneAppend (ctx : Fin 16384)
  /-- ZONE_OPEN (R383): Zone Management Send Open opens a zone within the open and active limits. -/
  | zoneOpen (ctx : Fin 16384)
  /-- ZONE_CLOSE (R383): Zone Management Send Close closes an open zone. -/
  | zoneClose (ctx : Fin 16384)
  /-- ZONE_FINISH (R383): Zone Management Send Finish makes a zone Full and finalises its digest. -/
  | zoneFinish (ctx : Fin 16384)
  /-- ZONE_RESET (R318): Zone Management Send Reset empties a zone and unseals its group. -/
  | zoneReset (ctx : Fin 16384)
  /-- ZONE_OFFLINE (R355): Zone Management Send Offline makes a Read Only zone Offline. -/
  | zoneOffline (ctx : Fin 16384)
  /-- REPORT_ZONES (R343): Zone Management Receive Report Zones returns zone descriptors. -/
  | reportZones (ctx : Fin 16384)
  /-- KV_STORE (R407): Store allocates a record for a key-value pair and completes per the write cache. -/
  | kvStore (ctx : Fin 16384) (zones : List Nat) (items : List (List ItemSpec)) (digestOk : Bool)
  /-- KV_RETRIEVE (R408): Retrieve transfers a value and compares its digest before completing. -/
  | kvRetrieve (ctx : Fin 16384) (items : List ItemSpec) (got : List (Nat × Option Block))
  /-- KV_DELETE (R409): Delete writes a tombstone for a key. -/
  | kvDelete (ctx : Fin 16384) (zones : List Nat) (items : List (List ItemSpec))
  /-- KV_EXIST (R409): Exist looks up a key in the DRAM index. -/
  | kvExist (ctx : Fin 16384)
  /-- KV_LIST (R409): List walks the key index buckets after the given key. -/
  | kvList (ctx : Fin 16384)
  /-- IDENTIFY (R339): Identify returns the controller or namespace data structures. -/
  | identify (ctx : Fin 16384) (vendor : List Byte)
  /-- GET_LOG_ERROR_INFO (R356): Get Log Page 0x01 returns the Error Information log. -/
  | getLogErrorInfo (ctx : Fin 16384)
  /-- GET_LOG_SMART (R350): Get Log Page 0x02 returns the SMART / Health Information log. -/
  | getLogSmart (ctx : Fin 16384)
  /-- GET_LOG_FW_SLOT (R356): Get Log Page 0x03 returns the firmware slot FR strings. -/
  | getLogFwSlot (ctx : Fin 16384)
  /-- GET_LOG_CHANGED_NS (R356): Get Log Page 0x04 returns the Changed Namespace List. -/
  | getLogChangedNs (ctx : Fin 16384)
  /-- GET_LOG_EFFECTS (R356): Get Log Page 0x05 returns Commands Supported and Effects. -/
  | getLogEffects (ctx : Fin 16384)
  /-- GET_LOG_TELEMETRY (R356): Get Log Page 0x07 or 0x08 returns telemetry data areas. -/
  | getLogTelemetry (ctx : Fin 16384)
  /-- GET_LOG_CHANGED_ZONES (R355): Get Log Page 0xBF returns the Changed Zone List. -/
  | getLogChangedZones (ctx : Fin 16384)
  /-- GET_LOG_EVENTS (R358): Get Log Page 0xC0 returns a snapshot of event records and re-arms the vendor event. -/
  | getLogEvents (ctx : Fin 16384) (media : List (List Byte))
  /-- GET_LOG_MEDIA_STATUS (R359): Get Log Page 0xC1 returns media and head status. -/
  | getLogMediaStatus (ctx : Fin 16384)
  /-- GET_LOG_AUDIT (R420): Get Log Page 0xC2 returns audit records and may turn manifest capture on or off. -/
  | getLogAudit (ctx : Fin 16384)
  /-- SET_ARBITRATION (R368): Set Features 0x01 sets the arbitration bursts. -/
  | setArbitration (ctx : Fin 16384)
  /-- SET_POWER_MANAGEMENT (R353): Set Features 0x02 selects a power state, limited to PS1 without a power token. -/
  | setPowerManagement (ctx : Fin 16384)
  /-- SET_TEMP_THRESHOLD (R349): Set Features 0x04 sets temperature thresholds. -/
  | setTempThreshold (ctx : Fin 16384)
  /-- SET_ERROR_RECOVERY (R354): Set Features 0x05 sets TLER, which sets the recovery limit of reads. -/
  | setErrorRecovery (ctx : Fin 16384)
  /-- SET_VOLATILE_WRITE_CACHE (R385): Set Features 0x06 enables or disables the write cache. -/
  | setVolatileWriteCache (ctx : Fin 16384)
  /-- SET_NUMBER_OF_QUEUES (R347): Set Features 0x07 sets the number of I/O queues. -/
  | setNumberOfQueues (ctx : Fin 16384)
  /-- SET_INTERRUPT_COALESCING (R347): Set Features 0x08 sets interrupt coalescing. -/
  | setInterruptCoalescing (ctx : Fin 16384)
  /-- SET_INTERRUPT_VECTOR_CFG (R347): Set Features 0x09 sets interrupt vector configuration. -/
  | setInterruptVectorCfg (ctx : Fin 16384)
  /-- SET_ASYNC_EVENT_CONFIG (R347): Set Features 0x0B sets asynchronous event configuration. -/
  | setAsyncEventConfig (ctx : Fin 16384)
  /-- SET_APST (R465): Set Features 0x0C loads the autonomous transition idle thresholds. -/
  | setApst (ctx : Fin 16384)
  /-- SET_TIMESTAMP (R347): Set Features 0x0E sets the host offset of Drive Time. -/
  | setTimestamp (ctx : Fin 16384)
  /-- SET_KEEP_ALIVE_TIMER (R347): Set Features 0x0F sets the keep-alive timer. -/
  | setKeepAliveTimer (ctx : Fin 16384)
  /-- SET_IO_COMMAND_SET_PROFILE (R341): Set Features 0x19 selects command set combination index 0. -/
  | setIoCommandSetProfile (ctx : Fin 16384)
  /-- GET_FEATURES (R347): Get Features returns the current value of a feature. -/
  | getFeatures (ctx : Fin 16384)
  /-- ABORT_COMMAND (R348): Abort completes a command not yet released to a sequencer. -/
  | abortCommand (ctx : Fin 16384)
  /-- ASYNC_EVENT_REQUEST (R360): An Asynchronous Event Request is held until an event is posted to it. -/
  | asyncEventRequest (ctx : Fin 16384)
  /-- UNSUPPORTED_COMMAND (R340): An unsupported opcode completes with Invalid Command Opcode. -/
  | unsupportedCommand (ctx : Fin 16384)
  /-- VENDOR_COMMAND (R365): A command in an extension range is routed to its EXT_CODE handler or refused. -/
  | vendorCommand (ctx : Fin 16384) (handler : Option Word)
  /-- CC_EN_SET (R337): CC.EN set to 1 makes CSTS.RDY rise per CRIME and media readiness. -/
  | ccEnSet (ctrl : Fin 2) (crime : Bool)
  /-- CC_EN_CLEAR (R396): CC.EN cleared resets one controller, stops its fetching and discards unstarted commands. -/
  | ccEnClear (ctrl : Fin 2)
  /-- FUNCTION_LEVEL_RESET (R396): An FLR resets one function's controller state. -/
  | functionLevelReset (port : Fin 2)
  /-- PCIE_CONVENTIONAL_RESET (R396): PERST, hot reset or link down resets one port's function. -/
  | pcieConventionalReset (port : Fin 2) (kind : PcieReset)
  /-- CC_SHN_WRITE (R338): A write of CC.SHN starts the controller shutdown sequence. -/
  | ccShnWrite (ctrl : Fin 2) (abrupt : Bool)
  /-- HIF_CFG_READY (R65): Setting HIF_CTL.cfg_ready ends Request Retry Status answers. -/
  | hifCfgReady (who : Init)
  /-- LINK_CHANGE (R367): A port's link goes up or down or changes speed or width. -/
  | linkChange (port : Fin 2) (up : Bool) (speed : BitVec 4) (width : BitVec 4) (pm dstate : BitVec 2) (ltssm : BitVec 6)
  /-- MI_READ_DATA_STRUCTURE (R364): NVMe-MI Read NVMe-MI Data Structure returns a management data structure. -/
  | miReadDataStructure
  /-- MI_SUBSYSTEM_HEALTH_POLL (R364): NVMe-MI Subsystem Health Status Poll returns subsystem health. -/
  | miSubsystemHealthPoll
  /-- MI_CONTROLLER_HEALTH_POLL (R364): NVMe-MI Controller Health Status Poll returns controller health. -/
  | miControllerHealthPoll (ctrl : Fin 2)
  /-- MI_CONFIGURATION_GET (R364): NVMe-MI Configuration Get returns SMBus frequency or MCTP unit size. -/
  | miConfigurationGet (frequency : Bool)
  /-- MI_CONFIGURATION_SET (R364): NVMe-MI Configuration Set changes SMBus frequency or MCTP unit size. -/
  | miConfigurationSet (frequency : Bool) (value : BitVec 16)
  /-- MI_VPD_READ (R364): NVMe-MI VPD Read returns the PRESENCE VPD image. -/
  | miVpdRead (offset count : BitVec 16)
  /-- MI_TUNNELLED_ADMIN (R364): A tunnelled Identify, Get Log Page or Get Features is served over NVMe-MI. -/
  | miTunnelledAdmin (ctrl : Fin 2) (cmd : HostCmd) (media : List (List Byte))
  /-- TAIL_SCAN (R390): After gauge lock each Active zone is scanned to set its write pointer. -/
  | tailScan (z : BitVec 20) (complete : Nat)
  /-- JOURNAL_ENTRY_COMPLETE (R393): Once every sector of a journal entry is complete its blocks are written in place. -/
  | journalEntryComplete (seq : BitVec 64) (items : List ItemSpec)
  /-- JOURNAL_REPLAY (R394): At power-up valid journal entries above applied_through are rewritten in place. -/
  | journalReplay (found : List Nat)
  /-- ZONE_STATE_FLUSH (R388): Gathered zone state entries are written to the system area at most every 100 ms. -/
  | zoneStateFlush (x : Act)
  /-- INDEX_JOURNAL_BATCH (R405): Key index changes are appended to the index journal in a batch at most 100 ms apart. -/
  | indexJournalBatch
  /-- INDEX_CHECKPOINT (R405): When the journal passes 1 GiB a new checkpoint is written and the journal restarts. -/
  | indexCheckpoint
  /-- INDEX_REBUILD (R406): At power-up the key index is rebuilt from checkpoint, journal and forward walk. -/
  | indexRebuild
  /-- COMPACTION (R410): The Full zone with fewest live blocks is copied out and reset. -/
  | compaction (zones : List Nat) (got : List (Nat × Option Block))
  /-- AUDIT_ZONE (R416): An audit pass reads a zone and digests and compares it and its values. -/
  | auditZone (got : List (Nat × Option Block))
  /-- ZONE_DIGEST_READBACK (R413): A pending zone digest is derived by reading the zone back after the read-back delay. -/
  | zoneDigestReadback (z : BitVec 20) (got : List (Nat × Option Block))
  /-- OBJ_FEED_POST (R411): A write of OBJ_RING_TAIL posts digest feeds. -/
  | objFeedPost (who : Init) (v : BitVec 12)
  /-- OBJ_FEED (R412): OBJ digests one ring entry and, for a final feed, writes and compares the result. -/
  | objFeed
  /-- OBJ_CTX_OPEN (R411): OBJ_CTX_CMD OPEN initialises a digest context. -/
  | objCtxOpen (who : Init) (c : Fin 64)
  /-- OBJ_CTX_ABORT (R411): OBJ_CTX_CMD ABORT sets a context's status to error. -/
  | objCtxAbort (who : Init) (c : Fin 64)
  /-- OBJ_DISABLE (R411): Disabling OBJ sets open contexts to error and empties the ring. -/
  | objDisable (who : Init) (srst : Bool)
  /-- BUF_REQUEST (R425): A request reaching BUF hits, misses and allocates, or goes to DRC. -/
  | bufRequest (who : BufSrc) (spad : Bool) (a : BitVec 34) (op : LineOp) (err : SramErr)
  /-- VICTIM_WRITEBACK_ISSUE (R428): BUF issues a victim entry's write-back to DRC. -/
  | victimWritebackIssue (k : Fin 16)
  /-- VICTIM_WRITEBACK_ACCEPT (R428): DRC accepts a write-back and the victim entry is freed. -/
  | victimWritebackAccept (k : Fin 16)
  /-- MAINT_ZERO (R429): BUF_MAINT ZERO allocates a range of lines as dirty zeroes. -/
  | maintZero (who : Init) (sw all : Bool) (count : BitVec 16)
  /-- MAINT_CLEAN (R429): BUF_MAINT CLEAN writes back dirty lines and keeps them. -/
  | maintClean (who : Init) (sw all : Bool) (count : BitVec 16)
  /-- MAINT_INVAL (R429): BUF_MAINT INVAL invalidates lines without write-back. -/
  | maintInval (who : Init) (sw all : Bool) (count : BitVec 16)
  /-- MAINT_CLEAN_INVAL (R429): BUF_MAINT CLEAN_INVAL writes back dirty lines and invalidates them. -/
  | maintCleanInval (who : Init) (sw all : Bool) (count : BitVec 16)
  /-- MAINT_DONE (R429): A maintenance operation ends when its last write-back is accepted. -/
  | maintDone
  /-- SCRATCHPAD_WRITE (R431): A write of BUF_SPAD.ways starts converting ways to or from scratchpad. -/
  | scratchpadWrite (who : Init) (k : BitVec 4)
  /-- SCRATCHPAD_DONE (R431): The scratchpad conversion ends and the new ways become addressable. -/
  | scratchpadDone
  /-- BUF_DRAIN_START (R432): Clearing BUF_CTL.en starts draining dirty lines. -/
  | bufDrainStart (who : Init)
  /-- BUF_DRAIN_DONE (R432): The drain ends when the last dirty write-back is accepted. -/
  | bufDrainDone
  /-- BUF_SOFT_RESET (R433): BUF_CTL.srst invalidates every line and victim entry without write-back. -/
  | bufSoftReset (who : Init)
  /-- DRC_REQUEST (R424): DRC serves a request to a DRAM word with in-line check storage. -/
  | drcRequest (l2 : Bool) (word : BitVec 29) (op : WordOp) (err : DramErr)
  /-- PATROL_SCRUB_READ (R441): The patrol scrub reads the next DRAM word at its scheduled rate. -/
  | patrolScrubRead (err : DramErr)
  /-- PATROL_PASS_DONE (R441): A patrol scrub pass over usable DRAM completes. -/
  | patrolPassDone
  /-- RETRAIN_PERIODIC (R445): The retrain period expires and a WCK-to-DQ retrain pass starts. -/
  | retrainPeriodic
  /-- DRC_RETRAIN_CMD (R445): DRC_CTL.retrain starts a retrain pass at once. -/
  | drcRetrainCmd (who : Init)
  /-- RETRAIN_DONE (R445): A channel's retrain ends, setting trn_fail on failure. -/
  | retrainDone (ok : Bool)
  /-- REFRESH_RATE_READ (R442): Every 32 ms DRC reads MR4 for the refresh rate multiplier. -/
  | refreshRateRead (mr4 : BitVec 8)
  /-- LEVEL_REQUEST (R452): A write of PWR_PLVL.req starts or holds a performance-level change. -/
  | levelRequest (who : Init) (n : BitVec 2)
  /-- AVS_STATUS_POLL (R451): Every 2 µs PWR reads AVSBus status until VDone, then switches the clock if raising. -/
  | avsStatusPoll (vdone : Bool) (mv : BitVec 12)
  /-- AVS_TIMEOUT (R451): VDone absent within tmo repeats the write or ends the change with fail. -/
  | avsTimeout
  /-- CLOCK_SWITCH_DONE (R450): The glitch-free core clock switch ends and the level change completes or continues. -/
  | clockSwitchDone
  /-- SLEEP_GO (R456): A write of PWR_SLEEP_CTL.go starts Prepare for a sleep state. -/
  | sleepGo (who : Init) (target : BitVec 2) (inL2 : BitVec 2)
  /-- VOTE_YES (R456): A voter's condition holds and it votes yes, holding off its new work. -/
  | voteYes (voter : Fin 11) (inL2 : BitVec 2)
  /-- COMMIT_DONE (R457): Commit ends and the device is asleep. -/
  | commitDone
  /-- VOTE_WITHDRAWAL (R458): A voter's condition turning false during Prepare aborts the entry. -/
  | voteWithdrawal (voter : Fin 11) (inL2 : BitVec 2)
  /-- PREPARE_TIMEOUT (R458): prep_tmo expiring without every vote aborts the entry. -/
  | prepareTimeout
  /-- VOTER_RELEASE (R458): A voter whose stop was running is released when that stop ends. -/
  | voterRelease
  /-- BACKOFF_END (R458): The back-off after an abort elapses and a new go is accepted. -/
  | backoffEnd
  /-- WAKE_EVENT (R459): A wake event starts the exit from the sleep state. -/
  | wakeEvent (src : Option (Fin 8))
  /-- SLEEP_EXIT_DONE (R459): Exit ends with islands powered, Drive Time loaded and cores running. -/
  | sleepExitDone
  /-- AON_EDGE (R462): At each 32.768 kHz edge Drive Time and the AON count are captured and AON latches act. -/
  | aonEdge (ns : BitVec 32)
  /-- AON_ALARM (R459): The AON count reaching PWR_ALARM fires wake bit 3. -/
  | aonAlarm
  /-- IDLE_THRESHOLD (R464): The idle count reaching a threshold sets reached_i and raises a source. -/
  | idleThreshold (k : Fin 3)
  /-- ARB_REQUEST (R460): PWR_ARB_REQ.go queues a firmware current step on a rail. -/
  | arbRequest (who : Init) (rail : BitVec 2) (ma : BitVec 16)
  /-- ARBITER_ADMIT (R460): The wake arbiter admits the head request once its rail's window allows. -/
  | arbiterAdmit
  /-- POWER_ESTIMATE (R466): Every 1 ms PWR computes the power estimate and checks the cap. -/
  | powerEstimate
  /-- PMBUS_COMMAND (R453): PWR_PMB_CMD.go issues a PMBus transaction. -/
  | pmbusCommand (who : Init) (read : Bool) (addr : BitVec 7) (cmd : BitVec 8)
  /-- PMBUS_DONE (R453): A PMBus transaction ends with its data or nack. -/
  | pmbusDone (nack : Bool) (data : BitVec 16)
  /-- THM_CONVERSION (R468): Each ms THM converts sensors and updates thresholds, rises and warning. -/
  | thmConversion (conv : List (Option Int))
  /-- THM_SHUTDOWN_REQUEST (R474): A write of THM_CTL.sd_req starts the shutdown sequence with cause REQUEST. -/
  | thmShutdownRequest (who : Init)
  /-- SENSOR_TIMEOUT (R474): No valid on-die sensor for 100 ms starts the shutdown sequence with cause SENSOR. -/
  | sensorTimeout
  /-- SHUTDOWN_RETRACT (R475): Once lanes are idle and flash has ended, both actuators retract and the gauge unloads. -/
  | shutdownRetract
  /-- SHUTDOWN_LATCH (R475): Once both actuators are parked the latch is set and the spindle braked. -/
  | shutdownLatch
  /-- FLASH_OP_END (R476): A flash program or erase in progress ends or is suspended. -/
  | flashOpEnd (d : Fin 2) (ok suspended : Bool)
  /-- FLASH_OP_ABANDON (R476): A flash operation not ended 5 ms after the trigger is reset and marked ABANDONED. -/
  | flashOpAbandon (d : Fin 2)
  /-- SQUALL_DETECT (R479): A power-fail trip persisting for the deglitch time starts the squall sequence. -/
  | squallDetect
  /-- SQUALL_RETRACTED (R479): Both actuators parked after a squall sets retracted and SPM brakes. -/
  | squallRetracted
  /-- SQUALL_RESTORED (R481): Rails good for restore_ms after a squall sets restored. -/
  | squallRestored
  /-- FRK_ENABLE_WRITE (R495): A write of FRK_CTL.en or srst starts LISTEN or sends LEAVE and goes OFF. -/
  | frkEnableWrite (who : Init) (srst en : Bool)
  /-- RING_LOCK (R495): Input lock held for 1,024 symbols opens the bypass and moves LISTEN to LINKED. -/
  | ringLock
  /-- LISTEN_TIMEOUT (R495): No signal for listen ms moves LISTEN to LINKED sending idles. -/
  | listenTimeout
  /-- BEACON_LOST (R495): No BCN for lost ms makes an eligible node start an election. -/
  | beaconLost
  /-- SOLO_TIMEOUT (R495): solo s without an address or cabinet role enters SOLO with the local budget. -/
  | soloTimeout
  /-- RING_LOCK_LOST (R507): Input lock lost for 1 µs clears in_lock and starts sending BRK. -/
  | ringLockLost
  /-- BRK_TICK (R507): Every 1 ms a node without input lock sends a BRK. -/
  | brkTick
  /-- BEACON_SEND (R501): The cabinet sends a BCN every period with time, plan and renewals. -/
  | beaconSend
  /-- FRAME_FORWARD (R491): A node forwards a frame, checking its CRC and updating hops and residence. -/
  | frameForward (f : RingFrame) (crcOk : Bool) (residence : BitVec 32)
  /-- FRAME_BCN (R502): A received BCN corrects Drive Time, renews leases and carries the seek plan. -/
  | frameBcn (f : RingFrame) (ns loopNs : BitVec 32) (outranks : Bool)
  /-- BEACON_SYNC_TIMEOUT (R502): 10 periods without a beacon clear sync and the rate trim. -/
  | beaconSyncTimeout
  /-- FRAME_ENUM (R495): A received ENUM assigns the node's address and is forwarded incremented. -/
  | frameEnum (f : RingFrame)
  /-- FRAME_ELECT (R494): A received ELECT is replaced by a better candidate or wins the election. -/
  | frameElect (f : RingFrame) (loop : BitVec 8)
  /-- FRAME_JOIN (R495): A cabinet receiving JOIN enumerates again. -/
  | frameJoin (f : RingFrame)
  /-- FRAME_LEAVE (R495): A cabinet receiving LEAVE enumerates again. -/
  | frameLeave (f : RingFrame)
  /-- FRAME_REQ (R496): A cabinet queues a received token request and grants within budget. -/
  | frameReq (f : RingFrame)
  /-- FRAME_GRANT (R497): A drawer receiving GRANT sets its spin or power token and ACKs. -/
  | frameGrant (f : RingFrame)
  /-- FRAME_REL (R496): A cabinet receiving REL frees the token and grants the next in queue. -/
  | frameRel (f : RingFrame)
  /-- FRAME_REVOKE (R497): A drawer receiving REVOKE clears its power token and sends REL. -/
  | frameRevoke (f : RingFrame)
  /-- FRAME_TOKRPT (R499): A cabinet receiving TOKRPT enters the reported holders in its table. -/
  | frameTokrpt (f : RingFrame)
  /-- FRAME_EVT (R505): A cabinet places a received EVT in its receive ring and ACKs or NAKs it. -/
  | frameEvt (f : RingFrame)
  /-- FRAME_MBX (R505): A received MBX is placed in the receive ring and ACKed, or NAKed when full. -/
  | frameMbx (f : RingFrame)
  /-- FRAME_ACK (R496): A received ACK confirms a grant or message. -/
  | frameAck (f : RingFrame)
  /-- FRAME_NAK (R505): A received NAK schedules a repeat of the frame. -/
  | frameNak (f : RingFrame)
  /-- FRAME_BRK (R507): A received BRK is forwarded and its sender recorded in brk_at. -/
  | frameBrk (f : RingFrame)
  /-- GRANT_ACK_TIMEOUT (R496): A GRANT without ACK within 1 ms is resent, or freed after 3 tries. -/
  | grantAckTimeout (seq : BitVec 16)
  /-- FRAME_RETRY_TIMER (R505): 1 ms after a NAK or missing ACK an EVT or MBX is repeated, up to 3 times. -/
  | frameRetryTimer (seq : BitVec 16)
  /-- TOKEN_LEASE_EXPIRE (R498): A drawer releases a token whose lease passes without renewal. -/
  | tokenLeaseExpire (k : TokKind)
  /-- CABINET_LEASE_FREE (R498): The cabinet frees a holder's token lease + 1 s after the last intact BCN. -/
  | cabinetLeaseFree (uid : BitVec 64) (k : TokKind)
  /-- SPIN_LEASE_EXPIRE (R498): A spin token is freed after spin_lease seconds whatever its renewals. -/
  | spinLeaseExpire (uid : BitVec 64)
  /-- CENSUS_TIMEOUT (R499): The new cabinet's census ends after 10 ms without every answer. -/
  | censusTimeout
  /-- TOK_REQ_SPIN (R496): FRK_TOK_CTL.req_spin requests a spin token from the cabinet or the local budget. -/
  | tokReqSpin (who : Init)
  /-- TOK_REQ_PWR (R496): FRK_TOK_CTL.req_pwr requests a power token. -/
  | tokReqPwr (who : Init)
  /-- TOK_REL_PWR (R497): FRK_TOK_CTL.rel_pwr releases the power token by REL. -/
  | tokRelPwr (who : Init)
  /-- TOK_CANCEL_SPIN (R497): FRK_TOK_CTL.cancel_spin withdraws a queued spin request. -/
  | tokCancelSpin (who : Init)
  /-- TOK_CANCEL_PWR (R497): FRK_TOK_CTL.cancel_pwr withdraws a queued power request. -/
  | tokCancelPwr (who : Init)
  /-- BUDGET_LOWER (R498): Lowering spin_max or pwr_max below the count held revokes the newest holders. -/
  | budgetLower (who : Init) (k : TokKind) (v : BitVec 8)
  /-- MBX_SEND (R506): FRK_TX_CTL.go sends the MBX held in DRAM. -/
  | mbxSend (who : Init)
  /-- CAL_RUN_GO (R515): CAL_RUN.go checks preconditions and starts a calibration run. -/
  | calRunGo (who : Init) (inst : BitVec 5)
  /-- CAL_RUN_ABORT (R516): CAL_RUN.abort ends the run with ABORTED and reloads the shadows. -/
  | calRunAbort (who : Init) (us : BitVec 32) (value : BitVec 64)
  /-- CAL_MEASURE_DONE (R515): The measurement ends, the trim is written to the shadow and a strobe requested. -/
  | calMeasureDone (us : BitVec 32) (vals : List (BitVec 16))
  /-- CAL_PRECOND_FAIL (R516): A precondition failing during a run ends it with PRECOND and posts 0xA001. -/
  | calPrecondFail (quiet : Bool) (us : BitVec 32) (value : BitVec 64)
  /-- CAL_STROBE_REQUEST (R510): CAL_STROBE.go requests a trim strobe of an instance. -/
  | calStrobeRequest (who : Init) (inst : BitVec 5)
  /-- TRIM_STROBE (R512): A pending strobe acts at its boundary, transferring shadows to active latches. -/
  | trimStrobe (inst : BitVec 5)
  /-- CAL_DISABLE (R512): Clearing CAL_CTL.en ends a run with STOPPED and acts pending strobes at once. -/
  | calDisable (who : Init) (srst : Bool)
  /-- VMON_CONVERSION (R517): CAL converts a rail and checks its limits. -/
  | vmonConversion (m : Fin 9) (raw : BitVec 16)
  /-- PMON_COUNT (R519): Once per ms CAL counts each island's ring oscillator. -/
  | pmonCount (mhz : List (BitVec 16))
  /-- EVENT_POST (R522): A write of EVR_POSTc_CTL commits an event record to the always-on ring. -/
  | eventPost (who : Init) (c : Fin 6) (code : BitVec 16) (sev : BitVec 3) (source : BitVec 8)
  /-- AON_RING_WRITE_DROP (R524): A core write to the always-on ring is dropped and counted. -/
  | aonRingWriteDrop
  /-- FLASH_PAGE_PROGRAM (R526): With 4 records pending EVR programs a page, erasing the block first if needed. -/
  | flashPageProgram (d : Fin 2)
  /-- FLASH_FLUSH_TIMER (R526): flush_ms after the oldest pending record a partial page is programmed. -/
  | flashFlushTimer (d : Fin 2)
  /-- FLASH_PROGRAM_DONE (R526): A flash page program or block erase ends and is checked. -/
  | flashProgramDone (d : Fin 2) (ok : Bool)
  /-- FLASH_PROGRAM_TIMEOUT (R530): A page program over 6 ms or an erase over 4 s fails the store. -/
  | flashProgramTimeout (d : Fin 2)
  /-- MEDIA_STORE_AGE (R528): The oldest pending record reaching 600 s, or 1 s without flash, makes the media store due. -/
  | mediaStoreAge
  /-- EVR_MEDIA_FAIL (R530): EVR_STORE_CTL.mfail marks the media store failed. -/
  | evrMediaFail (who : Init)
  /-- EVR_STORE_RETRY (R530): EVR_STORE_CTL.retry returns a failed store to service. -/
  | evrStoreRetry (who : Init) (bits : BitVec 3)
  /-- EVR_ENABLE (R531): Setting EVR_CTL.en writes each healthy store from its pointer. -/
  | evrEnable (who : Init)
  /-- LOG_CLEAR (R532): EVR_CLR.go commits 0xB002, sets the floor and starts erasing the logs. -/
  | logClear (who : Init) (media : Option Word)
  /-- LOG_CLEAR_DONE (R532): The last erase of a clear ends and clearing falls. -/
  | logClearDone
  /-- BIST_RUN_GO (R537): BST_RUN.go isolates a target and starts logic BIST. -/
  | bistRunGo (who : Init) (mode : Bool) (target : BitVec 5)
  /-- BIST_ABORT (R540): BST_RUN.abort ends the run with ABORTED. -/
  | bistAbort (who : Init)
  /-- BIST_PRECOND_FAIL (R540): A gating condition failing ends the run with PRECOND. -/
  | bistPrecondFail
  /-- BIST_SOFT_RESET (R540): BST_CTL.srst ends a run with STOPPED and releases every group. -/
  | bistSoftReset (who : Init)
  /-- BIST_DONE (R540): All patterns are applied and the MISR compared, ending in PASS or FAIL. -/
  | bistDone (misr : BitVec 64)
  /-- BSCAN_GRANT (R543): A write of BST_BSCAN.groups grants boundary-scan groups. -/
  | bscanGrant (who : Init) (groups : BitVec 5)
  /-- BSCAN_PRECOND_RELEASE (R543): A gating condition failing releases every granted group. -/
  | bscanPrecondRelease
  /-- TAP_BYPASS (R542): TAP instruction BYPASS selects the bypass register. -/
  | tapBypass
  /-- TAP_IDCODE (R542): TAP instruction IDCODE returns 0x1441_0B47. -/
  | tapIdcode
  /-- TAP_SAMPLE_PRELOAD (R542): TAP instruction SAMPLE/PRELOAD samples or loads boundary cells. -/
  | tapSamplePreload (pads load : List Bool)
  /-- TAP_EXTEST (R542): TAP instruction EXTEST drives and observes the pads of granted groups. -/
  | tapExtest (pads load : List Bool)
  /-- TAP_EXTEST_PULSE (R542): TAP instruction EXTEST_PULSE tests AC-coupled pads of granted groups. -/
  | tapExtestPulse (pads load : List Bool)
  /-- TAP_EXTEST_TRAIN (R542): TAP instruction EXTEST_TRAIN tests AC-coupled pads with a pulse train. -/
  | tapExtestTrain (pads load : List Bool)
  /-- UART_TX_WRITE (R566): A write of SYS_UART_TX queues one byte for transmission. -/
  | uartTxWrite (who : Init) (v : Byte)
  /-- UART_RX_BYTE (R566): A byte received on DBG_RXD enters the receive FIFO or is lost to overflow. -/
  | uartRxByte (v : Byte)
  /-- UART_RX_POP (R566): A read of SYS_UART_RX returns and removes one received byte. -/
  | uartRxPop (who : Init)
  /-- GPIO_WAKE (R566): The wake GPIO reading 1 for 3 AON periods is a wake event. -/
  | gpioWake
  /-- SPARE_GAUGE_LOSS (R134): The monitored spare gauge head meets an amplitude or phase-error criterion of R117, clearing GCK_STAT.spare_ok and raising source 58. -/
  | spareGaugeLoss (amp : BitVec 8)
  /-- FAULT_LINE_DEASSERTED (R190): The preamp releases HL_x_FAULT_N, so WCH_HL_STAT.fault_line falls and the preamp gate condition can hold again. -/
  | faultLineDeasserted (x : Act)
  /-- UART_TX_BYTE_SENT (R566): A byte finishes shifting out on DBG_TXD and its transmit FIFO entry is freed, raising tx_free. -/
  | uartTxByteSent
  deriving DecidableEq, Repr

end Sys2Proof
end

