-- ==== Sys2Proof/Machine/StSys.lean ====
section
/-! DEFINITION. State of the register bridges, the interrupt distributor, the port registers, the fuses, JIG, the flash
devices and the golden copy, beyond what their registers hold. -/
namespace Sys2Proof.Machine

/-- One value per actuator. -/
structure PerAct (α : Type) where
  a : α
  b : α
  deriving DecidableEq, Repr

/-- The entry of one actuator. -/
def PerAct.get {α : Type} (p : PerAct α) : Act → α
  | .a => p.a
  | .b => p.b

/-- p with the entry of one actuator replaced. -/
def PerAct.set {α : Type} (p : PerAct α) (x : Act) (v : α) : PerAct α :=
  match x with
  | .a => { p with a := v }
  | .b => { p with b := v }

/-- What one field of a posted write does when the write is applied: its field and value, and what the bridge copy held
before the write (R34). -/
structure FieldAct where
  field : Field
  value : Nat
  old : Option Word
  deriving DecidableEq, Repr

/-- A write accepted by a bridge and not yet applied to its block (R36). -/
structure Posted where
  init : Init
  off : Nat
  acts : List FieldAct
  deriving DecidableEq, Repr

/-- A write that waits outside a full bridge FIFO (R37). -/
structure Stalled where
  init : Init
  off : Nat
  data : Word
  deriving DecidableEq, Repr

/-- A register bridge: its FIFO of posted writes, oldest first, and the writes stalled outside it (R36, R37). -/
structure Bridge where
  fifo : List Posted
  stalled : List Stalled
  deriving DecidableEq, Repr

/-- A Shadowed value waiting for its boundary (R16 to R22). -/
structure Shadow where
  field : Field
  value : Word
  deriving DecidableEq, Repr

/-- The interrupt distributor beyond its registers: the event latches of R573, the sources in service with the claiming
core (R44), and the non-maskable interrupts delivered, newest first, as (core, source) (R47). -/
structure IrqState where
  latch : List Nat
  service : List (Nat × Nat)
  nmi : List (Nat × Nat)
  deriving DecidableEq, Repr

/-- The memories of the cores that no block of the model holds: always-on SRAM below the event ring, and the local SRAMs of RT0 and RT1
(R39, R524). -/
structure SramState where
  aon : List Host.Cell
  rt0 : List Host.Cell
  rt1 : List Host.Cell
  deriving DecidableEq, Repr

/-- Memories with nothing written (DESIGN CHOICE, assumption 5). -/
def SramState.init : SramState := { aon := [], rt0 := [], rt1 := [] }

/-- The two 16-byte FIFOs of the debug UART; a received byte carries the mark of bytes lost before it (R566). -/
structure UartState where
  tx : List Byte
  rx : List (Byte × Bool)
  lost : Bool
  deriving DecidableEq, Repr

/-- A bridge with nothing queued. -/
def Bridge.init : Bridge := { fifo := [], stalled := [] }

/-- The distributor at reset. -/
def IrqState.init : IrqState := { latch := [], service := [], nmi := [] }

/-- The debug UART at reset. -/
def UartState.init : UartState := { tx := [], rx := [], lost := false }

/-- One fused key slot: the hash that its fuses have been or are being given, whether any program of it has begun, and whether
its programmed and revocation fuses are blown (R54, R55, R577). -/
structure KeySlot where
  hash : BitVec 384
  begun : Bool
  programmed : Bool
  revoked : Bool
  deriving DecidableEq, Repr

/-- The fuse array (R54, R56, R72, R73) with the fused trims and monitor references that CAL reads; svcBegun tells that a program of the service key has begun. -/
structure Fuses where
  lifecycle : Nat
  slots : Vector KeySlot 4
  svcKey : BitVec 256
  svcBegun : Bool
  svcProgrammed : Bool
  floor : Nat
  uid : BitVec 64
  grade : Nat
  trims : List Nat
  pmonRef : List Nat
  deriving DecidableEq, Repr

/-- No fuse blown: a part in BLANK. -/
def Fuses.init : Fuses :=
  { lifecycle := 0, slots := Vector.replicate 4 { hash := 0, begun := false, programmed := false, revoked := false }, svcKey := 0,
    svcBegun := false, svcProgrammed := false, floor := 0, uid := 0, grade := 0, trims := [], pmonRef := [] }

/-- A fuse program in progress (R54, R55, R56, R74). -/
inductive FuseOp where
  | keySlot (slot : Fin 4) (hash : BitVec 384)
  | revoke (slot : Fin 4)
  | svcKey (key : BitVec 256)
  | rollback (target : Nat)
  | lifecycle (target : Nat)
  deriving DecidableEq, Repr

/-- A JIG loader operation in progress (R69, R575): the section type, the control-store word where one is loaded, and
whether golden slot 1 is read. -/
structure LoadOp where
  type : Nat
  word : Option Nat
  src : Bool
  deriving DecidableEq, Repr

/-- The nonce of R75: none generated, usable, spent or expired. -/
inductive NonceState where
  | none | fresh | spent | expired
  deriving DecidableEq, Repr

/-- What the boot ROM is doing (R61, R62, R64, R443): held in reset, training DRAM, repeating the training once per second,
streaming the copy named in trying, receiving an image over the UART, halted in RETIRED with no good copy, or done, BASEFW
entered. -/
inductive BootPhase where
  | reset | training | retry | stream | uart | halted | running
  deriving DecidableEq, Repr

/-- JIG beyond its registers: the key and response words written, the nonce, the fuse program, load and swap in progress
(the swap with the boot records read), the sections that wait for their repair and those whose repair failed, as (slot 0 or
1's half, type) (R70), and the boot ROM's progress. -/
structure JigState where
  keyData : Vector Word 12
  resp : Vector Word 8
  nonce : NonceState
  fuseOp : Option FuseOp
  load : Option LoadOp
  swap : Option (Option BootRecord × Option BootRecord)
  repair : List (Nat × Nat)
  badSections : List (Nat × Nat)
  boot : BootPhase
  trying : Nat
  triedOther : Bool
  deriving DecidableEq, Repr

/-- JIG at reset. -/
def JigState.init : JigState :=
  { keyData := Vector.replicate 12 0, resp := Vector.replicate 8 0, nonce := .none, fuseOp := none, load := none, swap := none,
    repair := [], badSections := [], boot := .reset, trying := 0, triedOther := false }

/-- One serial flash device: the bytes of the image copy it holds, from device offset 0, and its boot record (R58, R59). -/
structure FlashDev where
  copy : List Byte
  record : Option BootRecord
  deriving DecidableEq, Repr

/-- The two flash devices, FLASH0 holding copy A and FLASH1 copy B. -/
structure FlashState where
  dev0 : FlashDev
  dev1 : FlashDev
  deriving DecidableEq, Repr

/-- What PRESENCE gives beside registers (R549): the DRAM declared, the model number, the VPD image and the wake GPIO. -/
structure Presence where
  dram : Nat
  model : List Byte
  vpd : List Byte
  wakeGpio : Option Nat
  deriving DecidableEq, Repr

/-- No PRESENCE loaded. -/
def Presence.init : Presence := { dram := 0, model := [], vpd := [], wakeGpio := none }

/-- The instructions of the test access port (R542). -/
inductive TapInstr where
  | bypass | idcode | samplePreload | extest | extestPulse | extestTrain
  deriving DecidableEq, Repr

/-- The test access port: its instruction, and the boundary cells as captured from the pads and as updated from the scan
path. -/
structure TapState where
  instr : TapInstr
  capture : List Bool
  update : List Bool
  deriving DecidableEq, Repr

/-- The TAP after power-up: IDCODE, as IEEE 1149.1 has it (PRESUMED, assumption 20). -/
def TapState.init : TapState := { instr := .idcode, capture := [], update := [] }

/-- Flash devices with nothing programmed. -/
def FlashState.init : FlashState := { dev0 := { copy := [], record := none }, dev1 := { copy := [], record := none } }

/-- Where a released core is: the address it jumped to from the secondary entry, or waiting (R66). -/
inductive CoreState where
  | held
  | waiting
  | running (entry : Nat)
  deriving DecidableEq, Repr

end Sys2Proof.Machine
end

