-- ==== Sys2Proof/Machine/StBuf.lean ====
section
/-! DEFINITION. State of BUF and DRC beyond their registers. The bytes that a read through BUF returns are the machine's
usable DRAM; a line that BUF holds dirty keeps beside it what DRAM itself still holds. -/
namespace Sys2Proof.Machine

/-- A valid cache line: its set, way and tag (R422), whether it is dirty, the 128 bytes and the poisoned words (0 to 3) that
DRAM holds beneath it where they may differ from the line's (a dirty line, or one that the cached alias has written beneath,
R41), and who wrote it last. -/
structure BufLine where
  set : Nat
  way : Nat
  tag : Nat
  dirty : Bool
  behind : List Byte
  under : List Nat
  by_ : BufSrc
  deriving DecidableEq, Repr

/-- The line address (usable byte address over 128) of a cache line. -/
def BufLine.addr (l : BufLine) : Nat := l.tag * 8192 + l.set

/-- A victim entry: its line address, what DRAM holds beneath it, whether its write-back has started (R428), and
who wrote it last. -/
structure Victim where
  line : Nat
  behind : List Byte
  under : List Nat
  started : Bool
  by_ : BufSrc
  deriving DecidableEq, Repr

/-- A write stream of the tailwind detector: its requester, the line that continues it, and the lines counted (R427). -/
structure Stream where
  who : BufSrc
  next : Nat
  count : Nat
  deriving DecidableEq, Repr

/-- BUF beyond its registers: its valid lines, its victim entries, oldest first, the detector's streams, the one used last
first, the scratchpad's bytes by offset and how many MiB of it are addressable (R431), and its poisoned words. -/
structure BufState where
  lines : List BufLine
  victims : List Victim
  streams : List Stream
  spad : Memory
  spadReady : Nat
  spadPoison : List Nat
  deriving DecidableEq, Repr

/-- BUF at reset: nothing held. -/
def BufState.init : BufState :=
  { lines := [], victims := [], streams := [], spad := [], spadReady := 0, spadPoison := [] }

/-- DRC beyond its registers: the poisoned words of usable DRAM (R437), the words with flipped bits as (word, bits), the
next word of the patrol scrub (R441), the channels that a retrain pass has still to train (R445), and the refresh rate read
from MR4 (R442). -/
structure DrcState where
  poison : List Nat
  flips : List (Nat × Nat)
  scrubAt : Nat
  retrain : List Nat
  mr4 : BitVec 8
  deriving DecidableEq, Repr

/-- DRC at reset. -/
def DrcState.init : DrcState := { poison := [], flips := [], scrubAt := 0, retrain := [], mr4 := 0 }

end Sys2Proof.Machine
end

