-- ==== Sys2Proof/Machine/StEvr.lean ====
section
/-! DEFINITION. State of the event recorder and of CAL beyond their registers. -/
namespace Sys2Proof.Machine

/-- An event record (R520), but for its CRC, which is a function of the other fields. -/
structure EventRecord where
  code : Nat
  sev : Nat
  source : Nat
  seq : Nat
  dt : Nat
  quality : Nat
  byHw : Bool
  params : List Nat
  deriving DecidableEq, Repr

/-- Bytes 0 to 59 of a record (R520). -/
def EventRecord.head (r : EventRecord) : List Byte :=
  leBytes 2 r.code ++ leBytes 1 r.sev ++ leBytes 1 r.source ++ leBytes 4 r.seq ++ leBytes 8 r.dt
    ++ leBytes 1 (r.quality % 4 + (if r.byHw then 4 else 0)) ++ leBytes 3 0
    ++ (List.range 5).flatMap (fun k => leBytes 8 (r.params.getD k 0))

/-- The 64 bytes of a record, with the CRC-32C over bytes 0 to 59 (R520). -/
def EventRecord.bytes (r : EventRecord) : List Byte :=
  r.head ++ leBytes 4 (Config.crc32c r.head).toNat

/-- The flash operation a device runs for its event store: a page program of these records (R526), the erase of the block
under the position, or the erases of a clear (R532). -/
inductive FlashJob where
  | program (records : List EventRecord)
  | erase
  | clear
  deriving DecidableEq, Repr

/-- The event area of one flash device: the records programmed, by slot offset, the operation in progress, and whether
the block under the position has been erased. -/
structure LogFlash where
  area : List (Nat × EventRecord)
  job : Option FlashJob
  erased : Bool
  deriving DecidableEq, Repr

/-- The event recorder: the always-on ring by slot (R524), the flash log areas of FLASH0 and FLASH1 (R526), and the N of a
clear in progress (R532). -/
structure EvrState where
  ring : List (Nat × EventRecord)
  log0 : LogFlash
  log1 : LogFlash
  clearTo : Option Nat
  deriving DecidableEq, Repr

/-- A flash log with nothing programmed. -/
def LogFlash.init : LogFlash := { area := [], job := none, erased := false }

/-- The event recorder after the AON supply has powered up. -/
def EvrState.init : EvrState := { ring := [], log0 := LogFlash.init, log1 := LogFlash.init, clearTo := none }

/-- CAL beyond its registers: the conversions in a row outside its limits, for each rail (R518). -/
structure CalState where
  outRun : Vector Nat 9
  deriving DecidableEq, Repr

/-- CAL at reset. -/
def CalState.init : CalState := { outRun := Vector.replicate 9 0 }

end Sys2Proof.Machine
end

