-- ==== Sys2Proof/Machine/StHost.lean ====
section
/-! DEFINITION. State of the host interface beyond registers (spec/12_host_interface.md, 13_queue_ordering.md,
14_object_services.md): contexts, clamp entries, media work, zones, the journal, the key-value store, logs, features and the
two controllers. -/
namespace Sys2Proof.Machine

/-! ## Commands and completions -/

/-- The completion statuses that the spec names; notReadyFinal is Namespace Not Ready with Do Not Retry 1 (R477). -/
inductive Status where
  | ok | invalidOpcode | invalidField | invalidNamespace | notReady | notReadyFinal | internalError | abortRequested | lbaRange | capacity
  | writeProtected | zoneBoundary | zoneFull | zoneReadOnly | zoneOffline | zoneInvalidWrite | zoneTransition
  | tooManyActive | tooManyOpen | writeFault | unrecovered | guardError | refError | keySize | keyMissing | keyExists
  | invalidLog | invalidSlot | invalidImage | prohibited | needsReset | maxTime | asyncLimit
  deriving DecidableEq, Repr

/-- The zone states that a zone descriptor reports; unscanned is an Active zone before its tail scan (R388, R390). -/
inductive ZoneSt where
  | empty | implicit | explicit | closed | full | readOnly | offline | unscanned
  deriving DecidableEq, Repr

/-- A zone descriptor (R343). -/
structure ZoneDesc where
  st : ZoneSt
  cap : Nat
  slba : Nat
  wp : Nat
  byCtrl : Bool
  deriving DecidableEq, Repr

/-- A value of an Identify data structure, by the name that the spec gives its field. -/
inductive IdentVal where
  | num (n : Nat)
  | text (bytes : List Byte)
  deriving DecidableEq, Repr

/-- An Error Information entry: the controller, the command's stamp, its status, the LBA and the namespace. -/
structure ErrEntry where
  ctrl : Nat
  stamp : Nat
  status : Status
  lba : Nat
  nsid : Nat
  deriving DecidableEq, Repr

/-- What a completion transfers to the host: blocks (none where a block is unrecovered and the host buffer is left as it is)
with the protection information of R362 as (guard, reference tag), bytes, zone descriptors, keys, named fields, Error Information
entries, or the data areas of a telemetry log: the recorder's ring, and every counter by its field's key. -/
inductive Payload where
  | none
  | blocks (l : List (Option Block)) (prot : List (BitVec 64 × Nat))
  | bytes (l : List Byte)
  | zones (count : Nat) (l : List ZoneDesc)
  | keys (l : List (List Byte))
  | fields (l : List (String × IdentVal))
  | errors (l : List ErrEntry)
  | telemetry (ring : List Byte) (counters : List (Nat × Nat))
  deriving DecidableEq, Repr

/-- A decided completion: status, Dword 0 and the data. -/
structure Result where
  status : Status
  dw0 : Nat
  data : Payload
  deriving DecidableEq, Repr

/-- A completion posted to a controller (0 for CNTLID 1, 1 for CNTLID 2). -/
structure Completion where
  ctrl : Nat
  ctx : Nat
  result : Result
  deriving DecidableEq, Repr

/-- A command context (R370): its number, controller, arrival stamp, whether its queue is of the urgent class, the command,
whether its clamp entry is inserted, whether the wait for a table slot has been counted (R373), whether it is accepted
(R396), whether its work has begun, whether its data transfer has ended,
whether an item of it has been released to a sequencer (R348), Dword 0 of its completion, the media commands and journal units it waits for, for a Flush the ones that
stood before it and the zones whose entries waited to be written (R395), and its result once decided. -/
structure Context where
  no : Nat
  ctrl : Nat
  stamp : Nat
  urgent : Bool
  cmd : HostCmd
  inserted : Bool
  delayed : Bool
  started : Bool
  begun : Bool
  moved : Bool
  released : Bool
  dw0 : Nat
  waits : List Nat
  before : List Nat
  zonesBefore : List Nat
  result : Option Result
  deriving DecidableEq, Repr

/-- A clamp entry (R371): its number, space, inclusive range, owner (0, 1, or 2 internal), owning context, stamp and waiter
count. -/
structure Clamp where
  no : Nat
  space : Nat
  lo : Nat
  hi : Nat
  append : Bool
  owner : Nat
  ctx : Nat
  stamp : Nat
  waiters : Nat
  deriving DecidableEq, Repr

/-! ## Media work -/

/-- A media work item (R378): the descriptor as built, its stamp, urgency and Drive Time of entry, the media command or
read that it serves, and the context whose command it belongs to. -/
structure Item where
  spec : ItemSpec
  stamp : Nat
  urgent : Bool
  born : Nat
  job : Nat
  owner : Option Nat
  deriving DecidableEq, Repr

/-- The logical spaces that hold blocks. -/
inductive Space where
  | zns | conv | kv
  deriving DecidableEq, Repr

/-- A media command in write staging (R386): its space, zone (or none for the conventional namespace), first block, data, the
context that waits for it while the cache is disabled, the items still to end, whether one ended otherwise than OK, the
journal unit it writes in place, whether its write has completed, and whether an item of it has been posted. -/
structure MediaCmd where
  id : Nat
  space : Space
  zone : Nat
  first : Nat
  data : List Block
  ctx : Option Nat
  left : Nat
  bad : Bool
  unit : Option Nat
  completed : Bool
  begun : Bool
  deriving DecidableEq, Repr

/-- A block on the media, by space and address: zone × 65,536 + zone block, or the conventional LBA. -/
structure MediaBlock where
  space : Space
  addr : Nat
  data : Block
  deriving DecidableEq, Repr

/-- A zone as the base firmware holds it: state, write pointer, epoch, fault floor, whether the controller finished it, and
the order of its last accepted write. -/
structure Zone where
  st : ZoneSt
  wp : Nat
  epoch : Nat
  floor : Nat
  byCtrl : Bool
  last : Nat
  deriving DecidableEq, Repr

/-- A valid entry on a journal slot (R392): sequence number, applied_through, first LBA and blocks. -/
structure JSlot where
  seq : Nat
  through : Nat
  lba : Nat
  data : List Block
  deriving DecidableEq, Repr

/-- A journal unit (R392, R393): its sequence number, target LBA and blocks, the media command that writes it in place, and
whether every sector of its entry is complete. -/
structure JUnit where
  seq : Nat
  lba : Nat
  data : List Block
  job : Nat
  written : Bool
  deriving DecidableEq, Repr

/-! ## Key-value store -/

/-- An extent of a record: device-managed zone, first block, blocks. -/
structure Extent where
  zone : Nat
  first : Nat
  count : Nat
  deriving DecidableEq, Repr

/-- A record (R400 to R402). -/
structure KvRec where
  key : List Byte
  seq : Nat
  tomb : Bool
  value : List Byte
  digest : BitVec 256
  dt : Nat
  extents : List Extent
  deriving DecidableEq, Repr

/-- An entry of the key index, of its journal or of a checkpoint: the key, its record's sequence number, the header's zone and
block, and whether it is a tombstone (R404, R405). -/
structure KvEntry where
  key : List Byte
  seq : Nat
  zone : Nat
  block : Nat
  tomb : Bool
  deriving DecidableEq, Repr

/-- The key-value store: the records on the media or in staging; the next sequence number; the index; the changes not yet
batched, the journal and the two checkpoint copies with the one in force; the allocation points of the active device-managed
zones, and those of the last batch. -/
structure KvState where
  recs : List KvRec
  seq : Nat
  index : List KvEntry
  dirty : List KvEntry
  journal : List KvEntry
  journalLen : Nat
  copy0 : List KvEntry
  copy1 : List KvEntry
  newer : Nat
  alloc : List (Nat × Nat)
  allocSaved : List (Nat × Nat)
  deriving DecidableEq, Repr

/-! ## Logs, features, controllers -/

/-- An audit-log record (R419). -/
structure AuditRec where
  seq : Nat
  dt : Nat
  quality : Nat
  kind : Nat
  outcome : Nat
  origin : Nat
  key : List Byte
  slba : Nat
  size : Nat
  firstBad : Nat
  nsid : Nat
  stored : BitVec 256
  computed : BitVec 256
  deriving DecidableEq, Repr

/-- The audit log with its pass (R416, R418): records, newest first, the next sequence number, how many of them wait in the
DRAM buffer, the records lost, the pass number and whether it runs, the zones audited and Full at its start, values and zones
checked, mismatches and unreadable ones, the Drive Time at the end of the last pass, and the zone that the pass looks at next. -/
structure AuditState where
  recs : List AuditRec
  seq : Nat
  buffered : Nat
  lost : Nat
  pass : Nat
  running : Bool
  done : Nat
  fullAtStart : Nat
  values : Nat
  zones : Nat
  mism : Nat
  unread : Nat
  lastEnd : Nat
  cursor : Nat
  deriving DecidableEq, Repr

/-- An entry of a zone's digest: pending, or final, with whether it was derived from the media (R413). -/
structure ZoneDigest where
  zone : Nat
  digest : Option (BitVec 256)
  derived : Bool
  deriving DecidableEq, Repr

/-- A value of a feature (R347). -/
structure Feat where
  fid : Nat
  nsid : Nat
  value : Word
  data : List Nat
  deriving DecidableEq, Repr

/-- An asynchronous event: its type and information (R360). -/
inductive AsyncEvent where
  | error | smart (bit : Nat) | nsChanged | activation | telemetry | zoneChanged | vendor
  deriving DecidableEq, Repr

/-- What log page 0xC1 counts for a head since manufacture (R359): sectors read, on-the-fly failures, sectors recovered at rungs
0 to 3, at rung 4 or higher but PARITY, at the PARITY rung, and sectors unrecovered. -/
structure HeadStat where
  read : Nat
  otf : Nat
  low : Nat
  high : Nat
  parity : Nat
  unrec : Nat
  deriving DecidableEq, Repr

/-- One controller: CC.EN and CC.CRIME, CSTS.RDY, CSTS.SHST, the contexts of its outstanding Asynchronous Event Requests,
the events that wait for one, whether the vendor event is masked (R361), whether manifest capture is on (R420), the host's
offset of Drive Time, the power state in force and the last operational one (R352), and whether PERST holds its port in
reset. -/
structure Ctrl where
  en : Bool
  crime : Bool
  rdy : Bool
  shst : Nat
  aers : List Nat
  events : List AsyncEvent
  vendorMasked : Bool
  capture : Bool
  tsOffset : Nat
  ps : Nat
  psOp : Nat
  perst : Bool
  deriving DecidableEq, Repr

/-- A controller at its reset. -/
def Ctrl.init : Ctrl :=
  { en := false, crime := false, rdy := false, shst := 0, aers := [], events := [], vendorMasked := false, capture := false,
    tsOffset := 0, ps := 0, psOp := 0, perst := false }

/-- The steps of immediate activation (R79) that the model tells apart: in-flight commands complete, the cache is flushed,
the commit point is passed. -/
inductive ActStep where
  | drain | flush | committed
  deriving DecidableEq, Repr

/-- An activation in progress: the context of its Firmware Commit (none where a conventional reset started it), the copy, its
step, the fetch bits to restore, and the controllers whose resets are held until step 6 (R80). -/
structure Activation where
  ctx : Option Nat
  copy : Nat
  step : ActStep
  fetch : Nat
  held : List Nat
  deriving DecidableEq, Repr

/-- The host side beyond registers: the contexts; the clamp table; the contexts on HQE_READY, first in first; the pending
lists and the descriptors posted and not complete, per actuator, oldest first; media commands in staging, oldest first; blocks
on the media; zones that are not Empty, by media zone; the zone state table of the system area and the zones whose entries
wait to be written (R388); the media commands that a power loss cut short, as (zone, first block, end), in order; the journal's units, the valid entries on its slots, its next sequence number and the highest one applied; the key-value store; the
zone digest table; the audit log; Error Information entries; the changed namespaces and zones to report; current and saved
features; the two controllers; the completions posted, newest first; the attachment record (R319) and what remains to be done
after power-up: accumulator groups, journal replay, index rebuild; the system-area copy of remap entries; the bands queued for relocation after a
scrub;
the activation in progress, and the copy that a Firmware Commit has made take effect at the next reset (R78); the management endpoint's SMBus frequency in kHz and MCTP unit size; the numbers handed out for
media commands and for accepted writes, the count of media errors; OBJ's contexts that
ended in a DRAM error (R412); the totals of the heads; whether the boot found GEOMETRY unsound (R112); whether any accumulator has become DAMAGED (R350) and any
throttle has been reported (R349); and, the model's own, what the management endpoint has last answered (DESIGN CHOICE, assumption 4). -/
structure HostState where
  ctxs : List Context
  clamps : List Clamp
  ready : List Nat
  pend : PerAct (List Item)
  posted : PerAct (List Item)
  cmds : List MediaCmd
  media : List MediaBlock
  zones : List (Nat × Zone)
  table : List (Nat × Zone)
  unsaved : List Nat
  torn : List (Nat × Nat × Nat)
  units : List JUnit
  slots : List JSlot
  jSeq : Nat
  applied : Nat
  kv : KvState
  digests : List ZoneDigest
  audit : AuditState
  errors : List ErrEntry
  changedNs : List Nat
  changedZones : List Nat
  feats : List Feat
  saved : List Feat
  c0 : Ctrl
  c1 : Ctrl
  completions : List Completion
  attached : List (Nat × Nat)
  groups : List (Nat × Nat)
  replayed : Bool
  indexed : Bool
  remapSaved : List (Nat × Word)
  relocate : List Nat
  activation : Option Activation
  pendingCommit : Option Nat
  smbusKhz : Nat
  mctpUnit : Nat
  nextId : Nat
  order : Nat
  mediaErrors : Nat
  objUe : List Nat
  heads : Vector HeadStat 32
  geomBad : Bool
  damaged : Bool
  throttled : Bool
  mi : Option Result
  deriving DecidableEq, Repr

/-- The host side of a part with nothing on its media. -/
def HostState.init : HostState :=
  { ctxs := [], clamps := [], ready := [], pend := ⟨[], []⟩, posted := ⟨[], []⟩, cmds := [], media := [], zones := [],
    table := [], unsaved := [], torn := [], units := [], slots := [], jSeq := 1, applied := 0,
    kv := ⟨[], 1, [], [], [], 0, [], [], 0, [], []⟩, digests := [], audit := ⟨[], 1, 0, 0, 0, false, 0, 0, 0, 0, 0, 0, 0, 0⟩,
    errors := [], changedNs := [], changedZones := [], feats := [], saved := [], c0 := Ctrl.init, c1 := Ctrl.init,
    completions := [], attached := [], groups := [], replayed := false, indexed := false, remapSaved := [], relocate := [],
    activation := none, pendingCommit := none, smbusKhz := 100, mctpUnit := 64, nextId := 0, order := 0, mediaErrors := 0, objUe := [],
    heads := Vector.replicate 32 ⟨0, 0, 0, 0, 0, 0⟩, geomBad := false, damaged := false, throttled := false, mi := none }

end Sys2Proof.Machine
end

