-- ==== Sys2Proof/Machine/StMedia.lean ====
section
/-! DEFINITION. State of GCK, the read channels and the write channels beyond their registers. -/
namespace Sys2Proof.Machine

/-- GCK beyond its registers: which heads the Jig marks fitted, which load outputs are driven, which heads have been
active in the current sequence (R118), the gauge count at which the next index is due (none before the first index of
INDEX), the consecutive missing indices (R117), whether an index was captured since lock (R123), whether the new head's
phase is held in SWITCH and at which offset its index is due (R135), and the spare monitor's last index and age (R134). -/
structure GckState where
  primFitted : Bool
  spareFitted : Bool
  primDriven : Bool
  spareDriven : Bool
  primTried : Bool
  spareTried : Bool
  dueCount : Option Nat
  frameOfs : Int
  missing : Nat
  captured : Bool
  switchHeld : Bool
  switchOfs : Int
  spareSeen : Bool
  spareAge : Nat
  deriving DecidableEq, Repr

/-- GCK with nothing loaded; the Jig's gauge-head presence is not loaded yet. -/
def GckState.init : GckState :=
  { primFitted := false, spareFitted := false, primDriven := false, spareDriven := false, primTried := false,
    spareTried := false, dueCount := none, frameOfs := 0, missing := 0, captured := false, switchHeld := false,
    switchOfs := 0, spareSeen := false, spareAge := 0 }

/-! ## The GEOMETRY and PRESENCE data that the blocks hold beyond registers (R111, R549) -/

/-- One annulus record of GEOMETRY. -/
structure AnnulusRec where
  firstTrack : Nat
  tracks : Nat
  ratio : Nat
  spanCells : Nat
  s : Nat
  q : Nat
  positions : Nat
  usable : Nat
  firstSlot : Nat
  skew : Nat
  deriving DecidableEq, Repr

/-- The GEOMETRY section's fields (R111). -/
structure Geometry where
  w : Nat
  g : Nat
  n : Nat
  usable : Nat
  kvBase : Nat
  strip : Nat
  convSectors : Nat
  convTracks : Nat
  sysTracks : Nat
  rConv : Nat
  rSys : Nat
  sync : Nat
  annuli : List AnnulusRec
  deriving DecidableEq, Repr

/-- No GEOMETRY loaded: every value 0. -/
def Geometry.init : Geometry :=
  { w := 0, g := 0, n := 0, usable := 0, kvBase := 0, strip := 0, convSectors := 0, convTracks := 0, sysTracks := 0,
    rConv := 0, rSys := 0, sync := 0, annuli := [] }

/-! ## Read channels -/

/-- The adaptive settings in use on a channel (R141). -/
structure Adapt where
  vga : Int
  fc : Nat
  boost : Nat
  det : Nat
  llr : Nat
  offset : Int
  mra : Int
  deriving DecidableEq, Repr

/-- A sample slot of R156. -/
inductive Slot where
  | free
  | filling
  | frozen (entry : Nat) (samples : List (BitVec 7))
  deriving DecidableEq, Repr

/-- A sector read and not yet decoded: its place, lane sector number and target entry where it is a recovery read, the
slot it fills, the samples, the candidates kept, whether sync was forced, the rank decoded with, whether it has anything
to decode, whether the read was gauge-timed under lock, and its starting wedge. -/
structure InFlight where
  track : Nat
  sector : Nat
  k : Nat
  target : Option Nat
  slot : Option Nat
  samples : List (BitVec 7)
  cands : List SyncCand
  forced : Bool
  rank : Nat
  decodable : Bool
  gauge : Bool
  wedge : Nat
  span : Nat
  deriving DecidableEq, Repr

/-- A report of R175. -/
structure Report where
  track : Nat
  sector : Nat
  outcome : Nat
  rung : Nat
  head : Nat
  iter : Nat
  captures : Nat
  deriving DecidableEq, Repr

/-- The stored decode in progress: entry and rank, and whether it is suspended (R168). -/
structure StoredDecode where
  entry : Nat
  rank : Nat
  suspended : Bool
  deriving DecidableEq, Repr

/-- A read channel beyond its registers: the adaptation loaded and in use, the sectors in flight, whether a stop after the
sector in progress is pending, the sample slots, the candidates, head and lane sector of each recovery entry, the number
of failures beyond 16, the current rung once the ladder has started, the settings a rung applies, the stored decodes to
do, the reports, and whether the ladder closed an entry UNRECOVERED in the operation (R219). -/
structure RchState where
  loaded : Option (Nat × Nat)
  cur : Adapt
  flight : List InFlight
  stopAfter : Bool
  slot0 : Slot
  slot1 : Slot
  cands : Vector (List SyncCand) 16
  entryK : Vector Nat 16
  entryHead : Vector Nat 16
  lastIter : Nat
  ovfMore : Nat
  ovfK : Nat
  rung : Option Nat
  firSet : Nat
  iterNow : Option Nat
  captureOn : Bool
  heat : Int
  heatWait : Bool
  stored : Option StoredDecode
  todo : List Nat
  reports : List Report
  unrec : Bool
  deriving DecidableEq, Repr

/-- A read channel at reset. -/
def RchState.init : RchState :=
  { loaded := none, cur := { vga := 0, fc := 0, boost := 0, det := 0, llr := 0, offset := 0, mra := 0 }, flight := [],
    stopAfter := false, slot0 := .free, slot1 := .free, cands := Vector.replicate 16 [], entryK := Vector.replicate 16 0,
    entryHead := Vector.replicate 16 0, lastIter := 0, ovfMore := 0, ovfK := 0, rung := none, firSet := 0, iterNow := none,
    captureOn := false, heat := 0, heatWait := false, stored := none, todo := [], reports := [], unrec := false }

/-- An entry of the shared soft-combine store: its channel and recovery entry, the reads captured and their running
sum (R157). -/
structure Combine where
  ch : Nat
  entry : Nat
  count : Nat
  sum : List Int
  deriving DecidableEq, Repr

/-! ## Write channels -/

/-- A sector assembled ahead of the head: its lane sector number, place, start wedge and information bytes. -/
structure AsmSector where
  k : Nat
  track : Nat
  sector : Nat
  wedge : Nat
  info : List Byte
  deriving DecidableEq, Repr

/-- A frame of the Head Link: its priority class (R203), direction, target, register and data, the read attempts made,
and whether it belongs to the initialisation sequence or to firmware. -/
structure HlFrame where
  cls : Nat
  read : Bool
  target : Nat
  reg : Nat
  data : Nat
  tries : Nat
  init : Bool
  fw : Bool
  deriving DecidableEq, Repr

/-- A write channel beyond its registers: whether it assembles each presented sector, whether it stops after the sector
in progress, the sectors assembled, whether a run is in progress, whether a sector was
left incomplete in this operation (R194), whether the lane is withheld (R207), and whether parity supplies the data. -/
structure WchState where
  on : Bool
  stopAfter : Bool
  asm : List AsmSector
  inRun : Bool
  failed : Bool
  withheld : Bool
  settled : Bool
  source : Bool
  deriving DecidableEq, Repr

/-- A write channel at reset. -/
def WchState.init : WchState :=
  { on := false, stopAfter := false, asm := [], inRun := false, failed := false, withheld := false,
    settled := false, source := false }

/-- A Head Link engine: frames queued, the one on the wire first, the composed preamp registers queued and
those whose frames have completed, as (target, register, value), the frames left of the initialisation, whether link_err has stopped it (R208), and whether
the last PA_STAT read was 0 (R190). -/
structure HlState where
  queue : List HlFrame
  sent : List (Nat × Nat × Nat)
  pa : List (Nat × Nat × Nat)
  initLeft : Nat
  dead : Bool
  lastZero : Bool
  deriving DecidableEq, Repr

/-- A Head Link engine at reset. -/
def HlState.init : HlState := { queue := [], sent := [], pa := [], initLeft := 0, dead := false, lastZero := false }

/-! ## Media sequencers -/

/-- The lane record of a descriptor (R212). -/
structure LaneRec where
  head : Nat
  ratio : Nat
  valid : Bool
  band : Bool
  stripe : Bool
  self : Bool
  track : Nat
  sector : Nat
  count : Nat
  b0 : Nat
  idx0 : Nat
  tag : Nat
  len : Nat
  epoch : Nat
  bpt : Nat
  data : Nat
  metaBase : Nat
  deriving DecidableEq, Repr

/-- A descriptor as the sequencer holds it (R212). -/
structure Desc where
  addr : Nat
  opcode : Nat
  flags : Nat
  mask : Nat
  limit : Nat
  lanes : Vector LaneRec 4
  deriving DecidableEq, Repr

/-- A decoded microword (R216). -/
structure Microword where
  next : Nat
  alt : Nat
  cond : Nat
  inv : Bool
  cyc : Nat
  commit : Bool
  fin : Bool
  wait : Nat
  wval : Nat
  lanes : Nat
  chop : Nat
  wg : Nat
  hmode : Nat
  lbias : Bool
  fmt : Nat
  pos : Nat
  par : Nat
  bop : Nat
  ctr : Nat
  post : Nat
  status : Nat
  rop : Nat
  imm : Nat
  deriving DecidableEq, Repr

/-- The operations of a microword that have yet to act (R221, step 1). -/
inductive MicroOp where
  | commit | chop | hmode | wg | fmt | pos | par | bop | ctr | rop | post
  deriving DecidableEq, Repr

/-- The breaks of R229, in their order. -/
inductive Brk where
  | retract | abort | preempt
  deriving DecidableEq, Repr

/-- Where the descriptor in progress came from. -/
inductive DescSrc where
  | none | ring | urgent | flushed
  deriving DecidableEq, Repr

/-- The formatter's position of one lane (R226): the lane sector presented, the track reached, whether it presents
sectors, and in a recovery read the entries still to present and the track they lie on. -/
structure LaneFmt where
  k : Nat
  track : Nat
  on : Bool
  targets : Option (List Nat)
  rcvTrack : Option Nat
  armed : Bool
  fault : Bool
  deriving DecidableEq, Repr

/-- A lane with nothing loaded. -/
def LaneFmt.init : LaneFmt :=
  { k := 0, track := 0, on := false, targets := none, rcvTrack := none, armed := false, fault := false }

/-- An operation saved by preemption (R232): descriptor, entry and the progress of its lanes; with what the operation has met
so far, the lanes that closed an entry UNRECOVERED (R219) and the revolutions since its first fault (R218). -/
structure SavedOp where
  desc : Desc
  entry : Nat
  prog : List Nat
  src : DescSrc
  unrec : List (Fin 4)
  faultRevs : Option Nat
  deriving DecidableEq, Repr

/-- A media sequencer beyond its registers: its control store (words other than 0, by address), the descriptor in
progress, the word executing with the operations yet to act, and the state of waits, breaks, preemption and repair. -/
structure MsqState where
  store : List (Nat × BitVec 128)
  desc : Option Desc
  src : DescSrc
  opDone : Bool
  word : Option Microword
  todo : List MicroOp
  dispatchDue : Bool
  firstEntry : Bool
  ctr : Nat
  heldBreaks : List Brk
  flushHeld : Bool
  urgentWait : Bool
  saved : Option SavedOp
  reload : Option Nat
  retracting : Bool
  lanes : Vector LaneFmt 4
  faultRevs : Option Nat
  noTrack : Bool
  notBefore : Nat
  deriving DecidableEq, Repr

/-- A media sequencer at reset. The spec gives the store no contents at reset; an unwritten word reads 0 (DESIGN CHOICE, assumption 8). -/
def MsqState.init : MsqState :=
  { store := [], desc := none, src := .none, opDone := true, word := none, todo := [], dispatchDue := false,
    firstEntry := false, ctr := 0, heldBreaks := [], flushHeld := false, urgentWait := false, saved := none,
    reload := none, retracting := false, lanes := Vector.replicate 4 LaneFmt.init, faultRevs := none, noTrack := false,
    notBefore := 0 }

/-! ## Slot-group parity -/

/-- The role of a bound lane (R312): data band j, or the P or Q part. -/
inductive BandRole where
  | data (j : Nat) | p | q
  deriving DecidableEq, Repr

/-- A channel's binding to an accumulator (R312). -/
structure Binding where
  acc : Fin 8
  role : BandRole
  write : Bool
  source : Bool
  deriving DecidableEq, Repr

/-- A target sector of a walker: its lane, its lane sector number where the request is a range, or its recovery entry. -/
structure WalkTarget where
  lane : Fin 4
  track : Nat
  sector : Nat
  band : Nat
  entry : Option Nat
  k : Nat
  deriving DecidableEq, Repr

/-- A rebuild walker's request (R321 to R323): the targets left in ascending track, the PAR_RET mask captured, the
survivors not yet read for the current track, those that have been read once and failed, and the band sectors decoded so
far as (local band, band sector, information bytes). -/
structure WalkState where
  targets : List WalkTarget
  range : Bool
  mask : Nat
  left : List Nat
  again : List Nat
  retried : Bool
  got : List (Nat × Nat × List Byte)
  deriving DecidableEq, Repr

/-- PAR beyond its registers: the binding of each channel, the two walkers, and the sectors sourced per accumulator on
the P and Q lanes. -/
structure ParState where
  bind : Vector (Option Binding) 8
  walk : PerAct (Option WalkState)
  sourced : Vector (Nat × Nat) 8
  deriving DecidableEq, Repr

/-- PAR at reset. -/
def ParState.init : ParState :=
  { bind := Vector.replicate 8 none, walk := { a := none, b := none }, sourced := Vector.replicate 8 (0, 0) }

end Sys2Proof.Machine
end

