-- ==== Sys2Proof/Machine/StMotion.lean ====
section
/-! DEFINITION. State of SRV, CLE, ACT and SPM beyond their registers. -/
namespace Sys2Proof.Machine

/-! ## Servo demodulation -/

/-- One demodulating channel: the previous sample's five values and the run of equal ones (R252), the last valid position
and the wedges since (R253), the positions of consecutive RANGE samples, whether the next sample has no range check,
whether the servo window is open, whether a selection changed in it (R243), the wedge of the last sample, and whether the
sequencer released the lane (R242). -/
structure SrvChan where
  prev : Option (List Nat)
  run : Nat
  lastP : Option Nat
  since : Nat
  ranges : List Int
  noCheck : Bool
  windowOpen : Bool
  switched : Bool
  lastW : Option Nat
  released : Bool
  deriving DecidableEq, Repr

/-- A channel with no sample. -/
def SrvChan.init : SrvChan :=
  { prev := none, run := 0, lastP := none, since := 0, ranges := [], noCheck := true, windowOpen := false,
    switched := false, lastW := none, released := false }

/-- An actuator's timing: the candidate's wedge number in HUNT, the FOLLOW period in 1/16 servo cell, the wedges since a
mark was found, the channel and offset of the reference mark found in this wedge (R245), the channels sampled in this
wedge, the wedge number of the reference head and the consecutive wedges without sync. -/
structure SrvAct where
  cand : Option Nat
  period : Nat
  sinceMark : Nat
  refOfs : Option (Nat × Int)
  got : List Nat
  wedge : Nat
  miss : Nat
  deriving DecidableEq, Repr

/-- An actuator that is not demodulated. -/
def SrvAct.init : SrvAct :=
  { cand := none, period := 0, sinceMark := 0, refOfs := none, got := [], wedge := 0, miss := 0 }

/-- SRV beyond its registers; early lists the block-wide wedge values that one actuator uses before the other, as
(actuator, field key, value) (R570). -/
structure SrvState where
  chan : Vector SrvChan 8
  act : PerAct SrvAct
  early : List (Nat × Nat × Word)
  deriving DecidableEq, Repr

/-- SRV at reset. -/
def SrvState.init : SrvState :=
  { chan := Vector.replicate 8 SrvChan.init, act := { a := SrvAct.init, b := SrvAct.init }, early := [] }

/-! ## Control engine -/

/-- A pending sample of a slot: its input in Q1.31, whether it is valid, and for slot 14 whether a Drive Phase wrap
triggered it (R260, R262). -/
structure PendSample where
  y : Int
  valid : Bool
  wrap : Bool
  deriving DecidableEq, Repr

/-- A loop slot beyond its registers: the pending sample, the last two inputs used (R267), Drive Time at the previous
sample and whether r is first set to y (R273), and whether the slot is freshly enabled. -/
structure CleSlot where
  pend : Option PendSample
  y1 : Int
  y2 : Int
  lastDt : Nat
  fromY : Bool
  r : Int
  deriving DecidableEq, Repr

/-- A slot at reset. -/
def CleSlot.init : CleSlot := { pend := none, y1 := 0, y2 := 0, lastDt := 0, fromY := true, r := 0 }

/-- CLE beyond its registers: its slots, whether slot 14 follows SPD_REF, whether following was lost and waits for spd_ext
to be written 0 and then 1 (R274), and the slot following AUX_REF with its r0 (R275). -/
structure CleState where
  slots : Vector CleSlot 24
  spdFollow : Bool
  spdRef : Int
  auxSlot : Option Nat
  auxR0 : Int
  deriving DecidableEq, Repr

/-- CLE at reset. -/
def CleState.init : CleState :=
  { slots := Vector.replicate 24 CleSlot.init, spdFollow := false, spdRef := 0, auxSlot := none, auxR0 := 0 }

/-! ## Actuators -/

/-- An actuator beyond its registers: the profile of R281 in 1/65,536 track, the constant part c0 of the target and the
target c with harmonics, the lane heads with their tracks, whether a failed window check holds settle at 0, the valid
samples counted in LOADING and whether vest has reached −ret_v/2 in RETRACT. -/
structure ActState where
  r : Int
  v : Int
  c0 : Int
  c : Int
  hasTarget : Bool
  lanes : List (Nat × Nat × Nat)
  held : Bool
  loadCount : Nat
  vestSeen : Bool
  deriving DecidableEq, Repr

/-- An actuator at reset. -/
def ActState.init : ActState :=
  { r := 0, v := 0, c0 := 0, c := 0, hasTarget := false, lanes := [], held := false, loadCount := 0, vestSeen := false }

/-- ACT beyond its registers: the two actuators, the lane track of each head (R249), each head's milliactuator target
(R258), the OFFTRACK displacement of each channel in force and waiting for a wedge boundary (R283), the heads whose
command steps to 0 with the steps left and the starting command (R279), and the wedge number last seen by each head. -/
structure ActAll where
  act : PerAct ActState
  laneTrack : Vector (Option Nat) 32
  maTarget : Vector Int 32
  dispNow : Vector Int 8
  dispNext : Vector (Option Int) 8
  ramps : List (Nat × Nat × Int)
  wedgeOf : Vector Nat 32
  deriving DecidableEq, Repr

/-- ACT at reset. -/
def ActAll.init : ActAll :=
  { act := { a := ActState.init, b := ActState.init }, laneTrack := Vector.replicate 32 none,
    maTarget := Vector.replicate 32 0, dispNow := Vector.replicate 8 0, dispNext := Vector.replicate 8 none, ramps := [],
    wedgeOf := Vector.replicate 32 0 }

/-! ## Spindle -/

/-- SPM beyond its registers: the observer's angle, its electrical revolutions modulo pp (R293), its speed in rad/s × 2^32
and its runs of small, large and cross-checked errors (R292, R295); the last reconstructed currents in codes × 2^32 with
those of the period before (R290); the duties that the next period applies, in units of 2^-64 (R287); the d-axis reference
in 1/256 code (R305); the forced speed of OPEN in rpm × 2^32 (R302); the short duty of R301 in 1/64; the boundaries in a row
within tolerance (R303); whether GCK's angle is valid, with GCK's last angle and speed and the offset in use (R294),
whether that offset has been measured, and whether the present period is the one of the handover (R295); whether ALIGN
waits for the wake arbiter; whether the bridge is driven; and whether a squall or the latch has it brake (R306). -/
structure SpmState where
  obsTheta : Nat
  obsCount : Nat
  obsW : Int
  convRun : Nat
  lossRun : Nat
  xchkRun : Nat
  alpha : Int
  beta : Int
  alphaPrev : Int
  betaPrev : Int
  duty : List Int
  idRef : Int
  forced : Nat
  short : Nat
  lockRun : Nat
  gaugeValid : Bool
  dp : Nat
  gaugeRpm : Nat
  ofs : Nat
  measured : Bool
  handover : Bool
  alignWait : Bool
  bridge : Bool
  braking : Bool
  deriving DecidableEq, Repr

/-- SPM at reset: bridge off. -/
def SpmState.init : SpmState :=
  { obsTheta := 0, obsCount := 0, obsW := 0, convRun := 0, lossRun := 0, xchkRun := 0, alpha := 0, beta := 0, alphaPrev := 0,
    betaPrev := 0, duty := [0, 0, 0], idRef := 0, forced := 0, short := 0, lockRun := 0, gaugeValid := false, dp := 0, gaugeRpm := 0,
    ofs := 0, measured := false, handover := false, alignWait := false, bridge := false, braking := false }

end Sys2Proof.Machine
end

