-- ==== Sys2Proof/Machine/StPower.lean ====
section
/-! DEFINITION. State of PWR, THM and FRK beyond their registers. -/
namespace Sys2Proof.Machine

/-! ## Performance levels, sleep and wake -/

/-- What a level change waits for (R450, R451, R460): the wake arbiter, VDone of the voltage written, or the end of the
clock switch. -/
inductive LevelWait where
  | arbiter | vdone | clock
  deriving DecidableEq, Repr

/-- A level change in progress: where it starts and leads, what it waits for, whether its voltage write has been repeated
(R451), and whether it is the confirmation of R578. -/
structure LevelChange where
  src : Nat
  dst : Nat
  wait : LevelWait
  repeated : Bool
  confirm : Bool
  deriving DecidableEq, Repr

/-- Who asks the wake arbiter for a current step (R460). -/
inductive ArbWho where
  | pwr | spm | firmware
  deriving DecidableEq, Repr

/-- A request of the wake arbiter. -/
structure ArbReq where
  who : ArbWho
  rail : Nat
  ma : Nat
  deriving DecidableEq, Repr

/-- PWR beyond its registers: the level change in progress, whether a request is held behind it (R452), whether THM holds P3
(R452), the voltages last written and last acknowledged in mV (R451); for sleep, the target, the doorbell seen since Prepare
and whether BUF's drain for it still runs (R456, R458), the voters whose release waits, the consecutive aborts with the
back-off of the last in ms (R458), the wake event kept during Commit (R457), whether Drive Time waits to be bridged at the next AON
edge (R462), and the core-supply enable PWR_CORE_EN; the
arbiter's queue and its admissions as (rail, mA, Drive Time), newest first (R460); the estimates in a row above the cap
(R466); the AON count with the capture of R462, the rate trim in ns per beacon period (R502). -/
structure PwrState where
  change : Option LevelChange
  held : Bool
  thmP3 : Bool
  written : Nat
  acked : Nat
  target : Nat
  doorbell : Bool
  draining : Bool
  releasing : List Nat
  aborts : Nat
  backoffMs : Nat
  wakeKept : Option Nat
  bridge : Bool
  coreEn : Bool
  queue : List ArbReq
  admitted : List (Nat × Nat × Nat)
  overRun : Nat
  aon : Nat
  capDt : Nat
  capCount : Nat
  trim : Int
  deriving DecidableEq, Repr

/-- PWR at reset, but for the voltage confirmation of R578. -/
def PwrState.init : PwrState :=
  { change := none, held := false, thmP3 := false, written := 640, acked := 640, target := 0, doorbell := false,
    draining := false, releasing := [], aborts := 0, backoffMs := 0, wakeKept := none, bridge := false, coreEn := true, queue := [],
    admitted := [], overRun := 0, aon := 0, capDt := 0, capCount := 0, trim := 0 }

/-! ## Thermal protection -/

/-- One converted input: its last eight conversions, newest first, and the consecutive good conversions while invalid. -/
structure ThmInput where
  conv : List Int
  good : Nat
  deriving DecidableEq, Repr

/-- An input never converted. -/
def ThmInput.init : ThmInput := { conv := [], good := 0 }

/-- THM beyond its registers: the 16 sensors and 4 diodes, the values of the valid on-die sensors at the last 1,001
conversions, newest first (R471), the conversions since the last level change (R472), whether the throttle demand holds,
whether step 4 of the shutdown has run (R475) and whether the squall sequence runs (R479). -/
structure ThmState where
  inputs : Vector ThmInput 20
  hist : List (List (Option Int))
  sinceStep : Option Nat
  demand : Bool
  sdRetract : Bool
  sqSeq : Bool
  deriving DecidableEq, Repr

/-- THM at reset. -/
def ThmState.init : ThmState :=
  { inputs := Vector.replicate 20 ThmInput.init, hist := [], sinceStep := none, demand := false, sdRetract := false, sqSeq := false }

/-! ## The Fretik ring -/

/-- One value per kind of token. -/
structure PerTok (α : Type) where
  spin : α
  power : α
  deriving DecidableEq, Repr

/-- The entry of a kind. -/
def PerTok.get {α : Type} (p : PerTok α) : TokKind → α
  | .spin => p.spin
  | .power => p.power

/-- p with one entry replaced. -/
def PerTok.set {α : Type} (p : PerTok α) (k : TokKind) (v : α) : PerTok α :=
  match k with
  | .spin => { p with spin := v }
  | .power => { p with power := v }

/-- A holder in the cabinet's table, or a request in its queue (R496). -/
structure TokEntry where
  uid : Nat
  kind : TokKind
  addr : Nat
  deriving DecidableEq, Repr

/-- A frame sent that waits for an ACK: the frame, how often it has been repeated and how often it was
answered by a NAK (R496, R505). -/
structure AwaitAck where
  frame : RingFrame
  repeats : Nat
  naks : Nat
  deriving DecidableEq, Repr

/-- How this node came by a token: not at all, from the ring, or from the local budget (R497, R500). -/
inductive TokFrom where
  | none | ring | local
  deriving DecidableEq, Repr

/-- FRK beyond its registers: the frames put on the ring, newest first, the next sequence number, the frames that wait for
an ACK, whether JOIN has been sent, the address that waits for its epoch's BCN, the ring epoch, the cabinet's table,
oldest first, its queue, and the addresses whose census answer is missing (R499), the wire estimate in ps, consecutive
beacons within 100 ns (R502), the seek plan (R504), how each token came here and its last renewal in Drive Time, and the
records forwarded in a second of Drive Time (R505). -/
structure FrkState where
  out : List RingFrame
  seq : Nat
  await : List AwaitAck
  joined : Bool
  nextAddr : Option (Nat × Nat)
  epoch : Nat
  table : List TokEntry
  queue : List TokEntry
  census : Option (List Nat)
  wire : Nat
  good : Nat
  window : Nat
  windows : Nat
  tok : PerTok TokFrom
  renewed : PerTok Nat
  sent : Nat × Nat
  deriving DecidableEq, Repr

/-- FRK at reset. -/
def FrkState.init : FrkState :=
  { out := [], seq := 0, await := [], joined := false, nextAddr := none, epoch := 0, table := [], queue := [], census := none,
    wire := 0, good := 0, window := 0, windows := 0, tok := { spin := .none, power := .none }, renewed := { spin := 0, power := 0 },
    sent := (0, 0) }

end Sys2Proof.Machine
end

