-- ==== Sys2Proof/Machine/State.lean ====
section
/-! DEFINITION. The state of the ZN4410 as plain data, and the state right after reset. -/
namespace Sys2Proof.Machine

/-- Reasons a command stops with a fault. No command raises one: the spec gives every command an effect, and an access
to an address that does not exist is ignored and recorded (R33), not a stop. Safe. -/
inductive Fault where
  /-- Raised by no command; it stands for the spec's having no fault that stops the part. Safe. -/
  | none
  deriving DecidableEq, Repr

/-- Reasons a command is refused. -/
inductive Refusal where
  /-- Raised by an arm of exec whose command has no meaning yet, with the table's mnemonic. Safe. -/
  | notModelled (mnemonic : String)
  deriving DecidableEq, Repr

/-- The whole state of the part. -/
structure State where
  /-- Every control register field, by key (R4, R7): what the block itself holds. -/
  regs : RegStore
  /-- Where a bridge's CORE-side copy differs from the block: values written but not yet applied or not yet in force (R34, R20). -/
  copy : RegStore
  /-- The 38 register bridges, by block index (R34 to R38). -/
  bridges : Vector Bridge 38
  /-- Shadowed values waiting for their boundary (R16, R18). -/
  shadows : List Shadow
  /-- The holding registers of the 64-bit pairs that hold a value other than 0, by low word's place (R5). -/
  holding : RegStore
  /-- WARM asserted 64 core cycles from a write of SYS_RST_CTL.warm is pending (R12). -/
  warmPending : Bool
  /-- The six cores (R66). -/
  cores : Vector CoreState 6
  irq : IrqState
  /-- Always-on SRAM and the local SRAMs (R39). -/
  sram : SramState
  uart : UartState
  fuses : Fuses
  jig : JigState
  flash : FlashState
  evr : EvrState
  cal : CalState
  gck : GckState
  /-- The head positions that PRESENCE marks filled on each actuator, bit p for position p (R549). -/
  positions : PerAct Nat
  /-- What PRESENCE gives beside registers (R549). -/
  presence : Presence
  /-- GEOMETRY as loaded (R111). -/
  geom : Geometry
  rch : Vector RchState 8
  /-- The shared soft-combine store, at most 64 entries (R157). -/
  combine : List Combine
  wch : Vector WchState 8
  /-- The Head Link engines of actuators A and B. -/
  hl : PerAct HlState
  msq : PerAct MsqState
  par : ParState
  srv : SrvState
  cle : CleState
  act : ActAll
  spm : SpmState
  pwr : PwrState
  thm : ThmState
  frk : FrkState
  /-- The test access port (R542). -/
  tap : TapState
  /-- The blocks that BST holds isolated (R539). -/
  isolated : List Nat
  /-- Whether the last BIST run that started is a full one (R538). -/
  bistFull : Bool
  /-- Usable DRAM as a read through BUF sees it (R39, R439). -/
  dram : Memory
  buf : BufState
  drc : DrcState
  host : HostState
  /-- MODEL: how many values that the spec leaves open have been taken (DESIGN CHOICE, assumption 1). -/
  freeCount : Nat
  /-- MODEL: what the last read returned to its initiator (DESIGN CHOICE, assumption 4). -/
  reply : Word
  /-- The commands that wait, first in, first out. -/
  pending : List Instr
  deriving DecidableEq, Repr

/-- The machine right after the AON supply and the core supplies have powered up, held at POR (R12): every register at its
reset value, DRAM empty, no fuse blown, the flash devices empty, the cores in reset, and PWR about to confirm the P2 voltage (R578). -/
def State.reset : State :=
  { regs := [], copy := [], bridges := Vector.replicate 38 Bridge.init, shadows := [], holding := [], warmPending := false,
    cores := Vector.replicate 6 .held, irq := IrqState.init, sram := SramState.init, uart := UartState.init, fuses := Fuses.init, jig := JigState.init,
    flash := FlashState.init, evr := EvrState.init, cal := CalState.init, gck := GckState.init, positions := ⟨0, 0⟩,
    presence := Presence.init, geom := Geometry.init, rch := Vector.replicate 8 RchState.init, combine := [],
    wch := Vector.replicate 8 WchState.init, hl := ⟨HlState.init, HlState.init⟩, msq := ⟨MsqState.init, MsqState.init⟩,
    par := ParState.init, srv := SrvState.init, cle := CleState.init, act := ActAll.init, spm := SpmState.init,
    pwr := { PwrState.init with change := some ⟨2, 2, .vdone, false, true⟩ }, thm := ThmState.init, frk := FrkState.init, tap := TapState.init, isolated := [], bistFull := false, dram := [],
    buf := BufState.init, drc := DrcState.init, host := HostState.init, freeCount := 0, reply := 0, pending := [] }

end Sys2Proof.Machine
end

