-- ==== Sys2Proof/Machine/Ops.lean ====
section
/-! DEFINITION. The named operations on the state that every family uses: register fields, interrupt sources, access
errors, Drive Time, free values. -/
namespace Sys2Proof.Machine

/-- The outcome of a command. -/
abbrev Out := Host.Outcome State Fault Refusal

/-- The entry of a fixed number of like things replaced by a function of it. -/
def updV {α : Type} {n : Nat} (v : Vector α n) (i : Fin n) (f : α → α) : Vector α n := v.set i (f v[i])

/-- An update made only where a condition holds. -/
def State.when (s : State) (c : Prop) [Decidable c] (f : State → State) : State := if c then f s else s

/-- An update made for each member of a list, in order. -/
def State.forEach {α : Type} (s : State) (l : List α) (f : α → State → State) : State := l.foldl (fun t x => f x t) s

/-! ## Register fields -/

/-- The value of a field in its block. -/
def State.rdW (s : State) (f : Field) : Word := (regFind s.regs f.key).getD (BitVec.ofNat 32 f.rst)

/-- The value of a field as a number of the field's width. -/
def State.rd (s : State) (f : Field) : Nat := (s.rdW f).toNat % 2 ^ f.w

/-- The value of a field as a two's-complement number of the field's width. -/
def State.rdI (s : State) (f : Field) : Int := signedOf f.w (s.rd f)

/-- Whether a field is not 0. -/
def State.rdB (s : State) (f : Field) : Bool := s.rd f != 0

/-- A field written in its block; the value is taken modulo the field's width. -/
def State.wr (f : Field) (n : Nat) (s : State) : State :=
  { s with regs := regPut s.regs f.key (BitVec.ofNat 32 (n % 2 ^ f.w)) }

/-- A field written with a two's-complement number. -/
def State.wrI (f : Field) (z : Int) (s : State) : State := s.wr f (twosOf f.w z)

/-- A field written with a truth value. -/
def State.wrB (f : Field) (b : Bool) (s : State) : State := s.wr f (if b then 1 else 0)

/-- A counter field raised by n, saturating at its largest value. -/
def State.inc (f : Field) (n : Nat) (s : State) : State := s.wr f (satAdd (2 ^ f.w - 1) (s.rd f) n)

/-- One bit of a field written. -/
def State.wrBit (f : Field) (i : Nat) (b : Bool) (s : State) : State := s.wr f (putBit (s.rd f) i b)

/-- One bit of a field. -/
def State.rdBit (s : State) (f : Field) (i : Nat) : Bool := bitAt (s.rd f) i

/-- A 64-bit quantity held in registers 0 (low) and 1 (high) of an array. -/
def State.rd64 (s : State) (f : Field) : Nat := s.rd (f.at 0) + 2 ^ 32 * s.rd (f.at 1)

/-- A 64-bit quantity written to registers 0 (low) and 1 (high) of an array. -/
def State.wr64 (f : Field) (n : Nat) (s : State) : State :=
  (s.wr (f.at 0) (n % 2 ^ 32)).wr (f.at 1) (n / 2 ^ 32)

/-- The value of a field as software and the bridge see it: the CORE-side copy (R34, R20). -/
def State.rdCopy (s : State) (f : Field) : Nat := ((regFind s.copy f.key).map (fun w => w.toNat % 2 ^ f.w)).getD (s.rd f)

/-! ## Free values -/

/-- The next value that the spec leaves open. -/
def State.free (s : State) : BitVec 64 := Config.freeValue s.freeCount

/-- One free value used up. -/
def State.used (s : State) : State := { s with freeCount := s.freeCount + 1 }

/-- One bit of the next free value. -/
def State.freeBit (s : State) : Int := ((s.free.toNat % 2 : Nat) : Int)

/-- a / b where the spec gives the quotient but no rounding: either neighbouring integer, by a free bit, where b does not
divide a (DESIGN CHOICE, assumption 9). -/
def State.quot (s : State) (a b : Int) : Int := a / b + (if a % b = 0 then 0 else s.freeBit)

/-! ## Interrupt sources -/

/-- The cores that a source's target field names. -/
def State.irqTargets (s : State) (n : Nat) : List Nat := bitsOf (s.rd (R.SYS_IRQ_CFG_target.at n)) 6

/-- Delivery of a rising edge of an nmi source to every target core (R47). -/
def State.deliverNmi (n : Nat) (s : State) : State :=
  { s with irq := { s.irq with nmi := (s.irqTargets n).map (fun c => (c, n)) ++ s.irq.nmi } }

/-- An event of source n: its latch sets, or the non-maskable interrupt is delivered, or it is lost while prio and nmi
are both 0 (R573). -/
def State.raise (n : Nat) (s : State) : State :=
  if s.rdB (R.SYS_IRQ_CFG_nmi.at n) then s.deliverNmi n
  else if s.rd (R.SYS_IRQ_CFG_prio.at n) = 0 then s
  else { s with irq := { s.irq with latch := n :: s.irq.latch.filter (· != n) } }

/-- A status condition of source n turns true: an nmi source delivers its rising edge (R47). The level of a source with
nmi 0 is the condition itself. -/
def State.statusRise (n : Nat) (s : State) : State :=
  if s.rdB (R.SYS_IRQ_CFG_nmi.at n) then s.deliverNmi n else s

/-- A status field is set to v, with source n the source that follows it. -/
def State.setStatus (f : Field) (v n : Nat) (s : State) : State :=
  if s.rdB f then s.wr f v else (s.wr f v).statusRise n

/-- A status field is set to v, with source n asserted by it or by any other of the fields in all: its level rises where none of them held (R573). -/
def State.setStatusAmong (all : List Field) (f : Field) (v n : Nat) (s : State) : State :=
  if all.any s.rdB then s.wr f v else (s.wr f v).statusRise n

/-! ## Configuration and access errors -/

/-- The causes of SYS_CFG_ERR. -/
inductive ErrCause where
  | static | locked | softrst | unmapped | timeout | refused
  deriving DecidableEq, Repr

/-- The value of SYS_CFG_ERR.cause. -/
def ErrCause.code : ErrCause → Nat
  | .static => 0
  | .locked => 1
  | .softrst => 2
  | .unmapped => 3
  | .timeout => 4
  | .refused => 5

/-- SYS_CFG_ERR captures an error while valid is 0, and otherwise sets overflow; every error is counted (R50). -/
def State.cfgErr (c : ErrCause) (isWrite : Bool) (who : Init) (blk off : Nat) (s : State) : State :=
  let s := s.inc R.SYS_CFG_ERR_CNT_count 1
  if s.rdB R.SYS_CFG_ERR_valid then s.setStatus R.SYS_CFG_ERR_overflow 1 1
  else ((((((s.wr R.SYS_CFG_ERR_cause c.code).wrB R.SYS_CFG_ERR_write isWrite).wr R.SYS_CFG_ERR_initiator who.code).wr
    R.SYS_CFG_ERR_block blk).wr R.SYS_CFG_ERR_offset off).setStatus R.SYS_CFG_ERR_valid 1 0)

/-- A write refused by a field's own rule is recorded with cause REFUSED at the field's register. -/
def State.refuse (who : Init) (f : Field) (s : State) : State := s.cfgErr .refused true who f.blk f.off

/-! ## Drive Time -/

/-- Drive Time in ns (R461). -/
def State.driveTime (s : State) : Nat := s.rd64 R.PWR_DT_dt

/-- Drive Time advanced by ns (R461). -/
def State.advance (ns : Nat) (s : State) : State := s.wr64 R.PWR_DT_dt ((s.driveTime + ns) % 2 ^ 64)

/-- The time-quality bits (R463). -/
def State.timeQuality (s : State) : Nat := s.rd R.PWR_DT_Q_q

/-- The device ceases to be idle: the idle count restarts at 0 (R464). -/
def State.idleEnd (s : State) : State := s.wr R.PWR_IDLE_STAT_count 0

/-! ## Life cycle -/

/-- The life-cycle states as JIG_STAT.lc_state encodes them (R72). -/
inductive Lc where
  | blank | manufacture | deployed | service | retired
  deriving DecidableEq, Repr

/-- The encoding of R72. -/
def Lc.code : Lc → Nat
  | .blank => 0
  | .manufacture => 1
  | .deployed => 2
  | .service => 3
  | .retired => 4

/-- The state a code stands for; any other pattern reads as RETIRED (R73). -/
def Lc.ofCode : Nat → Lc
  | 0 => .blank
  | 1 => .manufacture
  | 2 => .deployed
  | 3 => .service
  | _ => .retired

/-- The life-cycle state in force. -/
def State.lc (s : State) : Lc := Lc.ofCode (s.rd R.JIG_STAT_lc_state)

/-- The actuator of a channel: CH0 to CH3 on A, CH4 to CH7 on B. -/
def chanAct (c : Nat) : Act := if c < 4 then .a else .b

/-- The number of heads of an actuator: its filled positions (R83). -/
def State.headCount (s : State) (x : Act) : Nat := (bitsOf (s.positions.get x) 16).length

/-- Whether head h is fitted: A's heads come first, then B's (R83). -/
def State.headFitted (s : State) (h : Nat) : Bool := decide (h < s.headCount .a + s.headCount .b)

/-- The actuator of a head. -/
def State.headAct (s : State) (h : Nat) : Act := if h < s.headCount .a then .a else .b

/-- The local surface index of a head (R84). -/
def State.localHead (s : State) (h : Nat) : Nat := if h < s.headCount .a then h else h - s.headCount .a

/-- The position of a head on its preamp: filled positions are taken in ascending order (R83). -/
def State.headPos (s : State) (h : Nat) : Nat :=
  ((bitsOf (s.positions.get (s.headAct h)) 16)[s.localHead h]?).getD 0

/-- The heads of an actuator. -/
def State.actHeads (s : State) : Act → List Nat
  | .a => List.range (s.headCount .a)
  | .b => (List.range (s.headCount .b)).map (· + s.headCount .a)

end Sys2Proof.Machine
end

