-- ==== Sys2Proof/Machine/Shadow.lean ====
section
/-! DEFINITION. Shadowed values at their boundary (R16 to R22) and the CORE-side copy of the bridges (R34). -/
namespace Sys2Proof.Machine

/-- Whether a write still queued in a bridge acts on a field. -/
def State.queuedFor (s : State) (k : Nat) : Bool :=
  s.bridges.toList.any (fun b => b.fifo.any (fun p => p.acts.any (fun a => a.field.key == k)))

/-- The copy of a field follows the block again, unless a queued write still stands for it or a value is pending. -/
def State.syncCopy (k : Nat) (s : State) : State :=
  if s.queuedFor k || s.shadows.any (fun h => h.field.key == k) then s
  else { s with copy := s.copy.filter (fun e => e.1 != k) }

/-- The pending value of a field takes effect. -/
def State.applyShadow (h : Shadow) (s : State) : State :=
  let s := s.wr h.field h.value.toNat
  State.syncCopy h.field.key { s with shadows := s.shadows.filter (fun g => g.field.key != h.field.key) }

/-- Every pending value whose field satisfies p takes effect (R18). -/
def State.applyShadows (p : Field → Bool) (s : State) : State :=
  s.forEach (s.shadows.filter (fun h => p h.field)) State.applyShadow

/-- Pending values of a block are discarded (R15). -/
def State.dropShadows (blk : Nat) (s : State) : State :=
  { s with shadows := s.shadows.filter (fun h => h.field.blk != blk) }

/-- A value written to a Shadowed field becomes pending; an earlier one is discarded (R19). -/
def State.pend (f : Field) (v : Nat) (s : State) : State :=
  { s with shadows := { field := f, value := BitVec.ofNat 32 v } :: s.shadows.filter (fun g => g.field.key != f.key) }

/-- Whether a field is Shadowed with a given boundary. -/
def Field.shadowAt (f : Field) (b : Boundary) : Bool := decide (f.eff = .shadowed b)

end Sys2Proof.Machine
end

