-- ==== Sys2Proof/Machine/RegMap.lean ====
section
/-! DEFINITION. Which fields a register holds: the control-space map of R31 and the lookup of a block's register map, with
the resets of R12 to R15 over the register store. -/
namespace Sys2Proof.Machine

/-- The register map of a block by its index (R31), and the instance's distance from the map's own index. -/
def tableOf (blk : Nat) : List Field × Nat :=
  if blk = 0 then (R.sysTable, 0) else if blk = 1 then (R.jigTable, 0) else if blk = 2 then (R.pwrTable, 0)
  else if blk = 3 then (R.thmTable, 0) else if blk = 4 then (R.evrTable, 0) else if blk = 5 then (R.calTable, 0)
  else if blk = 6 then (R.bstTable, 0) else if blk = 7 then (R.gckTable, 0)
  else if blk < 16 then (R.rchTable, blk - 8) else if blk < 24 then (R.wchTable, blk - 16)
  else if blk < 26 then (R.msqTable, blk - 24) else if blk = 26 then (R.srvTable, 0)
  else if blk = 27 then (R.cleTable, 0) else if blk = 28 then (R.spmTable, 0) else if blk = 29 then (R.actTable, 0)
  else if blk = 30 then (R.parTable, 0) else if blk = 31 then (R.hqeTable, 0) else if blk = 32 then (R.clpTable, 0)
  else if blk = 33 then (R.objTable, 0) else if blk = 34 then (R.bufTable, 0) else if blk = 35 then (R.drcTable, 0)
  else if blk = 36 then (R.frkTable, 0) else if blk = 37 then (R.hifTable, 0) else ([], 0)

/-- Whether register off belongs to the array of a field. -/
def Field.covers (f : Field) (off : Nat) : Bool :=
  decide (f.off ≤ off) && (off - f.off) % f.stride == 0 && decide ((off - f.off) / f.stride < f.n)

/-- Registers that a block implements in some instances only: the combine store of RCH0 and the Head Link engines of
WCH0 and WCH4 (chapters 5 and 6), and the unmapped trim 31 (chapter 19). -/
def instanceHas (blk off : Nat) : Bool :=
  if 8 < blk && blk < 16 && (off == 0x800 || off == 0x804) then false
  else if 16 ≤ blk && blk < 24 && blk != 16 && blk != 20 && decide (0x800 ≤ off ∧ off ≤ 0x810) then false
  else if blk == 5 && off == 0x27C then false
  else true

/-- The fields of the register at an offset of a block; none where the block does not implement the offset. -/
def fieldsAt (blk off : Nat) : List Field :=
  if instanceHas blk off then
    ((tableOf blk).1.filter (fun f => f.covers off)).map
      (fun f => (f.at ((off - f.off) / f.stride)).inst (tableOf blk).2)
  else []

/-- The field that a key of the store names. -/
def fieldOfKey (k : Nat) : Option Field := (fieldsAt (keyBlk k) (keyOff k)).find? (fun f => f.lo == keyLo k)

/-- The block index and offset of a control-space address (R31); none where no block occupies it. -/
def placeOf (addr : Nat) : Option (Nat × Nat) :=
  let page := addr / 65536
  let off := addr % 65536
  if 0x4000 ≤ page ∧ page ≤ 0x4006 then some (page - 0x4000, off)
  else if page = 0x4010 then some (7, off)
  else if 0x4020 ≤ page ∧ page ≤ 0x4027 then some (8 + (page - 0x4020), off)
  else if 0x4030 ≤ page ∧ page ≤ 0x4037 then some (16 + (page - 0x4030), off)
  else if page = 0x4040 ∨ page = 0x4041 then some (24 + (page - 0x4040), off)
  else if page = 0x4050 then some (26, off)
  else if page = 0x4060 then some (27, off)
  else if page = 0x4070 ∨ page = 0x4071 then some (28 + (page - 0x4070), off)
  else if page = 0x4080 then some (30, off)
  else if page = 0x4090 ∨ page = 0x4091 then some (31 + (page - 0x4090), off)
  else if page = 0x40A0 then some (33, off)
  else if page = 0x40B0 ∨ page = 0x40B1 then some (34 + (page - 0x40B0), off)
  else if page = 0x40C0 then some (36, off)
  else if page = 0x40D0 then some (37, off)
  else none

/-- The fields that a soft reset of their block leaves alone (R12, R13, R569). -/
def keptAtBlock (k : Nat) : Bool :=
  match fieldOfKey k with
  | some f => f.blockKept || f.aon
  | none => false

/-- The fields that WARM leaves alone (R12, R13, R569). -/
def keptAtWarm (k : Nat) : Bool :=
  match fieldOfKey k with
  | some f => f.warmKept || f.aon
  | none => false

/-- The fields that POR of the core supplies leaves alone (R569). -/
def keptAtPor (k : Nat) : Bool :=
  match fieldOfKey k with
  | some f => f.aon
  | none => false

/-- The registers of a block reset by its own soft reset: the fields the BLOCK domain resets, in the block and in its
bridge's copy, and the pending values (R12, R15). The srst field reads 1 while the reset is asserted. -/
def State.blockReset (blk : Nat) (srst : Field) (s : State) : State :=
  let s := { s with
    regs := s.regs.filter (fun e => keyBlk e.1 != blk || keptAtBlock e.1)
    copy := s.copy.filter (fun e => keyBlk e.1 != blk)
    holding := s.holding.filter (fun e => keyBlk e.1 != blk) }
  (s.dropShadows blk).wr srst 1

/-- The soft-reset field of a block (R15); SYS, JIG, PWR and THM have none. -/
def srstOf (blk : Nat) : Option Field :=
  if blk < 4 then none else ((tableOf blk).1.find? (fun f => f.lo == 31 && f.off == 0 && f.acc == .rw)).map
    (fun f => f.inst (tableOf blk).2)

/-- What the holding register of the pair whose low word stands at an offset holds (R5). -/
def State.heldHigh (s : State) (blk low : Nat) : Word := (regFind s.holding (fieldKey blk low 0)).getD 0

/-- Whether a block's soft reset is asserted, or its bridge acts as in soft reset because BST has isolated it (R15, R539). -/
def State.inSoftReset (s : State) (blk : Nat) : Bool :=
  (match srstOf blk with
    | some f => s.rdB f
    | none => false) || s.isolated.contains blk

/-- The media slots, 7 to 34 and 69 to 82, the gauge slots 35 and 36, and the milliactuator slots 37 to 68 (R546). -/
def mediaSlot (slot : Nat) : Bool := decide (7 ≤ slot ∧ slot ≤ 82)

/-- Whether a port slot is in service (R547): it stands in the slot mask in force, unless the role strap is 0b10 and it is one of the
media, gauge and milliactuator slots; the test access port, slot 104, always is. -/
def State.slotUsed (s : State) (slot : Nat) : Bool :=
  slot == 104 || (s.rdBit (R.SYS_SLOT_USED_used.at (slot / 32)) (slot % 32) && !(s.rd R.JIG_STRAP_role == 2 && mediaSlot slot))

/-- Whether the Jig marks a read or write channel absent (R33): after boot its port slot, 7 + n or 15 + n, is not in service (R546, R547;
DEDUCED, assumption 35). -/
def State.absent (s : State) (blk : Nat) : Bool :=
  decide (s.jig.boot = .running ∧ 8 ≤ blk ∧ blk < 24) && !s.slotUsed (blk - 1)

/-- A write command that reaches a block: unmapped in an absent instance (R33), ignored and recorded while the block is in soft reset, ignored without a record
where its register holds the srst field, and otherwise acting (R15). -/
def State.accept (who : Init) (f : Field) (op : State → State) (s : State) : State :=
  if s.absent f.blk then s.cfgErr .unmapped true who f.blk f.off
  else if s.inSoftReset f.blk then
    if f.off = 0 && !s.isolated.contains f.blk then s else s.cfgErr .softrst true who f.blk f.off
  else op s

/-- A write of an RWL command field: locked outside the life-cycle states that its Meaning cell names (R10). -/
def State.acceptRwl (who : Init) (f : Field) (op : State → State) (s : State) : State :=
  s.accept who f (fun s => if f.unlock.contains s.lc.code then op s else s.cfgErr .locked true who f.blk f.off)

end Sys2Proof.Machine
end

