-- ==== Sys2Proof/Machine/GoldFx.lean ====
section
/-! DEFINITION. What guards usable DRAM under every writer: the golden region (R68) and the poison of its words (R437). -/
namespace Sys2Proof.Machine

/-- DRC's state beyond its registers updated. -/
def State.updDrc (f : DrcState → DrcState) (s : State) : State := { s with drc := f s.drc }

/-! ## Poison (R437) -/

/-- Whether a poisoned word lies among n bytes from an address. -/
def State.poisonIn (s : State) (a n : Nat) : Bool := s.drc.poison.any (fun w => decide (32 * w < a + n ∧ a < 32 * w + 32))

/-- The poison of the words that a write of n bytes covers wholly is gone. -/
def State.poisonClear (a n : Nat) (s : State) : State :=
  s.updDrc (fun d => { d with poison := d.poison.filter (fun w => !decide (a ≤ 32 * w ∧ 32 * w + 32 ≤ a + n)) })

/-- The word at an address poisoned. -/
def State.poisonWord (a : Nat) (s : State) : State :=
  s.updDrc (fun d => { d with poison := if d.poison.contains (a / 32) then d.poison else (a / 32) :: d.poison })

/-! ## The golden region (R68) -/

/-- Who writes DRAM, as the golden region's protection tells them apart: JIG; a core or HIF's DMA engine; anyone else. -/
inductive GoldBy where
  | jig | outside | other
  deriving DecidableEq, Repr

/-- The bytes of one golden slot. -/
def goldSlotBytes : Nat := 0x2000000

/-- The first byte of the golden region. -/
def State.goldBase (s : State) : Nat := s.rd R.JIG_GOLD_BASE_base * 0x100000

/-- The first byte of golden slot 0 or 1, by JIG_GOLD_BASE.half. -/
def State.goldSlot (s : State) (slot : Nat) : Nat :=
  s.goldBase + (if s.rd R.JIG_GOLD_BASE_half = slot then 0 else goldSlotBytes)

/-- Whether an address lies in the golden region. -/
def State.inGold (s : State) (a : Nat) : Bool := decide (s.goldBase ≤ a ∧ a < s.goldBase + 2 * goldSlotBytes)

/-- Whether n bytes from an address touch a range of m bytes. -/
def touches (a n b m : Nat) : Bool := decide (a < b + m ∧ b < a + n)

/-- Whether the protection forbids part of a write of n bytes (R68). -/
def State.goldForbids (s : State) (by_ : GoldBy) (a n : Nat) : Bool :=
  s.rdB R.JIG_GOLD_BASE_lock && (match by_ with
    | .jig => false
    | .outside => touches a n (s.goldSlot 0) goldSlotBytes
        || (s.rdB R.JIG_GOLD_BASE_stage_lock && touches a n (s.goldSlot 1) goldSlotBytes)
    | .other => touches a n s.goldBase (2 * goldSlotBytes))

/-- n dropped writes counted and signalled on source 14 (R68, R82). -/
def State.goldRefused (n : Nat) (s : State) : State := (s.inc R.JIG_GOLD_STAT_refused n).raise 14

/-- The lines among n bytes from an address that lie in the golden region. -/
def State.goldLines (s : State) (a n : Nat) : Nat :=
  (min (a + n) (s.goldBase + 2 * goldSlotBytes) + 127) / 128 - max a s.goldBase / 128

/-- Bytes written to usable DRAM, whole words losing their poison. -/
def State.dramSet (a : Nat) (bs : List Byte) (s : State) : State :=
  State.poisonClear a bs.length { s with dram := memWriteBytes s.dram a bs }

/-- Bytes written by an engine of a block other than JIG and HIF: what falls into the locked golden region is dropped,
each line counted as a write. -/
def State.dramPut (a : Nat) (bs : List Byte) (s : State) : State :=
  if s.goldForbids .other a bs.length then
    let lo := s.goldBase
    let hi := lo + 2 * goldSlotBytes
    ((s.dramSet a (bs.take (lo - a))).dramSet (max a hi) (bs.drop (hi - a))).goldRefused (s.goldLines a bs.length)
  else s.dramSet a bs

/-- n bytes of DRAM from an address set to 0 by an engine: the cells are removed, but for those of the locked golden
region. -/
def State.dramClear (a n : Nat) (s : State) : State :=
  let kept := s.goldForbids .other a n
  let t := State.poisonClear a n { s with dram := s.dram.filter (fun c =>
    decide (c.1 < a) || decide (a + n ≤ c.1) || (kept && s.inGold c.1)) }
  if kept then t.goldRefused (s.goldLines a n) else t

end Sys2Proof.Machine
end

