-- ==== Sys2Proof/Machine/BufFx.lean ====
section
/-! DEFINITION. The buffer cache (spec/15_buffer_memory.md): lines, the victim buffer and the tailwind detector (R422 to
R428), errors (R435 to R437) and the invalidation of what it holds (R429, R433). -/
namespace Sys2Proof.Machine

/-- BUF's state beyond its registers updated. -/
def State.updBuf (f : BufState → BufState) (s : State) : State := { s with buf := f s.buf }

/-- A counter of BUF raised; source 239 when it reaches saturation (R446). -/
def State.bufCount (f : Field) (s : State) : State :=
  let t := s.inc f 1
  t.when (t.rd f = 2 ^ f.w - 1 ∧ s.rd f ≠ 2 ^ f.w - 1) (State.raise 239)

/-- Bytes of usable DRAM: seven eighths of four channels of the density set (R39, R442). -/
def State.usableBytes (s : State) : Nat := 4 * 2 ^ (30 + s.rd R.DRC_CFG_density) / 8 * 7

/-- The 128 bytes of a line. -/
def State.lineBytes (s : State) (l : Nat) : List Byte := memReadBytes s.dram (128 * l) 128

/-- The poisoned words of a line, 0 to 3. -/
def State.linePoison (s : State) (l : Nat) : List Nat := (List.range 4).filter (fun w => s.drc.poison.contains (4 * l + w))

/-- The poison of a line replaced. -/
def State.setPoison (l : Nat) (ws : List Nat) (s : State) : State :=
  s.updDrc (fun d => { d with poison := ws.map (fun w => 4 * l + w) ++ d.poison.filter (fun p => p / 4 != l) })

/-- The set of a line address. -/
def lineSet (l : Nat) : Nat := l % 8192

/-- The cache line that holds a line address. -/
def State.cached (s : State) (l : Nat) : Option BufLine := s.buf.lines.find? (fun e => e.addr == l)

/-- The victim entry that holds a line address. -/
def State.victim (s : State) (l : Nat) : Option Victim := s.buf.victims.find? (fun v => v.line == l)

/-- BUF_STAT.victims follows the victim buffer. -/
def State.victimShow (s : State) : State := s.wr R.BUF_STAT_victims s.buf.victims.length

/-- The victim entries replaced. -/
def State.setVictims (vs : List Victim) (s : State) : State := State.victimShow (s.updBuf (fun b => { b with victims := vs }))

/-- The cache lines replaced. -/
def State.setLines (ls : List BufLine) (s : State) : State := s.updBuf (fun b => { b with lines := ls })

/-- What a dirty line or victim entry discarded without write-back leaves: the bytes and the poison that DRAM holds. -/
def State.dropDirty (l : Nat) (behind : List Byte) (under : List Nat) (s : State) : State :=
  { s with dram := memWriteBytes s.dram (128 * l) behind }.setPoison l under

/-- How the golden region's protection sees a requester of BUF. -/
def goldBy : BufSrc → GoldBy
  | .jig => .jig
  | .hif | .core _ => .outside
  | _ => .other

/-- Dirty data accepted by DRC, as a write by the requester that wrote it: the golden region's protection may drop it
(R68). -/
def State.writtenBack (l : Nat) (who : BufSrc) (behind : List Byte) (under : List Nat) (s : State) : State :=
  if s.goldForbids (goldBy who) (128 * l) 128 then (s.goldRefused 1).dropDirty l behind under else s

/-- A cache line invalidated without write-back (R429). -/
def State.lineDrop (e : BufLine) (s : State) : State :=
  let s := s.setLines (s.buf.lines.filter (· != e))
  if e.behind.isEmpty then s else s.dropDirty e.addr e.behind e.under

/-- A cache line written back where it is dirty and invalidated. -/
def State.lineOut (e : BufLine) (s : State) : State :=
  if e.dirty then State.writtenBack e.addr e.by_ e.behind e.under (s.setLines (s.buf.lines.filter (· != e))) else s.lineDrop e

/-- A dirty cache line written back and kept clean. -/
def State.lineClean (e : BufLine) (s : State) : State :=
  State.writtenBack e.addr e.by_ e.behind e.under
    (s.setLines (s.buf.lines.map (fun x => if x = e then ⟨x.set, x.way, x.tag, false, [], [], x.by_⟩ else x)))

/-- A line made dirty by a requester: what DRAM holds is kept beneath it. -/
def State.lineDirty (who : BufSrc) (l : Nat) (s : State) : State :=
  let bytes := s.lineBytes l
  let under := s.linePoison l
  s.setLines (s.buf.lines.map (fun x =>
    if x.addr = l then
      (if x.behind.isEmpty then ⟨x.set, x.way, x.tag, true, bytes, under, who⟩ else ⟨x.set, x.way, x.tag, true, x.behind, x.under, who⟩)
    else x))

/-- The cache ways: those that are not scratchpad (R431). -/
def State.cacheWays (s : State) : Nat := 16 - s.rd R.BUF_SPAD_ways

/-- The way that pseudo-LRU selects; its state is not given by the spec, so any cache way (DESIGN CHOICE, assumption 18). -/
def State.pickWay (s : State) : Nat := s.free.toNat % max 1 s.cacheWays

/-- Room in the victim buffer: a full one waits until a write-back completes, the oldest entry's. -/
def State.victimRoom (s : State) : State :=
  match s.buf.victims with
  | v :: r => if r.length < 15 then s else State.writtenBack v.line v.by_ v.behind v.under (s.setVictims r)
  | [] => s

/-- A line displaced by an allocation: dirty, it moves to the victim buffer; clean, it is dropped (R425). -/
def State.displace (e : BufLine) (s : State) : State :=
  if e.dirty then
    let s := State.victimRoom (s.setLines (s.buf.lines.filter (· != e)))
    s.setVictims (s.buf.victims ++ [⟨e.addr, e.behind, e.under, false, e.by_⟩])
  else s.lineDrop e

/-- A line allocated clean in the way that pseudo-LRU selects. -/
def State.allocate (l : Nat) (s : State) : State :=
  let way := s.pickWay
  let s := s.used
  let s := match s.buf.lines.find? (fun e => e.set == lineSet l && e.way == way) with
    | some e => s.displace e
    | none => s
  s.setLines (⟨lineSet l, way, l / 8192, false, [], [], .jig⟩ :: s.buf.lines)

/-- A write or a zero-line merged into a victim entry that has not started: the line is re-installed dirty with what DRAM
holds beneath it, and a dirty line that it displaces takes over the entry (R428). -/
def State.reinstall (v : Victim) (s : State) : State :=
  let way := s.pickWay
  let s := s.used
  let out := s.buf.lines.find? (fun e => e.set == lineSet v.line && e.way == way)
  let vs := s.buf.victims
  let vs := match out.filter (·.dirty) with
    | some e => vs.map (fun x => if x = v then ⟨e.addr, e.behind, e.under, false, e.by_⟩ else x)
    | none => vs.filter (· != v)
  let s := match out with
    | some e => if e.dirty then s.setLines (s.buf.lines.filter (· != e)) else s.lineDrop e
    | none => s
  (s.setVictims vs).setLines (⟨lineSet v.line, way, v.line / 8192, true, v.behind, v.under, v.by_⟩ :: s.buf.lines)

/-! ## Tailwind detector (R427) -/

/-- The stream of a requester. -/
def State.stream (s : State) (who : BufSrc) : Option Stream := s.buf.streams.find? (fun t => t.who == who)

/-- A requester's stream set as the one used last; none breaks it. -/
def State.setStream (who : BufSrc) (t : Option Stream) (s : State) : State :=
  s.updBuf (fun b => { b with streams := (t.toList ++ b.streams.filter (fun x => x.who != who)).take 16 })

/-- Whether a full-line write continues a stream that has reached the threshold. -/
def State.tailwind (s : State) (who : BufSrc) (l : Nat) : Bool :=
  s.rdB R.BUF_TW_CFG_tw_en
    && (s.stream who).elim false (fun t => t.next == l && decide (s.rd R.BUF_TW_CFG_thresh ≤ t.count))

/-- A write noted by the detector: a full line continues the requester's stream or starts one, a partial line breaks it. -/
def State.streamNote (who : BufSrc) (l : Nat) (full : Bool) (s : State) : State :=
  if !full then s.setStream who none
  else
    let n := match s.stream who with
      | some t => if t.next = l then t.count + 1 else 1
      | none => 1
    let s := s.setStream who (some ⟨who, l + 1, n⟩)
    s.when (n = s.rd R.BUF_TW_CFG_thresh ∧ s.rdB R.BUF_TW_CFG_tw_en = true) (State.bufCount R.BUF_CNT_EVT_tw)

/-! ## Errors (R436) -/

/-- BUF_ERR captures the first error and then overflows (R50). Which of a way's four banks it names is open. -/
def State.bufErr (cause set way : Nat) (s : State) : State :=
  if s.rdB R.BUF_ERR_valid then s.setStatus R.BUF_ERR_overflow 1 239
  else
    let bank := 4 * way + s.free.toNat % 4
    let s := ((s.used.wr R.BUF_ERR_cause cause).wr R.BUF_ERR_bank bank).wr R.BUF_ERR_set set
    (s.wr R.BUF_ERR_way way).setStatus R.BUF_ERR_valid 1 236

/-- An uncorrectable error in the tag row of a line's set: its clean lines are invalidated, and its dirty lines reach DRAM
poisoned. -/
def State.tagError (l : Nat) (s : State) : State :=
  let ls := s.buf.lines.filter (fun e => e.set == lineSet l)
  let s := s.bufErr 1 (lineSet l) (s.free.toNat % 16)
  s.used.forEach ls (fun e s => (s.lineOut e).when (e.dirty = true) (State.setPoison e.addr [0, 1, 2, 3]))

/-- An uncorrectable error in the data of the line that holds an address. -/
def State.dataError (a : Nat) (s : State) : State :=
  let l := a / 128
  match s.cached l with
  | some e =>
    if e.dirty then (s.poisonWord a).bufErr 3 e.set e.way else (s.lineOut e).bufErr 2 e.set e.way
  | none => if (s.victim l).isSome then (s.used.poisonWord a).bufErr 3 (lineSet l) (s.free.toNat % 16) else s

/-- An error met by a request. -/
def State.sramError (a : Nat) (e : SramErr) (s : State) : State :=
  match e with
  | .none => s
  | .corrected => s.bufCount R.BUF_CNT_EVT_sram_ce
  | .tag => s.tagError (a / 128)
  | .data => s.dataError a

/-! ## Requests (R425 to R428) -/

/-- Whether BUF serves and allocates; while it drains it serves the lines that it still holds (R425, R432). -/
def State.bufOn (s : State) : Bool := s.rdB R.BUF_CTL_en && !s.rdB R.BUF_STAT_draining

/-- A request carried out on the bytes of usable DRAM as BUF shows them. -/
def State.lineAct (a : Nat) (op : LineOp) (s : State) : State :=
  match op with
  | .read n => { s with reply := BitVec.ofNat 32 (leValue (memReadBytes s.dram a (min n 4))) }
  | .write bs => s.dramSet a bs
  | .zero => s.dramSet (a / 128 * 128) (List.replicate 128 0)

/-- Whether a request changes its line. -/
def opWrites : LineOp → Bool
  | .read _ => false
  | _ => true

/-- Whether a write covers its whole line. -/
def opFull : LineOp → Bool
  | .write bs => decide (128 ≤ bs.length)
  | _ => false

/-- A hit: the line is served, and a write makes it dirty. -/
def State.lineHit (who : BufSrc) (a : Nat) (op : LineOp) (s : State) : State :=
  (s.when (opWrites op = true) (State.lineDirty who (a / 128))).lineAct a op

/-- A miss: the line is allocated, unless the detector sends a full-line write around the cache (R425, R427). -/
def State.lineMiss (who : BufSrc) (a : Nat) (op : LineOp) (s : State) : State :=
  let s := s.bufCount R.BUF_CNT_MISS_count
  if opFull op && s.tailwind who (a / 128) then s.lineAct a op else (s.allocate (a / 128)).lineHit who a op

/-- A request for a line in the victim buffer (R428). A write that waits for a started write-back then misses. -/
def State.victimHit (who : BufSrc) (v : Victim) (a : Nat) (op : LineOp) (s : State) : State :=
  if !opWrites op then (s.bufCount R.BUF_CNT_HIT_count).lineAct a op
  else if v.started then
    State.lineMiss who a op (State.writtenBack v.line v.by_ v.behind v.under
      ((s.bufCount R.BUF_CNT_EVT_waits).setVictims (s.buf.victims.filter (· != v))))
  else (((s.bufCount R.BUF_CNT_HIT_count).bufCount R.BUF_CNT_EVT_merges).reinstall v).lineHit who a op

/-- The bytes that a request writes. -/
def opBytes : LineOp → Nat
  | .write bs => bs.length
  | _ => 128

/-- A request by address as BUF serves it: a read that meets poison delivers it (R437); a write that the golden region's
protection forbids is dropped (R68). -/
def State.bufServe (who : BufSrc) (a : Nat) (op : LineOp) (s : State) : State :=
  let l := a / 128
  if opWrites op && s.goldForbids (goldBy who) a (opBytes op) then s.goldRefused 1 else
  let t :=
    if s.bufOn then
      match s.cached l, s.victim l with
      | some _, _ => (s.bufCount R.BUF_CNT_HIT_count).lineHit who a op
      | none, some v => s.victimHit who v a op
      | none, none => s.lineMiss who a op
    else if s.rdB R.BUF_STAT_draining && (s.cached l).isSome then s.lineHit who a op
    else s.lineAct a op
  match op with
  | .write _ => if s.bufOn then t.streamNote who l (opFull op) else t
  | _ => t

/-! ## Everything given up -/

/-- Every line and victim entry invalidated without write-back (R433). -/
def State.bufLose (s : State) : State :=
  let s := s.forEach s.buf.lines State.lineDrop
  let s := s.forEach s.buf.victims (fun v s => s.dropDirty v.line v.behind v.under)
  s.setVictims []

/-- Every line and victim entry written back. -/
def State.bufFlush (s : State) : State :=
  let s := s.forEach s.buf.victims (fun v s => s.writtenBack v.line v.by_ v.behind v.under)
  State.setVictims [] (s.forEach s.buf.lines State.lineOut)

end Sys2Proof.Machine
end

