-- ==== Sys2Proof/Machine/Buf.lean ====
section
/-! DEFINITION. BUF's commands (spec/15_buffer_memory.md): requests, write-backs, maintenance (R429, R430), the scratchpad
(R431), the drain (R432) and the soft reset (R433). -/
namespace Sys2Proof.Machine

/-- A request to the scratchpad (R431, R436); beyond the ways assigned it is unmapped (R40). -/
def State.spadServe (off : Nat) (op : LineOp) (err : SramErr) (s : State) : State :=
  if s.buf.spadReady * 0x100000 ≤ off then { s with reply := 0 }
  else
    let s := match err with
      | .corrected => s.bufCount R.BUF_CNT_EVT_sram_ce
      | .tag | .data =>
        (s.updBuf (fun b => { b with spadPoison := off / 32 :: b.spadPoison.filter (· != off / 32) })).bufErr 4
          (off / 128 % 8192) (15 - off / 0x100000)
      | .none => s
    let put := fun (a : Nat) (bs : List Byte) => s.updBuf (fun b => { b with
      spad := memWriteBytes b.spad a bs
      spadPoison := b.spadPoison.filter (fun w => !decide (a ≤ 32 * w ∧ 32 * w + 32 ≤ a + bs.length)) })
    match op with
    | .read n => { s with reply := BitVec.ofNat 32 (leValue (memReadBytes s.buf.spad off (min n 4))) }
    | .write bs => put off bs
    | .zero => put (off / 128 * 128) (List.replicate 128 0)

/-- R425 to R428: a request reaches BUF, for an address of usable DRAM or for an offset of the scratchpad. -/
def execBufRequest (who : BufSrc) (spad : Bool) (a : BitVec 34) (op : LineOp) (err : SramErr) (s : State) : Out :=
  .next (if spad then s.spadServe a.toNat op err
    else if s.usableBytes ≤ a.toNat then { s with reply := 0 }
    else (s.sramError a.toNat err).bufServe who a.toNat op)

/-- R428: BUF issues the write-back of a victim entry. -/
def execVictimWritebackIssue (k : Fin 16) (s : State) : Out :=
  .next (s.setVictims (s.buf.victims.mapIdx (fun n v => if n = k.val then { v with started := true } else v)))

/-- R428: DRC accepts a started write-back, and the entry is freed. -/
def execVictimWritebackAccept (k : Fin 16) (s : State) : Out :=
  .next (match s.buf.victims[k.val]? with
    | some v => if v.started then State.writtenBack v.line v.by_ v.behind v.under (s.setVictims (s.buf.victims.eraseIdx k.val)) else s
    | none => s)

/-! ## Maintenance (R429, R430) -/

/-- The maintenance operations. -/
inductive MaintOp where
  | zero | clean | inval | cleanInval
  deriving DecidableEq, Repr

/-- The value of BUF_MAINT.op. -/
def MaintOp.code : MaintOp → Nat
  | .zero => 1
  | .clean => 2
  | .inval => 3
  | .cleanInval => 4

/-- One operation on a cache line. -/
def State.maintLine (op : MaintOp) (e : BufLine) (s : State) : State :=
  match op with
  | .zero => s
  | .clean => if e.dirty then s.lineClean e else s
  | .inval => s.lineDrop e
  | .cleanInval => s.lineOut e

/-- A victim entry that has not started, discarded by INVAL. -/
def State.victimDrop (v : Victim) (s : State) : State :=
  if v.started then s else (s.setVictims (s.buf.victims.filter (· != v))).dropDirty v.line v.behind v.under

/-- One operation on a line by address. ZERO writes as a core (R68). -/
def State.maintAddr (op : MaintOp) (l : Nat) (s : State) : State :=
  match op with
  | .zero => s.bufServe (.core 0) (128 * l) .zero
  | _ =>
    match s.cached l, s.victim l with
    | some e, _ => s.maintLine op e
    | none, some v => if op = .inval then s.victimDrop v else s
    | none, none => s

/-- The lines that a set-and-way operation treats. -/
def State.maintWays (s : State) (all : Bool) : List BufLine :=
  if all then s.buf.lines
  else s.buf.lines.filter (fun e => e.set == s.rd R.BUF_MAINT_SW_set && e.way == s.rd R.BUF_MAINT_SW_way)

/-- The start address of a range. -/
def State.maintBase (s : State) : Nat := s.rd64 R.BUF_MAINT_ADDR_addr

/-- Whether a go is refused (R429, R430). -/
def State.maintRefused (s : State) (op : MaintOp) (sw all : Bool) (count : Nat) : Bool :=
  s.rdB R.BUF_STAT_maint_busy || (sw && (s.rdB R.BUF_STAT_draining || op == .zero))
    || (sw && !all && decide (s.cacheWays ≤ s.rd R.BUF_MAINT_SW_way))
    || (!sw && (decide (s.maintBase % 128 ≠ 0) || decide (s.usableBytes < s.maintBase + 128 * (count + 1))))

/-- BUF_MAINT.go (R429). While BUF is disabled ZERO writes zeroes to DRC and the other operations do nothing. -/
def State.maintOp (who : Init) (op : MaintOp) (sw all : Bool) (count : Nat) (s : State) : State :=
  let s := ((s.wr R.BUF_MAINT_op op.code).wrB R.BUF_MAINT_sw sw).wrB R.BUF_MAINT_all all
  let s := s.wr R.BUF_MAINT_count count
  if s.maintRefused op sw all count then s.refuse who R.BUF_MAINT_go
  else
    let s := s.wr R.BUF_STAT_maint_busy 1
    let base := s.maintBase / 128
    if !s.rdB R.BUF_CTL_en && !s.rdB R.BUF_STAT_draining && op != .zero then s
    else if sw then
      let s := s.forEach (s.maintWays all) (fun e s => s.maintLine op e)
      if all && op == .inval then s.forEach s.buf.victims State.victimDrop else s
    else s.forEach ((List.range (count + 1)).map (· + base)) (fun l s => s.maintAddr op l)

/-- R429: ZERO. -/
def execMaintZero (who : Init) (sw all : Bool) (count : BitVec 16) (s : State) : Out :=
  .next (s.accept who R.BUF_MAINT_go (State.maintOp who .zero sw all count.toNat))

/-- R429: CLEAN. -/
def execMaintClean (who : Init) (sw all : Bool) (count : BitVec 16) (s : State) : Out :=
  .next (s.accept who R.BUF_MAINT_go (State.maintOp who .clean sw all count.toNat))

/-- R429: INVAL. -/
def execMaintInval (who : Init) (sw all : Bool) (count : BitVec 16) (s : State) : Out :=
  .next (s.accept who R.BUF_MAINT_go (State.maintOp who .inval sw all count.toNat))

/-- R429: CLEAN_INVAL. -/
def execMaintCleanInval (who : Init) (sw all : Bool) (count : BitVec 16) (s : State) : Out :=
  .next (s.accept who R.BUF_MAINT_go (State.maintOp who .cleanInval sw all count.toNat))

/-- R429, R446: the last write-back of the operation is accepted. -/
def execMaintDone (s : State) : Out :=
  .next (if s.rdB R.BUF_STAT_maint_busy then (s.wr R.BUF_STAT_maint_busy 0).raise 238 else s)

/-! ## Scratchpad (R431) -/

/-- A write of BUF_SPAD.ways. Newly assigned ways are cleaned, invalidated and zeroed, and become addressable when the
conversion ends; the contents of released ways are lost at once. -/
def State.spadOp (who : Init) (k : Nat) (s : State) : State :=
  let cur := s.rd R.BUF_SPAD_ways
  if k = cur then s
  else if decide (8 < k) || s.rdB R.BUF_STAT_spad_busy || s.rdB R.BUF_STAT_maint_busy || s.rdB R.BUF_STAT_draining then
    s.refuse who R.BUF_SPAD_ways
  else
    let s := (s.wr R.BUF_SPAD_ways k).wr R.BUF_STAT_spad_busy 1
    let s := s.forEach (s.buf.lines.filter (fun e => decide (16 - k ≤ e.way))) (fun e s => s.lineOut e)
    let keep := min k cur
    s.updBuf (fun b => { b with
      spad := b.spad.filter (fun c => decide (c.1 < keep * 0x100000))
      spadPoison := b.spadPoison.filter (fun w => decide (32 * w < keep * 0x100000))
      spadReady := min b.spadReady keep })

/-- R431. -/
def execScratchpadWrite (who : Init) (k : BitVec 4) (s : State) : Out :=
  .next (s.accept who R.BUF_SPAD_ways (State.spadOp who k.toNat))

/-- R431, R446: the conversion ends, and every scratchpad way is addressable. -/
def execScratchpadDone (s : State) : Out :=
  .next (if s.rdB R.BUF_STAT_spad_busy then
      (((s.wr R.BUF_STAT_spad_busy 0).updBuf (fun b => { b with spadReady := s.rd R.BUF_SPAD_ways }))).raise 238
    else s)

/-! ## Disabling (R432, R433) -/

/-- BUF_CTL.en written. -/
def State.bufEnableOp (who : Init) (en : Bool) (s : State) : State :=
  if s.rdB R.BUF_CTL_en = en then s
  else if en then (if s.rdB R.BUF_STAT_draining then s.refuse who R.BUF_CTL_en else s.wr R.BUF_CTL_en 1)
  else (s.wr R.BUF_CTL_en 0).wr R.BUF_STAT_draining 1

/-- R432: BUF_CTL.en cleared. -/
def execBufDrainStart (who : Init) (s : State) : Out := .next (s.accept who R.BUF_CTL_en (State.bufEnableOp who false))

/-- R432, R446: the last dirty line's write-back is accepted. -/
def execBufDrainDone (s : State) : Out :=
  .next (if s.rdB R.BUF_STAT_draining then ((s.bufFlush).wr R.BUF_STAT_draining 0).raise 237 else s)

/-- BUF_CTL.srst set (R15, R433). -/
def State.bufReset (s : State) : State :=
  let s := s.bufLose
  { (s.blockReset 34 R.BUF_CTL_srst) with buf := BufState.init }

/-- R433. -/
def execBufSoftReset (_who : Init) (s : State) : Out := .next s.bufReset

end Sys2Proof.Machine
end

