-- ==== Sys2Proof/Machine/Owner.lean ====
section
/-! DEFINITION. The owning block of a field and its enable (R16), with what follows when it is disabled (R21). -/
namespace Sys2Proof.Machine

/-- The loop slot whose register block or coefficient banks hold a register of CLE (R261). -/
def cleSlotOf (off : Nat) : Option Nat :=
  if 0x100 ≤ off ∧ off < 0x100 + 64 * 24 then some ((off - 0x100) / 64)
  else if R.CLE_BANK_coef.off ≤ off ∧ off < R.CLE_BANK_coef.off + R.CLE_BANK_coef.stride * R.CLE_BANK_coef.n then
    some ((off - R.CLE_BANK_coef.off) / R.CLE_BANK_coef.stride / 128)
  else none

/-- The enable of a block at bit 0 of its first register; SYS, JIG, PWR and THM have none. -/
def enOf (blk : Nat) : Option Field :=
  if blk < 4 then none else ((tableOf blk).1.find? (fun f => f.lo == 0 && f.off == 0 && f.acc == .rw)).map
    (fun f => f.inst (tableOf blk).2)

/-- Whether a level's registers are in use: it is the current level, or the source or target of a change. -/
def State.levelOn (s : State) (n : Nat) : Bool :=
  s.rd R.PWR_PLVL_STAT_cur == n || (match s.pwr.change with
    | some c => c.src == n || c.dst == n
    | none => false)

/-- Whether the owning block of a field is enabled (R16): a slot of CLE, an actuator of ACT, a level of PWR, the management endpoint for
its address, and otherwise the block itself. -/
def State.ownerOn (s : State) (f : Field) : Bool :=
  let block := (enOf f.blk).elim false s.rdB
  if f.blk = 2 then
    if R.PWR_LVL_base.off ≤ f.off ∧ f.off < R.PWR_LVL_base.off + 16 then s.levelOn ((f.off - R.PWR_LVL_base.off) / 4)
    else f.off == R.PWR_WGT_mech.off
  else if f.blk = 27 then
    match cleSlotOf f.off with
    | some k => block && s.rdB (R.CLE_CFG_en.at k)
    | none => block
  else if f.blk = 29 then
    if 0x100 ≤ f.off ∧ f.off < 0x200 then block && s.rdB R.ACT_CTL_act_a
    else if 0x200 ≤ f.off ∧ f.off < 0x300 then block && s.rdB R.ACT_CTL_act_b
    else block
  else if f.blk = 37 ∧ f.off = R.HIF_MI_CFG_addr.off then s.rdB R.HIF_MI_CFG_en
  else block

/-- Whether a field is Shadowed. -/
def Field.isShadowed (f : Field) : Bool := match f.eff with
  | .shadowed _ => true
  | _ => false

/-- Pending values whose owning block is disabled take effect at once (R21). -/
def State.ownerFlush (s : State) : State := s.applyShadows (fun f => f.isShadowed && !s.ownerOn f)

end Sys2Proof.Machine
end

