-- ==== Sys2Proof/Machine/AsyncFx.lean ====
section
/-! DEFINITION. Controllers, contexts and asynchronous events (spec/12_host_interface.md, R360, R361), as every block that
posts an event reaches them. -/
namespace Sys2Proof.Machine

/-- The host side updated. -/
def State.updHost (f : HostState → HostState) (s : State) : State := { s with host := f s.host }

/-- A counter of HQE, CLP or another host block raised; a source when it reaches saturation. -/
def State.satCount (f : Field) (source : Nat) (s : State) : State :=
  let t := s.inc f 1
  t.when (t.rd f = 2 ^ f.w - 1 ∧ s.rd f ≠ 2 ^ f.w - 1) (State.raise source)

/-! ## Controllers and contexts -/

/-- A controller. -/
def State.ctrl (s : State) (c : Nat) : Ctrl := if c = 0 then s.host.c0 else s.host.c1

/-- A controller updated. -/
def State.updCtrl (c : Nat) (f : Ctrl → Ctrl) (s : State) : State :=
  s.updHost (fun h => if c = 0 then { h with c0 := f h.c0 } else { h with c1 := f h.c1 })

/-- The context with a number. -/
def State.ctx (s : State) (n : Nat) : Option Context := s.host.ctxs.find? (fun c => c.no == n)

/-- A context updated. -/
def State.updCtx (n : Nat) (f : Context → Context) (s : State) : State :=
  s.updHost (fun h => { h with ctxs := h.ctxs.map (fun c => if c.no = n then f c else c) })

/-- HQE_STAT.ctx_used follows the contexts; a context held ends the device's idle time (R464). -/
def State.ctxShow (s : State) : State := (s.wr R.HQE_STAT_ctx_used s.host.ctxs.length).when (s.host.ctxs ≠ []) State.idleEnd

/-- A context's result decided; the first decision stands. -/
def State.settle (n : Nat) (r : Result) (s : State) : State :=
  s.updCtx n (fun c => if c.result.isSome then c else { c with result := some r })

/-- A status without data. -/
def Result.of (st : Status) : Result := ⟨st, 0, .none⟩

/-- A command that ends with a status and no data. -/
def State.ends (n : Nat) (st : Status) (s : State) : State := s.settle n (.of st)

/-! ## Asynchronous events (R360) -/

/-- The kind of an event, as Config.asyncDword takes it. -/
def asyncKind : AsyncEvent → Nat
  | .error => 0
  | .smart b => 16 + b
  | .nsChanged => 1
  | .activation => 2
  | .telemetry => 3
  | .zoneChanged => 4
  | .vendor => 5

/-- Dword 0 of the completion that tells an event. -/
def asyncDw0 (e : AsyncEvent) : Nat := (Config.asyncDword (asyncKind e)).toNat

/-- An event posted to a controller: it completes the oldest outstanding request, or waits for one. The vendor event stays
masked once posted until log page 0xC0 is read (R361). -/
def State.asyncPost (c : Nat) (e : AsyncEvent) (s : State) : State :=
  let k := s.ctrl c
  if e = .vendor && k.vendorMasked then s
  else
    let s := s.updCtrl c (fun k => { k with vendorMasked := k.vendorMasked || e == .vendor })
    match k.aers with
    | n :: r => (s.updCtrl c (fun k => { k with aers := r })).settle n ⟨.ok, asyncDw0 e, .none⟩
    | [] => s.updCtrl c (fun k => { k with events := if k.events.contains e then k.events else k.events ++ [e] })

/-- An event posted to both controllers. -/
def State.asyncAll (e : AsyncEvent) (s : State) : State := (s.asyncPost 0 e).asyncPost 1 e

/-- A Critical Warning bit that has risen is told (R350, R360). -/
def State.smartRise (bit : Nat) (was is_ : Bool) (s : State) : State := if is_ && !was then s.asyncAll (.smart bit) else s

/-- A head's totals updated (R359). -/
def State.headStat (h : Nat) (f : HeadStat → HeadStat) (s : State) : State :=
  if p : h < 32 then s.updHost (fun x => { x with heads := updV x.heads ⟨h, p⟩ f }) else s

/-- A 4-byte total raised. -/
def stat32 (n : Nat) : Nat := min (2 ^ 32 - 1) (n + 1)

end Sys2Proof.Machine
end

