-- ==== Sys2Proof/Machine/PwrFx.lean ====
section
/-! DEFINITION. PWR as the other blocks act on it (spec/16_power_states.md): the wake arbiter's queue (R460), changes of the
performance level with the voltage writes they need (R448 to R452, R578), and the level that THM holds (R452). -/
namespace Sys2Proof.Machine

/-- PWR's state beyond its registers updated. -/
def State.updPwr (f : PwrState → PwrState) (s : State) : State := { s with pwr := f s.pwr }

/-- A counter of PWR raised; source 22 when it reaches saturation (R467). -/
def State.pwrCount (f : Field) (s : State) : State :=
  let t := s.inc f 1
  t.when (t.rd f = 2 ^ f.w - 1 ∧ s.rd f ≠ 2 ^ f.w - 1) (State.raise 22)

/-! ## The wake arbiter (R460) -/

/-- The step limit of a rail. -/
def State.stepMax (s : State) (rail : Nat) : Nat := s.rd (R.PWR_ARB_CFG_step_max.at rail)

/-- Whether a request on a rail is admitted at once: nothing waits, and the rail's step_max is 0. -/
def State.arbOpen (s : State) (rail : Nat) : Bool := s.pwr.queue.isEmpty && s.stepMax rail == 0

/-- An admission noted. -/
def State.arbAdmitted (rail ma : Nat) (s : State) : State :=
  s.updPwr (fun p => { p with admitted := (rail, ma, s.driveTime) :: p.admitted })

/-- PWR_ARB_STAT.queued follows the queue. -/
def State.arbShow (s : State) : State := s.wr R.PWR_ARB_STAT_queued (min 255 s.pwr.queue.length)

/-- A request joins the arbiter's one queue. -/
def State.arbRequest (who : ArbWho) (rail ma : Nat) (s : State) : State :=
  State.arbShow (s.updPwr (fun p => { p with queue := p.queue ++ [{ who := who, rail := rail, ma := ma }] }))

/-! ## Level changes (R448 to R452) -/

/-- The phases of PWR_SLEEP_STAT. -/
inductive SleepPhase where
  | run | prepare | commit | asleep | exit | backoff
  deriving DecidableEq, Repr

/-- The encoding of PWR_SLEEP_STAT.phase. -/
def SleepPhase.code : SleepPhase → Nat
  | .run => 0
  | .prepare => 1
  | .commit => 2
  | .asleep => 3
  | .exit => 4
  | .backoff => 5

/-- Whether PWR is in a phase. -/
def State.phaseIs (s : State) (p : SleepPhase) : Bool := s.rd R.PWR_SLEEP_STAT_phase == p.code

/-- Whether a sleep entry or exit is under way, so that level requests are held (R452). -/
def State.inSleep (s : State) : Bool :=
  s.phaseIs .prepare || s.phaseIs .commit || s.phaseIs .asleep || s.phaseIs .exit

/-- The level whose clock runs. -/
def State.level (s : State) : Nat := s.rd R.PWR_PLVL_STAT_cur

/-- The voltage of level n: vnom and 5 mV for each step of adj_n (R448, R449). -/
def State.levelMv (s : State) (n : Nat) : Nat :=
  ((s.rd (R.PWR_LVL_vnom.at n) : Int) + 5 * signedOf 8 (s.rd R.PWR_ADJ_adj / 2 ^ (8 * n))).toNat

/-- An AVSBus voltage write (R451); VDone is not known until the next status read. -/
def State.avsWrite (mv : Nat) (s : State) : State :=
  (s.updPwr (fun p => { p with written := mv })).wr R.PWR_AVS_STAT_vdone 0

/-- The change in progress replaced. -/
def State.setChange (c : Option LevelChange) (s : State) : State :=
  (s.updPwr (fun p => { p with change := c })).wrB R.PWR_PLVL_STAT_busy (c.elim false (fun c => !c.confirm))

/-- The first step of a change to level n: the voltage of a faster level, which on a raise waits for the wake arbiter, or the
clock switch to a slower one (R450, R460). The step that PWR asks for is open. -/
def State.levelStart (n : Nat) (s : State) : State :=
  let c := fun w => some (⟨s.level, n, w, false, false⟩ : LevelChange)
  if n = s.level then s
  else if s.level < n then s.setChange (c .clock)
  else
    let ma := s.free.toNat % 65536
    let s := s.used
    if s.arbOpen 0 then ((s.arbAdmitted 0 ma).setChange (c .vdone)).avsWrite (s.levelMv n)
    else (s.setChange (c .arbiter)).arbRequest .pwr 0 ma

/-- The arbiter has admitted PWR's step: the voltage of the faster level is written (R450). -/
def State.levelAdmitted (s : State) : State :=
  match s.pwr.change with
  | some c => if c.wait == .arbiter then (s.setChange (some { c with wait := .vdone })).avsWrite (s.levelMv c.dst) else s
  | none => s

/-- Whether the level is to go to P3 whatever has been requested: THM holds it, or a Commit for Lull or Calm runs. -/
def State.wantP3 (s : State) : Bool := s.pwr.thmP3 || (s.phaseIs .commit && decide (s.pwr.target ≤ 1))

/-- What follows a change: P3 where it is wanted, otherwise a request held (R452). -/
def State.levelNext (s : State) : State :=
  if s.wantP3 then s.levelStart 3
  else if s.pwr.held && !s.inSleep then
    (s.updPwr (fun p => { p with held := false })).levelStart (s.rd R.PWR_PLVL_req)
  else s

/-- AC0 leaves reset for the boot ROM once the P2 voltage has been confirmed and WARM and POR are released (R64, R578). -/
def State.bootGo (s : State) : State :=
  if s.jig.boot = .training ∧ s.cores[0] = .held ∧ s.pwr.change = none then { s with cores := s.cores.set 0 (.running 0) } else s

/-- A change ends, well or with a failure; the end of the confirmation of R578 lets AC0 start all the same (R451, R578). -/
def State.levelEnd (c : LevelChange) (fail : Bool) (s : State) : State :=
  let s := State.bootGo (s.setChange none)
  let s := if fail then s.setStatus R.PWR_PLVL_STAT_fail 1 17 else if c.confirm then s else s.raise 16
  s.levelNext

/-- The level that will be running once every change in progress or held has been made (R452). From Commit to the end of an exit that
is the level the device returns to, and after a failed change the one that still runs. -/
def State.levelFinal (s : State) : Nat :=
  if s.pwr.held || s.pwr.thmP3 || (s.inSleep && !s.phaseIs .prepare) then s.rd R.PWR_PLVL_req
  else (s.pwr.change.map (·.dst)).getD s.level

/-- A request for level n: it starts a change, or is held while a change, a sleep entry or exit, or a hold of P3 lasts. One for the
level that will be running starts nothing (R452). -/
def State.levelRequest (n : Nat) (s : State) : State :=
  let f := s.levelFinal
  let s := s.wr R.PWR_PLVL_req n
  if f = n then s
  else if s.pwr.change.isSome || s.inSleep || s.pwr.thmP3 then s.updPwr (fun p => { p with held := true })
  else s.levelStart n

/-- P3 is wanted from now on; a change in progress completes first. -/
def State.goP3 (s : State) : State := if s.pwr.change.isSome then s else s.levelStart 3

/-- THM holds the level at P3 until WARM or POR (R452, R477, R479). -/
def State.thmHoldP3 (s : State) : State := State.goP3 (s.updPwr (fun p => { p with thmP3 := true }))

/-- The level at which the device returns to RUN: the one PWR_PLVL.req holds (R452, R459). -/
def State.levelResume (s : State) : State :=
  if s.pwr.change.isSome || s.pwr.thmP3 then s.updPwr (fun p => { p with held := true })
  else (s.updPwr (fun p => { p with held := false })).levelStart (s.rd R.PWR_PLVL_req)

/-- At POR and WARM PWR writes the P2 voltage and waits for VDone (R578). -/
def State.levelBoot (s : State) : State :=
  (s.setChange (some ⟨2, 2, .vdone, false, true⟩)).avsWrite (s.levelMv 2)

/-- A doorbell written since Prepare began (R456, voter 1). -/
def State.pwrDoorbell (s : State) : State := s.updPwr (fun p => { p with doorbell := true })

end Sys2Proof.Machine
end

