-- ==== Sys2Proof/Machine/PsFx.lean ====
section
/-! DEFINITION. The limits that the base firmware sets for the power state in force and the power token (spec/
12_host_interface.md R351 to R353, spec/16_power_states.md R466). -/
namespace Sys2Proof.Machine

/-- Whether this node holds a power token, from the ring or from the local budget (R353). -/
def State.powerToken (s : State) : Bool := s.frk.tok.power != .none

/-- The operational power state of the drive: with two controllers the faster of theirs (DEDUCED, assumption 25). -/
def State.psNow (s : State) : Nat := if s.rdB R.HIF_STAT_mode then min s.host.c0.psOp s.host.c1.psOp else s.host.c0.psOp

/-- PS0 with a token runs at P0 with up to 8 channels, and everything else under the limits of PS1: P2 and up to 2. The cap
is 26.00 W while a token is held and 11.50 W otherwise (R353, R466). -/
def State.fwLimits (s : State) : State :=
  let fast := s.powerToken && s.psNow == 0
  let s := s.wr R.HQE_SCHED_CFG_max_lanes (if fast then 8 else 2)
  (s.wr R.PWR_CAP_cap (if s.powerToken then 2600 else 1150)).levelRequest (if fast then 0 else 2)

/-- The limits as the base firmware sets them once it runs. -/
def State.limitsShow (s : State) : State := if s.jig.boot = .running then s.fwLimits else s

/-- A command has come in PS2, PS3 or PS4: the controller returns to its last operational state (R352). -/
def State.psWake (c : Nat) (s : State) : State := s.updCtrl c (fun k => { k with ps := k.psOp })

end Sys2Proof.Machine
end

