-- ==== Sys2Proof/Machine/FrkFx.lean ====
section
/-! DEFINITION. The Fretik ring as the other blocks act on it (spec/18_fretik_ring.md): frames, tokens and their release,
the local budget and the cabinet's table (R488 to R500), and forwarded events (R505). -/
namespace Sys2Proof.Machine

/-- The node states of FRK_STAT. -/
inductive FrkSt where
  | off | listen | linked | elect | drawer | cabinet | solo
  deriving DecidableEq, Repr

/-- The encoding of FRK_STAT.state. -/
def FrkSt.code : FrkSt → Nat
  | .off => 0
  | .listen => 1
  | .linked => 2
  | .elect => 3
  | .drawer => 4
  | .cabinet => 5
  | .solo => 6

/-- Whether the node is in a state. -/
def State.frkIs (s : State) (x : FrkSt) : Bool := s.rd R.FRK_STAT_state == x.code

/-- FRK's state beyond its registers updated. -/
def State.updFrk (f : FrkState → FrkState) (s : State) : State := { s with frk := f s.frk }

/-- A counter of FRK_CNT raised by one; source 247 when it reaches saturation (R508). -/
def State.frkCount (f : Field) (s : State) : State :=
  let t := s.inc f 1
  t.when (t.rd f = 2 ^ f.w - 1 ∧ s.rd f ≠ 2 ^ f.w - 1) (State.raise 247)

/-- The node's UID as a number. -/
def State.uid (s : State) : Nat := s.fuses.uid.toNat

/-- The node's address on the ring. -/
def State.frkAddr (s : State) : Nat := s.rd R.FRK_STAT_addr

/-! ## Frames (R488 to R492) -/

/-- The frame types of R489. -/
inductive FrameType where
  | bcn | enum | elect | join | leave | req | grant | rel | revoke | tokrpt | evt | mbx | ack | nak | brk
  deriving DecidableEq, Repr

/-- The type codes of R489. -/
def FrameType.code : FrameType → Nat
  | .bcn => 0x01
  | .enum => 0x02
  | .elect => 0x03
  | .join => 0x04
  | .leave => 0x05
  | .req => 0x10
  | .grant => 0x11
  | .rel => 0x12
  | .revoke => 0x13
  | .tokrpt => 0x14
  | .evt => 0x20
  | .mbx => 0x21
  | .ack => 0x30
  | .nak => 0x31
  | .brk => 0x3F

/-- Whether a payload length is the one that its type fixes (R490). -/
def FrameType.lenOk (t : FrameType) (n : Nat) : Bool :=
  match t with
  | .bcn => n == 40
  | .enum => n == 4
  | .elect => n == 16
  | .join => n == 8
  | .leave => n == 8
  | .req => n == 9
  | .grant => n == 12
  | .rel => n == 9
  | .revoke => n == 9
  | .tokrpt => n == 14
  | .evt => n == 72
  | .mbx => decide (2 ≤ n ∧ n ≤ 256)
  | .ack => n == 4
  | .nak => n == 4
  | .brk => n == 1

/-- n payload bytes from offset i, little-endian (R490). -/
def payLe (p : List Byte) (i n : Nat) : Nat := leValue ((p.drop i).take n)

/-- The broadcast address. -/
def dstAll : Nat := 0xFF

/-- The frame that the node would originate next. -/
def State.frkFrame (s : State) (t : FrameType) (dst : Nat) (p : List Byte) : RingFrame :=
  { type := t.code, dst := dst, src := s.frkAddr, hops := 0, seq := s.frk.seq, payload := p }

/-- A frame put on the ring. -/
def State.frkEmit (f : RingFrame) (s : State) : State := s.updFrk (fun k => { k with out := f :: k.out })

/-- A frame originated, with the next sequence number (R488). -/
def State.frkSend (t : FrameType) (dst : Nat) (p : List Byte) (s : State) : State :=
  (s.frkEmit (s.frkFrame t dst p)).updFrk (fun k => { k with seq := (k.seq + 1) % 65536 })

/-- A frame originated that waits for an ACK (R496, R505). -/
def State.frkSendAcked (t : FrameType) (dst : Nat) (p : List Byte) (s : State) : State :=
  let f := s.frkFrame t dst p
  (s.frkSend t dst p).updFrk (fun k => { k with await := k.await ++ [{ frame := f, repeats := 0, naks := 0 }] })

/-- Whether the node is on the ring with an address or as a candidate: its bypass is open. -/
def State.frkLinked (s : State) : Bool := s.rdB R.FRK_STAT_bypass

/-! ## Tokens (R496 to R500) -/

/-- The code of a kind in frames. -/
def tokCode : TokKind → Nat
  | .spin => 1
  | .power => 2

/-- The kind that a frame's byte names. -/
def tokOfCode : Nat → Option TokKind
  | 1 => some .spin
  | 2 => some .power
  | _ => none

/-- A UID and a kind, as REQ, REL and REVOKE carry them. -/
def tokPayload (uid : Nat) (k : TokKind) : List Byte := leBytes 8 uid ++ leBytes 1 (tokCode k)

/-- The status bit of a queued request. -/
def tokQ : TokKind → Field
  | .spin => R.FRK_TOK_STAT_spin_q
  | .power => R.FRK_TOK_STAT_pwr_q

/-- The bit that shows a token held here: SPM_TOK.held, or FRK_TOK_STAT.pwr. -/
def tokHeld : TokKind → Field
  | .spin => R.SPM_TOK_held
  | .power => R.FRK_TOK_STAT_pwr

/-- The cabinet's budget of a kind. -/
def tokMax : TokKind → Field
  | .spin => R.FRK_TOK_CFG_spin_max
  | .power => R.FRK_TOK_CFG_pwr_max

/-- The status field of the tokens of a kind in the table. -/
def tokCount : TokKind → Field
  | .spin => R.FRK_TOK_STAT_spin_held
  | .power => R.FRK_TOK_STAT_pwr_held

/-- The local budget's bit of a kind. -/
def tokLocal : TokKind → Field
  | .spin => R.FRK_LOCAL_spin_en
  | .power => R.FRK_LOCAL_pwr_en

/-- The tokens of a kind in the table. -/
def State.tokInTable (s : State) (k : TokKind) : List TokEntry := s.frk.table.filter (fun e => e.kind == k)

/-- The cabinet's counts follow its table. -/
def State.tableShow (s : State) : State :=
  (s.wr R.FRK_TOK_STAT_spin_held (s.tokInTable .spin).length).wr R.FRK_TOK_STAT_pwr_held (s.tokInTable .power).length

/-- The table changes, raising source 244 (R508). -/
def State.tableSet (l : List TokEntry) (s : State) : State := ((s.updFrk (fun k => { k with table := l })).tableShow).raise 244

/-- A token comes to this node, from the ring or the local budget: its bit is set and source 244 raised (R497). -/
def State.tokTake (k : TokKind) (src : TokFrom) (s : State) : State :=
  let now := s.driveTime
  let s := ((s.wr (tokHeld k) 1).wr (tokQ k) 0).raise 244
  let s := s.updFrk (fun f => { f with tok := f.tok.set k src, renewed := f.renewed.set k now })
  s.when (k = .power) State.limitsShow

/-- A token leaves this node; without a power token the limits of PS1 apply (R353). -/
def State.tokDrop (k : TokKind) (s : State) : State :=
  let s := ((s.wr (tokHeld k) 0).raise 244).updFrk (fun f => { f with tok := f.tok.set k .none })
  s.when (k = .power) State.limitsShow

/-- The GRANT of an entry (R490). -/
def State.grantFrame (e : TokEntry) (s : State) : State :=
  s.frkSendAcked .grant e.addr (leBytes 8 e.uid ++ leBytes 1 (tokCode e.kind) ++ leBytes 1 0 ++ leBytes 2 (s.rd R.FRK_TOK_CFG_lease))

/-- One request granted: the first in the queue whose kind is below its budget; the cabinet's own sets its bit. -/
def State.grantOne (s : State) : State :=
  match s.frk.queue.find? (fun e => decide ((s.tokInTable e.kind).length < s.rd (tokMax e.kind))) with
  | none => s
  | some e =>
    let s := s.updFrk (fun f => { f with queue := f.queue.filter (· != e) })
    let s := s.tableSet (s.frk.table ++ [e])
    if e.uid = s.uid then s.tokTake e.kind .ring else s.grantFrame e

/-- The cabinet grants while its queue and budgets allow, but not before its census has ended (R496, R499). -/
def State.grantAll (s : State) : State :=
  if s.frkIs .cabinet && s.frk.census.isNone then (List.range s.frk.queue.length).foldl (fun s _ => s.grantOne) s else s

/-- A request reaches the cabinet: it is queued unless it is held or queued already. -/
def State.tokRequest (e : TokEntry) (s : State) : State :=
  if (s.frk.table ++ s.frk.queue).any (fun q => q.uid == e.uid && q.kind == e.kind) then s
  else (s.updFrk (fun f => { f with queue := f.queue ++ [e] })).grantAll

/-- A release at the cabinet: the token or the queued request goes, and the next request is granted (R496). -/
def State.tokFree (uid : Nat) (k : TokKind) (s : State) : State :=
  let keep := fun (q : TokEntry) => !(q.uid == uid && q.kind == k)
  let s := s.updFrk (fun f => { f with queue := f.queue.filter keep })
  if s.frk.table.all keep then s else ((s.tableSet (s.frk.table.filter keep))).grantAll

/-- The node gives a token or a queued request back to the cabinet: by REL, or in its own table (R497). -/
def State.tokGiveBack (k : TokKind) (s : State) : State :=
  if s.frkIs .cabinet then s.tokFree s.uid k
  else if s.frkLinked then s.frkSend .rel 0 (tokPayload s.uid k) else s

/-- SPM has cleared SPM_TOK.held (R304): a token of the ring is released by REL, a local one returns to the budget. -/
def State.spinReleased (s : State) : State :=
  match s.frk.tok.spin with
  | .none => s
  | .ring => ((s.updFrk (fun f => { f with tok := f.tok.set .spin .none })).raise 244).tokGiveBack .spin
  | .local => (s.updFrk (fun f => { f with tok := f.tok.set .spin .none })).raise 244

/-- Whether the local budget applies: strap 0b11, or SOLO (R500). -/
def State.localBudget (s : State) : Bool := s.rd R.JIG_STRAP_role == 3 || s.frkIs .solo

/-- FRK_TOK_STAT.local follows. -/
def State.localShow (s : State) : State := s.wrB R.FRK_TOK_STAT_local s.localBudget

/-- A queued request granted by the local budget: at once where its bit is 1, one spin token at a time (R500). -/
def State.localGrant (k : TokKind) (s : State) : State :=
  if s.localBudget && s.rdB (tokQ k) && s.rdB (tokLocal k) && s.frk.tok.get k == .none then s.tokTake k .local else s

/-- This node's request goes where it belongs: the local budget, its own table, or the cabinet. -/
def State.tokAsk (k : TokKind) (s : State) : State :=
  let s := s.wr (tokQ k) 1
  if s.localBudget then s.localGrant k
  else if s.frkIs .cabinet then s.tokRequest { uid := s.uid, kind := k, addr := s.frkAddr }
  else if s.frkIs .drawer then s.frkSend .req 0 (tokPayload s.uid k) else s

/-! ## Node state (R495) -/

/-- The node changes state, raising source 245. -/
def State.frkEnter (x : FrkSt) (s : State) : State := ((s.wr R.FRK_STAT_state x.code).localShow).raise 245

/-- The node goes to OFF: LEAVE and REL of held tokens if the link is up, bypass closed, tokens cleared (R495). -/
def State.frkOff (s : State) : State :=
  if s.frkIs .off then s
  else
    let s := if s.frkLinked && !s.frkIs .cabinet then
        let s := s.frkSend .leave 0 (leBytes 8 s.uid)
        s.forEach [TokKind.spin, TokKind.power] (fun k s => if s.frk.tok.get k == .ring then s.frkSend .rel 0 (tokPayload s.uid k) else s)
      else s
    let s := s.forEach [TokKind.spin, TokKind.power] (fun k s =>
      let s := s.wr (tokQ k) 0
      if s.frk.tok.get k == .none then s else s.tokDrop k)
    let s := ((s.wr R.FRK_STAT_bypass 0).wr R.FRK_STAT_in_lock 0).wr R.FRK_STAT_addr 0xFE
    let s := s.updFrk (fun f => { FrkState.init with out := f.out, seq := f.seq })
    (s.tableShow).frkEnter .off

/-! ## Events (R505) -/

/-- A committed event record is forwarded to the cabinet by a drawer where its severity is at least min_sev, at most rate
records per second; one over the rate is dropped and counted (R505). -/
def State.frkForwardEvent (sev : Nat) (bytes : List Byte) (s : State) : State :=
  if s.frkIs .drawer && decide (s.rd R.FRK_EVT_CFG_min_sev ≤ sev) && s.rdB R.FRK_EVT_CFG_rate then
    let sec := s.driveTime / 1000000000
    let n := if s.frk.sent.1 = sec then s.frk.sent.2 else 0
    if n < s.rd R.FRK_EVT_CFG_rate then
      (s.updFrk (fun f => { f with sent := (sec, n + 1) })).frkSendAcked .evt 0 (leBytes 8 s.uid ++ bytes)
    else s.frkCount R.FRK_CNT_evt_drop
  else s

end Sys2Proof.Machine
end

