-- ==== Sys2Proof/Machine/Events.lean ====
section
/-! DEFINITION. Posting of event records by every block (spec/19_calibration_records.md): commit to the always-on ring
(R522, R524), sequence comparison and the floor (R523), stores that fall behind (R525) and store failures (R530). -/
namespace Sys2Proof.Machine

/-- EVR's state beyond its registers updated. -/
def State.updEvr (f : EvrState → EvrState) (s : State) : State := { s with evr := f s.evr }

/-- (b − a) modulo 2^32 (R523). -/
def seqFrom (a b : Nat) : Nat := (b + 2 ^ 32 - a % 2 ^ 32) % 2 ^ 32

/-- a precedes b (R523). -/
def seqBefore (a b : Nat) : Bool := decide (1 ≤ seqFrom a b ∧ seqFrom a b < 2 ^ 31)

/-- The next sequence number. -/
def State.evrSeq (s : State) : Nat := s.rd R.EVR_SEQ_seq

/-- The pointer of a store (R525). -/
def evrNextF (k : Nat) : Field := if k < 2 then R.EVR_STORE_NEXT01_next.at k else R.EVR_STORE2_NEXT_next

/-- Whether a store has failed (R530). -/
def State.storeFailed (s : State) (k : Nat) : Bool := s.rdBit R.EVR_STAT_store_fail k

/-- The records that a store still has to take. -/
def State.evrPending (s : State) (k : Nat) : Nat := seqFrom (s.rd (evrNextF k)) s.evrSeq

/-- A counter of EVR_CNT raised; source 37 when it reaches saturation (R535). -/
def State.evrCount (f : Field) (n : Nat) (s : State) : State :=
  let t := s.inc f n
  t.when (t.rd f = 2 ^ f.w - 1 ∧ s.rd f ≠ 2 ^ f.w - 1) (State.raise 37)

/-- The list of slots with one slot's record replaced, slots rising. -/
def slotPut : List (Nat × EventRecord) → Nat → EventRecord → List (Nat × EventRecord)
  | [], q, v => [(q, v)]
  | (k, u) :: r, q, v =>
    if q < k then (q, v) :: (k, u) :: r else if q = k then (k, v) :: r else (k, u) :: slotPut r q v

/-- The record that the ring holds with a sequence number (R524). -/
def State.ringRecord (s : State) (n : Nat) : Option EventRecord :=
  (s.evr.ring.find? (fun e => e.1 == n % 1024 && e.2.seq == n)).map (·.2)

/-- The floor follows EVR_SEQ once it is 2^30 behind (R523). -/
def State.floorAdvance (s : State) : State :=
  s.when (2 ^ 30 ≤ seqFrom (s.rd R.EVR_CLR_FLOOR_floor) s.evrSeq)
    (State.wr R.EVR_CLR_FLOOR_floor ((s.evrSeq + 2 ^ 32 - 2 ^ 30) % 2 ^ 32))

/-- One record committed: it takes EVR_SEQ, Drive Time and the quality bits, enters the ring, raises source 33 where its
severity asks for it (R522), is told to the hosts from severity error up (R360), is forwarded on the Fretik ring (R505), and makes the media store
due at 64 pending (R528). -/
def State.evrCommit (code sev source : Nat) (byHw : Bool) (params : List Nat) (s : State) : State :=
  let r : EventRecord := ⟨code, sev, source, s.evrSeq, s.driveTime, s.timeQuality, byHw, params⟩
  let s := s.updEvr (fun e => { e with ring := slotPut e.ring (r.seq % 1024) r })
  let s := (s.wr R.EVR_SEQ_seq ((r.seq + 1) % 2 ^ 32)).floorAdvance
  let s := s.when (s.rd R.EVR_CFG_irq_sev ≤ sev) (State.raise 33)
  let s := s.when (4 ≤ sev) (State.asyncAll .vendor)
  let s := s.when (s.evrPending 2 = 64 ∧ s.storeFailed 2 = false) (State.raise 36)
  s.frkForwardEvent sev r.bytes

/-- A healthy store that is 1,024 or more behind: its pointer moves to EVR_SEQ − 1,023, the records skipped are counted, and
0xB003 and source 35 tell of them (R525). -/
def State.storeLag (k : Nat) (s : State) : State :=
  if !s.storeFailed k && decide (1024 ≤ s.evrPending k) then
    let first := s.rd (evrNextF k)
    let next := (s.evrSeq + 2 ^ 32 - 1023) % 2 ^ 32
    let s := (s.wr (evrNextF k) next).evrCount R.EVR_CNT_lost (seqFrom first next)
    (s.evrCommit 0xB003 4 4 true [k, first, (next + 2 ^ 32 - 1) % 2 ^ 32, 0, 0]).raise 35
  else s

/-- A record posted. Posts during EVR's soft reset are lost. The 0xB003 records that it makes EVR post do not themselves
make a store fall behind again until the next record (DEDUCED, assumption 16). -/
def State.evrPost (code sev source : Nat) (byHw : Bool) (params : List Nat) (s : State) : State :=
  if s.inSoftReset 4 then s
  else State.forEach (s.evrCommit code sev source byHw params) [0, 1, 2] State.storeLag

/-- A record posted by hardware with the source of its block. -/
def State.hwPost (code sev source : Nat) (params : List Nat) (s : State) : State := s.evrPost code sev source true params

/-- A record of an event that the spec says is logged without giving its code, severity or parameters: they are open. -/
def State.logOpen (source : Nat) (byHw : Bool) (s : State) : State :=
  let code := s.free.toNat % 65536
  let s := s.used
  let sev := s.free.toNat % 7
  let s := s.used
  let p := s.free.toNat
  s.used.evrPost code sev source byHw [p, p / 2 ^ 16, p / 2 ^ 32, p / 2 ^ 48, 0]

/-- EVR_STAT.in_use while EVR is enabled: the first healthy store of FLASH0, FLASH1 and media as R357 encodes it (R529). -/
def State.evrRefresh (s : State) : State :=
  s.wr R.EVR_STAT_in_use (if !s.rdB R.EVR_CTL_en then 0 else if !s.storeFailed 0 then 1 else if !s.storeFailed 1 then 2
    else if !s.storeFailed 2 then 3 else 0)

/-- The flash log of a device. -/
def EvrState.log (e : EvrState) (d : Nat) : LogFlash := if d = 0 then e.log0 else e.log1

/-- The flash log of a device updated. -/
def State.updLog (d : Nat) (f : LogFlash → LogFlash) (s : State) : State :=
  s.updEvr (fun e => if d = 0 then { e with log0 := f e.log0 } else { e with log1 := f e.log1 })

/-- The operation of a device's log replaced. -/
def State.setJob (d : Nat) (j : Option FlashJob) (s : State) : State := s.updLog d (fun l => { l with job := j })

/-- Store k fails (R530): its bit sets, it is written no more, 0xB001 is posted and source 32 raised. The cause and the form
in which the healthy stores are told are open. -/
def State.storeFail (k offset : Nat) (s : State) : State :=
  let s := (s.wrBit R.EVR_STAT_store_fail k true).evrCount R.EVR_CNT_fail 1
  let s := (s.when (k < 2) (State.setJob k none)).evrRefresh
  let sev := if s.rd R.EVR_STAT_store_fail = 7 then 6 else if s.storeFailed 0 && s.storeFailed 1 then 5 else 4
  let cause := s.free.toNat
  let left := s.used.free.toNat
  (s.used.used.hwPost 0xB001 sev 4 [k, cause, offset, left, 0]).raise 32

end Sys2Proof.Machine
end

