-- ==== Sys2Proof/Machine/JigFx.lean ====
section
/-! DEFINITION. The Jig image as bytes (R51 to R53), the flash copies and boot records (R58, R59), and JIG's reaction to an
uncorrectable error inside the golden region (R70). -/
namespace Sys2Proof.Machine

/-! ## Image bytes (R51) -/

/-- Where image bytes come from: an offset and a count give the bytes. -/
abbrev ImgSrc := Nat → Nat → List Byte

/-- A list of bytes as an image. -/
def imgOfList (l : List Byte) : ImgSrc := fun o n => (l.drop o).take n

/-- A golden slot as an image. -/
def State.imgOfSlot (s : State) (slot : Nat) : ImgSrc := fun o n => memReadBytes s.dram (s.goldSlot slot + o) n

/-- A little-endian header field. -/
def imgLe (g : ImgSrc) (o n : Nat) : Nat := leValue (g o n)

/-- magic: 4A 49 47 31. -/
def imgMagic (g : ImgSrc) : Bool := imgLe g 0 4 == 0x3147494A

/-- img_size. -/
def imgSize (g : ImgSrc) : Nat := imgLe g 8 4

/-- key_slot. -/
def imgKeySlot (g : ImgSrc) : Nat := imgLe g 0xF 1

/-- sec_ver. -/
def imgSecVer (g : ImgSrc) : Nat := imgLe g 0x10 4

/-- generation. -/
def imgGeneration (g : ImgSrc) : Nat := imgLe g 0x14 4

/-- layout_ver. -/
def imgLayout (g : ImgSrc) : Nat := imgLe g 0x18 4

/-- An entry of the section table. -/
structure Sec where
  type : Nat
  off : Nat
  len : Nat
  digest : List Byte
  deriving DecidableEq, Repr

/-- Entry i of the section table. -/
def imgSec (g : ImgSrc) (i : Nat) : Sec :=
  let o := 0x40 + 64 * i
  ⟨imgLe g o 2, imgLe g (o + 4) 4, imgLe g (o + 8) 4, g (o + 16) 48⟩

/-- The sections of an image: sect_count entries, at most 48. -/
def imgSecs (g : ImgSrc) : List Sec := (List.range (min 48 (imgLe g 0x1C 4))).map (imgSec g)

/-- The section of a type. -/
def imgFind (g : ImgSrc) (t : Nat) : Option Sec := (imgSecs g).find? (fun x => x.type == t)

/-- The SHA-384 digest of bytes, as an image stores it. -/
def digestBytes (l : List Byte) : List Byte := leBytes 48 (Config.sha384 l).toNat

/-- Whether a section's digest matches its bytes. -/
def secOk (g : ImgSrc) (x : Sec) : Bool := x.digest == digestBytes (g x.off x.len)

/-- The section types of R52. -/
def secTypes : List Nat :=
  [0x01, 0x02, 0x10, 0x11, 0x12, 0x13, 0x20, 0x21, 0x22, 0x23, 0x30, 0x40, 0x50, 0x51]

/-- The types that an image must hold (R52). -/
def secRequired : List Nat := [0x01, 0x02, 0x10, 0x11, 0x12, 0x13, 0x20, 0x21, 0x22, 0x23, 0x30, 0x40]

/-! ## Acceptance (R53) -/

/-- The key hash that a key_slot selects in the life-cycle state (R72): the provisioning key in BLANK and MANUFACTURE, a
programmed slot that is not revoked everywhere but in BLANK. -/
def State.keyHashOf (s : State) (slot : Nat) : Option (BitVec 384) :=
  if slot = 0xFF then (if s.lc = .blank ∨ s.lc = .manufacture then some Config.provisioningHash else none)
  else if h : slot < 4 then
    let k := s.fuses.slots[slot]
    if s.lc ≠ .blank ∧ k.programmed = true ∧ k.revoked = false then some k.hash else none
  else none

/-- Check 1 of R53, with the size that fits a golden slot. -/
def State.imgHeaderOk (s : State) (g : ImgSrc) : Bool :=
  imgMagic g && imgLe g 4 2 == 1 && imgLe g 6 2 == 4096 && imgLe g 0xC 2 == 0x4410
    && decide (imgLe g 0xE 1 ≤ s.rd R.SYS_ID_rev) && decide (imgSize g + 4096 ≤ goldSlotBytes)

/-- Checks 2 and 3: the public key matches the selected hash, and the signature verifies. -/
def State.imgSigned (s : State) (g : ImgSrc) : Bool :=
  let key := g (imgSize g) 97
  s.keyHashOf (imgKeySlot g) == some (Config.sha384 key)
    && Config.ecdsaOk key (Config.sha384 (g 0 (imgSize g))) (g (imgSize g + 128) 96)

/-- Check 5: every digest matches, and R52 holds. -/
def imgSectionsOk (g : ImgSrc) : Bool :=
  let l := imgSecs g
  let ts := l.map (·.type)
  l.all (secOk g) && ts.all secTypes.contains && secRequired.all ts.contains && ts.eraseDups.length == ts.length

/-- An image accepted (R53). -/
def State.imgOk (s : State) (g : ImgSrc) : Bool :=
  s.imgHeaderOk g && s.imgSigned g && decide (s.rd R.JIG_RBK_STAT_floor ≤ imgSecVer g) && imgSectionsOk g

/-! ## Flash (R58 to R60) -/

/-- A flash device: FLASH0 holds copy A, FLASH1 copy B. -/
def State.flashDev (s : State) (d : Nat) : FlashDev := if d = 0 then s.flash.dev0 else s.flash.dev1

/-- A flash device updated. -/
def State.updFlash (d : Nat) (f : FlashDev → FlashDev) (s : State) : State :=
  { s with flash := if d = 0 then { s.flash with dev0 := f s.flash.dev0 } else { s.flash with dev1 := f s.flash.dev1 } }

/-- A valid boot record: magic 4A 42 52 31, and a matching CRC (R59). -/
def recordValid (r : Option BootRecord) : Option BootRecord := r.filter (fun r => r.magic == 0x3152424A && r.crcOk)

/-- The governing record of two (R59). -/
def governing (a b : Option BootRecord) : Option BootRecord :=
  match recordValid a, recordValid b with
  | some x, some y => if x.seq < y.seq then some y else some x
  | some x, none => some x
  | none, r => r

/-- The preferred copy: A where no record governs. -/
def preferredOf (a b : Option BootRecord) : Nat := ((governing a b).map (·.preferred)).getD 0

/-- The preferred copy as the flash devices hold it now. -/
def State.preferred (s : State) : Nat := preferredOf s.flash.dev0.record s.flash.dev1.record

/-- The boot record that prefers a copy written in both devices, one above the governing sequence number (R60). -/
def State.writeRecord (copy : Nat) (s : State) : State :=
  let n := ((governing s.flash.dev0.record s.flash.dev1.record).map (·.seq)).getD 0
  let r : BootRecord := ⟨0x3152424A, (n + 1) % 2 ^ 32, copy, true⟩
  (s.updFlash 0 (fun d => { d with record := some r })).updFlash 1 (fun d => { d with record := some r })

/-! ## JIG -/

/-- JIG's state beyond its registers updated. -/
def State.updJig (f : JigState → JigState) (s : State) : State := { s with jig := f s.jig }

/-- JIG_STAT.busy follows the fuse program, load or swap in progress. -/
def State.jigBusy (s : State) : State :=
  s.wrB R.JIG_STAT_busy (s.jig.fuseOp.isSome || s.jig.load.isSome || s.jig.swap.isSome)

/-- The golden slot that holds an address. -/
def State.slotAt (s : State) (a : Nat) : Nat := if touches a 1 (s.goldSlot 0) goldSlotBytes then 0 else 1

/-- The half of the region that is a slot. -/
def State.halfOf (s : State) (slot : Nat) : Nat := if s.rd R.JIG_GOLD_BASE_half = slot then 0 else 1

/-- The section of a slot whose bytes hold an address. -/
def State.secAt (s : State) (a : Nat) : Option Sec :=
  let slot := s.slotAt a
  (imgSecs (s.imgOfSlot slot)).find? (fun x => touches a 1 (s.goldSlot slot + x.off) x.len)

/-- An uncorrectable error inside the golden region: gold_ok clears, and the affected section waits for its repair (R70). -/
def State.jigDamage (a : Nat) (s : State) : State :=
  if !s.inGold a then s
  else
    let t := if s.rdB R.JIG_STAT_gold_ok then (s.wr R.JIG_STAT_gold_ok 0).raise 9 else s
    match s.secAt a with
    | some x => t.updJig (fun j => { j with repair := j.repair ++ [(s.halfOf (s.slotAt a), x.type)] })
    | none => t

end Sys2Proof.Machine
end

