-- ==== Sys2Proof/Machine/Fmt.lean ====
section
/-! DEFINITION. Positions on the media and in DRAM that the formatter, the channels and PAR share: lanes of the
sequencers, the sector positions of R226 and R95, the buffer addresses of R213 and band roles (R100, R312). -/
namespace Sys2Proof.Machine

/-! ## Channels, lanes and heads -/

/-- The lane that a channel serves in its sequencer (R210). -/
def chLane (ch : Fin 8) : Fin 4 := ⟨ch.val % 4, Nat.mod_lt _ (by decide)⟩

/-- The channel of a lane of a sequencer (R210). -/
def laneCh (x : Act) (l : Fin 4) : Fin 8 := ⟨4 * x.idx + l.val, by cases x <;> simp [Act.idx] <;> omega⟩

/-- The actuator of a channel (R140). -/
def chAct (ch : Fin 8) : Act := chanAct ch.val

/-- The four lanes. -/
def lanes4 : List (Fin 4) := [0, 1, 2, 3]

/-- The eight channels. -/
def chans8 : List (Fin 8) := [0, 1, 2, 3, 4, 5, 6, 7]

/-- The channels of an actuator. -/
def actChans (x : Act) : List (Fin 8) := lanes4.map (laneCh x)

/-- A sequencer's state updated. -/
def State.updMsq (x : Act) (f : MsqState → MsqState) (s : State) : State :=
  { s with msq := s.msq.set x (f (s.msq.get x)) }

/-- A read channel's state updated. -/
def State.updRch (ch : Fin 8) (f : RchState → RchState) (s : State) : State := { s with rch := updV s.rch ch f }

/-- A write channel's state updated. -/
def State.updWch (ch : Fin 8) (f : WchState → WchState) (s : State) : State := { s with wch := updV s.wch ch f }

/-- A lane's formatter updated. -/
def State.updLane (x : Act) (l : Fin 4) (f : LaneFmt → LaneFmt) (s : State) : State :=
  s.updMsq x (fun m => { m with lanes := updV m.lanes l f })

/-- The formatter of a lane. -/
def State.lane (s : State) (x : Act) (l : Fin 4) : LaneFmt := (s.msq.get x).lanes[l]

/-- The lanes named in the mask of the descriptor in progress. -/
def State.opLanes (s : State) (x : Act) : List (Fin 4) :=
  match (s.msq.get x).desc with
  | some d => lanes4.filter (fun l => bitAt d.mask l.val)
  | none => []

/-- The lane record of a lane of the descriptor in progress. -/
def State.laneRec (s : State) (x : Act) (l : Fin 4) : Option LaneRec :=
  match (s.msq.get x).desc with
  | some d => if bitAt d.mask l.val then some d.lanes[l] else none
  | none => none

/-- The lane record that a channel serves. -/
def State.chRec (s : State) (ch : Fin 8) : Option LaneRec := s.laneRec (chAct ch) (chLane ch)

/-- The effective head of a channel. -/
def State.chHead (s : State) (ch : Fin 8) : Nat := s.rd (R.GCK_CH_SEL_head.at ch.val)

/-- The effective ratio index of a channel. -/
def State.chRatio (s : State) (ch : Fin 8) : Nat := s.rd (R.GCK_CH_SEL_annulus.at ch.val)

/-- Whether the selection of a channel is self-timed. -/
def State.chSelf (s : State) (ch : Fin 8) : Bool := s.rdB (R.GCK_CH_SEL_self.at ch.val)

/-! ## Formatter positions (R226) -/

/-- Sectors per track of a ratio index, as MSQ_FMT gives it. -/
def State.fmtS (s : State) (x : Act) (a : Nat) : Nat := s.rd ((R.MSQ_FMT_W0_s.inst x.idx).at a)

/-- Span cells of a ratio index. -/
def State.fmtSpan (s : State) (x : Act) (a : Nat) : Nat := s.rd ((R.MSQ_FMT_W0_span_cells.inst x.idx).at a)

/-- Wedges per revolution as the sequencer of an actuator holds them. -/
def State.wedges (s : State) (x : Act) : Nat := s.rd (R.MSQ_GEO_w.inst x.idx)

/-- The sector index of lane sector k. -/
def State.secIdx (s : State) (x : Act) (r : LaneRec) (k : Nat) : Nat := (r.sector + k) % s.fmtS x r.ratio

/-- The track of lane sector k. -/
def State.secTrack (s : State) (x : Act) (r : LaneRec) (k : Nat) : Nat :=
  r.track + (if 64 ≤ r.ratio then 2 else 1) * ((r.sector + k) / s.fmtS x r.ratio)

/-- The start wedge of the track of lane sector k. -/
def State.secW0 (s : State) (x : Act) (r : LaneRec) (k : Nat) : Nat :=
  if 64 ≤ r.ratio then 0
  else ((r.b0 + k) / s.fmtS x r.ratio * s.rd ((R.MSQ_FMT_W1_skew.inst x.idx).at r.ratio)) % s.wedges x

/-- The cells of a sector: 37,040, or 37,280 in the format of R109. -/
def State.secCells (s : State) (x : Act) (a : Nat) : Nat :=
  if s.rdB ((R.MSQ_FMT_W1_sys.inst x.idx).at a) then 37280 else 37040

/-- The cells of a span that sectors use: all of them, or all but the resume field of R109. -/
def State.dataCells (s : State) (x : Act) (a : Nat) : Nat :=
  if s.rdB ((R.MSQ_FMT_W1_sys.inst x.idx).at a) then s.fmtSpan x a - 144 else s.fmtSpan x a

/-- The wedge in whose span lane sector k starts, and its first cell there (R95, R109). -/
def State.secStart (s : State) (x : Act) (r : LaneRec) (k : Nat) : Nat × Nat :=
  let c := s.secIdx x r k * s.secCells x r.ratio
  let d := s.dataCells x r.ratio
  let pad := s.fmtSpan x r.ratio - d
  ((s.secW0 x r k + c / d) % s.wedges x, c % d + pad)

/-- The band sector of lane sector k, or the sector index on strip tracks (R199). -/
def State.secName (s : State) (x : Act) (r : LaneRec) (k : Nat) : Nat :=
  if 64 ≤ r.ratio then s.secIdx x r k else r.b0 + k

/-- The metadata index of lane sector k (R213). -/
def LaneRec.index (r : LaneRec) (k : Nat) : Nat :=
  if r.stripe then r.idx0 + k + 64 * ((r.b0 % 64 + k) / 64) else r.idx0 + k

/-- The DRAM address of the user data of lane sector k (R213). -/
def LaneRec.dataAddr (r : LaneRec) (k : Nat) : Nat := r.data * 4096 + 4096 * k

/-- The DRAM address of the metadata of lane sector k (R213). -/
def LaneRec.metaAddr (r : LaneRec) (k : Nat) : Nat := r.metaBase * 16 + 16 * k

/-! ## Band roles (R100, R312) -/

/-- The usable slot of a band pointer table index. -/
def State.bptSlot (s : State) (idx : Nat) : Nat := idx / (2 * s.rd R.PAR_GEO_n)

/-- The logical band of a band pointer table index. -/
def State.bptBand (s : State) (idx : Nat) : Nat := idx % (2 * s.rd R.PAR_GEO_n)

/-- The role of local surface u in slot group sl of n bands (R100). -/
def bandRole (n sl u : Nat) : BandRole :=
  if u = sl % n then .p else if u = (sl + n / 2) % n then .q
  else .data (((List.range u).filter (fun v => v != sl % n && v != (sl + n / 2) % n)).length)

/-- The role of the band of a lane. -/
def State.laneRole (s : State) (r : LaneRec) : BandRole :=
  bandRole (s.rd R.PAR_GEO_n) (s.bptSlot r.bpt) (s.bptBand r.bpt % s.rd R.PAR_GEO_n)

/-- Whether a lane's sectors carry no guard: those of a parity band (R94, R149). -/
def State.laneParity (s : State) (r : LaneRec) : Bool :=
  r.band && decide (r.ratio < 64) && (match s.laneRole r with
    | .data _ => false
    | _ => true)

/-! ## DRAM as the engines use it -/

/-- n bytes of DRAM from an address. -/
def State.dramGet (s : State) (a n : Nat) : List Byte := memReadBytes s.dram a n

/-- A little-endian value in DRAM. -/
def State.dramLe (s : State) (a n : Nat) : Nat := memReadLe s.dram a n

/-- Bytes XORed into DRAM from an address. -/
def State.dramXor (a : Nat) (bs : List Byte) (s : State) : State :=
  s.dramPut a (List.zipWith (· ^^^ ·) bs (s.dramGet a bs.length))

/-- A sector's guard matches its user bytes (R92). -/
def guardMatches (info : List Byte) : Bool :=
  leValue ((info.drop 4096).take 8) == (Config.guard64 (info.take 4096)).toNat

end Sys2Proof.Machine
end

