-- ==== Sys2Proof/Machine/ParFx.lean ====
section
/-! DEFINITION. Slot-group parity as the channels and the ladder use it (spec/11_slot_parity.md): the code of R308, the
accumulator addresses of R310, the adds of R313 and R314, and PAR_ERR. -/
namespace Sys2Proof.Machine

/-! ## The code (R308) -/

/-- One step of α: multiplication by 0x02 in the field of x^8 + x^4 + x^3 + x^2 + 1. -/
def gfDouble (x : Byte) : Byte := if 128 ≤ x.toNat then (x <<< 1) ^^^ 0x1D else x <<< 1

/-- α^j · x. -/
def gfAlpha : Nat → Byte → Byte
  | 0, x => x
  | j + 1, x => gfDouble (gfAlpha j x)

/-- x · y, over the low n bits of y. -/
def gfMulGo (x : Byte) (y : Nat) : Nat → Byte
  | 0 => 0
  | n + 1 => gfMulGo x y n ^^^ (if bitAt y n then gfAlpha n x else 0)

/-- x · y. -/
def gfMul (x y : Byte) : Byte := gfMulGo x y.toNat 8

/-- x^n. -/
def gfPow (x : Byte) : Nat → Byte
  | 0 => 1
  | n + 1 => gfMul x (gfPow x n)

/-- The inverse of x, which is x^254. -/
def gfInv (x : Byte) : Byte := gfPow x 254

/-- Exclusive or of two byte strings. -/
def xorBytes (a b : List Byte) : List Byte := List.zipWith (· ^^^ ·) a b

/-! ## Accumulators (R310, R311) -/

/-- The codes of PAR_ACCk_STAT.state. -/
inductive AccSt where
  | free | attached | rebuilding | sealing | checking | damaged
  deriving DecidableEq, Repr

/-- The encoding of PAR_ACCk_STAT.state. -/
def AccSt.code : AccSt → Nat
  | .free => 0
  | .attached => 1
  | .rebuilding => 2
  | .sealing => 3
  | .checking => 4
  | .damaged => 5

/-- Whether an accumulator is in a state. -/
def State.accIs (s : State) (k : Fin 8) (x : AccSt) : Bool := s.rd (R.PAR_ACC_STAT_state.at k.val) == x.code

/-- The attachment record in the system area names the groups whose accumulator is ATTACHED or REBUILDING (R319). -/
def State.attachRecord (s : State) : State :=
  let l := (chans8.filter (fun k => s.accIs k .attached || s.accIs k .rebuilding)).map
    (fun k => (s.rd (R.PAR_ACC_CTL_act.at k.val), s.rd (R.PAR_ACC_CTL_slot.at k.val)))
  s.updHost (fun h => { h with attached := l })

/-- The user bytes of band sector b in the P part. -/
def State.accP (s : State) (k : Fin 8) (b : Nat) : Nat :=
  s.rd R.PAR_ACC_BASE_base * 0x10000000 + 0x10000000 * k.val + 4096 * b

/-- The user bytes of band sector b in the Q part. -/
def State.accQ (s : State) (k : Fin 8) (b : Nat) : Nat := s.accP k b + 0x8000000

/-- The metadata bytes of band sector b in the P part. -/
def State.accPm (s : State) (k : Fin 8) (b : Nat) : Nat :=
  s.rd R.PAR_ACC_MBASE_base * 4096 + 0x100000 * k.val + 16 * b

/-- The metadata bytes of band sector b in the Q part. -/
def State.accQm (s : State) (k : Fin 8) (b : Nat) : Nat := s.accPm k b + 0x80000

/-- The high-water mark. -/
def State.accHw (s : State) (k : Fin 8) : Nat := s.rd (R.PAR_ACC_STAT_hw.at k.val)

/-- Accumulator sectors from hw up to b − 1, and b itself, become zero, and hw becomes b + 1, where b is at or beyond hw
(R313, R309). -/
def State.accGrow (k : Fin 8) (b : Nat) (s : State) : State :=
  let hw := s.accHw k
  if b < hw then s
  else
    let n := b + 1 - hw
    ((((s.dramClear (s.accP k hw) (4096 * n)).dramClear (s.accQ k hw) (4096 * n)).dramClear (s.accPm k hw)
      (16 * n)).dramClear (s.accQm k hw) (16 * n)).wr (R.PAR_ACC_STAT_hw.at k.val) (b + 1)

/-- Information bytes XORed into the P or Q part of band sector b. -/
def State.accXorP (k : Fin 8) (b : Nat) (info : List Byte) (s : State) : State :=
  (s.dramXor (s.accP k b) (info.take 4096)).dramXor (s.accPm k b) ((info.drop 4096).take 16)

/-- Information bytes XORed into the Q part of band sector b. -/
def State.accXorQ (k : Fin 8) (b : Nat) (info : List Byte) (s : State) : State :=
  (s.dramXor (s.accQ k b) (info.take 4096)).dramXor (s.accQm k b) ((info.drop 4096).take 16)

/-- A counter of PAR raised by one; source offset 6 when it reaches saturation (R329). -/
def State.parCount (f : Field) (s : State) : State :=
  let t := s.inc f 1
  t.when (t.rd f = 2 ^ f.w - 1 ∧ s.rd f ≠ 2 ^ f.w - 1) (State.raise 206)

/-- PAR_ERR captures the first error while valid is 0 and otherwise sets overflow (R312, as R50); source offset 6. -/
def State.parErr (cause acc index : Nat) (s : State) : State :=
  if s.rdB R.PAR_ERR_valid then s.wr R.PAR_ERR_overflow 1
  else (((s.wr R.PAR_ERR_cause cause).wr R.PAR_ERR_acc acc).wr R.PAR_ERR_index index).setStatus R.PAR_ERR_valid 1 206

/-- The accumulator whose areas hold a DRAM address (R310). -/
def State.accAt (s : State) (a : Nat) : Option (Fin 8) :=
  chans8.find? (fun k => decide (s.accP k 0 ≤ a ∧ a < s.accP k 0 + 0x10000000)
    || decide (s.accPm k 0 ≤ a ∧ a < s.accPm k 0 + 0x100000))

/-- An uncorrectable DRAM error inside an accumulator: DAMAGED, source offset 4, cause DRAM_UE (R311, R320). -/
def State.parDamage (a : Nat) (s : State) : State :=
  match s.accAt a with
  | none => s
  | some k =>
    if s.accIs k .attached || s.accIs k .rebuilding || s.accIs k .sealing || s.accIs k .checking then
      let s := (s.smartRise 2 (s.host.damaged || s.rdB R.PAR_RET_ret) true).updHost (fun h => { h with damaged := true })
      let s := (s.wr (R.PAR_ACC_STAT_state.at k.val) AccSt.damaged.code).wr (R.PAR_ACC_STAT_scan_busy.at k.val) 0
      ((s.raise 204).parCount R.PAR_CNT_MISC_dram_ue).parErr 2 k.val 0
    else s

/-- Whether the part of a role holds a poisoned word in band sector b (R437). -/
def State.accPoison (s : State) (k : Fin 8) (role : BandRole) (b : Nat) : Bool :=
  let inP := s.poisonIn (s.accP k b) 4096 || s.poisonIn (s.accPm k b) 16
  let inQ := s.poisonIn (s.accQ k b) 4096 || s.poisonIn (s.accQm k b) 16
  match role with
  | .data _ => inP || inQ
  | .p => inP
  | .q => inQ

/-- A data sector added to band sector b of data band j (R313). A DAMAGED accumulator discards adds (R311), and an add
that meets poison makes it DAMAGED (R437). -/
def State.accAdd (k : Fin 8) (role : BandRole) (b : Nat) (info : List Byte) (s : State) : State :=
  if s.accIs k .damaged then s
  else
    let s := s.accGrow k b
    if s.accPoison k role b then s.parDamage (s.accP k b) else
    let s := s.parCount R.PAR_CNT_ADD_count
    match role with
    | .data j => (s.accXorP k b info).accXorQ k b (info.map (gfAlpha j))
    | .p => s.accXorP k b info
    | .q => s.accXorQ k b info

/-- A bound write lane of a data band adds its completed sector (R313). -/
def State.parWriteAdd (ch : Fin 8) (b : Nat) (info : List Byte) (s : State) : State :=
  match s.par.bind[ch] with
  | some x => match x.role with
    | .data _ => if x.write && !x.source then s.accAdd x.acc x.role b info else s
    | _ => s
  | none => s

/-- A bound read lane adds a delivered sector (R314). -/
def State.parReadAdd (ch : Fin 8) (b : Nat) (info : List Byte) (s : State) : State :=
  match s.par.bind[ch] with
  | some x => if x.write then s else s.accAdd x.acc x.role b info
  | none => s

/-- The information bytes of band sector b that a SOURCE lane takes (R315): P or Q with the metadata bytes. Sectors at or
beyond hw read as zero (R309). -/
def State.accSource (s : State) (x : Binding) (b : Nat) : List Byte :=
  if s.accHw x.acc ≤ b then List.replicate 4112 0
  else match x.role with
    | .q => s.dramGet (s.accQ x.acc b) 4096 ++ s.dramGet (s.accQm x.acc b) 16
    | _ => s.dramGet (s.accP x.acc b) 4096 ++ s.dramGet (s.accPm x.acc b) 16

/-- The lanes bound to an accumulator. -/
def State.accLanes (s : State) (k : Fin 8) : Nat :=
  (chans8.filter (fun c => match s.par.bind[c] with
    | some x => x.acc == k
    | none => false)).length

/-- PAR_ACCk_STAT.lanes and PAR_STAT.bound follow the bindings. -/
def State.parRefresh (s : State) : State :=
  let t := s.forEach chans8 (fun k t => t.wr (R.PAR_ACC_STAT_lanes.at k.val) (s.accLanes k))
  t.wr R.PAR_STAT_bound (maskOf ((chans8.filter (fun k => decide (0 < s.accLanes k))).map (·.val)))

/-- The bindings of an actuator's channels are released (R312). -/
def State.parUnbind (x : Act) (s : State) : State :=
  State.parRefresh { s with par := { s.par with bind := (actChans x).foldl (fun v c => updV v c (fun _ => none)) s.par.bind } }

/-- A sector sourced to a lane is counted; once hw sectors have gone to each parity lane, source offset 0 (R329). -/
def State.parSourced (x : Binding) (s : State) : State :=
  let bump : Nat × Nat → Nat × Nat := fun p => match x.role with
    | .q => (p.1, p.2 + 1)
    | _ => (p.1 + 1, p.2)
  let s := { s with par := { s.par with sourced := updV s.par.sourced x.acc bump } }
  let s := s.parCount R.PAR_CNT_SRC_count
  let hasLane : BandRole → Bool := fun r => chans8.any (fun c => match s.par.bind[c] with
    | some y => y.acc == x.acc && decide (y.role = r)
    | none => false)
  let n := s.par.sourced[x.acc]
  let hw := s.accHw x.acc
  s.when ((!hasLane .p || decide (hw ≤ n.1)) && (!hasLane .q || decide (hw ≤ n.2))) (State.raise 200)

end Sys2Proof.Machine
end

