-- ==== Sys2Proof/Machine/DrcFx.lean ====
section
/-! DEFINITION. The DRAM controller (spec/15_buffer_memory.md): the interleave of R439, errors and their reports (R435, R437,
R438), the words that DRAM itself holds beneath BUF, and retraining (R445). -/
namespace Sys2Proof.Machine

/-! ## The in-line layout (R439) -/

/-- The channel of a usable address. -/
def drcChannel (a : Nat) : Nat := a / 256 % 4

/-- The channel-local usable address. -/
def drcLocal (a : Nat) : Nat := a / 1024 * 256 + a % 256

/-- The device address of the data. -/
def drcDev (a : Nat) : Nat := drcLocal a / 7168 * 8192 + drcLocal a % 7168

/-- The device address of the check slot. -/
def drcChk (a : Nat) : Nat := drcLocal a / 7168 * 8192 + 7168 + 4 * (drcLocal a % 7168 / 32)

/-! ## Errors -/

/-- Who met an error, as DRC_ERR.source encodes it. -/
inductive DrcSrc where
  | buf | l2 | scrub
  deriving DecidableEq, Repr

/-- The encoding of DRC_ERR.source. -/
def DrcSrc.code : DrcSrc → Nat
  | .buf => 0
  | .l2 => 1
  | .scrub => 2

/-- A counter of DRC raised; source 241 when it reaches saturation (R447). -/
def State.drcCount (f : Field) (s : State) : State :=
  let t := s.inc f 1
  t.when (t.rd f = 2 ^ f.w - 1 ∧ s.rd f ≠ 2 ^ f.w - 1) (State.raise 241)

/-- An uncorrectable error in the word at an address: counted, captured in DRC_ERR or its overflow (R50), and reported to
JIG and to PAR (R438). -/
def State.drcUe (cause : Nat) (src : DrcSrc) (a : Nat) (s : State) : State :=
  let s := s.drcCount R.DRC_CNT_UE_ue
  let s := if s.rdB R.DRC_ERR_valid then s.setStatus R.DRC_ERR_overflow 1 241
    else (((s.wr R.DRC_ERR_cause cause).wr R.DRC_ERR_source src.code).wr64 R.DRC_ERR_ADDR_addr a).setStatus
      R.DRC_ERR_valid 1 240
  (s.jigDamage a).parDamage a

/-- The number of flipped bits in a word. -/
def State.flipsOf (s : State) (w : Nat) : Nat := ((s.drc.flips.find? (fun e => e.1 == w)).map (·.2)).getD 0

/-- The flipped bits of a word replaced. -/
def State.setFlips (w n : Nat) (s : State) : State :=
  s.updDrc (fun d => { d with flips := (if n = 0 then [] else [(w, n)]) ++ d.flips.filter (fun e => e.1 != w) })

/-- What a read of word w meets: bits that DRC_INJ flipped, one or two of them corrected and three uncorrectable (R434), or
the error the read brings. -/
def State.drcMeets (s : State) (w : Nat) (err : DramErr) : DramErr :=
  match err with
  | .none => if s.flipsOf w = 0 then .none else if s.flipsOf w < 3 then .corrected else .uncorrectable
  | e => e

/-- A read of word w under R435, R437 and R438: a corrected word is rewritten; a word found uncorrectable by a request is
poisoned, by the scrub not (R441); a read of a poisoned word is counted and captures nothing. -/
def State.drcRead (src : DrcSrc) (w : Nat) (err : DramErr) (s : State) : State :=
  if s.drc.poison.contains w then s.drcCount R.DRC_CNT_UE_poison
  else
    match s.drcMeets w err with
    | .none => s
    | .corrected => (s.setFlips w 0).drcCount R.DRC_CNT_CE_count
    | .uncorrectable => (s.when (src ≠ .scrub) (State.poisonWord (32 * w))).drcUe 1 src (32 * w)
    | .slot => (s.when (src ≠ .scrub) (State.poisonWord (32 * w))).drcUe 2 src (32 * w)
    | .path => (s.when (src ≠ .scrub) (State.poisonWord (32 * w))).drcUe 3 src (32 * w)

/-! ## The words that DRAM itself holds -/

/-- The 128 bytes of a line as DRAM holds them, beneath what BUF holds. -/
def State.rawLine (s : State) (l : Nat) : List Byte :=
  match s.cached l, s.victim l with
  | some e, _ => if e.behind.isEmpty then s.lineBytes l else e.behind
  | none, some v => v.behind
  | none, none => s.lineBytes l

/-- The 32 bytes of a word as DRAM holds them. -/
def State.rawWord (s : State) (w : Nat) : List Byte := ((s.rawLine (w / 4)).drop (32 * (w % 4))).take 32

/-- The bytes of a word after a write of the bytes that a mask selects. -/
def maskedWord (old : List Byte) (mask : BitVec 32) (new : List Byte) : List Byte :=
  (List.range 32).map (fun i => if bitAt mask.toNat i then new.getD i 0 else old.getD i 0)

/-- A word written in DRAM itself: beneath a line that BUF holds, the bytes that BUF serves stay as they are (R41). -/
def State.rawPut (w : Nat) (bs : List Byte) (s : State) : State :=
  let l := w / 4
  let line := (s.rawLine l).take (32 * (w % 4)) ++ bs ++ (s.rawLine l).drop (32 * (w % 4) + 32)
  match s.cached l, s.victim l with
  | some e, _ => s.setLines (s.buf.lines.map (fun x => if x = e then ⟨x.set, x.way, x.tag, x.dirty, line, x.under, x.by_⟩ else x))
  | none, some v => s.setVictims (s.buf.victims.map (fun x => if x = v then ⟨x.line, line, x.under, x.started, x.by_⟩ else x))
  | none, none => { s with dram := memWriteBytes s.dram (32 * w) bs }

/-! ## Service -/

/-- Whether DRC serves requests to a channel: enabled, trained, and not at boundary scan (R443, R544). -/
def State.drcServes (s : State) (c : Nat) : Bool :=
  s.rdB R.DRC_CTL_en && !s.rdB R.DRC_CTL_srst && s.rdBit R.DRC_STAT_ready c && !s.rdBit R.BST_BSCAN_groups 3

/-- A retrain pass over the channels in service starts, one channel at a time (R445). -/
def State.retrainPass (s : State) : State :=
  s.updDrc (fun d => { d with retrain := if d.retrain.isEmpty then bitsOf (s.rd R.DRC_STAT_ready) 4 else d.retrain })

end Sys2Proof.Machine
end

