-- ==== Sys2Proof/Machine/Drc.lean ====
section
/-! DEFINITION. DRC's commands (spec/15_buffer_memory.md). -/
namespace Sys2Proof.Machine

/-- The bits that DRC_INJ flips in a write of a word, which clears arm. -/
def State.drcInject (w : Nat) (s : State) : State :=
  if s.rdB R.DRC_INJ_arm && s.rd R.DRC_INJ_word == w then (s.wr R.DRC_INJ_arm 0).setFlips w (s.rd R.DRC_INJ_nbits)
  else s.setFlips w 0

/-- A write of a word: a partial one reads the word to merge with it and leaves poison as it is, a whole one clears the
poison (R437). From the level-2 cache it comes from a core, whose write to a locked golden slot is dropped (R68). -/
def State.drcWrite (l2 : Bool) (w : Nat) (mask : BitVec 32) (bytes : List Byte) (err : DramErr) (s : State) : State :=
  if l2 && s.goldForbids .outside (32 * w) 32 then s.goldRefused 1
  else
    let whole := mask == BitVec.allOnes 32
    let s := if whole then s.updDrc (fun d => { d with poison := d.poison.filter (· != w) })
      else s.drcRead (if l2 then .l2 else .buf) w err
    (s.rawPut w (maskedWord (s.rawWord w) mask bytes)).drcInject w

/-- R424: a request to a DRAM word from BUF or from the level-2 cache; it waits, without effect, while DRC does not serve its
channel. A word beyond usable DRAM is unmapped (R40). -/
def execDrcRequest (l2 : Bool) (word : BitVec 29) (op : WordOp) (err : DramErr) (s : State) : Out :=
  let w := word.toNat
  .next (if s.usableBytes ≤ 32 * w then { s with reply := 0 }
    else if !s.drcServes (drcChannel (32 * w)) then s
    else match op with
      | .read => { (s.drcRead (if l2 then .l2 else .buf) w err) with reply := BitVec.ofNat 32 (leValue ((s.rawWord w).take 4)) }
      | .write mask bytes => s.drcWrite l2 w mask bytes err)

/-- R441: the patrol scrub reads the next word. -/
def execPatrolScrubRead (err : DramErr) (s : State) : Out :=
  let w := s.drc.scrubAt
  .next (if s.rdB R.DRC_SCRUB_CFG_en && s.drcServes (drcChannel (32 * w)) && decide (32 * w < s.usableBytes) then
      (s.drcRead .scrub w err).updDrc (fun d => { d with scrubAt := w + 1 })
    else s)

/-- R441, R447: the pass ends once every word of usable DRAM has been read. -/
def execPatrolPassDone (s : State) : Out :=
  .next (if s.usableBytes ≤ 32 * s.drc.scrubAt then (s.updDrc (fun d => { d with scrubAt := 0 })).raise 243 else s)

/-- R445: the retrain period expires. -/
def execRetrainPeriodic (s : State) : Out :=
  .next (if s.rdB R.DRC_CTL_en && s.rdB R.DRC_TRN_CFG_period then s.retrainPass else s)

/-- R445: DRC_CTL.retrain written 1. -/
def execDrcRetrainCmd (who : Init) (s : State) : Out := .next (s.accept who R.DRC_CTL_retrain State.retrainPass)

/-- R445, R447: the channel being retrained ends. A failure sets its trn_fail bit; it keeps its previous timing. Source
offset 2 follows a pass that ends with a trn_fail bit set. -/
def execRetrainDone (ok : Bool) (s : State) : Out :=
  .next (match s.drc.retrain with
    | c :: r =>
      let s := s.updDrc (fun d => { d with retrain := r })
      let s := if ok then s else s.wrBit R.DRC_STAT_trn_fail c true
      s.when (r = [] ∧ s.rd R.DRC_STAT_trn_fail ≠ 0) (State.raise 242)
    | [] => s)

/-- R442: MR4 read for the refresh rate. -/
def execRefreshRateRead (mr4 : BitVec 8) (s : State) : Out :=
  .next (if s.rdB R.DRC_CTL_en then s.updDrc (fun d => { d with mr4 := mr4 }) else s)

end Sys2Proof.Machine
end

