-- ==== Sys2Proof/Machine/HostFx.lean ====
section
/-! DEFINITION. Contexts, the clamp table and the ready queue (spec/13_queue_ordering.md), and the results that a command's
context holds until its completion is posted. -/
namespace Sys2Proof.Machine

/-! ## Geometry of the namespaces (R101, R105, R108) -/

/-- m of R101: the zones of one slot on one actuator. -/
def State.zonesPerSlot (s : State) : Nat := (s.geom.n - 2) / 2

/-- The ZNS zones: the media zones below kv_slot_base. -/
def State.znsZones (s : State) : Nat := s.geom.kvBase * (2 * s.zonesPerSlot)

/-- The media zones. -/
def State.allZones (s : State) : Nat := s.geom.usable * (2 * s.zonesPerSlot)

/-- The device-managed zones. -/
def State.kvZones (s : State) : Nat := s.allZones - s.znsZones

/-- NSZE of NSID 1. -/
def State.nsze1 (s : State) : Nat := s.znsZones * 65536


/-! ## The ready queue (R375) -/

/-- HQE_READY shows the head of the queue; source 208 follows it. -/
def State.readyShow (s : State) : State :=
  match s.host.ready with
  | n :: _ => (s.wr R.HQE_READY_ctx n).setStatus R.HQE_READY_valid 1 208
  | [] => (s.wr R.HQE_READY_ctx 0).wr R.HQE_READY_valid 0

/-- A context placed on HQE_READY. -/
def State.readyPut (n : Nat) (s : State) : State :=
  if s.host.ready.contains n then s else State.readyShow (s.updHost (fun h => { h with ready := h.ready ++ [n] }))

/-- A context taken off HQE_READY. -/
def State.readyDrop (n : Nat) (s : State) : State := State.readyShow (s.updHost (fun h => { h with ready := h.ready.filter (· != n) }))

/-! ## The clamp table (R371 to R376) -/

/-- Bytes 0 to 7 XOR bytes 8 to 15 of the zero-padded key (R371). -/
def keyFold (key : List Byte) : Nat :=
  ((BitVec.ofNat 64 (leValue (key.take 8))) ^^^ (BitVec.ofNat 64 (leValue ((key.drop 8).take 8)))).toNat

/-- The clamp entry of a command: space, inclusive range, append (R371). -/
def State.clampOf (s : State) (c : HostCmd) : Option (Nat × Nat × Nat × Bool) :=
  let lba : BitVec 32 → Nat → Nat → Option (Nat × Nat × Nat × Bool) := fun nsid a n =>
    if nsid = 1 then some (0, a, a + n, false) else if nsid = 3 then some (1, a, a + n, false) else none
  let key : List Byte → Option (Nat × Nat × Nat × Bool) := fun k => some (2, keyFold k, keyFold k, false)
  match c with
  | .read nsid a n _ => lba nsid a.toNat n.toNat
  | .write nsid a d _ => lba nsid a.toNat (d.length - 1)
  | .writeZeroes nsid a n => lba nsid a.toNat n.toNat
  | .verify nsid a n => lba nsid a.toNat n.toNat
  | .append _ z _ _ => some (0, z.toNat, z.toNat + 65535, true)
  | .zoneSend _ _ all z => if all then some (0, 0, s.nsze1 - 1, false) else some (0, z.toNat, z.toNat + 65535, false)
  | .store k _ _ => key k
  | .retrieve k _ => key k
  | .delete k => key k
  | .exist k => key k
  | _ => none

/-- Whether two entries overlap (R372). -/
def Clamp.overlaps (a b : Clamp) : Bool :=
  a.space == b.space && decide (a.lo ≤ b.hi ∧ b.lo ≤ a.hi) && !(a.append && b.append)

/-- CLP_ENT_D0 to D5 show the entry that CLP_ENT_SEL names; one that is not valid reads 0. -/
def State.clampEntShow (s : State) : State :=
  let e := (s.host.clamps.find? (fun e => e.no == s.rd R.CLP_ENT_SEL_entry)).map (fun e =>
    (1, e.space, (if e.append then 1 else 0), e.owner, e.waiters, e.ctx, e.lo, e.hi))
  let (valid, space, append, owner, waiters, ctx, lo, hi) := e.getD (0, 0, 0, 0, 0, 0, 0, 0)
  let s := ((s.wr R.CLP_ENT_D0_valid valid).wr R.CLP_ENT_D0_space space).wr R.CLP_ENT_D0_append append
  let s := ((s.wr R.CLP_ENT_D0_owner owner).wr R.CLP_ENT_D0_waiters waiters).wr R.CLP_ENT_D1_ctx ctx
  (s.wr64 R.CLP_ENT_D25_addr lo).wr64 (R.CLP_ENT_D25_addr.plus 8) hi

/-- CLP_STAT and the entry shown follow the table. -/
def State.clampShow (s : State) : State :=
  let l := s.host.clamps
  let s := s.clampEntShow
  ((s.wr R.CLP_STAT_used l.length).wr R.CLP_STAT_full (if l.length = 4096 then 1 else 0)).wr R.CLP_STAT_waiting
    (l.filter (fun e => decide (0 < e.waiters))).length

/-- The table replaced. -/
def State.setClamps (l : List Clamp) (s : State) : State := State.clampShow (s.updHost (fun h => { h with clamps := l }))

/-- Whether no entry of a context waits. -/
def State.clampsClear (s : State) (c n : Nat) : Bool :=
  (s.host.clamps.filter (fun e => e.owner == c && e.ctx == n)).all (fun e => e.waiters == 0)

/-- A context accepted and not decided, none of its entries waiting: the only one that a command's meaning acts on (R372). -/
def State.live (s : State) (n : Nat) : Option Context :=
  (s.ctx n).filter (fun c => c.started && c.result.isNone && s.clampsClear c.ctrl n)

/-- Whether CLP runs. -/
def State.clpOn (s : State) : Bool := s.rdB R.CLP_CTL_en && !s.inSoftReset 32

/-- What follows an entry whose waiter count has reached 0: source offset 0 for an internal one, HQE_READY for its context
once no entry of it waits (R375, R399). -/
def State.clampCleared (e : Clamp) (s : State) : State :=
  if e.owner = 2 then s.raise 224
  else s.when (s.clpOn = true ∧ e.owner < 2 ∧ s.clampsClear e.owner e.ctx = true) (State.readyPut e.ctx)

/-- Entries counted down: those for which down holds lose one waiter, and what reaches 0 is cleared. -/
def State.clampDown (down : Clamp → Bool) (s : State) : State :=
  let hit := s.host.clamps.filter (fun e => down e && e.waiters == 1)
  let s := s.setClamps (s.host.clamps.map (fun e => if down e then { e with waiters := e.waiters - 1 } else e))
  s.forEach hit State.clampCleared

/-- An entry released (R374). -/
def State.clampRelease (e : Clamp) (s : State) : State :=
  (s.setClamps (s.host.clamps.filter (fun f => f.no != e.no))).clampDown (fun f => decide (e.stamp < f.stamp) && e.overlaps f)

/-- A number not used among 4,096 entries: which of the free ones is open. -/
def State.clampFree (s : State) : Nat :=
  let l := s.host.clamps
  ((List.range (l.length + 1)).map (fun i => (s.free.toNat + i) % 4096)).find? (fun n => l.all (fun e => e.no != n)) |>.getD 0

/-- An entry inserted; its waiter count is the number of overlapping entries in the table (R372). The table has a free slot. -/
def State.clampInsert (space lo hi : Nat) (append : Bool) (owner ctx stamp : Nat) (s : State) : State :=
  let e : Clamp := ⟨s.clampFree, space, lo, hi, append, owner, ctx, stamp, 0⟩
  let n := (s.host.clamps.filter (fun f => e.overlaps f)).length
  let s := s.used.setClamps (s.host.clamps ++ [{ e with waiters := n }])
  s.when (0 < n) (State.satCount R.CLP_CNT_stalls 226)

/-- The context whose entry is inserted next: in stamp order among those that take one (R373). -/
def State.clampNext (s : State) : Option Context :=
  (s.host.ctxs.filter (fun c => !c.inserted)).foldl (fun m c => match m with
    | some d => if c.stamp < d.stamp then some c else some d
    | none => some c) none

/-- The next entry inserted, or delayed by a full table (R373); HQE_READY takes its context where nothing overlaps. -/
def State.clampStep (s : State) : State :=
  match s.clampNext with
  | none => s
  | some c =>
    if s.host.clamps.length = 4096 then
      if c.delayed then s
      else (((s.updCtx c.no (fun c => { c with delayed := true })).satCount R.CLP_CNT_full 226).raise 225)
    else
      match s.clampOf c.cmd with
      | some (space, lo, hi, append) =>
        let s := (s.updCtx c.no (fun c => { c with inserted := true })).clampInsert space lo hi append c.ctrl c.no c.stamp
        if s.clampsClear c.ctrl c.no then s.readyPut c.no else s
      | none => s.updCtx c.no (fun c => { c with inserted := true })

/-- The fetch bit of a controller. -/
def fetchF (c : Nat) : Field := if c = 0 then R.HQE_CTL_fetch0 else R.HQE_CTL_fetch1

/-- HQE_STAT.fetching follows the fetch bits. -/
def State.fetchShow (s : State) : State :=
  s.wr R.HQE_STAT_fetching (if s.rdB R.HQE_CTL_en then s.rd R.HQE_CTL_fetch0 + 2 * s.rd R.HQE_CTL_fetch1 else 0)

/-- The next arrival stamp taken (R369). -/
def State.stamp (s : State) : Nat := s.rd64 R.HQE_STAMP_stamp

/-- The counter of R369 advanced. -/
def State.stampNext (s : State) : State := s.wr64 R.HQE_STAMP_stamp ((s.stamp + 1) % 2 ^ 64)

/-- The entries of a context released and the context freed (R374, R370); its media commands in staging belong to no context
any more, and where its completion is posted they hold data of a completed write. -/
def State.ctxFree (c : Context) (posted : Bool) (s : State) : State :=
  let s := s.updHost (fun h => { h with
    ctxs := h.ctxs.filter (fun d => d.no != c.no)
    cmds := h.cmds.map (fun m => if m.ctx = some c.no then { m with ctx := none, completed := posted } else m) })
  let mine := s.host.clamps.filter (fun e => e.owner == c.ctrl && e.ctx == c.no)
  let s := s.forEach mine State.clampRelease
  State.ctxShow (s.readyDrop c.no)

/-! ## Error Information (R172) -/

/-- An Error Information entry; 64 are kept (R339, ELPE). -/
def State.errorEntry (c : Context) (st : Status) (lba nsid : Nat) (s : State) : State :=
  s.updHost (fun h => { h with errors := (⟨c.ctrl, c.stamp, st, lba, nsid⟩ :: h.errors).take 64 })

/-- A command that ends for a block's sake, with its Error Information entry. -/
def State.endsAt (c : Context) (st : Status) (lba nsid : Nat) (data : Payload) (s : State) : State :=
  (s.errorEntry c st lba nsid).settle c.no ⟨st, 0, data⟩

end Sys2Proof.Machine
end

