-- ==== Sys2Proof/Machine/WorkFx.lean ====
section
/-! DEFINITION. Media work of the host's commands (spec/13_queue_ordering.md): items and their end, media commands in write
staging, zones with their band pointers (R101 to R104, R384, R388), and the blocks that a read finds. -/
namespace Sys2Proof.Machine

/-! ## Zones -/

/-- An Empty zone of epoch 0. -/
def Zone.init : Zone := ⟨.empty, 0, 0, 0, false, 0⟩

/-- A zone as a table holds it. -/
def zoneFind (l : List (Nat × Zone)) (z : Nat) : Zone := ((l.find? (fun e => e.1 == z)).map (·.2)).getD Zone.init

/-- A table with one zone's entry replaced, zones rising. -/
def zonePut : List (Nat × Zone) → Nat → Zone → List (Nat × Zone)
  | [], z, v => [(z, v)]
  | (k, u) :: r, z, v =>
    if z < k then (z, v) :: (k, u) :: r else if z = k then (k, v) :: r else (k, u) :: zonePut r z v

/-- A media zone. -/
def State.zone (s : State) (z : Nat) : Zone := zoneFind s.host.zones z

/-- A media zone replaced. -/
def State.setZone (z : Nat) (v : Zone) (s : State) : State := s.updHost (fun h => { h with zones := zonePut h.zones z v })

/-- A zone's entry of the zone state table waits to be written (R388). -/
def State.zoneMark (z : Nat) (s : State) : State :=
  s.updHost (fun h => { h with unsaved := if h.unsaved.contains z then h.unsaved else h.unsaved ++ [z] })

/-- Open zones: Implicitly or Explicitly Opened. -/
def ZoneSt.open : ZoneSt → Bool
  | .implicit | .explicit => true
  | _ => false

/-- Active zones: open, Closed, or Active and not yet scanned. -/
def ZoneSt.active : ZoneSt → Bool
  | .implicit | .explicit | .closed | .unscanned => true
  | _ => false

/-- The ZNS zones in a kind of state. -/
def State.zonesIn (s : State) (p : ZoneSt → Bool) : List Nat :=
  (s.host.zones.filter (fun e => decide (e.1 < s.znsZones) && p e.2.st)).map (·.1)

/-- The slot of a media zone (R101). -/
def State.zoneSlot (s : State) (z : Nat) : Nat := z / (2 * s.zonesPerSlot)

/-- The actuator of a media zone: 0 or 1. -/
def State.zoneAct (s : State) (z : Nat) : Nat := z % (2 * s.zonesPerSlot) / s.zonesPerSlot

/-- The local surface of data band k of slot sl (R100). -/
def dataSurface (n sl k : Nat) : Nat :=
  (((List.range n).filter (fun u => u != sl % n && u != (sl + n / 2) % n))[k]?).getD 0

/-- The band pointer table indices of a zone's two bands. -/
def State.zoneBands (s : State) (z : Nat) : Nat × Nat :=
  let n := s.geom.n
  let sl := s.zoneSlot z
  let j := z % s.zonesPerSlot
  let base := sl * (2 * n) + s.zoneAct z * n
  (base + dataSurface n sl (2 * j), base + dataSurface n sl (2 * j + 1))

/-- The band write pointers of a zone write pointer (R103). -/
def bandPtrs (l : Nat) : Nat × Nat :=
  let k := l / 64
  let e := l % 64
  ((k + 1) / 2 * 64 + (if k % 2 = 0 then e else 0), k / 2 * 64 + (if k % 2 = 1 then e else 0))

/-- The zone write pointer of two band pointers: the lowest block that one of them does not cover (R102, R104). -/
def zonePtr (p q : Nat) : Nat := min 65536 (min (2 * (p / 64) * 64 + p % 64) ((2 * (q / 64) + 1) * 64 + q % 64))

/-- The DRAM address of a band pointer entry. -/
def State.bandEntry (s : State) (i : Nat) : Nat := s.rd R.PAR_BPT_BASE_base * 4096 + 4 * i

/-- The pointer in an entry. -/
def State.bandPtr (s : State) (i : Nat) : Nat := s.dramLe (s.bandEntry i) 4 % 131072

/-- A zone's band pointer entries set to the positions of a write pointer (R103). -/
def State.setBandPtrs (z l : Nat) (s : State) : State :=
  let b := s.zoneBands z
  (s.dramPut (s.bandEntry b.1) (leBytes 4 (bandPtrs l).1)).dramPut (s.bandEntry b.2) (leBytes 4 (bandPtrs l).2)

/-- The head of the band that holds a zone's block: stripes of 64 blocks alternate between its bands (R102). -/
def State.blockHead (s : State) (z b : Nat) : Nat :=
  let n := s.geom.n
  let i := if b / 64 % 2 = 0 then (s.zoneBands z).1 else (s.zoneBands z).2
  (if s.zoneAct z = 0 then 0 else s.headCount .a) + i % n

/-- Whether a zone's block lies on a retired head and is reported unrecovered: its zone is Read Only (R324). -/
def State.blockLost (s : State) (z b : Nat) : Bool :=
  decide ((s.zone z).st = .readOnly) && s.rdBit R.PAR_RET_ret (s.blockHead z b)

/-! ## Blocks -/

/-- The address of a zone's block in its space. -/
def blockAt (z b : Nat) : Nat := z * 65536 + b

/-- The address of a media command's first block. -/
def MediaCmd.base (c : MediaCmd) : Nat := if c.space = .conv then c.first else blockAt c.zone c.first

/-- A block of a media command in staging. -/
def MediaCmd.block (c : MediaCmd) (sp : Space) (a : Nat) : Option Block :=
  if c.space = sp ∧ c.base ≤ a then c.data[a - c.base]? else none

/-- The newest data of a block in write staging. -/
def State.staged (s : State) (sp : Space) (a : Nat) : Option Block := (s.host.cmds.reverse.filterMap (fun c => c.block sp a)).head?

/-- A block as a read finds it: the newest staged data, or the media's (R377, R385). -/
def State.blockOf (s : State) (sp : Space) (a : Nat) : Option Block :=
  match s.staged sp a with
  | some b => some b
  | none => (s.host.media.find? (fun m => decide (m.space = sp) && m.addr == a)).map (·.data)

/-- A block that nothing has written holds open bytes. -/
def State.blockRead (s : State) (sp : Space) (a : Nat) : Block := (s.blockOf sp a).getD (Config.openBlock s.freeCount)

/-- Blocks put on the media from an address. -/
def State.mediaPut (sp : Space) (a : Nat) (data : List Block) (s : State) : State :=
  s.updHost (fun h => { h with
    media := data.mapIdx (fun i b => (⟨sp, a + i, b⟩ : MediaBlock))
      ++ h.media.filter (fun m => !(decide (m.space = sp) && decide (a ≤ m.addr ∧ m.addr < a + data.length))) })

/-- The blocks of a zone from a block on gone from the media. -/
def State.mediaCut (sp : Space) (z b : Nat) (s : State) : State :=
  s.updHost (fun h => { h with media := h.media.filter (fun m =>
    !(decide (m.space = sp) && decide (blockAt z b ≤ m.addr ∧ m.addr < blockAt (z + 1) 0))) })

/-! ## The end of media work -/

/-- A context no longer waits for a piece of work; with nothing left and its data moved, it ends OK (R385). -/
def State.ctxDone (n job : Nat) (s : State) : State :=
  let s := s.updCtx n (fun c => { c with waits := c.waits.filter (· != job) })
  match s.ctx n with
  | some c => if c.moved && c.waits.isEmpty then s.settle n ⟨.ok, c.dw0, .none⟩ else s
  | none => s

/-- What follows a Write Fault on a zone (R384): its pointer is what the band pointers written back give, the leading band's
entry is set back, the pointer becomes the fault floor, and the zone keeps its state. -/
def State.zoneFault (z : Nat) (s : State) : State :=
  let b := s.zoneBands z
  let l := zonePtr (s.bandPtr b.1) (s.bandPtr b.2)
  let v := s.zone z
  State.zoneMark z ((s.setZone z { v with wp := l, floor := l }).setBandPtrs z l)

/-- A media command ends. With every item OK its blocks are on the media; otherwise its zone takes the fault, the blocks
below the pointer are what the media holds, and the zone's digest is pending (R413). A unit's in-place write frees its slot (R393). -/
def State.cmdDone (c : MediaCmd) (s : State) : State :=
  let s := s.updHost (fun h => { h with cmds := h.cmds.filter (fun d => d.id != c.id) })
  if !c.bad then
    let s := s.mediaPut c.space c.base c.data
    let s := match c.unit with
      | some u => s.updHost (fun h => { h with units := h.units.filter (fun x => x.seq != u), applied := max h.applied u })
      | none => s
    match c.ctx with
    | some n => s.ctxDone n c.id
    | none => s
  else
    let s := if c.space = .conv then s else
      let s := s.zoneFault c.zone
      let l := (s.zone c.zone).wp
      let s := s.mediaPut c.space c.base (c.data.take (l - c.first))
      s.updHost (fun h => { h with digests := ⟨c.zone, none, false⟩ :: h.digests.filter (fun d => d.zone != c.zone) })
    match c.ctx with
    | some n => (s.ends n .writeFault).logOpen 0x3E false
    | none => s.logOpen 0x3E false

/-- An item ends with a sequencer status. -/
def State.jobEnded (job code : Nat) (s : State) : State :=
  match s.host.cmds.find? (fun c => c.id == job) with
  | some c =>
    let c := { c with left := c.left - 1, bad := c.bad || code != 0 }
    if c.left = 0 then s.cmdDone c
    else s.updHost (fun h => { h with cmds := h.cmds.map (fun d => if d.id = job then c else d) })
  | none => s.updHost (fun h => { h with ctxs := h.ctxs.map (fun x => { x with waits := x.waits.filter (· != job) }) })

/-- The oldest descriptor posted to an actuator's sequencer completes with a status: OK and UNRECOVERED end the item,
WRITE_FAULT fails it, and after any other the base firmware posts it again (DEDUCED, assumption 22). -/
def State.itemEnded (x : Act) (code : Nat) (s : State) : State :=
  match s.host.posted.get x with
  | i :: r =>
    let s := s.updHost (fun h => { h with posted := h.posted.set x r })
    if code = 0 ∨ code = 1 then s.jobEnded i.job 0
    else if code = 3 then s.jobEnded i.job 3
    else s.updHost (fun h => { h with pend := h.pend.set x (i :: h.pend.get x) })
  | [] => s

/-- A flush of an actuator's ring returns the descriptors posted to its pending list. -/
def State.itemsFlushed (x : Act) (s : State) : State :=
  s.updHost (fun h => { h with pend := h.pend.set x (h.posted.get x ++ h.pend.get x), posted := h.posted.set x [] })

/-! ## New work -/

/-- The next number for a media command or read. -/
def State.newId (s : State) : Nat := s.host.nextId

/-- One number used up. -/
def State.idUsed (s : State) : State := s.updHost (fun h => { h with nextId := h.nextId + 1 })

/-- An item joins its actuator's pending list (R378). -/
def State.itemAdd (job stamp : Nat) (urgent : Bool) (owner : Option Nat) (i : ItemSpec) (s : State) : State :=
  s.updHost (fun h => { h with pend := h.pend.set i.act (h.pend.get i.act ++ [⟨i, stamp, urgent, s.driveTime, job, owner⟩]) })

/-- The items of one piece of work. -/
def State.itemsAdd (job stamp : Nat) (urgent : Bool) (owner : Option Nat) (l : List ItemSpec) (s : State) : State :=
  s.forEach l (fun i s => s.itemAdd job stamp urgent owner i)

/-- Whether the volatile write cache is enabled (R347); the spec gives the feature no default (DESIGN CHOICE, assumption 21). -/
def State.cacheOn (s : State) : Bool :=
  match s.host.feats.find? (fun f => f.fid == 6) with
  | some f => f.value.toNat % 2 == 1
  | none => true

/-- A media command enters write staging with its items, for a context or for the base firmware's own work; with the cache
disabled its command waits for it. -/
def State.stage (sp : Space) (zone first : Nat) (data : List Block) (c : Option Context) (unit : Option Nat) (items : List ItemSpec)
    (s : State) : State :=
  let id := s.newId
  let wait := !s.cacheOn
  let s := s.idUsed.updHost (fun h => { h with cmds := h.cmds ++
    [⟨id, sp, zone, first, data, c.map (·.no), items.length, false, unit, c.isNone, false⟩] })
  match c with
  | some c =>
    let s := if wait then s.updCtx c.no (fun c => { c with waits := c.waits ++ [id] }) else s
    if unit.isSome then s else s.itemsAdd id c.stamp c.urgent (some c.no) items
  | none => s.itemsAdd id s.stamp false none items

/-- Data cut into pieces of n blocks. -/
def cutBlocks (n : Nat) : Nat → List Block → List (List Block)
  | 0, _ => []
  | f + 1, l => if l.isEmpty then [] else l.take n :: cutBlocks n f (l.drop n)

/-- A write to a zone split into media commands of 256 blocks (R386), each with its items. -/
def State.stageZone (sp : Space) (zone first : Nat) (data : List Block) (c : Option Context) (items : List (List ItemSpec))
    (s : State) : State :=
  let parts := cutBlocks 256 data.length data
  s.forEach (parts.mapIdx (fun i d => (i, d))) (fun p s =>
    s.stage sp zone (first + 256 * p.1) p.2 c none (items.getD p.1 []))

/-- The last data of a command are in write staging: with the cache enabled it completes at once, otherwise when everything it
waits for has ended (R385). -/
def State.moved (n : Nat) (s : State) : State :=
  let s := s.updCtx n (fun c => { c with moved := true })
  match s.ctx n with
  | some c => if c.waits.isEmpty then s.settle n ⟨.ok, c.dw0, .none⟩ else s
  | none => s

/-! ## Readiness (R67, R337, R390, R394, R406) -/

/-- Whether the tail scan has treated every Active zone. -/
def State.scanned (s : State) : Bool := s.host.zones.all (fun e => e.2.st != .unscanned)

/-- Whether PRESENCE has identifiers: a vid of 0x0000 or 0xFFFF is none (R549). -/
def State.identified (s : State) : Bool := s.rdB R.HIF_ID_VD_vid && s.rd R.HIF_ID_VD_vid != 0xFFFF

/-- Whether a media namespace is ready: gauge lock, spindle lock, the tail scan, the accumulators of R319, identifiers in
PRESENCE (R333), a GEOMETRY that the boot's check found sound (R112), the thermal latch clear (R477), and the journal replay or the
index rebuild. -/
def State.nsReady (s : State) (nsid : Nat) : Bool :=
  s.rdB R.GCK_STAT_lock && s.rdB R.SPM_STAT_lock && s.scanned && s.host.groups.isEmpty && s.identified && !s.host.geomBad
    && !s.rdB R.THM_STAT_latched && (nsid != 3 || s.host.replayed) && (nsid != 2 || s.host.indexed)

/-- Whether all media namespaces are ready. -/
def State.mediaReady (s : State) : Bool := s.nsReady 1 && s.nsReady 2 && s.nsReady 3

/-- A controller that is enabled becomes ready: CSTS.RDY rises, and the base firmware sets its fetch bit (R337, R396). -/
def State.rdyRise (c : Nat) (s : State) : State :=
  let k := s.ctrl c
  if k.en && !k.rdy && (k.crime || s.mediaReady) && s.host.activation.isNone then
    ((s.updCtrl c (fun k => { k with rdy := true })).wr (fetchF c) 1).fetchShow
  else s

/-- The namespaces whose readiness has changed since old are reported (R360), and a controller that waits for them becomes
ready. -/
def State.readyNote (old : State) (s : State) : State :=
  let s := (s.rdyRise 0).rdyRise 1
  let l := [1, 2, 3].filter (fun n => old.nsReady n != s.nsReady n)
  if l.isEmpty then s
  else State.asyncAll .nsChanged (s.updHost (fun h => { h with changedNs := h.changedNs ++ l.filter (fun n => !h.changedNs.contains n) }))

end Sys2Proof.Machine
end

