-- ==== Sys2Proof/Machine/AuditFx.lean ====
section
/-! DEFINITION. Zone digests (R413), the audit log with its reports (R417 to R419), and zones that become Full. -/
namespace Sys2Proof.Machine

/-- A record of severity error that the base firmware posts; the spec gives its class and leaves the rest of its code and its
parameters open. -/
def State.fwError (cls : Nat) (s : State) : State :=
  let p := s.free.toNat
  s.used.evrPost (cls * 4096 + p % 4096) 4 0x3E false [p / 2 ^ 12, p / 2 ^ 24, p / 2 ^ 36, p / 2 ^ 48, 0]

/-- The kinds of an audit record (R419). -/
inductive AuditKind where
  | value | zone | kvZone | passStart | passEnd
  deriving DecidableEq, Repr

/-- The encoding of R419. -/
def AuditKind.code : AuditKind → Nat
  | .value => 1
  | .zone => 2
  | .kvZone => 3
  | .passStart => 4
  | .passEnd => 5

/-- The outcomes of R419. -/
inductive AuditOut where
  | ok | mismatch | unreadable | noDigest | derived
  deriving DecidableEq, Repr

/-- The encoding of R419. -/
def AuditOut.code : AuditOut → Nat
  | .ok => 0
  | .mismatch => 1
  | .unreadable => 2
  | .noDigest => 3
  | .derived => 4

/-- The origins of R419. -/
inductive AuditFrom where
  | audit | retrieve | read | compaction | readBack
  deriving DecidableEq, Repr

/-- The encoding of R419. -/
def AuditFrom.code : AuditFrom → Nat
  | .audit => 0
  | .retrieve => 1
  | .read => 2
  | .compaction => 3
  | .readBack => 4

/-- The audit state updated. -/
def State.updAudit (f : AuditState → AuditState) (s : State) : State := s.updHost (fun h => { h with audit := f h.audit })

/-- A record of the audit log (R418): with the DRAM buffer full it is dropped and counted as lost. -/
def State.auditPut (k : AuditKind) (o : AuditOut) (from_ : AuditFrom) (key : List Byte) (slba size firstBad nsid : Nat)
    (stored computed : BitVec 256) (s : State) : State :=
  let r : AuditRec := ⟨s.host.audit.seq, s.driveTime, s.timeQuality, k.code, o.code, from_.code, key, slba, size, firstBad, nsid,
    stored, computed⟩
  s.updAudit (fun a =>
    if 4096 ≤ a.buffered then { a with lost := a.lost + 1, seq := (a.seq + 1) % 2 ^ 32 }
    else { a with recs := (r :: a.recs).take 262144, seq := (a.seq + 1) % 2 ^ 32, buffered := a.buffered + 1 })

/-- An outcome reported (R417, R418): OK only where it is asked for, and with an event record where it is not OK. -/
def State.auditOut (manifest : Bool) (k : AuditKind) (o : AuditOut) (from_ : AuditFrom) (key : List Byte) (slba size firstBad nsid : Nat)
    (stored computed : BitVec 256) (s : State) : State :=
  if o = .ok then (if manifest then s.auditPut k o from_ key slba size firstBad nsid stored computed else s)
  else State.fwError 8 (s.auditPut k o from_ key slba size firstBad nsid stored computed)

/-- The mark of a record without an unrecovered block. -/
def noBad : Nat := 0xFFFFFFFF

/-! ## Zone digests (R413) -/

/-- The space of a media zone's blocks. -/
def State.zoneSpace (s : State) (z : Nat) : Space := if z < s.znsZones then .zns else .kv

/-- The entry of a zone in the digest table. -/
def State.digestOf (s : State) (z : Nat) : Option ZoneDigest := s.host.digests.find? (fun d => d.zone == z)

/-- An entry removed. -/
def State.digestDrop (z : Nat) (s : State) : State :=
  s.updHost (fun h => { h with digests := h.digests.filter (fun d => d.zone != z) })

/-- An entry put. -/
def State.digestPut (z : Nat) (d : Option (BitVec 256)) (derived : Bool) (s : State) : State :=
  (s.digestDrop z).updHost (fun h => { h with digests := ⟨z, d, derived⟩ :: h.digests })

/-- The bytes of a zone's blocks below n. -/
def State.zoneBytes (s : State) (z n : Nat) : List Byte :=
  ((List.range n).map (fun b => s.blockRead (s.zoneSpace z) (blockAt z b))).flatten

/-- A zone becomes Full: its entry waits to be written, and its digest is final over its blocks, or pending where it was
lost, a media command ended WRITE_FAULT, or the controller finished the zone (R413). -/
def State.zoneFull (z : Nat) (byCtrl : Bool) (s : State) : State :=
  let v := s.zone z
  let pend := byCtrl || (match s.digestOf z with
    | some d => d.digest.isNone
    | none => false)
  let d := if pend then none else some (Config.sha256 (s.zoneBytes z v.wp))
  ((s.setZone z { v with st := .full, byCtrl := byCtrl }).zoneMark z).digestPut z d false

end Sys2Proof.Machine
end

