-- ==== Sys2Proof/Machine/KvFx.lean ====
section
/-! DEFINITION. The key-value store (spec/14_object_services.md): records and their blocks (R400 to R403), the key index (R404 to
R406), and allocation in the device-managed zones. -/
namespace Sys2Proof.Machine

/-- The store updated. -/
def State.updKv (f : KvState → KvState) (s : State) : State := s.updHost (fun h => { h with kv := f h.kv })

/-! ## Record blocks (R401, R402) -/

/-- Bytes padded with zeros to a length. -/
def padTo (n : Nat) (l : List Byte) : List Byte := l ++ List.replicate (n - l.length) 0

/-- An extent's entry in a header. -/
def Extent.bytes (e : Extent) : List Byte := leBytes 4 e.zone ++ leBytes 2 e.first ++ leBytes 2 (e.count - 1)

/-- The header block. -/
def KvRec.header (r : KvRec) : Block :=
  padTo 4096 ([0x4B, 0x56, 0x48, 0x31] ++ leBytes 1 (if r.tomb then 1 else 0) ++ leBytes 1 r.key.length
    ++ leBytes 2 r.extents.length ++ leBytes 8 r.seq ++ padTo 16 r.key ++ leBytes 8 r.value.length ++ leBytes 8 r.dt
    ++ List.replicate 16 0 ++ (r.extents.map Extent.bytes).flatten)

/-- The value's data blocks, the last one padded with zeros. -/
def valueBlocks (l : List Byte) : List Block :=
  (List.range ((l.length + 4095) / 4096)).map (fun i => padTo 4096 ((l.drop (4096 * i)).take 4096))

/-- The trailer block. -/
def KvRec.trailer (r : KvRec) : Block :=
  padTo 4096 ([0x4B, 0x56, 0x54, 0x31] ++ leBytes 4 0 ++ leBytes 8 r.seq ++ padTo 16 r.key ++ leBytes 8 r.value.length
    ++ leBytes 32 r.digest.toNat)

/-- Every block of a record, header first and trailer last; a tombstone is its header. -/
def KvRec.blocks (r : KvRec) : List Block := if r.tomb then [r.header] else r.header :: valueBlocks r.value ++ [r.trailer]

/-- The zone and block of every block that a record lists. -/
def KvRec.places (r : KvRec) : List (Nat × Nat) := (r.extents.map (fun e => (List.range e.count).map (fun i => (e.zone, e.first + i)))).flatten

/-- The header's zone and block. -/
def KvRec.head (r : KvRec) : Nat × Nat := (r.places.head?).getD (0, 0)

/-- The index entry of a record. -/
def KvRec.entry (r : KvRec) : KvEntry := ⟨r.key, r.seq, r.head.1, r.head.2, r.tomb⟩

/-- Whether every block that a record lists lies below the write pointer of its zone (R403). -/
def State.kvPresent (s : State) (r : KvRec) : Bool := r.places.all (fun p => decide (p.2 < (s.zone p.1).wp))

/-! ## The index (R404) -/

/-- The bucket of a key. -/
def keyBucket (k : List Byte) : Nat := keyFold k % 2 ^ 23

/-- The entry of a key. -/
def kvFind (l : List KvEntry) (k : List Byte) : Option KvEntry := l.find? (fun e => e.key == k)

/-- An index with a record's entry applied, unless it already holds a later one for the key (R406). -/
def kvApply (l : List KvEntry) (e : KvEntry) : List KvEntry :=
  match kvFind l e.key with
  | some f => if e.seq < f.seq then l else e :: l.filter (fun g => g.key != e.key)
  | none => e :: l

/-- The record of a key in the index. -/
def State.kvGet (s : State) (k : List Byte) : Option KvRec :=
  (kvFind s.host.kv.index k).bind (fun e => s.host.kv.recs.find? (fun r => r.seq == e.seq))

/-- A record's entry applied to the index, a tombstone's key leaving it, and kept for the next batch of the journal. -/
def State.kvIndex (r : KvRec) (s : State) : State :=
  s.updKv (fun k => { k with index := (kvApply k.index r.entry).filter (fun e => !e.tomb), dirty := k.dirty ++ [r.entry] })

/-- The newest record of a key. -/
def State.kvNewest (s : State) (k : List Byte) : Option KvRec :=
  (s.host.kv.recs.filter (fun r => r.key == k)).foldl (fun m r => match m with
    | some q => if q.seq < r.seq then some r else some q
    | none => some r) none

/-- A Store or Delete completes with success: its record is indexed (R407). -/
def State.kvCompleted (c : Context) (st : Status) (s : State) : State :=
  let done : List Byte → State := fun k => match s.kvNewest k with
    | some r => s.kvIndex r
    | none => s
  if st = .ok then (match c.cmd with
    | .store k _ _ => done k
    | .delete k => done k
    | _ => s) else s

/-! ## Allocation (R400) -/

/-- The Empty device-managed zones. -/
def State.kvEmpty (s : State) : List Nat := ((List.range s.kvZones).map (· + s.znsZones)).filter (fun z => decide ((s.zone z).st = .empty))

/-- The allocation point of an active device-managed zone. -/
def State.kvPoint (s : State) (z : Nat) : Option Nat := (s.host.kv.alloc.find? (fun a => a.1 == z)).map (·.2)

/-- The blocks free in Empty and active device-managed zones. -/
def State.kvFree (s : State) : Nat := 65536 * s.kvEmpty.length + (s.host.kv.alloc.map (fun a => 65536 - a.2)).sum

/-- The extents of n blocks over the zones named: the first one active, or Empty while fewer than 16 are active; each next one
Empty. None where they do not suffice. -/
def State.kvPlace (s : State) (first : Bool) : Nat → List Nat → Option (List Extent)
  | 0, _ => some []
  | _, [] => none
  | n, z :: r =>
    let start := match s.kvPoint z with
      | some p => if first then some p else none
      | none =>
        if z < s.znsZones ∨ s.allZones ≤ z ∨ (s.zone z).st ≠ .empty ∨ (first = true ∧ 16 ≤ s.host.kv.alloc.length) then none else some 0
    match start with
    | none => none
    | some p =>
      let t := min n (65536 - p)
      (s.kvPlace false (n - t) r).map (fun l => ⟨z, p, t⟩ :: l)

/-- The allocation point of a zone advanced over an extent; a zone used up becomes Full. An Empty zone becomes active, its
entry waiting to be written (R388). -/
def State.kvAdvance (e : Extent) (s : State) : State :=
  let v := s.zone e.zone
  let n := e.first + e.count
  let s := s.setZone e.zone { v with st := if v.st = .empty then .implicit else v.st, wp := n }
  let s := s.when (v.st = .empty) (State.zoneMark e.zone)
  let rest := s.host.kv.alloc.filter (fun a => a.1 != e.zone)
  if 65536 ≤ n then (s.updKv (fun k => { k with alloc := rest })).zoneFull e.zone false
  else s.updKv (fun k => { k with alloc := rest ++ [(e.zone, n)] })

/-- A record placed on its extents: its blocks staged as media commands of at most 256 blocks, its zones advanced. -/
def State.kvWrite (r : KvRec) (c : Option Context) (items : List (List ItemSpec)) (s : State) : State :=
  let blocks := r.blocks
  let cut := r.extents.foldl (fun (acc : List (Extent × List Block) × Nat) e => (acc.1 ++ [(e, (blocks.drop acc.2).take e.count)], acc.2 + e.count))
    (([] : List (Extent × List Block)), 0)
  let parts := (cut.1.map (fun p => (cutBlocks 256 p.2.length p.2).mapIdx (fun i d => (p.1.zone, p.1.first + 256 * i, d)))).flatten
  let s := s.forEach (parts.mapIdx (fun i p => (i, p))) (fun q s =>
    s.stage .kv q.2.1 q.2.2.1 q.2.2.2 c none (items.getD q.1 []))
  let s := s.forEach r.extents State.kvAdvance
  s.updKv (fun k => { k with recs := r :: k.recs, seq := k.seq + 1 })

/-- The bytes of a record's value among its blocks as they are read, with the places of unrecovered ones. -/
def valueOf (v : Nat) (blocks : List (Option Block)) : List Byte := (((blocks.drop 1).map (fun b => b.getD [])).flatten).take v

end Sys2Proof.Machine
end

