-- ==== Sys2Proof/Machine/WchFx.lean ====
section
/-! DEFINITION. Write channels as the other blocks act on them (spec/06_write_laser.md): the Head Link queue, the composed
preamp settings, the gate conditions of R190, the write faults of R199 and the stops of R193. -/
namespace Sys2Proof.Machine

/-! ## Head Link (R201 to R208) -/

/-- An engine's state updated. -/
def State.updHl (x : Act) (f : HlState → HlState) (s : State) : State := { s with hl := s.hl.set x (f (s.hl.get x)) }

/-- A Head Link register field of an actuator's engine. -/
def hlField (f : Field) (x : Act) : Field := f.inst (4 * x.idx)

/-- Whether the engine runs: WCH0 or WCH4 enabled and not stopped by link_err in its initialisation (R208). -/
def State.hlOn (s : State) (x : Act) : Bool := s.rdB (hlField R.WCH_CTL_en x) && !(s.hl.get x).dead

/-- depth and fw_busy follow the queue. -/
def State.hlRefresh (x : Act) (s : State) : State :=
  let q := (s.hl.get x).queue
  (s.wr (hlField R.WCH_HL_STAT_depth x) (min 31 q.length)).wrB (hlField R.WCH_HL_STAT_fw_busy x) (q.any (·.fw))

/-- A frame placed behind every frame of its class or a higher one (R203). -/
def hlInsert (f : HlFrame) : List HlFrame → List HlFrame
  | [] => [f]
  | g :: r => if f.cls < g.cls then f :: g :: r else g :: hlInsert f r

/-- Whether two frames set the same register of the same head. -/
def HlFrame.same (f g : HlFrame) : Bool := !f.read && !g.read && !g.fw && f.target == g.target && f.reg == g.reg

/-- A frame queued in priority order behind the frame on the wire; a setting still queued takes the new data, which
WCH_HL_CNT.merged counts (R203). -/
def State.hlPush (x : Act) (f : HlFrame) (s : State) : State :=
  if !s.hlOn x then s
  else
    let q := (s.hl.get x).queue
    if !f.fw && (q.drop 1).any (f.same ·) then
      ((s.updHl x (fun h => { h with queue := q.take 1 ++ (q.drop 1).map (fun g => if f.same g then { g with data := f.data }
        else g) })).inc (hlField R.WCH_HL_CNT_merged x) 1)
    else (s.updHl x (fun h => { h with queue := q.take 1 ++ hlInsert f (q.drop 1) })).hlRefresh x

/-- A write frame of a class. -/
def hlWrite (cls target reg data : Nat) : HlFrame :=
  { cls := cls, read := false, target := target, reg := reg, data := data, tries := 0, init := false, fw := false }

/-- A PA_STAT read (R203, first class). -/
def hlStatRead : HlFrame :=
  { cls := 1, read := true, target := 16, reg := 1, data := 0, tries := 0, init := false, fw := false }

/-- A composed setting is sent where it differs from the one last sent. -/
def State.hlSend (x : Act) (cls target reg data : Nat) (s : State) : State :=
  if !s.hlOn x || (s.hl.get x).sent.contains (target, reg, data) then s
  else
    (s.updHl x (fun h => { h with sent := (target, reg, data) :: h.sent.filter (fun e => e.1 != target || e.2.1 != reg) })).hlPush
      x (hlWrite cls target reg data)

/-- A value saturated to 0–255. -/
def sat255 (z : Int) : Nat := (clampInt 0 255 z).toNat

/-- The signed trim code of a trim loop slot: u >> 24 (R264). -/
def State.cleTrim (s : State) (slot : Nat) : Int := s.rdI (R.CLE_U_u.at slot) / 0x1000000

/-- The settings of the head that a channel serves composed and sent (R186, R189). -/
def State.wchCompose (ch : Fin 8) (s : State) : State :=
  let x := chAct ch
  let h := s.chHead ch
  let t := s.headPos h
  let e := 66 * s.localHead h + s.chRatio ch
  let g : Field → Int := fun f => (s.rd ((f.inst ch.val).at e) : Int)
  let fly := s.cleTrim (15 + x.idx)
  let las := s.cleTrim (17 + x.idx)
  if !s.headFitted h then s
  else if !s.rdB (R.WCH_CTL_wt_valid.inst ch.val) then
    s.hlSend x 4 t 0x11 (s.rd (R.WCH_CFG_def_heat.inst ch.val))
  else
    (((((s.hlSend x 4 t 0x11 (sat255 (g R.WCH_WT0_heat_r + fly + s.rch[ch].heat))).hlSend x 4 t 0x12
      (sat255 (g R.WCH_WT0_heat_w + fly))).hlSend x 5 t 0x13 (sat255 (g R.WCH_WT0_laser + las))).hlSend x 6 t 0x14
      (sat255 (g R.WCH_WT0_iw))).hlSend x 6 t 0x15 (sat255 (g R.WCH_WT1_ovs))).hlSend x 6 t 0x16 (sat255 (g R.WCH_WT1_mrb))

/-- The settings of every channel of an actuator composed and sent. -/
def State.wchComposeAll (x : Act) (s : State) : State := s.forEach (actChans x) State.wchCompose

/-! ## Faults and counters (R199, R209) -/

/-- A counter of a write channel raised by one; source offset 1 when it reaches saturation. -/
def State.wchCount (ch : Fin 8) (f : Field) (s : State) : State :=
  let g := f.inst ch.val
  let t := s.inc g 1
  t.when (t.rd g = 2 ^ g.w - 1 ∧ s.rd g ≠ 2 ^ g.w - 1) (State.raise (128 + 2 * ch.val + 1))

/-- The fields that assert the second source of a channel: its overflow and, where the channel has a Head Link engine, link_err and pa_fault. -/
def wchFaultCauses (ch : Nat) : List Field := [R.WCH_FLT_overflow.inst ch, R.WCH_HL_STAT_link_err.inst ch, R.WCH_HL_STAT_pa_fault.inst ch]

/-- A write fault recorded: the first in WCH_FLT, later ones by overflow; every one counted (R199). The sequencer sees it
as a fault since the last ARM, and its first fault starts the retry count (R218). -/
def State.wchFault (ch : Fin 8) (cause wedge sector : Nat) (s : State) : State :=
  let x := chAct ch
  let s := s.wchCount ch R.WCH_FLT_CNT_count
  let s := s.updLane x (chLane ch) (fun l => { l with fault := true })
  let s := s.updMsq x (fun m => { m with faultRevs := some (m.faultRevs.getD 0) })
  let f := fun (g : Field) => g.inst ch.val
  if s.rdB (f R.WCH_FLT_valid) then s.setStatusAmong (wchFaultCauses ch.val) (f R.WCH_FLT_overflow) 1 (128 + 2 * ch.val + 1)
  else (((s.wr (f R.WCH_FLT_cause) cause).wr (f R.WCH_FLT_wedge) wedge).wr (f R.WCH_FLT_sector) sector).setStatus
    (f R.WCH_FLT_valid) 1 (128 + 2 * ch.val)

/-- The sector at which a channel's writing stands: the first assembled one, or the lane's present sector. -/
def State.wchSector (s : State) (ch : Fin 8) : Nat × Nat :=
  match s.chRec ch with
  | some r =>
    let k := match s.wch[ch].asm with
      | a :: _ => a.k
      | [] => (s.lane (chAct ch) (chLane ch)).k
    ((s.secStart (chAct ch) r k).1, s.secName (chAct ch) r k)
  | none => (0, 0)

/-- A fault recorded at the sector at which the channel stands. -/
def State.wchFaultHere (ch : Fin 8) (cause : Nat) (s : State) : State :=
  s.wchFault ch cause (s.wchSector ch).1 (s.wchSector ch).2

/-- The lane goes idle and strobes stop (R184, R185). -/
def State.wchIdle (ch : Fin 8) (s : State) : State :=
  ((s.wr (R.WCH_STAT_lane_active.inst ch.val) 0).wr (R.WCH_STAT_strobe.inst ch.val) 0).updWch ch
    (fun w => { w with inRun := false })

/-- The write operation of a channel ends: nothing more is assembled or written. -/
def State.wchEnd (ch : Fin 8) (s : State) : State :=
  ((s.wchIdle ch).wr (R.WCH_STAT_writing.inst ch.val) 0).updWch ch
    (fun w => { w with on := false, stopAfter := false, asm := [] })

/-- The sector in progress is left incomplete: no further sector of the operation is written (R194). -/
def State.wchIncomplete (ch : Fin 8) (s : State) : State :=
  let s := ((s.wchIdle ch).wchCount ch R.WCH_CNT_INC_count).updWch ch (fun w => { w with failed := true, asm := [] })
  if s.wch[ch].stopAfter then s.wchEnd ch else s

/-- A condition fails during a run: recording ends and the fault is recorded (R193, R199). -/
def State.wchStop (cause : Nat) (ch : Fin 8) (s : State) : State :=
  if s.wch[ch].inRun then (s.wchFaultHere ch cause).wchIncomplete ch else s

/-- The same on every channel of a list. -/
def State.wchStopAll (cause : Nat) (chs : List (Fin 8)) (s : State) : State := s.forEach chs (State.wchStop cause)

/-- Gauge lock has fallen: writing stops on all channels (R193). -/
def State.wchGaugeLost (s : State) : State := s.wchStopAll 1 chans8

/-! ## Gate conditions (R190) -/

/-- The unsafe limit of a ratio index (R191). -/
def State.unsafeLimit (s : State) (ch : Fin 8) (a : Nat) : Nat :=
  bitField (s.rd ((R.WCH_UNSAFE_lim.inst ch.val).at (a / 4))) (8 * (a % 4)) 8

/-- The position condition: the last sample is valid and within the unsafe limit. A sample of the open servo window has
not reached WCH and counts as invalid (R191). -/
def State.wchPosOk (s : State) (ch : Fin 8) : Bool :=
  !s.srv.chan[ch].windowOpen && s.rdB (R.SRV_CH_FLG_valid.at ch.val)
    && decide ((s.rdI (R.SRV_CH_PES_pes.at ch.val)).natAbs ≤ s.unsafeLimit ch (s.chRatio ch))

/-- The pointer condition for the next sector to write (R197). -/
def State.wchPtrOk (s : State) (ch : Fin 8) : Bool :=
  if 64 ≤ s.chRatio ch then true
  else match s.wch[ch].asm, s.chRec ch with
    | a :: _, some r => s.rdB (R.WCH_BWP_valid.inst ch.val) && r.b0 + a.k == s.rd (R.WCH_BWP_ptr.inst ch.val)
        && decide (s.rd (R.WCH_BWP_ptr.inst ch.val) ≤ 32767)
    | _, _ => false

/-- The mode and bias that the last completed PA_HCTL frame gave a channel's head. -/
def State.wchHctl (s : State) (ch : Fin 8) : Nat :=
  ((s.hl.get (chAct ch)).pa.find? (fun e => e.1 == s.headPos (s.chHead ch) && e.2.1 == 0x10)).elim 0 (fun e => e.2.2)

/-- The ready condition: preheat elapsed, lane select settled, laser bias enabled. -/
def State.wchReady (s : State) (ch : Fin 8) : Bool :=
  s.rdB (R.WCH_STAT_preheat_done.inst ch.val) && s.wch[ch].settled && !s.wch[ch].withheld && bitAt (s.wchHctl ch) 2

/-- The nine conditions, in table order. -/
def State.wchConds (s : State) (ch : Fin 8) : List Bool :=
  [ s.rdB R.GCK_STAT_lock && !s.chSelf ch, s.rdB R.SPM_STAT_lock, s.wchPosOk ch, !s.rdB R.THM_STAT_squall,
    !s.rdB R.THM_STAT_sd_seq && !s.rdB R.THM_STAT_latched,
    !s.rdB (hlField R.WCH_HL_STAT_fault_line (chAct ch)) && (s.hl.get (chAct ch)).lastZero,
    s.wchPtrOk ch, s.rdB (R.WCH_CTL_wt_valid.inst ch.val), s.wchReady ch ]

/-- The value of WCH_GATE_STAT.cond: bit 8 gauge down to bit 0 ready. -/
def condMask (l : List Bool) : Nat := l.foldl (fun m b => 2 * m + (if b then 1 else 0)) 0

/-- What WCH_GATE_STAT.cond shows: it follows the conditions, so it is computed and not stored. -/
def State.gateStat (s : State) (ch : Fin 8) : Nat := condMask (s.wchConds ch)

/-! ## Starting and stopping a channel -/

/-- The gate request of a lane (R222). -/
def State.wchRequest (ch : Fin 8) (b : Bool) (s : State) : State := s.wrB (R.WCH_STAT_gate_req.inst ch.val) b

/-- An abandon of the sequencer: the gate request drops and a sector in progress stays incomplete (R231, R194). -/
def State.wchAbandon (ch : Fin 8) (s : State) : State :=
  let s := s.wchRequest ch false
  let s := if s.wch[ch].inRun then s.wchIncomplete ch else s.wchIdle ch
  s.updWch ch (fun w => { w with asm := [], failed := false })

/-- A channel disabled: lanes idle and strobes low; WCH0 and WCH4 stop the link engine too (R208). -/
def State.wchDisable (ch : Fin 8) (s : State) : State :=
  let s := (s.wchAbandon ch).wchEnd ch
  if ch.val % 4 = 0 then
    ((s.updHl (chAct ch) (fun _ => HlState.init)).wr (hlField R.WCH_HL_STAT_init_done (chAct ch)) 0).hlRefresh (chAct ch)
  else s

/-- The frames of the initialisation, in order (R208). -/
def hlInitFrames : List HlFrame :=
  [ { cls := 0, read := true, target := 16, reg := 0, data := 0, tries := 0, init := true, fw := false },
    { cls := 0, read := false, target := 31, reg := 0x10, data := 0, tries := 0, init := true, fw := false } ]
  ++ [2, 3, 4, 5].map (fun r =>
    { cls := 0, read := false, target := 16, reg := r, data := 0, tries := 0, init := true, fw := false })
  ++ [ { cls := 0, read := true, target := 16, reg := 1, data := 0, tries := 0, init := true, fw := false } ]

/-- The link engine starts with the initialisation sequence (R208). -/
def State.hlStart (x : Act) (s : State) : State :=
  (s.updHl x (fun _ => { HlState.init with queue := hlInitFrames, initLeft := hlInitFrames.length })).hlRefresh x

/-- A channel's effective head changed (R207): PA_LANE is sent, or the lane is withheld and cause LANE recorded where the
new head is another channel's. -/
def State.wchLaneChange (ch : Fin 8) (s : State) : State :=
  let x := chAct ch
  let taken := (actChans x).any (fun c => c != ch && s.chHead c == s.chHead ch)
  if taken then (s.updWch ch (fun w => { w with withheld := true, settled := false })).wchFaultHere ch 9
  else
    let s := s.updWch ch (fun w => { w with withheld := false, settled := false })
    let s := s.wr (R.WCH_STAT_preheat_done.inst ch.val) 0
    (s.hlPush x (hlWrite 2 16 (2 + ch.val % 4) (16 + s.headPos (s.chHead ch)))).wchCompose ch

end Sys2Proof.Machine
end

