-- ==== Sys2Proof/Machine/CleFx.lean ====
section
/-! DEFINITION. Loop slots of CLE as the other blocks act on them (spec/09_control_engine.md): enabling, clearing, the
inputs of R260 and R264, and triggers (R262). -/
namespace Sys2Proof.Machine

/-- The 24 slots. -/
abbrev SlotId := Fin 24

/-- A slot's state updated. -/
def State.updSlot (k : SlotId) (f : CleSlot → CleSlot) (s : State) : State :=
  { s with cle := { s.cle with slots := updV s.cle.slots k f } }

/-- A slot by number; numbers beyond 23 name slot 0 and are never used. -/
def slotOf (n : Nat) : SlotId := if h : n < 24 then ⟨n, h⟩ else 0

/-- Whether a slot is enabled (R261). -/
def State.slotOn (s : State) (k : SlotId) : Bool := s.rdB R.CLE_CTL_en && s.rdB (R.CLE_CFG_en.at k.val)

/-- A slot's biquad states, integral sum, estimator state, prediction history and saturation flags cleared; the active
bank is kept (R261). -/
def State.slotClear (k : SlotId) (s : State) : State :=
  let s := s.forEach (List.range 32) (fun j s => s.wr (R.CLE_STATE_state.at (32 * k.val + j)) 0)
  let s := (((s.wr (R.CLE_S_LO_s.at k.val) 0).wr (R.CLE_S_HI_s.at k.val) 0).wr (R.CLE_SSTAT_sat.at k.val) 0).wr
    (R.CLE_SSTAT_xsat.at k.val) 0
  let s := s.wr (R.CLE_SSTAT_invcnt.at k.val) 0
  s.updSlot k (fun c => { c with pend := none, y1 := 0, y2 := 0, fromY := true, r := if k.val < 4 then c.r else 0 })

/-- A slot's output register holds u, as a Q1.31 word. -/
def State.slotOut (k : SlotId) (u : Int) (s : State) : State := s.wrI (R.CLE_U_u.at k.val) u

/-- The Q1.31 word of a slot's output. -/
def State.slotU (s : State) (n : Nat) : Int := s.rdI (R.CLE_U_u.at n)

/-- The reference that another block or loop gives a slot. -/
def State.slotRef (k : SlotId) (r : Int) (s : State) : State := s.updSlot k (fun c => { c with r := r })

/-- A speed in rpm as a Q1.31 word: rpm × 2^31 / 16,384 (R264). -/
def speedWord (rpm : Nat) : Int := satSigned 32 ((rpm * 131072 : Nat) : Int)

/-- A temperature of THM, in 1/16 °C, as a Q1.31 word: °C × 2^31 / 256 (R264). -/
def tempWord (t : Int) : Int := satSigned 32 (t * 524288)

/-- The states of SPM_STAT.state. -/
inductive SpmSt where
  | off | idle | measure | brake | reverse | align | open | run | coast | squall | latched
  deriving DecidableEq, Repr

/-- The encoding of SPM_STAT.state. -/
def SpmSt.code : SpmSt → Nat
  | .off => 0
  | .idle => 1
  | .measure => 2
  | .brake => 3
  | .reverse => 4
  | .align => 5
  | .open => 6
  | .run => 7
  | .coast => 8
  | .squall => 9
  | .latched => 10

/-- Whether SPM is in a state. -/
def State.spmIs (s : State) (x : SpmSt) : Bool := s.rd R.SPM_STAT_state == x.code

/-- The feedback of a general slot by CFG.fb: MEAS, an on-die sensor, or an external diode, invalid where THM says so. -/
def State.slotFeedback (s : State) (k : SlotId) : Int × Bool :=
  let fb := s.rd (R.CLE_CFG_fb.at k.val)
  if fb = 0 then (s.rdI (R.CLE_MEAS_meas.at k.val), true)
  else if fb ≤ 16 then (tempWord (s.rdI (R.THM_SENS_value.at (fb - 1))), s.rdB (R.THM_SENS_valid.at (fb - 1)))
  else if fb ≤ 20 then (tempWord (s.rdI (R.THM_DIODE_value.at (fb - 17))), s.rdB (R.THM_DIODE_valid.at (fb - 17)))
  else (0, false)

/-- The input of a slot at its trigger and whether it is valid (R260, R264, R267). -/
def State.slotInput (s : State) (k : SlotId) (wrap : Bool) : PendSample :=
  let n := k.val
  if n < 2 then
    let c := s.rdI (R.ACT_IMEAS_code.at n)
    ⟨c * 1048576, decide (c ≠ -2048 ∧ c ≠ 2047), wrap⟩
  else if n = 2 then ⟨s.rdI R.SPM_IDQ_i_d * 65536, true, wrap⟩
  else if n = 3 then ⟨s.rdI R.SPM_IDQ_i_q * 65536, true, wrap⟩
  else if n < 12 then ⟨s.rdI (R.SRV_CH_PES_pes.at (n - 4)) * 65536, s.rdB (R.SRV_CH_FLG_valid.at (n - 4)), wrap⟩
  else if n < 14 then ⟨s.rdI (R.SRV_ACT_POS_pos.at (n - 12)), s.rdB (R.SRV_ACT_FLG_valid.at (n - 12)), wrap⟩
  else if n = 14 then
    ⟨speedWord (s.rd (if s.rdB R.GCK_STAT_lock then R.SPM_SPEED_rpm else R.SPM_SPEED_obs_rpm)), s.spmIs .run, wrap⟩
  else
    let f := s.slotFeedback k
    ⟨f.1, f.2, wrap⟩

/-- A sample made pending with an input; one still pending is replaced, which sets the slot's CLE_OVR bit, counts and
raises source offset 0 (R262). -/
def State.slotTriggerWith (k : SlotId) (p : PendSample) (s : State) : State :=
  if !s.slotOn k then s
  else
    let s := s.when (s.cle.slots[k].pend.isSome = true) (fun s =>
      let t := ((s.wrBit R.CLE_OVR_ovr k.val true).inc R.CLE_CNT_ovr 1).raise 176
      t.when (t.rd R.CLE_CNT_ovr = 65535 ∧ s.rd R.CLE_CNT_ovr ≠ 65535) (State.raise 180))
    s.updSlot k (fun c => { c with pend := some p })

/-- A slot's trigger with the input that its feedback has now (R262). -/
def State.slotTrigger (k : SlotId) (wrap : Bool) (s : State) : State := s.slotTriggerWith k (s.slotInput k wrap) 

/-- Slots 15 to 23 whose CFG.trig has a value are triggered (R260). -/
def State.slotTriggerBy (trig : Nat) (s : State) : State :=
  s.forEach ((List.range 9).map (fun i => slotOf (15 + i)))
    (fun k s => if s.rd (R.CLE_CFG_trig.at k.val) = trig then s.slotTrigger k false else s)

end Sys2Proof.Machine
end

