-- ==== Sys2Proof/Machine/Trig.lean ====
section
/-! DEFINITION. Sines and cosines of an angle given as a fraction of a turn, in units of 2^-64, for the corrections of
R124 and R129 and the radial offsets of R256. The spec asks for results rounded to the nearest unit of 2^-15 or of a
whole unit; the series here is exact far below those units (DESIGN CHOICE, assumption 7). -/
namespace Sys2Proof.Machine

/-- One part in 2^64. -/
def fixOne : Int := 18446744073709551616

/-- Product of two numbers in units of 2^-64, in the same units. -/
def fixMul (x y : Int) : Int := x * y / fixOne

/-- x − x³/3! + x⁵/5! … over the coefficients' denominators, with x2 the square of x, by Horner's rule. -/
def fixSeries (x2 : Int) : List Int → Int
  | [] => fixOne
  | d :: ds => fixOne - fixMul x2 (fixSeries x2 ds) / d

/-- Sine of x, for |x| at most a quarter of π. -/
def sinSmall (x : Int) : Int :=
  fixMul x (fixSeries (fixMul x x) [2 * 3, 4 * 5, 6 * 7, 8 * 9, 10 * 11, 12 * 13, 14 * 15, 16 * 17, 18 * 19])

/-- Cosine of x, for |x| at most a quarter of π. -/
def cosSmall (x : Int) : Int :=
  fixSeries (fixMul x x) [1 * 2, 3 * 4, 5 * 6, 7 * 8, 9 * 10, 11 * 12, 13 * 14, 15 * 16, 17 * 18]

/-- The nearest quarter turn to num/den of a turn, modulo 4, and the rest of the angle in radians. -/
def octant (num : Int) (den : Nat) : Nat × Int :=
  let f : Int := (num % (den : Int)) * fixOne / (den : Int)
  let q : Int := (8 * f + fixOne) / (2 * fixOne)
  ((q % 4).toNat, (f - q * (fixOne / 4)) * 115904311329233965478 / fixOne)

/-- Cosine of num/den of a turn, in units of 2^-64. -/
def cosTurn (num : Int) (den : Nat) : Int :=
  match octant num den with
  | (0, x) => cosSmall x
  | (1, x) => - sinSmall x
  | (2, x) => - cosSmall x
  | (_, x) => sinSmall x

/-- Sine of num/den of a turn, in units of 2^-64. -/
def sinTurn (num : Int) (den : Nat) : Int :=
  match octant num den with
  | (0, x) => sinSmall x
  | (1, x) => cosSmall x
  | (2, x) => - sinSmall x
  | (_, x) => - cosSmall x

/-- a / b rounded to the nearest integer, ties away from zero (R129); b > 0. -/
def roundAway (a b : Int) : Int := if a < 0 then - ((2 * (-a) + b) / (2 * b)) else (2 * a + b) / (2 * b)

/-- The largest natural number whose square is at most n, by bisection of at most the given number of bits. -/
def isqrtGo (n : Nat) : Nat → Nat → Nat
  | 0, r => r
  | k + 1, r => if (r + 2 ^ k) * (r + 2 ^ k) ≤ n then isqrtGo n k (r + 2 ^ k) else isqrtGo n k r

/-- The integer square root, rounded down, for numbers below 2^128. -/
def isqrt (n : Nat) : Nat := isqrtGo n 64 0

end Sys2Proof.Machine
end

