-- ==== Sys2Proof/Machine/ActFx.lean ====
section
/-! DEFINITION. Actuators as the loops, the servo samples and the sequencers act on them (spec/09_control_engine.md): the
states of R280, the profile of R281, settle (R282), milliactuators (R278, R279), and the radial offsets and window check
of SRV (R256, R258). -/
namespace Sys2Proof.Machine

/-- The states of ACT_x_STAT.state. -/
inductive ActSt where
  | off | parked | loading | seek | settle | track | retract
  deriving DecidableEq, Repr

/-- The encoding of ACT_x_STAT.state. -/
def ActSt.code : ActSt → Nat
  | .off => 0
  | .parked => 1
  | .loading => 2
  | .seek => 3
  | .settle => 4
  | .track => 5
  | .retract => 6

/-- A field of an actuator. -/
def actF (f : Field) (x : Act) : Field := f.at x.idx

/-- Whether an actuator is in a state. -/
def State.actIs (s : State) (x : Act) (y : ActSt) : Bool := s.rd (actF R.ACT_STAT_state x) == y.code

/-- Whether an actuator follows targets: SEEK, SETTLE or TRACK. -/
def State.actTracks (s : State) (x : Act) : Bool := s.actIs x .seek || s.actIs x .settle || s.actIs x .track

/-- An actuator's state updated. -/
def State.updAct (x : Act) (f : ActState → ActState) (s : State) : State :=
  { s with act := { s.act with act := s.act.act.set x (f (s.act.act.get x)) } }

/-- The state of an actuator changes, raising source offset 0 or 1; entries to SEEK and TRACK are counted, and TRACK sets
the settle flag and raises offset 2 or 3 (R280, R285). -/
def State.actEnter (x : Act) (y : ActSt) (s : State) : State :=
  let s := ((s.wr (actF R.ACT_STAT_state x) y.code).wrB (actF R.ACT_STAT_settle x) (y == .track)).raise (192 + x.idx)
  let s := s.when (y = .seek) (State.inc (actF R.ACT_CNT_seeks x) 1)
  let s := s.when (y = .track) (fun s => (s.inc (actF R.ACT_CNT_settles x) 1).raise (194 + x.idx))
  s.when (y = .settle ∨ y = .seek) (State.wr (actF R.ACT_STAT_count x) 0)

/-! ## Milliactuators (R278, R279) -/

/-- A head's milliactuator command and its DAC code. -/
def State.maSet (h : Nat) (m : Int) (s : State) : State :=
  let g := ((s.rd (R.ACT_MA_GAIN_gain.at h) : Nat) : Int)
  let d := satSigned 16 (s.quot (m * g) 4096)
  ((s.wrI (R.ACT_MA_CMD_m.at h) m).wrI (R.ACT_MA_CMD_dac.at h) d).used

/-- The milliactuator target of head h: that of the lane of the present target which names it, and 0 where none does (R258). -/
def State.maGoal (s : State) (h : Nat) : Int :=
  if ((s.act.act.get (s.headAct h)).lanes.any (fun l => l.2.1 == h)) = true then
    (if hh : h < 32 then s.act.maTarget[h] else 0)
  else 0

/-- Whether an actuator holds its milliactuators at 0: OFF, PARKED and RETRACT (R280). -/
def State.maHeld (s : State) (x : Act) : Bool := s.actIs x .off || s.actIs x .parked || s.actIs x .retract

/-- The command of head h from its target and a loop output, clamped to ±96 tracks; a clamp sets the head's bit and raises
source offset 6 (R278). -/
def State.maCommand (h : Nat) (u : Int) (s : State) : State :=
  if s.maHeld (s.headAct h) then s
  else
    let z := s.maGoal h + u / 65536
    let s := s.maSet h (clampInt (-24576) 24576 z)
    s.when (z ≤ -24576 ∨ 24576 ≤ z) (fun s => (s.wrBit R.ACT_MA_CLAMP_clamp h true).raise 198)

/-- The displacement that ACT reports of head h. -/
def State.maNow (s : State) (h : Nat) : Int := s.rdI (R.ACT_MA_CMD_m.at h)

/-- Every milliactuator of an actuator at 0. -/
def State.maZero (x : Act) (s : State) : State :=
  let s := s.forEach (s.actHeads x) (fun h s => s.maSet h 0)
  let hs := s.actHeads x
  { s with act := { s.act with ramps := s.act.ramps.filter (fun r => !hs.contains r.1) } }

/-- One step of the heads that move to 0, at a wedge of the reference head (R279). -/
def State.maRamp (x : Act) (s : State) : State :=
  s.forEach (s.act.ramps.filter (fun r => s.headAct r.1 == x)) (fun r s =>
    let left := r.2.1 - 1
    let s := s.maSet r.1 (s.quot (r.2.2 * (left : Int)) 8)
    let rest := s.act.ramps.filter (fun q => q.1 != r.1)
    { s with act := { s.act with ramps := if left = 0 then rest else (r.1, left, r.2.2) :: rest } })

/-- A channel's effective head changes from old to new (R279): the slot is cleared, the new head starts at its target, and
the old head's command begins its 8 steps to 0 unless another channel drives it. A lane whose head changes gets
displacement 0 (R283). -/
def State.maHeadChange (ch : Fin 8) (old new : Nat) (s : State) : State :=
  let s := s.slotClear (slotOf (4 + ch.val))
  let rest := s.act.ramps.filter (fun q => q.1 != new && q.1 != old)
  let taken := (actChans (chAct ch)).any (fun c => c != ch && s.chHead c == old)
  let m := s.maNow old
  let s := { s with act := { s.act with ramps := if taken || m == 0 then rest else (old, 8, m) :: rest } }
  let s := { s with act := { s.act with dispNow := updV s.act.dispNow ch (fun _ => 0), dispNext := updV s.act.dispNext ch (fun _ => none) } }
  s.maCommand new 0

/-! ## Displacements (R283) -/

/-- ACT_x_OFT shows the displacements in force. -/
def State.oftShow (x : Act) (s : State) : State :=
  s.wr (actF R.ACT_OFT_disp x) (leValue ((actChans x).map (fun c => BitVec.ofNat 8 (twosOf 8 s.act.dispNow[c]))))

/-- A lane's displacement, in 1/32 track, waits for the lane head's next wedge boundary. -/
def State.dispSet (ch : Fin 8) (d : Int) (s : State) : State :=
  { s with act := { s.act with dispNext := updV s.act.dispNext ch (fun _ => some d) } }

/-- A waiting displacement takes effect at the lane head's wedge boundary. -/
def State.dispApply (ch : Fin 8) (s : State) : State :=
  match s.act.dispNext[ch] with
  | some d =>
    State.oftShow (chAct ch) { s with act := { s.act with dispNow := updV s.act.dispNow ch (fun _ => d),
                                                          dispNext := updV s.act.dispNext ch (fun _ => none) } }
  | none => s

/-- The displacements of an actuator set to 0 at once. -/
def State.dispZero (x : Act) (s : State) : State :=
  (s.forEach (actChans x) (fun c s => { s with act := { s.act with dispNow := updV s.act.dispNow c (fun _ => 0),
                                                                    dispNext := updV s.act.dispNext c (fun _ => none) } })).oftShow x

/-! ## Radial offsets and the window check (R256, R258) -/

/-- The reference head of an actuator. -/
def State.refHead (s : State) : Act → Nat
  | .a => s.rd R.SRV_REF_CFG_ref_a
  | .b => s.rd R.SRV_REF_CFG_ref_b

/-- The annulus that holds a servo track, with its first track; the strip tracks use A00 (R256). -/
def State.annulusOf (s : State) (t : Int) : Nat × Int :=
  let l := s.geom.annuli
  let a := (l.filter (fun r => decide (((r.firstTrack : Nat) : Int) ≤ t))).length - 1
  (a, (l[a]?).elim 0 (fun r => ((r.firstTrack : Nat) : Int)))

/-- roff(h, t, w) in 1/256 track, rounded to the nearest unit; without its harmonic terms where harm is false (R256). -/
def State.roff (s : State) (h : Nat) (t : Int) (w : Nat) (harm : Bool) : Int :=
  let x := s.headAct h
  if !s.rdB R.SRV_CTL_rofs_valid || h == s.refHead x then 0
  else
    let a := s.annulusOf t
    let ofs := s.rdI (R.SRV_ROFS0_ofs.at (64 * h + a.1))
    let sl := s.rdI (R.SRV_ROFS1_slope.at (64 * h + a.1))
    let lin := ofs * fixOne + sl * (t - a.2) * (fixOne / 1024)
    let hr := if harm then s.rdI (R.SRV_RECC_c1.at h) * cosTurn w (s.wedges x) + s.rdI (R.SRV_RECC_s1.at h) * sinTurn w (s.wedges x)
      else 0
    (lin + hr + fixOne / 2) / fixOne

/-- The positions q of lane heads at their tracks, by R258. -/
def State.laneQ (s : State) (lanes : List (Nat × Nat × Nat)) (w : Nat) (harm : Bool) : List Int :=
  lanes.map (fun l => ((l.2.2 * 256 : Nat) : Int) - s.roff l.2.1 ((l.2.2 : Nat) : Int) w harm)

/-- The smallest and largest of a list. -/
def minMax : List Int → Int × Int
  | [] => (0, 0)
  | z :: r => r.foldl (fun p y => (min p.1 y, max p.2 y)) (z, z)

/-- The midpoint of two positions, an exact half rounded up (R258). -/
def midPoint (p : Int × Int) : Int := (p.1 + p.2 + 1) / 2

/-- The span of a window check. -/
def State.windowSpan (s : State) (lanes : List (Nat × Nat × Nat)) : Int :=
  let p := minMax (s.laneQ lanes 0 false)
  p.2 - p.1

/-- The value of a block-wide wedge field of SRV that an actuator uses: the pending one where its reference head's
boundary has passed and the other's has not (R570). -/
def State.srvCfg (s : State) (x : Act) (f : Field) : Nat :=
  ((s.srv.early.find? (fun e => e.1 == x.idx && e.2.1 == f.key)).map (fun e => e.2.2.toNat)).getD (s.rd f)

/-- Whether the window check passes (R258). -/
def State.windowOk (s : State) (x : Act) (lanes : List (Nat × Nat × Nat)) : Bool :=
  if lanes.length ≤ 1 then true
  else if !s.rdB R.SRV_CTL_rofs_valid then false
  else decide (s.windowSpan lanes ≤ 2 * (96 - ((s.srvCfg x R.SRV_CHK_CFG_margin : Nat) : Int)) * 256)

/-- SRV_WIN_STAT.over_a or over_b. -/
def winOver : Act → Field
  | .a => R.SRV_WIN_STAT_over_a
  | .b => R.SRV_WIN_STAT_over_b

/-- The check's span is shown, in tracks; a failure sets the actuator's flag and raises source offset 4 or 5. -/
def State.windowShow (x : Act) (lanes : List (Nat × Nat × Nat)) (s : State) : State :=
  let ok := s.windowOk x lanes
  let s := s.wr R.SRV_WIN_STAT_span (min 65535 (s.windowSpan lanes / 256).toNat)
  s.when (ok = false) (fun s => (s.wr (winOver x) 1).raise (164 + x.idx))

/-! ## Targets and profile (R258, R281) -/

/-- The actuator target without harmonic terms, in 1/256 track. -/
def State.targetFlat (s : State) (lanes : List (Nat × Nat × Nat)) : Int := midPoint (minMax (s.laneQ lanes 0 false))

/-- A profile starts with r = p_act and v = CLE_VEL, toward c0 (R281). -/
def State.profileStart (x : Act) (c0 : Int) (s : State) : State :=
  let p := s.rdI (R.SRV_ACT_POS_pos.at x.idx)
  let v := s.rdI (R.CLE_VEL_vel.at x.idx)
  s.updAct x (fun a => { a with r := p * 256, v := v, c0 := c0, c := c0, hasTarget := true })

/-- The targets that SRV gives ACT at a wedge of the reference head: c with the full roff and each lane head's
milliactuator target (R258). -/
def State.targetUpdate (x : Act) (w : Nat) (s : State) : State :=
  let a := s.act.act.get x
  if !s.actTracks x || a.lanes.isEmpty || a.held then s
  else
    let q := s.laneQ a.lanes w true
    let c := midPoint (minMax q)
    let s := (s.updAct x (fun a => { a with c := c })).wrI (actF R.ACT_TGT_c x) c
    s.forEach (a.lanes.zip q) (fun p s =>
      if hh : p.1.2.1 < 32 then
        { s with act := { s.act with maTarget := s.act.maTarget.set p.1.2.1 (p.2 - c) } }
      else s)

/-- One step of the profile, with distances in 1/65,536 track; the square root is taken to either neighbouring integer
where it is not exact (DESIGN CHOICE, assumption 9). -/
def State.profileStep (x : Act) (s : State) : State :=
  let a := s.act.act.get x
  let d := a.c0 * 256 - a.r
  if d = 0 then s.updAct x (fun a => { a with v := 0 })
  else
    let sg : Int := if d < 0 then -1 else 1
    let amax : Int := ((s.rd (actF R.ACT_SEEK_a_max x) * 256 : Nat) : Int)
    let vmax : Int := ((s.rd (actF R.ACT_SEEK_v_max x) * 65536 : Nat) : Int)
    let n := (2 * amax * (d.natAbs : Int)).toNat
    let q := isqrt n
    let root : Int := (q : Int) + (if q * q = n then 0 else s.freeBit)
    let w := min (min (min (sg * a.v + amax) vmax) root) (d.natAbs : Int)
    (s.updAct x (fun a => { a with v := sg * w, r := a.r + sg * w })).used

/-- The reference of slot 12 or 13: the profile plus the harmonic part of the target (R281). -/
def State.actRef (s : State) (x : Act) : Int :=
  let a := s.act.act.get x
  s.quot a.r 256 + (a.c - a.c0)

/-- ACT_x_REF shows the reference, and the position loop receives it. -/
def State.actRefShow (x : Act) (s : State) : State :=
  let r := s.actRef x
  ((s.wrI (actF R.ACT_REF_r x) r).slotRef (slotOf (12 + x.idx)) r).used

/-! ## Retract -/

/-- RETRACT is entered: the milliactuators go to 0, the displacements to 0, settle to 0 (R280). -/
def State.actRetract (x : Act) (s : State) : State :=
  if s.actIs x .loading || s.actTracks x then
    let s := ((s.actEnter x .retract).maZero x).dispZero x
    s.updAct x (fun a => { a with vestSeen := false, hasTarget := false, loadCount := 0 })
  else s

/-- PARKED is entered from RETRACT: bridge off, source offset 5; the heads have no lane track until named again (R249). -/
def State.actPark (x : Act) (s : State) : State :=
  let s := (s.actEnter x .parked).raise 197
  let hs := s.actHeads x
  let s := s.updAct x (fun _ => ActState.init)
  { s with act := { s.act with laneTrack := hs.foldl (fun v h => if hh : h < 32 then v.set h none else v) s.act.laneTrack } }

/-! ## Settle (R282) -/

/-- Whether a sample meets the settle criterion. -/
def State.settleOk (s : State) (x : Act) : Bool :=
  let a := s.act.act.get x
  let win : Int := ((s.rd (actF R.ACT_SETTLE_win x) : Nat) : Int)
  s.rdB (R.SRV_ACT_FLG_valid.at x.idx) && decide (a.r = a.c0 * 256) && decide ((a.c - s.rdI (R.SRV_ACT_POS_pos.at x.idx)).natAbs ≤ win)
    && (s.opLanes x).all (fun l => s.rdB (R.SRV_CH_FLG_valid.at (laneCh x l).val)
      && decide ((s.rdI (R.SRV_CH_PES_pes.at (laneCh x l).val)).natAbs ≤ win))
    && decide (s.cle.auxSlot ≠ some (12 + x.idx)) && decide (s.cle.auxSlot ≠ some x.idx)

/-- The settle criterion judged in SETTLE and TRACK; after a failed window check the settle flag stays 0 (R280). -/
def State.settleCheck (x : Act) (s : State) : State :=
  if s.actIs x .settle then
    if s.settleOk x then
      let n := min 255 (s.rd (actF R.ACT_STAT_count x) + 1)
      let s := s.wr (actF R.ACT_STAT_count x) n
      s.when (s.rd (actF R.ACT_SETTLE_settle_n x) ≤ n) (fun s =>
        (s.actEnter x .track).when ((s.act.act.get x).held = true) (State.wr (actF R.ACT_STAT_settle x) 0))
    else s.wr (actF R.ACT_STAT_count x) 0
  else if s.actIs x .track && !s.settleOk x then s.actEnter x .settle
  else s

/-- ACT's part of an actuator sample: LOADING counts valid samples, the profile advances, settle is judged, and the
position loop is triggered (R280 to R282). -/
def State.actSample (x : Act) (s : State) : State :=
  if s.actIs x .loading then
    if s.rdB (R.SRV_ACT_FLG_valid.at x.idx) then
      let n := (s.act.act.get x).loadCount + 1
      if n < 4 then s.updAct x (fun a => { a with loadCount := n })
      else
        let p := s.rdI (R.SRV_ACT_POS_pos.at x.idx)
        let c0 := (p + 128) / 256 * 256
        let s := ((s.slotClear (slotOf (12 + x.idx))).profileStart x c0).wrI (actF R.ACT_TGT_c x) c0
        (s.updAct x (fun a => { a with loadCount := 0, held := false })).actEnter x .settle
    else s.updAct x (fun a => { a with loadCount := 0 })
  else if s.actTracks x then
    let s := (s.profileStep x).actRefShow x
    let a := s.act.act.get x
    let s := if s.actIs x .seek && decide (a.r = a.c0 * 256) then s.actEnter x .settle else s.settleCheck x
    s.slotTrigger (slotOf (12 + x.idx)) false
  else s

end Sys2Proof.Machine
end

