-- ==== Sys2Proof/Machine/RchFx.lean ====
section
/-! DEFINITION. Read channels as their own commands, the sequencers and PAR act on them (spec/05_read_channels.md): the
recovery set, sample slots, the soft-combine store, reports, the ladder, and the correction of R129. -/
namespace Sys2Proof.Machine

/-- Rung kinds (R161). -/
inductive Rung where
  | fin | reread | offtrack | alteq | iter | altsync | fly | deep | combine | parity | reserved
  deriving DecidableEq, Repr

/-- The kind a code of RCH_LADn_W0.kind names. -/
def Rung.ofCode : Nat → Rung
  | 0 => .fin
  | 1 => .reread
  | 2 => .offtrack
  | 3 => .alteq
  | 4 => .iter
  | 5 => .altsync
  | 6 => .fly
  | 7 => .deep
  | 8 => .combine
  | 9 => .parity
  | _ => .reserved

/-- A field of a read channel. -/
def rchF (f : Field) (ch : Fin 8) : Field := f.inst ch.val

/-- A field of entry k of a channel's recovery set. -/
def rsetF (f : Field) (ch : Fin 8) (k : Nat) : Field := (f.inst ch.val).at k

/-- A field of ladder entry n of a channel. -/
def ladF (f : Field) (ch : Fin 8) (n : Nat) : Field := (f.inst ch.val).at n

/-- The number of a channel's source at an offset (R179). -/
def rchSrc (ch : Fin 8) (off : Nat) : Nat := 64 + 8 * ch.val + off

/-- A counter raised by one; source offset 5 when it reaches saturation (R176). -/
def State.rchCount (ch : Fin 8) (g : Field) (s : State) : State :=
  let t := s.inc g 1
  t.when (t.rd g = 2 ^ g.w - 1 ∧ s.rd g ≠ 2 ^ g.w - 1) (State.raise (rchSrc ch 5))

/-! ## The recovery set (R159) -/

/-- Whether entry k is open. -/
def State.entryOpen (s : State) (ch : Fin 8) (k : Nat) : Bool :=
  s.rdB (rsetF R.RCH_RSET_A_valid ch k) && s.rd (rsetF R.RCH_RSET_A_status ch k) == 0

/-- The track and sector of entry k as one number, by which entries are taken in order (R164). -/
def State.entryKey (s : State) (ch : Fin 8) (k : Nat) : Nat :=
  s.rd (rsetF R.RCH_RSET_B_track ch k) * 2048 + s.rd (rsetF R.RCH_RSET_B_sector ch k)

/-- An entry placed in order of track and sector. -/
def State.entryInsert (s : State) (ch : Fin 8) (k : Nat) : List Nat → List Nat
  | [] => [k]
  | j :: r => if s.entryKey ch k < s.entryKey ch j then k :: j :: r else j :: s.entryInsert ch k r

/-- The open entries in ascending track and sector (R164). -/
def State.openEntries (s : State) (ch : Fin 8) : List Nat :=
  ((List.range 16).filter (fun k => s.entryOpen ch k)).foldr (s.entryInsert ch) []

/-- Whether the channel's set holds open entries. -/
def State.rcvOpen (s : State) (ch : Fin 8) : Bool := !(s.openEntries ch).isEmpty

/-- Whether a slot holds the samples of entry k. -/
def Slot.holds (x : Slot) (k : Nat) : Bool :=
  match x with
  | .frozen e _ => e == k
  | _ => false

/-- Whether a slot is frozen. -/
def Slot.isFrozen : Slot → Bool
  | .frozen _ _ => true
  | _ => false

/-- Whether entry k holds samples. -/
def State.holdsSamples (s : State) (ch : Fin 8) (k : Nat) : Bool :=
  s.rch[ch].slot0.holds k || s.rch[ch].slot1.holds k

/-- The status fields of the channel follow its state: slots, open entries and the stored decode. -/
def State.rchRefresh (ch : Fin 8) (s : State) : State :=
  let n := (s.openEntries ch).length
  let fr := (if s.rch[ch].slot0.isFrozen then 1 else 0) + (if s.rch[ch].slot1.isFrozen then 1 else 0)
  let s := ((s.wr (rchF R.RCH_STAT_sb_frozen ch) fr).wrB (rchF R.RCH_STAT_rcv_open ch) (decide (0 < n))).wr
    (rchF R.RCH_RCV_STAT_open ch) n
  let s := s.wrB (rchF R.RCH_STAT_stored_dec ch) s.rch[ch].stored.isSome
  s.forEach (List.range 16) (fun k s => if s.rdB (rsetF R.RCH_RSET_A_valid ch k) then
    s.wrB (rsetF R.RCH_RSET_A_samples ch k) (s.holdsSamples ch k) else s)

/-- The slots that hold entry k become free (R156). -/
def State.slotRelease (ch : Fin 8) (k : Nat) (s : State) : State :=
  let f : Slot → Slot := fun x => if x.holds k then .free else x
  s.updRch ch (fun r => { r with slot0 := f r.slot0, slot1 := f r.slot1 })

/-- Slot i set. -/
def State.setSlot (ch : Fin 8) (i : Nat) (x : Slot) (s : State) : State :=
  s.updRch ch (fun r => if i = 0 then { r with slot0 := x } else { r with slot1 := x })

/-! ## Soft-combine store (R157) -/

/-- RCH_CMB_STAT.used follows the store. -/
def State.combineRefresh (s : State) : State := s.wr R.RCH_CMB_STAT_used s.combine.length

/-- The combine entry of a recovery entry. -/
def State.combineOf (s : State) (ch : Fin 8) (k : Nat) : Option Combine :=
  s.combine.find? (fun c => c.ch == ch.val && c.entry == k)

/-- The reads captured for a recovery entry. -/
def State.captures (s : State) (ch : Fin 8) (k : Nat) : Nat := (s.combineOf ch k).elim 0 (·.count)

/-- Soft values added to 8 bits signed, saturating. -/
def addSoft : List Int → List Int → List Int
  | [], ys => ys.map (satSigned 8)
  | xs, [] => xs
  | x :: xs, y :: ys => satSigned 8 (x + y) :: addSoft xs ys

/-- The combine store replaced. -/
def State.setCombine (l : List Combine) (s : State) : State := { s with combine := l }

/-- One failed read added to its entry, which is allocated first; refused where all 64 are in use (R157). -/
def State.capture (ch : Fin 8) (k : Nat) (soft : List Int) (s : State) : State :=
  match s.combineOf ch k with
  | some c =>
    if 4 ≤ c.count then s
    else
      let d : Combine := { c with count := c.count + 1, sum := addSoft c.sum soft }
      let s := s.setCombine (s.combine.map (fun e => if e.ch == ch.val && e.entry == k then d else e))
      s.wr (rsetF R.RCH_RSET_A_captures ch k) d.count
  | none =>
    if 64 ≤ s.combine.length then (s.rchCount 0 R.RCH_CMB_CNT_refused).raise (rchSrc ch 4)
    else
      let s := s.setCombine (s.combine ++ [⟨ch.val, k, 1, soft.map (satSigned 8)⟩])
      (s.combineRefresh).wr (rsetF R.RCH_RSET_A_captures ch k) 1

/-- The combine entry of a recovery entry released (R157). -/
def State.combineRelease (ch : Fin 8) (k : Nat) (s : State) : State :=
  State.combineRefresh { s with combine := s.combine.filter (fun c => c.ch != ch.val || c.entry != k) }

/-- The sum and count of a combine entry cleared (R165, R158). -/
def State.combineClear (ch : Fin 8) (k : Nat) (s : State) : State :=
  let s := s.setCombine (s.combine.map (fun e => if e.ch == ch.val && e.entry == k then { e with count := 0, sum := [] } else e))
  s.wr (rsetF R.RCH_RSET_A_captures ch k) 0

/-! ## Reports (R175) -/

/-- The report pair shows the oldest report. -/
def State.reportShow (ch : Fin 8) (s : State) : State :=
  let f := fun (g : Field) (v : Nat) (s : State) => s.wr (rchF g ch) v
  match s.rch[ch].reports with
  | [] => f R.RCH_RPT_HI_captures 0 (f R.RCH_RPT_HI_iter 0 (f R.RCH_RPT_HI_head 0 (f R.RCH_RPT_HI_rung 0
      (f R.RCH_RPT_HI_outcome 0 (f R.RCH_RPT_HI_valid 0 (f R.RCH_RPT_LO_sector 0 (f R.RCH_RPT_LO_track 0 s)))))))
  | r :: _ => f R.RCH_RPT_HI_captures r.captures (f R.RCH_RPT_HI_iter r.iter (f R.RCH_RPT_HI_head r.head
      (f R.RCH_RPT_HI_rung r.rung (f R.RCH_RPT_HI_outcome r.outcome (f R.RCH_RPT_HI_valid 1
      (f R.RCH_RPT_LO_sector r.sector (f R.RCH_RPT_LO_track r.track s)))))))

/-- A report posted, or dropped and counted where the FIFO of 32 is full (R175). -/
def State.reportPost (ch : Fin 8) (r : Report) (s : State) : State :=
  if 32 ≤ s.rch[ch].reports.length then (s.rchCount ch (rchF R.RCH_CNT_MISC_rpt_drop ch)).raise (rchSrc ch 2)
  else (s.updRch ch (fun c => { c with reports := c.reports ++ [r] })).reportShow ch

/-! ## Closing entries -/

/-- Entry k closes with an outcome (1 RECOVERED, 2 UNRECOVERED, 3 ABANDONED) at a rung: counters, the report, and the
release of its slot and combine entry (R164, R171, R174). -/
def State.entryClose (ch : Fin 8) (k outcome rung : Nat) (s : State) : State :=
  if !s.entryOpen ch k then s
  else
    let rep : Report :=
      ⟨s.rd (rsetF R.RCH_RSET_B_track ch k), s.rd (rsetF R.RCH_RSET_B_sector ch k), outcome, rung,
        if h : k < 16 then s.rch[ch].entryHead[k] else 0, s.rch[ch].lastIter, s.captures ch k⟩
    let s := (s.wr (rsetF R.RCH_RSET_A_status ch k) outcome).wr (rsetF R.RCH_RSET_A_rung ch k) rung
    let s := s.when (outcome = 1) (State.rchCount ch (ladF R.RCH_CNT_RUNG_count ch rung))
    let s := s.when (outcome = 2) (fun s => ((s.rchCount ch (rchF R.RCH_CNT_UNREC_count ch)).raise (rchSrc ch 0)).updRch ch
      (fun r => { r with unrec := true }))
    let s := (s.reportPost ch rep).when (outcome = 2) (State.logOpen 0x3E false)
    let s := s.headStat rep.head (fun x =>
      if outcome = 2 then { x with unrec := stat32 x.unrec }
      else if outcome ≠ 1 then x
      else if Rung.ofCode (s.rd (ladF R.RCH_LAD_W0_kind ch rung)) = .parity then { x with parity := stat32 x.parity }
      else if rung < 4 then { x with low := stat32 x.low } else { x with high := stat32 x.high })
    ((s.slotRelease ch k).combineRelease ch k).rchRefresh ch

/-- Every open entry closes with an outcome at the rung last tried. -/
def State.closeAll (ch : Fin 8) (outcome : Nat) (s : State) : State :=
  s.forEach (s.openEntries ch) (fun k s => s.entryClose ch k outcome ((s.rch[ch].rung).getD 0))

/-- A new set begins: every entry is free and the ladder starts over. -/
def State.setStart (ch : Fin 8) (s : State) : State :=
  let s := s.forEach (List.range 16) (fun k s => (s.wr (rsetF R.RCH_RSET_A_valid ch k) 0).wr (rsetF R.RCH_RSET_A_captures ch k) 0)
  let s := (((s.wr (rchF R.RCH_RCV_STAT_rung ch) 0).wr (rchF R.RCH_RCV_STAT_repeat ch) 0).wr (rchF R.RCH_RCV_STAT_skipped ch)
    0).wr (rchF R.RCH_RCV_STAT_revs ch) 0
  s.updRch ch (fun r => { r with rung := none, ovfMore := 0 })

/-- The lowest entry not in use. -/
def State.freeEntry (s : State) (ch : Fin 8) : Option (Fin 16) :=
  ([0, 1, 2, 3, 4, 5, 6, 7, 8, 9, 10, 11, 12, 13, 14, 15] : List (Fin 16)).find? (fun k => !s.rdB (rsetF R.RCH_RSET_A_valid ch k.val))

/-- A failed sector opens an entry, whose number is answered, or overflows the set (R159). -/
def State.entryAdd (ch : Fin 8) (x : InFlight) (s : State) : State × Option Nat :=
  let s := if s.rcvOpen ch then s else s.setStart ch
  match s.freeEntry ch with
  | some k =>
    let s := (((s.wr (rsetF R.RCH_RSET_A_valid ch k.val) 1).wr (rsetF R.RCH_RSET_A_status ch k.val) 0).wr
      (rsetF R.RCH_RSET_A_rung ch k.val) 0).wr (rsetF R.RCH_RSET_A_captures ch k.val) 0
    let s := (s.wr (rsetF R.RCH_RSET_B_track ch k.val) x.track).wr (rsetF R.RCH_RSET_B_sector ch k.val) x.sector
    let h := s.chHead ch
    (s.updRch ch (fun r => { r with cands := updV r.cands k (fun _ => x.cands), entryK := updV r.entryK k (fun _ => x.k),
                                    entryHead := updV r.entryHead k (fun _ => h) }), some k.val)
  | none =>
    let first := s.rch[ch].ovfMore = 0
    let s := s.when first (fun s => (s.wr (rchF R.RCH_RSET_OVF_track ch) x.track).wr (rchF R.RCH_RSET_OVF_sector ch) x.sector)
    let s := s.updRch ch (fun r => { r with ovfMore := r.ovfMore + 1, ovfK := if r.ovfMore = 0 then x.k else r.ovfK })
    (((s.wr (rchF R.RCH_STAT_rset_ovf ch) 1).raise (rchSrc ch 1)), none)

/-! ## Delivery (R150) -/

/-- A lane sector's 4,096 user bytes and 16 metadata bytes written to its buffer addresses (R150, R213), and added into a
bound accumulator (R314). -/
def State.deliver (ch : Fin 8) (k : Nat) (info : List Byte) (s : State) : State :=
  match s.chRec ch with
  | some r => ((s.dramPut (r.dataAddr k) (info.take 4096)).dramPut (r.metaAddr k) ((info.drop 4096).take 16)).parReadAdd ch
      (r.b0 + k) info
  | none => s

/-- The lane sector of an entry. -/
def State.entryLaneK (s : State) (ch : Fin 8) (k : Nat) : Nat := if h : k < 16 then s.rch[ch].entryK[k] else 0

/-- Whether a decode meets R149: zero syndrome, and outside parity bands a matching guard. -/
def State.decodeOk (s : State) (ch : Fin 8) (d : Decoded) : Bool :=
  d.zeroSyndrome && ((match s.chRec ch with
    | some r => s.laneParity r
    | none => false) || guardMatches d.info)

/-- A zero syndrome with a wrong guard is counted and raises source offset 6 (R149). -/
def State.guardCheck (ch : Fin 8) (d : Decoded) (s : State) : State :=
  if d.zeroSyndrome && !s.decodeOk ch d then (s.rchCount ch (rchF R.RCH_CNT_GUARD_count ch)).raise (rchSrc ch 6) else s

/-! ## Adaptation and tracking (R143 to R145) -/

/-- The table entry of (h, a). -/
def State.adaptEntry (s : State) (ch : Fin 8) (h a : Nat) : Adapt :=
  let f : Field → Nat := fun g => s.rd (ladF g ch (66 * h + a))
  { vga := f R.RCH_AT0_vga, fc := f R.RCH_AT0_fc, boost := f R.RCH_AT0_boost, det := f R.RCH_AT0_det, llr := f R.RCH_AT0_llr,
    offset := signedOf 8 (f R.RCH_AT1_offset), mra := signedOf 8 (f R.RCH_AT1_mra) }

/-- The entry loaded where the head or the ratio index differs from the sector before, or none is loaded (R143). -/
def State.adaptLoad (ch : Fin 8) (s : State) : State :=
  let h := s.localHead (s.chHead ch)
  let a := s.chRatio ch
  if s.rch[ch].loaded = some (h, a) then s
  else
    let e := s.adaptEntry ch h a
    s.updRch ch (fun r => { r with loaded := some (h, a), cur := e })

/-- The three tracking loops (R144), saturated to the ranges of R141. -/
def State.trackUpdate (ch : Fin 8) (m : SectorMeasure) (s : State) : State :=
  let c := s.rch[ch].cur
  let f : Field → Nat := fun g => s.rd (rchF g ch)
  let vga := if f R.RCH_TRK_CFG_g_en = 0 then c.vga
    else clampInt 0 255 (c.vga + (f R.RCH_TRK_CFG_agc_target - m.meanAbs) / (2 ^ f R.RCH_TRK_CFG_kg : Nat))
  let offset := if f R.RCH_TRK_CFG_o_en = 0 then c.offset
    else clampInt (-128) 127 (c.offset + m.errorDc / (2 ^ f R.RCH_TRK_CFG_ko : Nat))
  let mra := if f R.RCH_TRK_CFG_m_en = 0 then c.mra
    else clampInt (-128) 127 (c.mra + m.errorAsym / (2 ^ f R.RCH_TRK_CFG_km : Nat))
  s.updRch ch (fun r => { r with cur := { c with vga := vga, offset := offset, mra := mra } })

/-- RCH_TRK_STAT shows the tracked values (R145). -/
def State.trackShow (ch : Fin 8) (s : State) : State :=
  ((s.wrI (rchF R.RCH_TRK_STAT_vga ch) s.rch[ch].cur.vga).wrI (rchF R.RCH_TRK_STAT_offset ch) s.rch[ch].cur.offset).wrI
    (rchF R.RCH_TRK_STAT_mra ch) s.rch[ch].cur.mra

/-! ## Correction of GCK from a sync error (R129 to R131) -/

/-- A correction term raised by d, held within the clamp; a clamp sets the flag, counts and raises source 59 (R131). -/
def State.corrAdd (f : Field) (d : Int) (s : State) : State :=
  let lim : Int := ((s.rd R.GCK_CORR_CFG_clamp * 256 : Nat) : Int)
  let v := s.rdI f + d
  let s := s.wrI f (clampInt (-lim) lim v)
  s.when (lim < v ∨ v < -lim) (fun s => ((s.wr R.GCK_STAT_clamp 1).inc R.GCK_EVT_CNT_clamp 1).raise 59)

/-- The angle of a sector's sync mark in the head's frame, as a Drive Phase: wedge start, servo gap and cells (R124). -/
def State.headPhase (s : State) (x : Act) (a wedge cell : Nat) : Nat :=
  wedge * 2 ^ 32 / s.wedges x + s.rd (R.MSQ_GEO_g.inst x.idx) * 4096
    + (roundDiv ((cell * 2 ^ 38 : Nat) : Int) (s.rd (R.GCK_RATIO_ratio.at a))).toNat

/-- The update of head h from a sync error e in 1/16 cell at a head-frame angle (R129). -/
def State.corrUpdate (h a phase : Nat) (e : Int) (s : State) : State :=
  let ratio := s.rd (R.GCK_RATIO_ratio.at a)
  if !s.rdB R.GCK_CORR_CFG_en || ratio == 0 then s
  else
    let edp := roundAway (e * 17179869184) ratio
    let k1 := s.rd R.GCK_CORR_CFG_k1
    let cs := roundAway (cosTurn phase (2 ^ 32)) 562949953421312
    let sn := roundAway (sinTurn phase (2 ^ 32)) 562949953421312
    let s := s.corrAdd (R.GCK_HCORR_C0_value.at h) (edp / (2 ^ s.rd R.GCK_CORR_CFG_k0 : Nat))
    if s.rdB R.GCK_CORR_CFG_harm_en then
      (s.corrAdd (R.GCK_HCORR_C1_value.at h) (edp * cs / (2 ^ (k1 + 15) : Nat))).corrAdd (R.GCK_HCORR_S1_value.at h)
        (edp * sn / (2 ^ (k1 + 15) : Nat))
    else s

/-! ## The ladder (R160 to R169) -/

/-- The kind of ladder entry n. -/
def State.rungKind (s : State) (ch : Fin 8) (n : Nat) : Rung := Rung.ofCode (s.rd (ladF R.RCH_LAD_W0_kind ch n))

/-- The current rung's number. -/
def State.rungNow (s : State) (ch : Fin 8) : Nat := (s.rch[ch].rung).getD 0

/-- The current rung's kind; END beyond the sixteenth entry. -/
def State.kindNow (s : State) (ch : Fin 8) : Rung :=
  if 16 ≤ s.rungNow ch then .fin else s.rungKind ch (s.rungNow ch)

/-- The first entry of a kind. -/
def State.rungOf (s : State) (ch : Fin 8) (p : Rung → Bool) : Option Nat := (List.range 16).find? (fun n => p (s.rungKind ch n))

/-- The rung after the current one; at the recovery limit the PARITY rung, or END where the ladder, which ends at its first END
(R160), has none (R169). -/
def State.rungNext (s : State) (ch : Fin 8) (reached : Bool) : Nat :=
  if reached then
    (s.rungOf ch (fun k => k == Rung.parity || k == Rung.fin)).getD 16
  else match s.rch[ch].rung with
    | none => 0
    | some n => n + 1

/-- The channel advances to the next rung; the rung reached is recorded in its open entries (R217, R159). -/
def State.ropNext (ch : Fin 8) (reached : Bool) (s : State) : State :=
  let n := s.rungNext ch reached
  let s := ((s.updRch ch (fun r => { r with rung := some n })).wr (rchF R.RCH_RCV_STAT_rung ch) n).wr
    (rchF R.RCH_RCV_STAT_repeat ch) 0
  s.forEach (s.openEntries ch) (fun k s => s.wr (rsetF R.RCH_RSET_A_rung ch k) n)

/-- The current rung's settings applied: FIR set, iterations, heater step, capture (R217, R161). -/
def State.ropApply (ch : Fin 8) (s : State) : State :=
  let n := s.rungNow ch
  let kind := s.kindNow ch
  let w : Field → Nat := fun g => s.rd (ladF g ch n)
  let s := s.updRch ch (fun r => { r with firSet := if kind = .alteq ∨ kind = .deep then w R.RCH_LAD_W1_eq else 0 })
  let s := s.updRch ch (fun r => { r with iterNow := if kind = .reread ∨ kind = .offtrack ∨ kind = .alteq ∨ kind = .fly then none
                                                     else some (w R.RCH_LAD_W0_iter) })
  let s := s.updRch ch (fun r => { r with captureOn := w R.RCH_LAD_W0_capture == 1 })
  if kind = .fly then
    (s.updRch ch (fun r => { r with heat := signedOf 5 (w R.RCH_LAD_W1_heat), heatWait := true })).wchCompose ch
  else s

/-- The settings restored when the rung ends (R167); a head whose heater is restored waits one revolution. -/
def State.ropRestore (ch : Fin 8) (s : State) : State :=
  let fly := s.rch[ch].heat ≠ 0
  let s := s.updRch ch (fun r => { r with firSet := 0, iterNow := none, captureOn := false, heat := 0,
                                          heatWait := if r.heat = 0 then r.heatWait else true })
  s.when fly (State.wchCompose ch)

/-- The ladder ends: open entries become UNRECOVERED (R171), and the ladder starts over for a new set. -/
def State.ropClose (ch : Fin 8) (s : State) : State :=
  ((s.closeAll ch 2).updRch ch (fun r => { r with rung := none, stored := none, todo := [] })).rchRefresh ch

/-- Whether ALTSYNC has a candidate of a rank for entry k: the ranks of the read, or the forced positions where it found
none (R162). -/
def State.hasRank (s : State) (ch : Fin 8) (k rank : Nat) : Bool :=
  let n := if h : k < 16 then (s.rch[ch].cands[k]).length else 0
  if n = 0 then decide (2 ≤ rank ∧ rank ≤ 4) else decide (rank ≤ n)

/-- Whether the stored rung is skipped for entry k (R166). -/
def State.storedSkip (s : State) (ch : Fin 8) (k : Nat) : Bool :=
  match s.kindNow ch with
  | .deep => !s.holdsSamples ch k
  | .combine => decide (s.captures ch k < 2)
  | .altsync => !(s.hasRank ch k 2 && decide (2 ≤ s.rd (ladF R.RCH_LAD_W1_rmax ch (s.rungNow ch))))
  | _ => true

/-- The next stored decode begins, with skipped targets counted (R161, R166). -/
def State.storedStart (ch : Fin 8) : List Nat → State → State
  | [], s => (s.updRch ch (fun r => { r with stored := none, todo := [] })).rchRefresh ch
  | k :: rest, s =>
    if s.storedSkip ch k then State.storedStart ch rest (s.inc (rchF R.RCH_RCV_STAT_skipped ch) 1)
    else
      let busy := s.rdB (rchF R.RCH_STAT_reading ch)
      (s.updRch ch (fun r => { r with stored := some ⟨k, 2, busy⟩, todo := rest })).rchRefresh ch

/-- The rung's stored decodes begin on the open entries (R217). -/
def State.ropStored (ch : Fin 8) (s : State) : State := State.storedStart ch (s.openEntries ch) s

/-! ## Starting and stopping reads -/

/-- chop READ_ON: each presented sector is read; a stored decode is suspended (R217, R168). -/
def State.readOn (ch : Fin 8) (s : State) : State :=
  if !s.rdB (rchF R.RCH_CTL_en ch) then s
  else (s.wr (rchF R.RCH_STAT_reading ch) 1).updRch ch (fun r =>
    { r with stopAfter := false, stored := r.stored.map (fun d => { d with suspended := true }) })

/-- Reading has stopped: a suspended stored decode resumes (R168). -/
def State.readStopped (ch : Fin 8) (s : State) : State :=
  (s.wr (rchF R.RCH_STAT_reading ch) 0).updRch ch (fun r =>
    { r with stopAfter := false, stored := r.stored.map (fun d => { d with suspended := false }) })

/-- chop READ_OFF: reading stops after the sector in progress (R217). -/
def State.readOff (ch : Fin 8) (s : State) : State :=
  if s.rch[ch].flight.isEmpty then s.readStopped ch else s.updRch ch (fun r => { r with stopAfter := true })

/-- A read or stored decode in progress is discarded; the set, the rung and the repeats are kept (R173). -/
def State.rchAbandon (ch : Fin 8) (s : State) : State :=
  let f : Slot → Slot := fun x => if x = .filling then .free else x
  ((s.updRch ch (fun r => { r with flight := [], slot0 := f r.slot0, slot1 := f r.slot1, stored := none, todo := [] })).readStopped
    ch).rchRefresh ch

/-- The channels' part of a revolution boundary: revolutions spent on a set in recovery are counted, and a head whose
heater was stepped or restored has waited one revolution (R161, R167, R169). -/
def State.rchRevolution (s : State) : State :=
  s.forEach chans8 (fun ch s =>
    let s := s.updRch ch (fun r => { r with heatWait := false })
    if s.rch[ch].rung.isSome && s.rcvOpen ch then s.inc (rchF R.RCH_RCV_STAT_revs ch) 1 else s)

end Sys2Proof.Machine
end

