-- ==== Sys2Proof/Machine/SrvFx.lean ====
section
/-! DEFINITION. SRV as the other blocks act on it (spec/08_servo_demod.md): the timing states of R244, which channels
demodulate (R242), channel selection (R126, R127, R207, R279), and the wedge-boundary values of R17 and R570. -/
namespace Sys2Proof.Machine

/-- SRV_STAT.state of an actuator. -/
def srvStateF : Act → Field
  | .a => R.SRV_STAT_state_a
  | .b => R.SRV_STAT_state_b

/-- The timing states of SRV_STAT. -/
inductive SrvSt where
  | off | hunt | follow | gauge
  deriving DecidableEq, Repr

/-- The encoding of SRV_STAT.state_a and state_b. -/
def SrvSt.code : SrvSt → Nat
  | .off => 0
  | .hunt => 1
  | .follow => 2
  | .gauge => 3

/-- Whether an actuator is in a timing state. -/
def State.srvIs (s : State) (x : Act) (y : SrvSt) : Bool := s.rd (srvStateF x) == y.code

/-- Whether an actuator has wedge boundaries: FOLLOW or GAUGE (R246, R570). -/
def State.srvTimed (s : State) (x : Act) : Bool := s.srvIs x .follow || s.srvIs x .gauge

/-- An actuator's timing updated. -/
def State.updSrv (x : Act) (f : SrvAct → SrvAct) (s : State) : State :=
  { s with srv := { s.srv with act := s.srv.act.set x (f (s.srv.act.get x)) } }

/-- A channel's demodulation state updated. -/
def State.updSrvChan (ch : Fin 8) (f : SrvChan → SrvChan) (s : State) : State :=
  { s with srv := { s.srv with chan := updV s.srv.chan ch f } }

/-- SRV_CTL.act_a or act_b. -/
def srvActF : Act → Field
  | .a => R.SRV_CTL_act_a
  | .b => R.SRV_CTL_act_b

/-- Whether a channel demodulates (R242). -/
def State.demodulates (s : State) (ch : Fin 8) : Bool :=
  s.rdB R.SRV_CTL_en && s.rdB (srvActF (chAct ch)) && s.rdB (R.RCH_CTL_en.inst ch.val) && !s.srv.chan[ch].released

/-- The demodulating channels of an actuator. -/
def State.demodChans (s : State) (x : Act) : List (Fin 8) := (actChans x).filter s.demodulates

/-- SRV_STAT.demod shows the demodulating channels. -/
def State.demodShow (s : State) : State :=
  s.wr R.SRV_STAT_demod (maskOf ((chans8.filter s.demodulates).map (·.val)))

/-! ## Channel selection (R126, R127, R207, R243, R279) -/

/-- The speed in rpm that GCK and SPM use: the gauge's while lock is 1, and the observer's otherwise (R137). -/
def State.driveSpeed (s : State) : Nat := if s.rdB R.GCK_STAT_lock then s.rd R.SPM_SPEED_rpm else s.rd R.SPM_SPEED_obs_rpm

/-- Whether a channel is held idle: its rate exceeds 5.2 GHz, its ratio is 0 (R127), or a self-timed selection exceeds 0.6
of the reference rate (R137). Ratios are in units of 2^-22. -/
def State.rateBad (s : State) (ch : Fin 8) : Bool :=
  let a := s.chRatio ch
  let r := s.rd (R.GCK_RATIO_ratio.at a)
  let v := s.driveSpeed
  let jig := s.rd R.GCK_RATE_CFG_jig_rpm
  let ref := s.rd (R.GCK_RATIO_ratio.at (min a 64))
  decide (r = 0 ∨ 65 < a) || decide (5200000000 * 60 * 4194304 < 65536 * v * r)
    || (s.chSelf ch && (decide (jig = 0) || decide (6 * ref * jig < 10 * r * v)))

/-- GCK_CH_STAT of a channel: its self bit, and rate_err, which raises source 60 as it rises; the synthesiser settles on a
selection that is not held idle. -/
def State.selCheck (ch : Fin 8) (s : State) : State :=
  let bad := s.rateBad ch
  let s := s.when (bad = true ∧ s.rdBit R.GCK_CH_STAT_rate_err ch.val = false) (State.raise 60)
  ((s.wrBit R.GCK_CH_STAT_rate_err ch.val bad).wrBit R.GCK_CH_STAT_synth_lock ch.val (!bad)).wrBit R.GCK_CH_STAT_self ch.val
    (s.chSelf ch)

/-- What a change of a channel's head brings about: the lane (R207), the milliactuators (R279), and the servo sample of an
open window, with no range check and a count of 0 for the new head (R243). -/
def State.headChanged (ch : Fin 8) (old : Nat) (s : State) : State :=
  let s := (s.wchLaneChange ch).maHeadChange ch old (s.chHead ch)
  let s := s.wr (R.SRV_CH_FLG_invcnt.at ch.val) 0
  s.updSrvChan ch (fun c => { c with switched := c.windowOpen, noCheck := true, ranges := [], lastP := none, since := 0 })

/-- Whether a field is the selection of a channel. -/
def isSelOf (ch : Fin 8) (f : Field) : Bool := f.blk == 7 && f.off == 0x300 + 4 * ch.val

/-- A channel's pending selection takes effect (R126). -/
def State.selApply (ch : Fin 8) (s : State) : State :=
  let old := s.chHead ch
  let ratio := s.chRatio ch
  let s := (s.applyShadows (isSelOf ch)).selCheck ch
  if s.chHead ch ≠ old then s.headChanged ch old
  else s.when (s.chRatio ch ≠ ratio) (State.wchCompose ch)

/-! ## Wedge boundaries (R17, R18, R246, R570) -/

/-- Whose wedge boundary a field waits for: a head's, an actuator's, or both actuators' in turn. -/
inductive WedgeOwner where
  | head (h : Nat) | act (x : Act) | sel (ch : Fin 8) | unsafeLim (ch : Fin 8) | both
  deriving DecidableEq, Repr

/-- The owner of a wedge-boundary field. -/
def wedgeOwner (f : Field) : WedgeOwner :=
  if f.blk = 7 then
    if f.off < 0x1000 then .sel (if h : (f.off - 0x300) / 4 < 8 then ⟨(f.off - 0x300) / 4, h⟩ else 0)
    else .head ((f.off - 0x1000) / 8 / 64)
  else if h : 16 ≤ f.blk ∧ f.blk < 24 then .unsafeLim ⟨f.blk - 16, by omega⟩
  else if f.blk = 26 then
    if f.off < 0x100 then .both else if f.off < 0x2000 then .head ((f.off - 0x300) / 4) else .head ((f.off - 0x2000) / 8 / 64)
  else .act (if f.off < 0x200 then .a else .b)

/-- The block-wide pending values take effect for one actuator; the other may already use them (R570). -/
def State.sharedApply (x : Act) (s : State) : State :=
  s.forEach (s.shadows.filter (fun h => h.field.shadowAt .wedge && wedgeOwner h.field == .both)) (fun h s =>
    let drop := fun (z : State) (p : Nat × Nat × Word → Bool) =>
      ({ z with srv := { z.srv with early := z.srv.early.filter (fun e => !p e) } } : State)
    if !s.srvTimed x.other || s.srv.early.contains (x.other.idx, h.field.key, h.value) then
      (drop s (fun e => e.2.1 == h.field.key)).applyShadow h
    else
      let s := drop s (fun e => e.1 == x.idx && e.2.1 == h.field.key)
      { s with srv := { s.srv with early := (x.idx, h.field.key, h.value) :: s.srv.early } })

/-- The pending values of one head take effect at its boundary. -/
def State.headApply (h : Nat) (s : State) : State :=
  s.applyShadows (fun f => f.shadowAt .wedge && (match wedgeOwner f with
    | .head g => g == h
    | .unsafeLim ch => s.chHead ch == h
    | _ => false))

/-- The pending values of an actuator as a whole take effect at its reference head's boundary, the selections of its
channels among them. -/
def State.actApply (x : Act) (s : State) : State :=
  let s := s.applyShadows (fun f => f.shadowAt .wedge && wedgeOwner f == .act x)
  (s.sharedApply x).forEach (actChans x) State.selApply

/-- With no wedge boundaries, every pending wedge value of an actuator, its heads and its channels takes effect at once, as
do those of absent heads (R570). -/
def State.untimedApply (s : State) : State :=
  let s := s.applyShadows (fun f => f.shadowAt .wedge && (match wedgeOwner f with
    | .head h => !s.headFitted h || !s.srvTimed (s.headAct h)
    | .unsafeLim ch => !s.srvTimed (chAct ch)
    | .act x => !s.srvTimed x
    | _ => false))
  let s := s.forEach (chans8.filter (fun ch => !s.srvTimed (chAct ch) && s.shadows.any (fun h => isSelOf ch h.field))) State.selApply
  let s := s.when (s.srvTimed .a = false) (State.sharedApply .a)
  s.when (s.srvTimed .b = false) (State.sharedApply .b)

/-! ## Timing states (R244) -/

/-- An actuator's timing state changes, raising source offset 0 or 1; in OFF and HUNT pending wedge values take effect. -/
def State.srvEnter (x : Act) (y : SrvSt) (s : State) : State :=
  if s.srvIs x y then s
  else ((s.wr (srvStateF x) y.code).raise (160 + x.idx)).untimedApply

/-- Gauge lock has been withdrawn: GAUGE goes to FOLLOW at the wedge period, in 1/16 servo cell, of the speed (R244, R245). -/
def State.srvLockLost (s : State) : State :=
  s.forEach [.a, .b] (fun x s =>
    if s.srvIs x .gauge then
      let p := s.quot ((16 * 65536 * s.rd R.SRV_FIELD_CFG_ratio : Nat) : Int) ((s.wedges x : Nat) : Int)
      let s := s.updSrv x (fun a => { a with period := p.toNat, sinceMark := 0, refOfs := none, miss := 0 })
      s.used.srvEnter x .follow
    else s)

end Sys2Proof.Machine
end

