-- ==== Sys2Proof/Machine/ParOps.lean ====
section
/-! DEFINITION. What the sequencers ask of the channels, of ACT and of PAR together: selections (R126), seeks (R281), the
binding of R312, and the rebuild walkers (R308, R316, R321 to R325). -/
namespace Sys2Proof.Machine

/-! ## Selection and positioning -/

/-- A channel's selection set; it takes effect at its boundary, or at once without wedge boundaries (R126, R570). -/
def State.chanSelect (ch : Fin 8) (head ratio : Nat) (self : Bool) (s : State) : State :=
  let s := ((s.pend (R.GCK_CH_SEL_head.at ch.val) head).pend (R.GCK_CH_SEL_annulus.at ch.val) ratio).pend
    (R.GCK_CH_SEL_self.at ch.val) (if self then 1 else 0)
  if s.srvTimed (chAct ch) then s else s.selApply ch

/-- The lane track of a head (R249). -/
def State.setLaneTrack (h : Nat) (t : Nat) (s : State) : State :=
  if hh : h < 32 then { s with act := { s.act with laneTrack := s.act.laneTrack.set h (some t) } } else s

/-- pos SEEK or TRACK_STEP for lanes as (lane, head, track): the window check of R258 runs again; where it passes and the
actuator follows targets a profile starts and SEEK is entered; where it fails the targets are kept and settle is held at 0
until a passing check (R280, R281). In any other state the operation is ignored but for the check. -/
def State.posSeek (x : Act) (lanes : List (Nat × Nat × Nat)) (s : State) : State :=
  let s := s.windowShow x lanes
  if !s.actTracks x then s
  else if s.windowOk x lanes then
    let c0 := s.targetFlat lanes
    let s := s.forEach lanes (fun l s => s.setLaneTrack l.2.1 l.2.2)
    let s := ((s.updAct x (fun a => { a with lanes := lanes, held := false })).profileStart x c0).wrI (actF R.ACT_TGT_c x) c0
    s.actEnter x .seek
  else (s.updAct x (fun a => { a with held := true })).wr (actF R.ACT_STAT_settle x) 0

/-- pos OFFTRACK_SET or OFFTRACK_CLR moves SETTLE and TRACK to SETTLE with count 0 (R280). -/
def State.posDisplaced (x : Act) (s : State) : State :=
  if s.actIs x .settle || s.actIs x .track then s.actEnter x .settle else s

/-! ## Binding (R312) -/

/-- The accumulator that holds an actuator's usable slot, if any. -/
def State.accOf (s : State) (x : Act) (slot : Nat) : Option (Fin 8) :=
  chans8.find? (fun k => !s.accIs k .free && s.rd (R.PAR_ACC_CTL_act.at k.val) == x.idx && s.rd (R.PAR_ACC_CTL_slot.at k.val) == slot)

/-- Cause NOBIND of PAR_ERR, counted (R312). -/
def State.parNoBind (bpt : Nat) (s : State) : State := (s.parErr 1 0 bpt).parCount R.PAR_CNT_MISC_nobind

/-- The binding that the state of the accumulator and the role of the band call for (R312). -/
def State.bindingOf (s : State) (x : Act) (r : LaneRec) : Option Binding :=
  if s.rd R.PAR_GEO_n = 0 then none
  else match s.accOf x (s.bptSlot r.bpt) with
    | none => none
    | some k => match s.laneRole r with
      | .data j =>
        if s.accIs k .attached then some ⟨k, .data j, true, false⟩
        else if s.accIs k .rebuilding || s.accIs k .checking then some ⟨k, .data j, false, false⟩ else none
      | role =>
        if s.accIs k .sealing then some ⟨k, role, true, false⟩
        else if s.accIs k .checking then some ⟨k, role, false, false⟩ else none

/-- A channel's binding set. -/
def State.setBind (ch : Fin 8) (b : Option Binding) (s : State) : State :=
  State.parRefresh { s with par := { s.par with bind := updV s.par.bind ch (fun _ => b) } }

/-- par OPEN for one lane. -/
def State.parOpenLane (ch : Fin 8) (r : LaneRec) (s : State) : State :=
  if !r.band then s
  else match s.bindingOf (chAct ch) r with
    | some b => s.setBind ch (some b)
    | none => s.parNoBind r.bpt

/-- A lane begins to read or to write: a binding made for the other direction matches no accumulator in the required
state, so it is dropped and NOBIND recorded (R312). -/
def State.parDirection (ch : Fin 8) (write : Bool) (bpt : Nat) (s : State) : State :=
  match s.par.bind[ch] with
  | some b => if b.write == write then s else (s.setBind ch none).parNoBind bpt
  | none => s

/-- par CLOSE, and the end of an operation: the bindings are released and no lane is sourced any more (R312). -/
def State.parClose (x : Act) (s : State) : State :=
  (s.parUnbind x).forEach (actChans x) (fun ch s => s.updWch ch (fun w => { w with source := false }))

/-- par SOURCE for one lane: a bound parity lane takes its data from the accumulator; one bound to a data band is recorded
with cause ROUTE and writes nothing (R315). -/
def State.parSourceLane (ch : Fin 8) (r : LaneRec) (s : State) : State :=
  let s := s.updWch ch (fun w => { w with source := true })
  match s.par.bind[ch] with
  | some b => match b.role with
    | .data _ => s.parErr 3 0 r.bpt
    | _ => if b.write then s.setBind ch (some { b with source := true }) else s
  | none => s

/-! ## The band pointer and remap tables (R195, R325, R99) -/

/-- The band pointer of a table index, as PAR reads it. -/
def State.parPtr (s : State) (i : Nat) : Nat := s.dramLe (s.rd R.PAR_BPT_BASE_base * 4096 + 4 * i) 4 % 131072

/-- The remap entry of a table index. -/
def State.remapEntry (s : State) (i : Nat) : Nat := s.dramLe (s.rd R.PAR_REMAP_BASE_base * 4096 + 4 * i) 4

/-- The states of a remap entry. -/
inductive RemapSt where
  | normal | relocated | degraded | lent
  deriving DecidableEq, Repr

/-- The state of a remap entry. -/
def remapState (e : Nat) : RemapSt :=
  match e / 2 ^ 30 % 4 with
  | 0 => .normal
  | 1 => .relocated
  | 2 => .degraded
  | _ => .lent

/-- The table index of local band v of a slot of an actuator. -/
def State.bandIndex (s : State) (x : Act) (slot v : Nat) : Nat := slot * (2 * s.rd R.PAR_GEO_n) + x.idx * s.rd R.PAR_GEO_n + v

/-- The annulus and first track of a slot position among annuli from index a: usable slots by their number (R99). -/
def usablePlace (slot : Nat) : List AnnulusRec → Nat → Option (Nat × Nat)
  | [], _ => none
  | r :: rest, a =>
    if r.firstSlot ≤ slot ∧ slot < r.firstSlot + r.usable then some (a, r.firstTrack + (slot - r.firstSlot) * (r.q + 2))
    else usablePlace slot rest (a + 1)

/-- The same for the p-th spare slot, in annulus order (R325). -/
def sparePlace : Nat → List AnnulusRec → Nat → Option (Nat × Nat)
  | _, [], _ => none
  | p, r :: rest, a =>
    let n := r.positions - r.usable
    if p < n then some (a, r.firstTrack + (r.usable + p) * (r.q + 2)) else sparePlace (p - n) rest (a + 1)

/-- The annulus and first track of a slot position. -/
def State.slotPlace (s : State) (p : Nat) : Option (Nat × Nat) :=
  if p < s.geom.usable then usablePlace p s.geom.annuli 0 else sparePlace (p - s.geom.usable) s.geom.annuli 0

/-- The physical head, annulus and first track of a band, from the remap table (R322, R325). -/
def State.bandPlace (s : State) (x : Act) (slot v : Nat) : Option (Nat × Nat × Nat) :=
  let e := s.remapEntry (s.bandIndex x slot v)
  let base := match x with
    | .a => 0
    | .b => s.headCount .a
  if remapState e = .relocated then
    (s.slotPlace (e % 131072)).map (fun p => (base + bitField e 17 4, p.1, p.2))
  else (s.slotPlace slot).map (fun p => (base + v, p.1, p.2))

/-- The role of local band v of a slot. -/
def State.roleAt (s : State) (slot v : Nat) : BandRole := bandRole (s.rd R.PAR_GEO_n) slot v

/-- Whether a role is a data band. -/
def BandRole.isData : BandRole → Bool
  | .data _ => true
  | _ => false

/-- The largest band pointer among a group's data bands (R316). -/
def State.groupHw (s : State) (x : Act) (slot : Nat) : Nat :=
  ((List.range (s.rd R.PAR_GEO_n)).filter (fun v => (s.roleAt slot v).isData)).foldl
    (fun m v => max m (s.parPtr (s.bandIndex x slot v))) 0

/-- Whether a group is sealed (R316). -/
def State.groupSealed (s : State) (x : Act) (slot : Nat) : Bool :=
  let hw := s.groupHw x slot
  decide (0 < hw) && (s.accOf x slot).isNone
    && ((List.range (s.rd R.PAR_GEO_n)).filter (fun v => !(s.roleAt slot v).isData)).all (fun v =>
      decide (remapState (s.remapEntry (s.bandIndex x slot v)) = .degraded) || s.parPtr (s.bandIndex x slot v) == hw)

/-- Whether local band v contributes zero at band sector b without being read (R309). -/
def State.zeroAt (s : State) (x : Act) (slot v b : Nat) : Bool :=
  let i := s.bandIndex x slot v
  decide (remapState (s.remapEntry i) = .lent)
    || (if (s.roleAt slot v).isData then decide (s.parPtr i ≤ b) else decide (s.groupHw x slot ≤ b))

/-- Whether local band v is left out of the survivors: on a head retired in the mask, or DEGRADED (R322). -/
def State.leftOut (s : State) (x : Act) (mask slot v : Nat) : Bool :=
  decide (remapState (s.remapEntry (s.bandIndex x slot v)) = .degraded)
    || (match s.bandPlace x slot v with
      | some p => bitAt mask p.1
      | none => true)

/-! ## Solving (R308) -/

/-- The 4,112 zero bytes. -/
def zeroInfo : List Byte := List.replicate 4112 0

/-- c · x for every byte. -/
def gfScale (c : Byte) (l : List Byte) : List Byte := l.map (gfMul c)

/-- The information bytes of the target role from the known symbols; none where more than two are unknown. -/
def parSolve (n : Nat) (sym : BandRole → Option (List Byte)) (target : BandRole) : Option (List Byte) :=
  let js := List.range (n - 2)
  let known := js.filterMap (fun j => (sym (.data j)).map (fun v => (j, v)))
  let miss := js.filter (fun j => (sym (.data j)).isNone)
  let sumP := fun (l : List (Nat × List Byte)) => l.foldl (fun a e => xorBytes a e.2) zeroInfo
  let sumQ := fun (l : List (Nat × List Byte)) => l.foldl (fun a e => xorBytes a (e.2.map (gfAlpha e.1))) zeroInfo
  let s0 := (sym .p).map (xorBytes (sumP known))
  let s1 := (sym .q).map (xorBytes (sumQ known))
  let al : Nat → Byte := fun j => gfAlpha j 1
  let solved : Option (List (Nat × List Byte)) := match miss with
    | [] => some []
    | [i] => match s0, s1 with
      | some v, _ => some [(i, v)]
      | none, some v => some [(i, gfScale (gfInv (al i)) v)]
      | none, none => none
    | [i, k] => match s0, s1 with
      | some a, some b =>
        let y := gfScale (gfInv (al i ^^^ al k)) (xorBytes b (gfScale (al i) a))
        some [(i, xorBytes a y), (k, y)]
      | _, _ => none
    | _ => none
  match solved with
  | none => none
  | some l => match target with
    | .data j => ((known ++ l).find? (fun e => e.1 == j)).map (·.2)
    | .p => some (sumP (known ++ l))
    | .q => some (sumQ (known ++ l))

/-! ## Walkers (R321 to R323) -/

/-- A walker's request replaced; a busy walker ends the device's idle time (R464). -/
def State.setWalk (x : Act) (w : Option WalkState) (s : State) : State :=
  ({ s with par := { s.par with walk := s.par.walk.set x w } } : State).when (w.isSome = true) State.idleEnd

/-- PAR_STAT.wlk_a or wlk_b. -/
def wlkBit : Act → Field
  | .a => R.PAR_STAT_wlk_a
  | .b => R.PAR_STAT_wlk_b

/-- A field of PAR_WLKx_STAT. -/
def wlkF (f : Field) (x : Act) : Field := f.at x.idx

/-- The usable slot of a target's lane. -/
def State.targetSlot (s : State) (x : Act) (t : WalkTarget) : Nat := (s.laneRec x t.lane).elim 0 (fun r => s.bptSlot r.bpt)

/-- The local band of a target's lane. -/
def State.targetBand (s : State) (x : Act) (t : WalkTarget) : Nat :=
  (s.laneRec x t.lane).elim 0 (fun r => s.bptBand r.bpt % s.rd R.PAR_GEO_n)

/-- The targets treated together: those of the first target's track and group. -/
def State.walkCur (s : State) (x : Act) (w : WalkState) : List WalkTarget :=
  match w.targets with
  | [] => []
  | t :: _ => w.targets.filter (fun u => u.track == t.track && s.targetSlot x u == s.targetSlot x t)

/-- The symbol of local band v at band sector b as far as it is known. -/
def State.walkSym (s : State) (x : Act) (w : WalkState) (slot v b : Nat) : Option (List Byte) :=
  if s.zeroAt x slot v b then some zeroInfo
  else (w.got.find? (fun g => g.1 == v && g.2.1 == b)).map (fun g => g.2.2)

/-- The bands other than v whose symbols are known at band sector b. -/
def State.walkKnown (s : State) (x : Act) (w : WalkState) (slot v b : Nat) : Nat :=
  ((List.range (s.rd R.PAR_GEO_n)).filter (fun u => u != v && (s.walkSym x w slot u b).isSome)).length

/-- The band sectors of the current targets that band v must still be read at (R322, steps 1 to 3). -/
def State.walkNeeds (s : State) (x : Act) (w : WalkState) (v : Nat) : List Nat :=
  ((s.walkCur x w).filter (fun t =>
    let slot := s.targetSlot x t
    v != s.targetBand x t && !s.leftOut x w.mask slot v && (s.walkSym x w slot v t.band).isNone
      && decide (s.walkKnown x w slot (s.targetBand x t) t.band < s.rd R.PAR_GEO_n - 2))).map (·.band) |>.eraseDups

/-- The bands to read, in ascending local surface index. -/
def State.walkList (s : State) (x : Act) (w : WalkState) : List Nat :=
  (List.range (s.rd R.PAR_GEO_n)).filter (fun v => !(s.walkNeeds x w v).isEmpty)

/-- PAR_WLKx_STAT and PAR_STAT follow the request. -/
def State.walkShow (x : Act) (s : State) : State :=
  match s.par.walk.get x with
  | none => (((((s.wr (wlkF R.PAR_WLK_STAT_busy x) 0).wr (wlkF R.PAR_WLK_STAT_range x) 0).wr (wlkF R.PAR_WLK_STAT_erasures x)
      0).wr (wlkF R.PAR_WLK_STAT_survivors x) 0).wr (wlkF R.PAR_WLK_STAT_remaining x) 0).wr (wlkBit x) 0
  | some w =>
    let (er, sv) : Nat × Nat := match w.targets with
      | [] => (0, 0)
      | t :: _ =>
        let slot := s.targetSlot x t
        let u := s.targetBand x t
        let others := (List.range (s.rd R.PAR_GEO_n)).filter (· != u)
        let dec := (w.got.filter (fun g => g.2.1 == t.band && g.1 != u)).length
        let bad := (others.filter (fun v => !s.zeroAt x slot v t.band && (s.leftOut x w.mask slot v || w.again.contains v
          || w.left.isEmpty) && (s.walkSym x w slot v t.band).isNone)).length
        (min 3 bad, min 15 dec)
    (((((s.wr (wlkF R.PAR_WLK_STAT_busy x) 1).wrB (wlkF R.PAR_WLK_STAT_range x) w.range).wr (wlkF R.PAR_WLK_STAT_erasures x)
      er).wr (wlkF R.PAR_WLK_STAT_survivors x) sv).wr (wlkF R.PAR_WLK_STAT_remaining x) (min 65535 w.targets.length)).wr
      (wlkBit x) 1

/-- A request ends: each channel's selection is restored to its lane record, source offset 1 or 2 (R323, R329). -/
def State.walkEnd (x : Act) (s : State) : State :=
  match s.par.walk.get x with
  | none => s
  | some _ =>
    let s := s.forEach (s.opLanes x) (fun l s => match s.laneRec x l with
      | some r => s.chanSelect (laneCh x l) r.head r.ratio r.self
      | none => s)
    ((s.setWalk x none).walkShow x).raise (201 + x.idx)

/-- A read lane's progress counts one sector more (R227). -/
def State.laneProgress (x : Act) (l : Fin 4) (s : State) : State :=
  let f := (R.MSQ_LANE_PROG_progress.inst x.idx).at l.val
  s.wr f (s.rd f + 1)

/-- A target that is not rebuilt: its entry ends UNRECOVERED; in a range request it is reported like one (R170, R171, R322). -/
def State.targetBad (x : Act) (t : WalkTarget) (s : State) : State :=
  let ch := laneCh x t.lane
  match t.entry with
  | some k => s.entryClose ch k 2 (s.rungNow ch)
  | none =>
    let s := (((s.rchCount ch (rchF R.RCH_CNT_UNREC_count ch)).raise (rchSrc ch 0)).updRch ch (fun r => { r with unrec := true }))
    let s := s.reportPost ch ⟨t.track, t.sector, 2, s.rungNow ch, (s.laneRec x t.lane).elim 0 (·.head), 0, 0⟩
    (s.logOpen 0x3E false).laneProgress x t.lane

/-- The outcome of a target (R322). -/
def State.targetDone (x : Act) (t : WalkTarget) (info : Option (List Byte)) (s : State) : State :=
  let ch := laneCh x t.lane
  match info with
  | some v =>
    let s := (s.parCount R.PAR_CNT_RBLD_ok).deliver ch t.k v
    match t.entry with
    | some k => s.entryClose ch k 1 (s.rungNow ch)
    | none => s.laneProgress x t.lane
  | none => ((s.parCount R.PAR_CNT_RBLD_fail).raise 203).targetBad x t

/-- A target solved and checked (R322, steps 4 and 5). -/
def State.targetSolve (s : State) (x : Act) (w : WalkState) (t : WalkTarget) : Option (List Byte) :=
  let slot := s.targetSlot x t
  let n := s.rd R.PAR_GEO_n
  let u := s.targetBand x t
  let role := s.roleAt slot u
  let sym : BandRole → Option (List Byte) := fun r =>
    ((List.range n).find? (fun v => v != u && decide (s.roleAt slot v = r))).bind (fun v => s.walkSym x w slot v t.band)
  match parSolve n sym role with
  | some v => if !role.isData || guardMatches v then some v else none
  | none => none

/-- The next round's bands selected and the actuator positioned on them (R322, step 2). -/
def State.walkRound (x : Act) (w : WalkState) (s : State) : State :=
  match w.targets with
  | [] => s
  | t :: _ =>
    let slot := s.targetSlot x t
    let sel := (w.left.take 4).zipIdx.filterMap (fun p => (s.bandPlace x slot p.1).map (fun q => (p.2, q)))
    let s := s.forEach sel (fun p s => match lanes4[p.1]? with
      | some l => s.chanSelect (laneCh x l) p.2.1 p.2.2.1 false
      | none => s)
    s.posSeek x (sel.map (fun p => (p.1, p.2.1, p.2.2.2 + t.band / s.fmtS x p.2.2.1)))

/-- The walker takes up its present targets, as many groups as need no read, and starts the next round; with no target
left the request ends. The count bounds the groups treated without a read. -/
def State.walkNext (x : Act) : Nat → WalkState → State → State
  | 0, w, s => (s.setWalk x (some w)).walkShow x
  | n + 1, w, s =>
    let cur := s.walkCur x w
    if cur.isEmpty then (s.setWalk x (some w)).walkEnd x
    else
      let left := w.left.filter (fun v => !(s.walkNeeds x w v).isEmpty)
      let (left, again, retried) := if left.isEmpty && !w.retried then
          (w.again.filter (fun v => !(s.walkNeeds x w v).isEmpty), [], true)
        else (left, w.again, w.retried)
      if left.isEmpty then
        let s := s.forEach cur (fun t s => s.targetDone x t (s.targetSolve x w t))
        let rest := w.targets.filter (fun t => !cur.contains t)
        let w : WalkState := ⟨rest, w.range, w.mask, [], [], false, []⟩
        State.walkNext x n { w with left := s.walkList x w } s
      else
        let w : WalkState := { w with left := left, again := again, retried := retried }
        ((s.setWalk x (some w)).walkRound x w).walkShow x

/-- A target placed in ascending track and sector. -/
def targetInsert (t : WalkTarget) : List WalkTarget → List WalkTarget
  | [] => [t]
  | u :: r => if t.track * 2048 + t.sector ≤ u.track * 2048 + u.sector then t :: u :: r else u :: targetInsert t r

/-- The targets of a lane: its open entries, or its remaining range where its head is retired (R321). -/
def State.laneTargets (s : State) (x : Act) (mask : Nat) (l : Fin 4) : List WalkTarget :=
  match s.laneRec x l with
  | none => []
  | some r =>
    let ch := laneCh x l
    if bitAt mask r.head then
      let p := s.rd ((R.MSQ_LANE_PROG_progress.inst x.idx).at l.val)
      (List.range (r.count - p)).map (fun i => ⟨l, s.secTrack x r (p + i), s.secIdx x r (p + i), r.b0 + (p + i), none, p + i⟩)
    else (s.openEntries ch).map (fun e =>
      let k := s.entryLaneK ch e
      ⟨l, s.rd (rsetF R.RCH_RSET_B_track ch e), s.rd (rsetF R.RCH_RSET_B_sector ch e), r.b0 + k, some e, k⟩)

/-- par REBUILD: the walker starts on the operation's targets; those with no parity are not rebuilt (R170, R321). -/
def State.walkStart (x : Act) (s : State) : State :=
  let s := s.walkEnd x
  if !s.rdB R.PAR_CTL_en then s
  else
    let mask := s.rd R.PAR_RET_ret
    let all := ((s.opLanes x).flatMap (s.laneTargets x mask)).foldr targetInsert []
    let range := (s.opLanes x).any (fun l => match s.laneRec x l with
      | some r => bitAt mask r.head
      | none => false)
    let hasParity : WalkTarget → Bool := fun t => match s.laneRec x t.lane with
      | some r => r.band && decide (r.ratio < 64) && s.groupSealed x (s.bptSlot r.bpt)
      | none => false
    let s' := s.forEach (all.filter (fun t => !hasParity t)) (State.targetBad x)
    let w : WalkState := ⟨all.filter hasParity, range, mask, [], [], false, []⟩
    s'.walkNext x (all.length + 1) { w with left := s'.walkList x w }

/-- rop CLOSE while a request runs: untreated range targets are reported, and the request ends; untreated entries have
been closed (R323). -/
def State.walkClose (x : Act) (s : State) : State :=
  match s.par.walk.get x with
  | none => s
  | some w => (s.forEach (w.targets.filter (fun t => t.entry.isNone)) (State.targetBad x)).walkEnd x

/-- A round of survivor reads ends: each needed sector of the round's bands decodes or is an erasure (R322). -/
def State.walkRoundEnd (x : Act) (reads : List SurvivorRead) (s : State) : State :=
  match s.par.walk.get x with
  | none => s
  | some w =>
    let slot := match w.targets with
      | t :: _ => s.targetSlot x t
      | [] => 0
    let round := w.left.take 4
    let want := round.flatMap (fun v => (s.walkNeeds x w v).map (fun b => (v, b)))
    let res := want.map (fun p => (p, (reads.find? (fun r => r.band == p.1 && r.sector == p.2)).bind (fun r =>
      if r.dec.zeroSyndrome && (!(s.roleAt slot p.1).isData || guardMatches r.dec.info) then some r.dec.info else none)))
    let good := res.filterMap (fun e => e.2.map (fun v => (e.1.1, e.1.2, v)))
    let bad := (res.filter (fun e => e.2.isNone)).map (fun e => e.1.1)
    let s := s.forEach bad (fun _ s => s.parCount R.PAR_CNT_MISC_surv_fail)
    s.walkNext x (w.targets.length + 1) { w with left := w.left.drop 4, again := w.again ++ bad.eraseDups, got := w.got ++ good }

end Sys2Proof.Machine
end

