-- ==== Sys2Proof/Machine/MsqFx.lean ====
section
/-! DEFINITION. Media sequencers: the control store and the microword (R216), descriptors (R212, R214), the operation
fields of R217 one by one, and the conditions of R218 (spec/07_media_sequencer.md). -/
namespace Sys2Proof.Machine

/-- The codes of MSQ_STAT.state. -/
inductive MsqSt where
  | off | idle | run | commit | paused | mcheck | parked | stopped
  deriving DecidableEq, Repr

/-- The encoding of MSQ_STAT.state. -/
def MsqSt.code : MsqSt → Nat
  | .off => 0
  | .idle => 1
  | .run => 2
  | .commit => 3
  | .paused => 4
  | .mcheck => 5
  | .parked => 6
  | .stopped => 7

/-- A field of a sequencer. -/
def msqF (f : Field) (x : Act) : Field := f.inst x.idx

/-- A field of entry k of an array of a sequencer. -/
def msqAt (f : Field) (x : Act) (k : Nat) : Field := (f.inst x.idx).at k

/-- Whether a sequencer is in a state. -/
def State.msqIs (s : State) (x : Act) (y : MsqSt) : Bool := s.rd (msqF R.MSQ_STAT_state x) == y.code

/-- A sequencer's state set; one other than IDLE and PARKED ends the device's idle time (R464). -/
def State.msqSt (x : Act) (y : MsqSt) (s : State) : State :=
  (s.wr (msqF R.MSQ_STAT_state x) y.code).when (y ≠ .idle ∧ y ≠ .parked) State.idleEnd

/-- Whether a sequencer is running: RUN, COMMIT or MCHECK (R225). -/
def State.msqRunning (s : State) (x : Act) : Bool := s.msqIs x .run || s.msqIs x .commit || s.msqIs x .mcheck

/-- The number of a sequencer's source at an offset (R237). -/
def msqSrc (x : Act) (off : Nat) : Nat := 144 + 8 * x.idx + off

/-- A counter raised by one; source offset 6 when it reaches saturation (R237). -/
def State.msqCount (x : Act) (f : Field) (s : State) : State :=
  let g := msqF f x
  let t := s.inc g 1
  t.when (t.rd g = 2 ^ g.w - 1 ∧ s.rd g ≠ 2 ^ g.w - 1) (State.raise (msqSrc x 6))

/-! ## The control store (R216, R233, R235) -/

/-- The word at an address of a store; an unlisted word is 0 (DESIGN CHOICE, assumption 8). -/
def storeFind : List (Nat × BitVec 128) → Nat → BitVec 128
  | [], _ => 0
  | (k, v) :: r, q => if q = k then v else if q < k then 0 else storeFind r q

/-- The store with one word written; a word of 0 is not listed. -/
def storePut : List (Nat × BitVec 128) → Nat → BitVec 128 → List (Nat × BitVec 128)
  | [], q, v => if v = 0 then [] else [(q, v)]
  | (k, u) :: r, q, v =>
    if q < k then (if v = 0 then (k, u) :: r else (q, v) :: (k, u) :: r)
    else if q = k then (if v = 0 then r else (k, v) :: r)
    else (k, u) :: storePut r q v

/-- Whether the low n bits of v hold an even number of ones. -/
def evenParity (v n : Nat) : Bool := (bitsOf v n).length % 2 == 0

/-- A word with both parity bits regenerated over its other bits (R216, R235). -/
def wordParity (v : Nat) : Nat :=
  let lo := v % 2 ^ 63
  let hi := v / 2 ^ 64 % 2 ^ 63
  (lo + (if evenParity lo 63 then 0 else 2 ^ 63)) + 2 ^ 64 * (hi + (if evenParity hi 63 then 0 else 2 ^ 63))

/-- The fields of a word (R216). -/
def Microword.decode (v : Nat) : Microword :=
  { next := bitField v 115 12, alt := bitField v 103 12, cond := bitField v 97 6, inv := bitAt v 96, cyc := bitField v 94 2,
    commit := bitAt v 93, fin := bitAt v 92, wait := bitField v 88 4, wval := bitField v 64 24, lanes := bitField v 59 4,
    chop := bitField v 56 3, wg := bitField v 52 4, hmode := bitField v 50 2, lbias := bitAt v 49, fmt := bitField v 46 3,
    pos := bitField v 43 3, par := bitField v 40 3, bop := bitField v 38 2, ctr := bitField v 36 2, post := bitField v 32 4,
    status := bitField v 24 8, rop := bitField v 20 4, imm := bitField v 0 16 }

/-- Whether a field holds a reserved value (R217, R218, R220). -/
def Microword.reserved (w : Microword) : Bool :=
  decide (7 ≤ w.fmt ∨ 6 ≤ w.pos ∨ 5 ≤ w.par ∨ 2 ≤ w.bop ∨ 3 ≤ w.ctr ∨ 4 ≤ w.post ∨ 7 ≤ w.rop ∨ 9 ≤ w.wait ∨ 22 ≤ w.cond)

/-- Whether the word posts or closes the ladder, which only a commit region allows (R228). -/
def Microword.persistent (w : Microword) : Bool := decide (w.post ≠ 0 ∨ w.rop = 6)

/-- The operations of a word, in the order in which they act where all act together. -/
def Microword.ops (_w : Microword) : List MicroOp := [.commit, .fmt, .chop, .hmode, .wg, .pos, .par, .bop, .ctr, .rop, .post]

/-! ## Descriptors (R211 to R214) -/

/-- A lane record with its metadata base (R212). -/
def State.readLane (s : State) (a mb : Nat) : LaneRec :=
  let g : Nat → Nat → Nat := fun o n => s.dramLe (a + o) n
  let fl := g 2 1
  { head := g 0 1, ratio := g 1 1, valid := bitAt fl 0, band := bitAt fl 1, stripe := bitAt fl 2, self := bitAt fl 3,
    track := g 4 4, sector := g 8 2, count := g 10 2 % 32768 + 1, b0 := g 12 2, idx0 := g 14 2, tag := g 16 2, len := g 18 2,
    epoch := g 20 2, bpt := g 24 4, data := g 28 4, metaBase := mb }

/-- The descriptor at an address (R212). -/
def State.readDesc (s : State) (a : Nat) : Desc :=
  let g : Nat → Nat → Nat := fun o n => s.dramLe (a + o) n
  let ln : Fin 4 → LaneRec := fun l => s.readLane (a + 64 + 32 * l.val) (g (8 + 4 * l.val) 4)
  { addr := a, opcode := g 0 1, flags := g 1 1, mask := g 2 1 % 16, limit := g 4 2, lanes := Vector.ofFn ln }

/-- The lanes that a descriptor names. -/
def Desc.named (d : Desc) : List (Fin 4) := lanes4.filter (fun l => bitAt d.mask l.val)

/-- Whether a descriptor is refused with BADDESC (R214, R258, and for a channel under test R539). The first track of "lane 0" is that of the lowest lane that
the mask names (a lane outside the mask carries no record). -/
def State.descBad (s : State) (x : Act) (d : Desc) : Bool :=
  let rs : List LaneRec := d.named.map (fun l => d.lanes[l])
  let heads := rs.map (·.head)
  let t0 : Nat := (rs.head?).elim 0 (fun r => r.track)
  rs.isEmpty || rs.any (fun r => !r.valid) || rs.any (fun r => !s.headFitted r.head || s.headAct r.head != x)
    || decide (heads.eraseDups.length ≠ heads.length) || rs.any (fun r => decide (65 < r.ratio))
    || rs.any (fun r => r.band && decide (32768 < r.b0 + r.count))
    || rs.any (fun r => decide (t0 + 96 < r.track ∨ r.track + 96 < t0)) || decide (0xF0 ≤ d.opcode)
    || !s.windowOk x (d.named.map (fun l => (l.val, d.lanes[l].head, d.lanes[l].track)))
    || d.named.any (fun l => s.isolated.contains (8 + (laneCh x l).val))

/-! ## Lanes -/

/-- The channels of the operation's lanes with their records. -/
def State.opRecs (s : State) (x : Act) : List (Fin 4 × LaneRec) :=
  (s.opLanes x).filterMap (fun l => (s.laneRec x l).map (fun r => (l, r)))

/-- The lanes of a word's mask among the operation's lanes. -/
def State.wordLanes (s : State) (x : Act) (w : Microword) : List (Fin 4 × LaneRec) :=
  (s.opRecs x).filter (fun p => bitAt w.lanes p.1.val)

/-- The progress of a lane. -/
def State.laneProg (s : State) (x : Act) (l : Fin 4) : Nat := s.rd (msqAt R.MSQ_LANE_PROG_progress x l.val)

/-- The lane registers follow the formatter. -/
def State.laneShow (x : Act) (l : Fin 4) (r : LaneRec) (s : State) : State :=
  let f := s.lane x l
  let s := (s.wr (msqAt R.MSQ_LANE_TRK_track x l.val) f.track).wr (msqAt R.MSQ_LANE_SEC_remaining x l.val) (r.count - f.k)
  s.when (f.k < r.count) (State.wr (msqAt R.MSQ_LANE_SEC_sector x l.val) (s.secIdx x r f.k))

/-- The address of a lane's pointer entry (R195). -/
def State.bptAddr (s : State) (x : Act) (r : LaneRec) : Nat := s.rd (msqF R.MSQ_BPT_BASE_base x) * 4096 + 4 * r.bpt

/-! ## chop, hmode, wg -/

/-- chop SELECT on a lane: the selection of the lane record; the head is named in a lane and the lane is selected again
(R217, R242, R249). -/
def State.chopSelect (x : Act) (l : Fin 4) (r : LaneRec) (s : State) : State :=
  let ch := laneCh x l
  let f := s.lane x l
  let s := s.setLaneTrack r.head (if f.on then f.track else r.track)
  let s := s.chanSelect ch r.head r.ratio r.self
  (s.updSrvChan ch (fun c => { c with released := false })).demodShow

/-- chop READ_ON on a lane. -/
def State.chopReadOn (x : Act) (l : Fin 4) (r : LaneRec) (s : State) : State :=
  (s.parDirection (laneCh x l) false r.bpt).readOn (laneCh x l)

/-- chop ARM on a lane: the first ARM loads WCH_BWP from the pointer entry with valid 1, strip lanes load valid 0; later
ones keep it (R196, R217). A fault captured before is no longer one since the last ARM. -/
def State.chopArm (x : Act) (l : Fin 4) (r : LaneRec) (s : State) : State :=
  let ch := laneCh x l
  let s := s.parDirection ch true r.bpt
  let s := if (s.lane x l).armed then s
    else if r.band && decide (r.ratio < 64) then
      (s.wr (R.WCH_BWP_valid.inst ch.val) 1).wr (R.WCH_BWP_ptr.inst ch.val) (s.dramLe (s.bptAddr x r) 4 % 131072)
    else s.wr (R.WCH_BWP_valid.inst ch.val) 0
  s.updLane x l (fun f => { f with armed := true, fault := false })

/-- chop WRITE_ON on a lane: the channel assembles each presented sector. -/
def State.chopWriteOn (x : Act) (l : Fin 4) (r : LaneRec) (s : State) : State :=
  let ch := laneCh x l
  let s := s.parDirection ch true r.bpt
  if s.rdB (R.WCH_CTL_en.inst ch.val) then
    (s.wr (R.WCH_STAT_writing.inst ch.val) 1).updWch ch (fun w => { w with on := true, stopAfter := false, asm := [], failed := false })
  else s

/-- chop WRITE_OFF on a lane: the channel stops after the sector in progress. -/
def State.chopWriteOff (x : Act) (l : Fin 4) (_r : LaneRec) (s : State) : State :=
  let ch := laneCh x l
  if s.wch[ch].inRun then s.updWch ch (fun w => { w with on := false, stopAfter := true }) else s.wchEnd ch

/-- A channel released: idle and its lane unselected, so that it is not demodulated (R217, R242). -/
def State.chanRelease (ch : Fin 8) (s : State) : State :=
  let s := ((s.wchRequest ch false).wchEnd ch).rchAbandon ch
  (s.updSrvChan ch (fun c => { c with released := true })).demodShow

/-- PA_HCTL of a lane head: hmode 1 read, 2 WRITE_READY, 3 off, with the laser bias (R216, R203). -/
def State.hmodeFrame (x : Act) (w : Microword) (r : LaneRec) (s : State) : State :=
  let mode := if w.hmode = 3 then 0 else w.hmode
  s.hlPush x (hlWrite 3 (s.headPos r.head) 0x10 (mode + (if w.lbias then 4 else 0)))

/-- The chop field acts on each lane of the word's mask. -/
def State.doChop (x : Act) (w : Microword) (s : State) : State :=
  s.forEach (s.wordLanes x w) (fun p s =>
    if w.chop = 1 then s.chopSelect x p.1 p.2 else if w.chop = 2 then s.chopReadOn x p.1 p.2
    else if w.chop = 3 then s.readOff (laneCh x p.1) else if w.chop = 4 then s.chopArm x p.1 p.2
    else if w.chop = 5 then s.chopWriteOn x p.1 p.2 else if w.chop = 6 then s.chopWriteOff x p.1 p.2
    else if w.chop = 7 then s.chanRelease (laneCh x p.1) else s)

/-- The hmode field acts on each lane of the mask. -/
def State.doHmode (x : Act) (w : Microword) (s : State) : State :=
  if w.hmode = 0 then s else s.forEach (s.wordLanes x w) (fun p s => s.hmodeFrame x w p.2)

/-- The gate requests of the operation's lanes are the wg bits of the word executing (R222). -/
def State.doWg (x : Act) (w : Microword) (s : State) : State :=
  s.forEach (s.opLanes x) (fun l s => s.wchRequest (laneCh x l) (bitAt w.wg l.val && bitAt w.lanes l.val))

/-! ## fmt (R217, R226) -/

/-- A lane positioned at sector k. -/
def State.laneAt (x : Act) (l : Fin 4) (r : LaneRec) (k : Nat) (s : State) : State :=
  let s := s.updLane x l (fun f => { f with k := k, track := s.secTrack x r (min k (r.count - 1)), on := true, targets := none,
                                            rcvTrack := none })
  s.laneShow x l r

/-- fmt NEXT_TRACK: a lane whose current track is finished moves to the track of its next sector. -/
def State.laneNextTrack (x : Act) (l : Fin 4) (r : LaneRec) (s : State) : State :=
  let f := s.lane x l
  if f.targets = none ∧ f.k < r.count ∧ s.secTrack x r f.k ≠ f.track then
    (s.updLane x l (fun f => { f with track := s.secTrack x r f.k })).laneShow x l r
  else s

/-- The track of entry e of a channel. -/
def State.entryTrack (s : State) (ch : Fin 8) (e : Nat) : Nat := s.rd (rsetF R.RCH_RSET_B_track ch e)

/-- fmt RCV_FIRST or RCV_NEXT on a lane: the open entries of its lowest track that holds any, or of the next higher one. -/
def State.laneRcv (x : Act) (l : Fin 4) (r : LaneRec) (first : Bool) (s : State) : State :=
  let ch := laneCh x l
  let es := s.openEntries ch
  let cand := es.filter (fun e => first || (match (s.lane x l).rcvTrack with
    | some t => decide (t < s.entryTrack ch e)
    | none => true))
  match cand with
  | [] => s.updLane x l (fun f => { f with targets := some [], on := true })
  | e :: _ =>
    let t := s.entryTrack ch e
    (s.updLane x l (fun f => { f with targets := some (cand.filter (fun e => s.entryTrack ch e == t)), rcvTrack := some t,
                                      track := t, on := true })).laneShow x l r

/-- RCV_FIRST or RCV_NEXT on every lane; noTrack where no lane found one (R218). -/
def State.doRcv (x : Act) (first : Bool) (s : State) : State :=
  let s := s.forEach (s.opRecs x) (fun p s => s.laneRcv x p.1 p.2 first)
  let none' := (s.opLanes x).all (fun l => (s.lane x l).targets == some [])
  s.updMsq x (fun m => { m with noTrack := none' })

/-- fmt OVF on a lane: the lane from the position of RCH_RSET_OVF to its end; the flag has been acted on and a lane without
one has nothing left (R159). -/
def State.laneOvf (x : Act) (l : Fin 4) (r : LaneRec) (s : State) : State :=
  let ch := laneCh x l
  if s.rdB (rchF R.RCH_STAT_rset_ovf ch) then
    let k := s.rch[ch].ovfK
    let s := (s.wr (rchF R.RCH_STAT_rset_ovf ch) 0).wr (msqAt R.MSQ_LANE_PROG_progress x l.val) k
    s.laneAt x l r k
  else s.laneAt x l r r.count

/-- The fmt field. -/
def State.doFmt (x : Act) (w : Microword) (s : State) : State :=
  if w.fmt = 1 then s.forEach (s.opRecs x) (fun p s => s.laneAt x p.1 p.2 (s.laneProg x p.1))
  else if w.fmt = 2 then s.forEach (s.opRecs x) (fun p s => s.laneNextTrack x p.1 p.2)
  else if w.fmt = 3 then s.forEach (s.opLanes x) (fun l s => s.updLane x l (fun f => { f with on := false }))
  else if w.fmt = 4 then s.doRcv x true
  else if w.fmt = 5 then s.doRcv x false
  else if w.fmt = 6 then s.forEach (s.opRecs x) (fun p s => s.laneOvf x p.1 p.2)
  else s

/-! ## pos -/

/-- The displacement of read i of an OFFTRACK rung with a step, in 1/32 track (R161, R283). -/
def offtrackDisp (i step : Nat) : Int :=
  let d : Int := (((i + 1) / 2 * step : Nat) : Int)
  if i % 2 = 1 then d else -d

/-- A lane's displacement from the rung running on its channel; 0 where that is no OFFTRACK rung (R283). -/
def State.laneOfftrack (s : State) (ch : Fin 8) : Int :=
  if s.rch[ch].rung.isSome ∧ s.kindNow ch = .offtrack then
    offtrackDisp (s.rd (rchF R.RCH_RCV_STAT_repeat ch) + 1) (s.rd (ladF R.RCH_LAD_W1_step ch (s.rungNow ch)))
  else 0

/-- The lanes with their heads and the formatter's current tracks. -/
def State.seekLanes (s : State) (x : Act) : List (Nat × Nat × Nat) :=
  (s.opRecs x).map (fun p => (p.1.val, p.2.head, (s.lane x p.1).track))

/-- Whether an actuator accepts displacements: SEEK, SETTLE or TRACK (R280). -/
def State.doDisp (x : Act) (d : State → Fin 8 → Int) (s : State) : State :=
  if s.actTracks x then
    let s := s.forEach (s.opLanes x) (fun l s => s.dispSet (laneCh x l) (d s (laneCh x l)))
    s.posDisplaced x
  else s

/-- The pos field. -/
def State.doPos (x : Act) (w : Microword) (s : State) : State :=
  if w.pos = 1 ∨ w.pos = 2 then s.posSeek x (s.seekLanes x)
  else if w.pos = 3 then s.doDisp x State.laneOfftrack
  else if w.pos = 4 then s.doDisp x (fun _ _ => 0)
  else if w.pos = 5 then s.actRetract x
  else s

/-! ## par, ctr, rop -/

/-- The par field (R312, R315, R321). -/
def State.doPar (x : Act) (w : Microword) (s : State) : State :=
  if w.par = 1 then s.forEach (s.opRecs x) (fun p s => s.parOpenLane (laneCh x p.1) p.2)
  else if w.par = 2 then s.parClose x
  else if w.par = 3 then s.forEach ((s.opRecs x).filter (fun p => p.2.band)) (fun p s => s.parSourceLane (laneCh x p.1) p.2)
  else if w.par = 4 then s.walkStart x
  else s

/-- The ctr field. -/
def State.doCtr (x : Act) (w : Microword) (s : State) : State :=
  s.updMsq x (fun m => { m with ctr := if w.ctr = 1 then w.imm else if w.ctr = 2 then m.ctr - 1 else m.ctr })

/-- Whether the recovery limit of the operation is reached on a lane channel (R169). -/
def State.limitReached (s : State) (x : Act) : Bool :=
  match (s.msq.get x).desc with
  | some d => decide (0 < d.limit) && (s.opLanes x).any (fun l => decide (d.limit ≤ s.rd (rchF R.RCH_RCV_STAT_revs (laneCh x l))))
  | none => false

/-- rop REPEAT on a channel: one repeat more is complete; an OFFTRACK rung's next read has its own displacement (R161). -/
def State.ropRepeat (ch : Fin 8) (s : State) : State :=
  let f := rchF R.RCH_RCV_STAT_repeat ch
  let s := s.wr f (min (2 ^ f.w - 1) (s.rd f + 1))
  s.when (s.rch[ch].rung.isSome ∧ s.kindNow ch = .offtrack ∧ s.actTracks (chAct ch) = true)
    (fun s => s.dispSet ch (s.laneOfftrack ch))

/-- rop RESTORE on a channel: settings and displacement restored (R167). -/
def State.ropRestoreAll (ch : Fin 8) (s : State) : State := (s.ropRestore ch).dispSet ch 0

/-- The rop field on every lane channel. -/
def State.doRop (x : Act) (w : Microword) (s : State) : State :=
  let reached := s.limitReached x
  let s := s.forEach (s.opLanes x) (fun l s =>
    let ch := laneCh x l
    if w.rop = 1 then s.ropNext ch reached else if w.rop = 2 then s.ropApply ch else if w.rop = 3 then s.ropRepeat ch
    else if w.rop = 4 then s.ropStored ch else if w.rop = 5 then s.ropRestoreAll ch else if w.rop = 6 then s.ropClose ch else s)
  if w.rop = 6 then s.walkClose x else s

/-! ## Conditions (R218) -/

/-- The lane channels whose rung counts: those with open entries, or all of them where none has any. -/
def State.rungChans (s : State) (x : Act) : List (Fin 8) :=
  let cs := (s.opLanes x).map (laneCh x)
  let o := cs.filter s.rcvOpen
  if o.isEmpty then cs else o

/-- Whether the current rung of a channel works on what is stored: DEEP, COMBINE, or ALTSYNC with every open entry holding
samples. -/
def State.rungStored (s : State) (ch : Fin 8) : Bool :=
  match s.kindNow ch with
  | .deep | .combine => true
  | .altsync => (s.openEntries ch).all (s.holdsSamples ch)
  | _ => false

/-- Whether the current rung has repeats left: repeat + 1 reads, or one read for each rank from 2 to rmax (R161, R162). -/
def State.repLeft (s : State) (ch : Fin 8) : Bool :=
  let n := s.rungNow ch
  let total := if s.kindNow ch = .altsync then s.rd (ladF R.RCH_LAD_W1_rmax ch n) - 1 else s.rd (ladF R.RCH_LAD_W0_repeat ch n) + 1
  decide (s.rd (rchF R.RCH_RCV_STAT_repeat ch) < total)

/-- Whether a lane has been presented every sector it was loaded with; a recovery read counts once it is decoded (R164). -/
def State.laneDone (s : State) (x : Act) (p : Fin 4 × LaneRec) : Bool :=
  let f := s.lane x p.1
  match f.targets with
  | some t => t.isEmpty && s.rch[laneCh x p.1].flight.all (fun y => y.target.isNone)
  | none => decide (p.2.count ≤ f.k)

/-- Whether a lane has finished its current track and has sectors left. -/
def State.laneTrackEnd (s : State) (x : Act) (p : Fin 4 × LaneRec) : Bool :=
  let f := s.lane x p.1
  f.targets.isNone && decide (f.k < p.2.count) && s.secTrack x p.2 f.k != f.track

/-- The condition of a code over the operation's lanes. -/
def State.msqCond (s : State) (x : Act) (code : Nat) : Bool :=
  let m := s.msq.get x
  let rs := s.opRecs x
  let cs := (s.opLanes x).map (laneCh x)
  match code with
  | 0 => false
  | 1 => true
  | 2 => rs.all (s.laneDone x)
  | 3 => rs.any (s.laneTrackEnd x)
  | 4 => s.rdB (actF R.ACT_STAT_settle x)
  | 5 => (rs.filter (fun p => p.2.band)).all (fun p =>
      p.2.b0 + s.laneProg x p.1 == s.rd (R.WCH_BWP_ptr.inst (laneCh x p.1).val))
  | 6 => (s.opLanes x).any (fun l => (s.lane x l).fault)
  | 7 => match m.faultRevs with
    | none => true
    | some n => cs.all (fun c => decide (n < s.rd (R.WCH_CFG_wr_retry.inst c.val)))
  | 8 => cs.all (fun c => ((s.wchConds c).zipIdx.filter (fun p => p.2 != 6 && p.2 != 8)).all (·.1))
  | 9 => cs.any s.rcvOpen
  | 10 => cs.any (fun c => s.rdB (rchF R.RCH_STAT_rset_ovf c))
  | 11 => (s.rungChans x).all s.rungStored
  | 12 => (s.rungChans x).any (fun c => s.kindNow c == .parity)
  | 13 => (s.rungChans x).any (fun c => s.kindNow c == .fin)
  | 14 => (s.rungChans x).any s.repLeft
  | 15 => cs.any (fun c => s.rch[c].stored.isSome)
  | 16 => m.noTrack
  | 17 => (s.par.walk.get x).isSome
  | 18 => m.ctr == 0
  | 19 => s.rdB R.GCK_STAT_lock
  | 20 => s.rdB R.SPM_STAT_lock
  | 21 => m.firstEntry
  | _ => false

end Sys2Proof.Machine
end

