-- ==== Sys2Proof/Machine/ShnFx.lean ====
section
/-! DEFINITION. The controller shutdown sequence as the work that it waits for drives it on (spec/12_host_interface.md R338). -/
namespace Sys2Proof.Machine

/-- Whether an actuator's heads are parked. -/
def State.actDown (s : State) (x : Act) : Bool := s.actIs x .parked || s.actIs x .off

/-- Whether nothing holds a controller's shutdown up: no command of its own in flight but held Asynchronous Event Requests, the
data of completed writes on media, and the zone entries written. -/
def State.shnQuiet (s : State) (c : Nat) : Bool :=
  s.host.ctxs.all (fun x => x.ctrl != c || (s.ctrl c).aers.contains x.no) && s.host.cmds.all (fun m => !m.completed) && s.host.unsaved.isEmpty

/-- The shutdown sequence of a controller goes on: once all is quiet the attachment record is written and both actuators
park; then CSTS.SHST reads 0b10. -/
def State.shnStep (c : Nat) (s : State) : State :=
  if (s.ctrl c).shst = 1 ∧ s.shnQuiet c = true then
    let s := s.attachRecord
    if s.actDown .a && s.actDown .b then s.updCtrl c (fun k => { k with shst := 2 })
    else (s.actRetract .a).actRetract .b
  else s

/-- Both controllers' shutdown sequences go on. -/
def State.shnCheck (s : State) : State := (s.shnStep 0).shnStep 1

end Sys2Proof.Machine
end

