-- ==== Sys2Proof/Machine/MsqSeq.lean ====
section
/-! DEFINITION. Media sequencers: fetching and running words, completing and dispatching descriptors, abandoning, breaks and
machine checks (R215, R221 to R234). -/
namespace Sys2Proof.Machine

/-! ## Machine checks (R233, R234) -/

/-- MSQ_MCHK captures the first check while valid is 0 and otherwise sets overflow; every one is counted. -/
def State.mchkCapture (x : Act) (kind half addr : Nat) (s : State) : State :=
  let s := s.msqCount x R.MSQ_CNT_EVT_mchk
  if s.rdB (msqF R.MSQ_MCHK_valid x) then s.wr (msqF R.MSQ_MCHK_overflow x) 1
  else
    let op := ((s.msq.get x).desc).elim 0 (·.opcode)
    ((((s.wr (msqF R.MSQ_MCHK_kind x) kind).wr (msqF R.MSQ_MCHK_half x) half).wr (msqF R.MSQ_MCHK_opcode x) op).wr
      (msqF R.MSQ_MCHK_addr x) addr).setStatus (msqF R.MSQ_MCHK_valid x) 1 (msqSrc x 1)

/-- Whether bit addr of MSQ_FAIL or MSQ_RLD is set. -/
def State.msqMarked (s : State) (x : Act) (f : Field) (addr : Nat) : Bool := s.rdBit (msqAt f x (addr / 32)) (addr % 32)

/-- Bit addr of MSQ_FAIL or MSQ_RLD set. -/
def State.msqMark (x : Act) (f : Field) (addr : Nat) (s : State) : State := s.wrBit (msqAt f x (addr / 32)) (addr % 32) true

/-! ## Completing an operation (R198, R215, R219) -/

/-- A band lane's pointer written back to its entry (R198). -/
def State.laneWback (x : Act) (l : Fin 4) (r : LaneRec) (s : State) : State :=
  if r.band && decide (r.ratio < 64) then s.dramPut (s.bptAddr x r) (leBytes 4 (s.rd (R.WCH_BWP_ptr.inst (laneCh x l).val)))
  else s

/-- The pointers of the lanes whose WCH_BWP this operation has loaded written back. -/
def State.msqWback (x : Act) (s : State) : State :=
  s.forEach ((s.opRecs x).filter (fun p => (s.lane x p.1).armed)) (fun p s => s.laneWback x p.1 p.2)

/-- The status word and the lane progress in one 16-byte write (R215). -/
def State.statusWrite (x : Act) (code : Nat) (s : State) : State :=
  match (s.msq.get x).desc with
  | some d => s.dramPut (d.addr + 48) (leBytes 4 (2 ^ 31 + d.opcode * 65536 + code)
      ++ lanes4.flatMap (fun l => leBytes 2 (s.laneProg x l)) ++ leBytes 4 0)
  | none => s

/-- The ring's size. -/
def State.ringSize (s : State) (x : Act) : Nat := 2 ^ s.rd (msqF R.MSQ_RING_SIZE_log2 x)

/-- The operation is complete: its source's work is done, it is counted, the bindings are released, source offset 0 where
the descriptor asks for it, and the media pause of the level starts (R211, R212, R232, R312, R473). -/
def State.msqFinish (x : Act) (s : State) : State :=
  let m := s.msq.get x
  match m.desc with
  | none => s.updMsq x (fun m => { m with opDone := true })
  | some d =>
    let s := (s.msqCount x R.MSQ_CNT_OPS_count).parClose x
    let s := match m.src with
      | .ring => s.wr (msqF R.MSQ_RING_HEAD_head x) ((s.rd (msqF R.MSQ_RING_HEAD_head x) + 1) % s.ringSize x)
      | .urgent => (s.wr (msqF R.MSQ_URG_CTL_busy x) 0).wr (msqF R.MSQ_STAT_urgent x) 0
      | _ => s
    let s := s.when (bitAt d.flags 0 = true) (State.raise (msqSrc x 0))
    let pause := 1000 * s.rd (R.THM_PAUSE_media.at (s.rd R.THM_THR_STAT_level))
    s.updMsq x (fun m => { m with opDone := true, notBefore := s.driveTime + pause })

/-- A status posted: OK becomes UNRECOVERED where a lane channel has closed an entry so (R219). HQE and the base firmware see
the end of a descriptor from the ring (R378); a machine check that ends one is told to the hosts (R360). -/
def State.msqPost (x : Act) (code : Nat) (s : State) : State :=
  let unrec := (s.opLanes x).any (fun l => s.rch[laneCh x l].unrec)
  let code := if code = 0 ∧ unrec = true then 1 else code
  let s := (s.statusWrite x code).when (code = 7) (State.asyncAll .error)
  if (s.msq.get x).opDone then s
  else (s.msqFinish x).when ((s.msq.get x).src = .ring) (fun s => (s.itemEnded x code).shnCheck)

/-- A status posted by the sequencer itself: a write operation that ends so also has its pointers written back (R198). -/
def State.msqEndOp (x : Act) (code : Nat) (s : State) : State := (s.msqWback x).msqPost x code

/-! ## Abandon (R231) -/

/-- Gate requests dropped, reads in progress discarded, the walker's request ended, the wait cancelled (R231, R173, R323);
selection, head modes, position, binding and progress stay. -/
def State.msqAbandon (x : Act) (s : State) : State :=
  let s := s.forEach (s.opLanes x) (fun l s =>
    let ch := laneCh x l
    (((s.wchAbandon ch).wchEnd ch).rchAbandon ch).updLane x l (fun f => { f with on := false }))
  (s.walkEnd x).updMsq x (fun m => { m with word := none, todo := [], dispatchDue := false })

/-- The operation ends with MCHECK and the next work is taken (R228, R234). -/
def State.mcheckEnd (x : Act) (s : State) : State :=
  let s := ((s.msqAbandon x).msqEndOp x 7).msqSt x .run
  s.updMsq x (fun m => { m with dispatchDue := true, reload := none })

/-! ## Fetching a word (R221, R233, R234) -/

/-- The word at an address is fetched; flip is what upsets changed in it. A failed word, a parity error, a reserved value
or a post outside a commit region is a machine check; otherwise the word executes and its operations are due. -/
def State.msqFetch (x : Act) (addr : Nat) (flip : BitVec 128) (s : State) : State :=
  let s := s.wr (msqF R.MSQ_STAT_pc x) addr
  if s.msqMarked x R.MSQ_FAIL_bits addr then
    ((s.msqAbandon x).mchkCapture x 2 0 addr).mcheckEnd x
  else
    let v := (storeFind (s.msq.get x).store addr ^^^ flip).toNat
    let hiOk := evenParity (v / 2 ^ 64) 64
    let loOk := evenParity v 64
    if !hiOk || !loOk then
      let half := if hiOk then 0 else if loOk then 1 else (s.freeBit).toNat
      let s := if hiOk || loOk then s else s.used
      let s := s.msqAbandon x
      if s.msqMarked x R.MSQ_RLD_bits addr then
        (((s.msqMark x R.MSQ_FAIL_bits addr).mchkCapture x 2 half addr).raise (msqSrc x 2)).mcheckEnd x
      else
        ((s.mchkCapture x 1 half addr).msqSt x .mcheck).updMsq x (fun m => { m with reload := some addr })
    else
      let w := Microword.decode v
      if w.reserved || (w.persistent && !w.commit && !s.msqIs x .commit) then
        ((s.msqAbandon x).mchkCapture x 3 0 addr).mcheckEnd x
      else s.updMsq x (fun m => { m with word := some w, todo := w.ops })

/-- A restart: the entry is fetched again (R224). -/
def State.msqRestart (x : Act) (flip : BitVec 128) (s : State) : State :=
  let s := (s.msqCount x R.MSQ_CNT_EVT_restarts).updMsq x (fun m => { m with firstEntry := false, dispatchDue := false })
  (s.msqSt x .run).msqFetch x (s.rd (msqF R.MSQ_STAT_entry x)) flip

/-! ## Dispatch (R223) -/

/-- A dispatch entry as read: none where it is invalid or its parity fails, which is captured as DT_PAR. -/
def State.dtEntry (x : Act) (i : Nat) (flip : BitVec 14) (s : State) : State × Option Nat :=
  let v := s.rd (msqAt R.MSQ_DT_addr x i) + 2 ^ 12 * s.rd (msqAt R.MSQ_DT_valid x i) + 2 ^ 13 * s.rd (msqAt R.MSQ_DT_par x i)
  let v := Nat.xor v flip.toNat
  if !evenParity v 14 then (s.mchkCapture x 5 0 i, none)
  else (s, if bitAt v 12 then some (v % 4096) else none)

/-- The entry of an opcode, or entry 0xFE in its place. -/
def State.dtLookup (x : Act) (op : Nat) (flip flipFe : BitVec 14) (s : State) : State × Option Nat :=
  match s.dtEntry x op flip with
  | (s, some a) => (s, some a)
  | (s, none) => s.dtEntry x 0xFE flipFe

/-- IDLE, or PAUSED while run is 0. -/
def State.msqRest (x : Act) (s : State) : State :=
  (s.msqSt x (if s.rdB (msqF R.MSQ_CTL_run x) then .idle else .paused)).updMsq x (fun m =>
    { m with desc := none, src := .none, opDone := true, word := none, todo := [], dispatchDue := false })

/-- BADDESC or BADOP: posted without microcode, source offset 5 (R214, R223). -/
def State.msqBad (x : Act) (code : Nat) (s : State) : State := ((s.msqPost x code).raise (msqSrc x 5)).msqRest x

/-- A new descriptor begins: progress and every per-operation record is fresh, band-boundary values take effect (R227, R17). -/
def State.opStart (x : Act) (d : Desc) (src : DescSrc) (s : State) : State :=
  let s := s.updMsq x (fun m => { m with desc := some d, src := src, opDone := false, firstEntry := true, faultRevs := none,
                                         noTrack := false, lanes := Vector.replicate 4 LaneFmt.init })
  let s := s.forEach lanes4 (fun l s => s.wr (msqAt R.MSQ_LANE_PROG_progress x l.val) 0)
  let s := s.forEach d.named (fun l s => (s.updRch (laneCh x l) (fun r => { r with unrec := false, loaded := none })).updWch
    (laneCh x l) (fun w => { w with failed := false }))
  s.when (d.named.any (fun l => d.lanes[l].band) = true) (State.applyShadows (fun f => f.blk == 24 + x.idx && f.shadowAt .band))

/-- The descriptor at an address dispatched (R214, R223, R225). -/
def State.msqLoad (x : Act) (addr : Nat) (src : DescSrc) (flip flipFe : BitVec 14) (flipW : BitVec 128) (s : State) : State :=
  let d := s.readDesc addr
  let s := (s.msqSt x .run).opStart x d src
  let s := s.when (src = .urgent) (State.wr (msqF R.MSQ_STAT_urgent x) 1)
  if s.descBad x d then s.msqBad x 8
  else match s.dtLookup x d.opcode flip flipFe with
    | (s, some a) => (s.wr (msqF R.MSQ_STAT_entry x) a).msqFetch x a flipW
    | (s, none) => s.msqBad x 9

/-- Whether the ring has work that may be taken: run is 1, the ring is not empty and the media pause is over (R223, R473). -/
def State.ringReady (s : State) (x : Act) : Bool :=
  s.rdB (msqF R.MSQ_CTL_run x) && s.rd (msqF R.MSQ_RING_HEAD_head x) != s.rd (msqF R.MSQ_RING_TAIL_tail x)
    && decide ((s.msq.get x).notBefore ≤ s.driveTime)

/-- Whether any work is available to a sequencer (R223), whose vote in a sleep entry does not hold dispatch off (R456). -/
def State.workReady (s : State) (x : Act) : Bool :=
  !s.rdBit R.PWR_SLEEP_STAT_votes (2 + x.idx) && ((s.msq.get x).urgentWait || (s.msq.get x).saved.isSome || s.ringReady x)

/-- The next work taken: a pending urgent descriptor, a saved operation, the ring's head, or none (R223, R232). -/
def State.takeWork (x : Act) (flip flipFe : BitVec 14) (flipW : BitVec 128) (s : State) : State :=
  let m := s.msq.get x
  if m.urgentWait then
    (s.updMsq x (fun m => { m with urgentWait := false })).msqLoad x (s.rd (msqF R.MSQ_URG_ADDR_addr x) * 256) .urgent flip
      flipFe flipW
  else match m.saved with
    | some v =>
      let s := s.updMsq x (fun m => { m with saved := none, desc := some v.desc, src := v.src, opDone := false,
                                             faultRevs := v.faultRevs, lanes := Vector.replicate 4 LaneFmt.init })
      let s := s.forEach v.desc.named (fun l s => s.updRch (laneCh x l) (fun r => { r with unrec := v.unrec.contains l }))
      let s := s.forEach lanes4 (fun l s => s.wr (msqAt R.MSQ_LANE_PROG_progress x l.val) (v.prog.getD l.val 0))
      (s.wr (msqF R.MSQ_STAT_entry x) v.entry).msqRestart x flipW
    | none =>
      if s.ringReady x then
        s.msqLoad x (s.rd (msqF R.MSQ_RING_BASE_base x) * 256 + 256 * s.rd (msqF R.MSQ_RING_HEAD_head x)) .ring flip flipFe flipW
      else s.msqRest x

/-- The retract routine is over: PARKED, with run cleared (R225). -/
def State.msqPark (x : Act) (s : State) : State :=
  let s := (s.msqRest x).wr (msqF R.MSQ_CTL_run x) 0
  (s.updMsq x (fun m => { m with retracting := false })).msqSt x .parked

/-- DISPATCH (R223): a restart while op_done is 0; otherwise the descriptor is retired and the next work taken. -/
def State.msqDispatch (x : Act) (flip flipFe : BitVec 14) (flipW : BitVec 128) (s : State) : State :=
  let s := s.updMsq x (fun m => { m with word := none, todo := [], dispatchDue := false })
  let m := s.msq.get x
  if !m.opDone then
    let op := if m.retracting then 0xF0 else (m.desc).elim 0xF0 (·.opcode)
    match s.dtLookup x op flip flipFe with
    | (s, some a) => (s.wr (msqF R.MSQ_STAT_entry x) a).msqRestart x flipW
    | (s, none) => s.msqBad x 9
  else if m.retracting then s.msqPark x
  else s.takeWork x flip flipFe flipW

/-! ## Breaks (R229 to R232) -/

/-- The retract break: DISPATCH through entry 0xF0, source offset 3; with that entry invalid the sequencer commands RETRACT
and posts RETRACTED itself. -/
def State.breakRetract (x : Act) (flip : BitVec 14) (flipW : BitVec 128) (s : State) : State :=
  let s := ((s.msqAbandon x).msqSt x .run).updMsq x (fun m => { m with retracting := true, reload := none })
  match s.dtEntry x 0xF0 flip with
  | (s, some a) =>
    let s := (s.raise (msqSrc x 3)).wr (msqF R.MSQ_STAT_entry x) a
    (s.updMsq x (fun m => { m with opDone := false, firstEntry := true })).msqFetch x a flipW
  | (s, none) =>
    let s := (s.actRetract x).msqEndOp x 5
    s.updMsq x (fun m => { m with opDone := true, dispatchDue := true })

/-- A flush empties the ring: head becomes tail, and an operation taken from the ring before no longer advances it (R231). -/
def State.flushRing (x : Act) (s : State) : State :=
  if (s.msq.get x).flushHeld then
    let s := (s.wr (msqF R.MSQ_RING_HEAD_head x) (s.rd (msqF R.MSQ_RING_TAIL_tail x))).itemsFlushed x
    s.updMsq x (fun m => { m with
      flushHeld := false
      src := if m.src = .ring then .flushed else m.src
      saved := m.saved.map (fun v => { v with src := if v.src = .ring then .flushed else v.src }) })
  else s

/-- The abort break: ABORTED is posted and the next work is due; a flush then empties the ring (R231). -/
def State.breakAbort (x : Act) (s : State) : State :=
  let act := s.msqRunning x && !(s.msq.get x).opDone
  let s := if act then
      (((s.msqAbandon x).msqEndOp x 6).msqSt x .run).updMsq x (fun m => { m with opDone := true, dispatchDue := true, reload := none })
    else s
  s.flushRing x

/-- Whether the running operation can be preempted now: a pending urgent descriptor, no urgent operation running, and no
lane channel with an open entry or a stored decode (R232). -/
def State.preemptible (s : State) (x : Act) : Bool :=
  let m := s.msq.get x
  m.urgentWait && !m.opDone && !m.retracting && m.src != .urgent && m.desc.isSome
    && (s.opLanes x).all (fun l => !s.rcvOpen (laneCh x l) && s.rch[laneCh x l].stored.isNone)

/-- The preemption break: WBACK for the write lanes, the operation saved, the urgent descriptor dispatched (R232). -/
def State.breakPreempt (x : Act) (flip flipFe : BitVec 14) (flipW : BitVec 128) (s : State) : State :=
  if !s.preemptible x then s
  else
    let s := ((s.msqAbandon x).msqWback x).msqCount x R.MSQ_CNT_EVT_preempts
    match (s.msq.get x).desc with
    | some d =>
      let v : SavedOp := ⟨d, s.rd (msqF R.MSQ_STAT_entry x), lanes4.map (s.laneProg x), (s.msq.get x).src,
        d.named.filter (fun l => s.rch[laneCh x l].unrec), (s.msq.get x).faultRevs⟩
      (s.updMsq x (fun m => { m with saved := some v })).takeWork x flip flipFe flipW
    | none => s

/-- The breaks of a list act, in the order retract, abort, preemption; one that a preceding one makes void is dropped. -/
def State.breaksAct (x : Act) (l : List Brk) (flip flipFe : BitVec 14) (flipW : BitVec 128) (s : State) : State :=
  if l.contains .retract then
    (s.flushRing x).breakRetract x flip flipW
  else if l.contains .abort then s.breakAbort x
  else if l.contains .preempt then s.breakPreempt x flip flipFe flipW
  else s

/-- A break: held inside a commit region and in MCHECK, and otherwise acting at once (R229, R233). -/
def State.msqBreak (x : Act) (b : Brk) (s : State) : State :=
  if s.msqIs x .commit || s.msqIs x .mcheck then
    (s.updMsq x (fun m => { m with heldBreaks := if m.heldBreaks.contains b then m.heldBreaks else b :: m.heldBreaks })).wr
      (msqF R.MSQ_STAT_held x) 1
  else s.breaksAct x [b] 0 0 0

/-- The held breaks are delivered. -/
def State.heldAct (x : Act) (flip flipFe : BitVec 14) (flipW : BitVec 128) (s : State) : State :=
  let l := (s.msq.get x).heldBreaks
  let s := (s.updMsq x (fun m => { m with heldBreaks := [] })).wr (msqF R.MSQ_STAT_held x) 0
  s.breaksAct x l flip flipFe flipW

/-- The held breaks are delivered where an operation resumes; it restarts where none of them has acted (R228, R233). -/
def State.heldOrRestart (x : Act) (flip : BitVec 128) (s : State) : State :=
  let s := s.heldAct x 0 0 flip
  let m := s.msq.get x
  if s.msqIs x .run && m.word.isNone && !m.dispatchDue && !m.opDone then s.msqRestart x flip else s

/-! ## Running a word (R221) -/

/-- Whether the post operation must wait: WBACK acts once the writing of each band lane is 0 (R217). -/
def State.postWaits (s : State) (x : Act) (w : Microword) : Bool :=
  decide (w.post = 1 ∨ w.post = 3) && (s.opRecs x).any (fun p => p.2.band && s.rdB (R.WCH_STAT_writing.inst (laneCh x p.1).val))

/-- The post field: WBACK, STATUS or both (R217). -/
def State.doPost (x : Act) (w : Microword) (s : State) : State :=
  let s := if w.post = 1 ∨ w.post = 3 then s.msqWback x else s
  if w.post = 2 ∨ w.post = 3 then s.msqPost x w.status else s

/-- One operation of the word executing. -/
def State.doOp (x : Act) (w : Microword) (o : MicroOp) (s : State) : State :=
  match o with
  | .commit => if w.commit && s.msqIs x .run then s.msqSt x .commit else s
  | .chop => s.doChop x w
  | .hmode => s.doHmode x w
  | .wg => s.doWg x w
  | .fmt => s.doFmt x w
  | .pos => s.doPos x w
  | .par => s.doPar x w
  | .bop => s
  | .ctr => s.doCtr x w
  | .rop => s.doRop x w
  | .post => s.doPost x w

/-- One operation of the word acts and is no longer due. -/
def State.opTake (x : Act) (w : Microword) (o : MicroOp) (s : State) : State :=
  if (s.msq.get x).todo.contains o && !(decide (o = .post) && s.postWaits x w) then
    (s.updMsq x (fun m => { m with todo := m.todo.filter (· != o) })).doOp x w o
  else s

/-- Every operation still due acts, in the word's order. -/
def State.opsFlush (x : Act) (w : Microword) (s : State) : State := s.forEach w.ops (State.opTake x w)

/-- A micro-operation of a sequencer: it acts where the word executing has it and it is due. A positioning operation acts
with the tracks of the formatter operation of the same word. -/
def State.microOp (x : Act) (o : MicroOp) (has : Microword → Bool) (s : State) : State :=
  match (s.msq.get x).word with
  | some w =>
    if has w then
      let s := if o = .pos then s.opTake x w .fmt else s
      s.opTake x w o
    else s
  | none => s

/-- The word's successor: DISPATCH is due, or the word is fetched (R223). -/
def State.msqGoto (x : Act) (addr : Nat) (flip : BitVec 128) (s : State) : State :=
  if addr = 0xFFF then s.updMsq x (fun m => { m with word := none, todo := [], dispatchDue := true }) else s.msqFetch x addr flip

/-- The commit region closes where an end word completes in it (R228). -/
def State.commitClose (x : Act) (w : Microword) (s : State) : State :=
  if w.fin && s.msqIs x .commit then (s.msqSt x .run).heldAct x 0 0 0 else s

/-- The word completes and goes on at next or alt, unless a break acts at its end (R221, R229). -/
def State.wordEnd (x : Act) (w : Microword) (alt : Bool) (flip : BitVec 128) (s : State) : State :=
  let s := s.commitClose x w
  if (s.msq.get x).word = some w ∧ (s.msq.get x).todo = [] then s.msqGoto x (if alt then w.alt else w.next) flip else s

/-! ## Leaving operation -/

/-- The sequencer goes to OFF or STOPPED: everything in progress is abandoned without status, the channels are released,
and no saved or urgent work remains (R231). -/
def State.msqHalt (x : Act) (y : MsqSt) (s : State) : State :=
  let s := s.msqAbandon x
  let s := s.forEach (s.opLanes x) (fun l s => s.chanRelease (laneCh x l))
  let s := (((s.parClose x).wr (msqF R.MSQ_STAT_held x) 0).wr (msqF R.MSQ_STAT_urgent x) 0).wr (msqF R.MSQ_URG_CTL_busy x) 0
  (s.updMsq x (fun m => { MsqState.init with store := m.store, ctr := m.ctr, notBefore := m.notBefore })).msqSt x y

/-- A squall or shutdown sequence stops a sequencer (R225). -/
def State.msqStop (x : Act) (s : State) : State := if s.msqIs x .off then s else s.msqHalt x .stopped

/-- The loader has written a store word: a sequencer that waits for it marks it reloaded, delivers its held breaks or
restarts (R233). -/
def State.msqReloaded (x : Act) (addr : Nat) (s : State) : State :=
  if s.msqIs x .mcheck && (s.msq.get x).reload == some addr then
    let s := ((s.msqMark x R.MSQ_RLD_bits addr).updMsq x (fun m => { m with reload := none })).msqSt x .run
    s.heldOrRestart x 0
  else s

/-- The loader reports err while a sequencer waits for its word (R225). -/
def State.msqLoadErr (x : Act) (s : State) : State := if s.msqIs x .mcheck then s.mcheckEnd x else s

end Sys2Proof.Machine
end

