-- ==== Sys2Proof/Machine/Hqe.lean ====
section
/-! DEFINITION. The queue engine and the clamp table (spec/13_queue_ordering.md): fetching, insertion, HQE_READY, completions,
CLP_OP, and the release of media items by Drive Phase. -/
namespace Sys2Proof.Machine

/-! ## Fetching (R368 to R370) -/

/-- Whether HQE runs. -/
def State.hqeOn (s : State) : Bool := s.rdB R.HQE_CTL_en && !s.inSoftReset 31

/-- Whether HQE fetches for a controller now: enabled, its fetch bit set, its controller enabled and present (R330), and not
held off by HQE's vote in a sleep entry (R456). -/
def State.fetches (s : State) (c : Nat) : Bool :=
  s.hqeOn && s.rdB (fetchF c) && (s.ctrl c).en && (c == 0 || s.rdB R.HIF_STAT_mode) && !s.rdBit R.PWR_SLEEP_STAT_votes 1

/-- The contexts a controller holds. -/
def State.ctxHeld (s : State) (c : Nat) : Nat := (s.host.ctxs.filter (fun x => x.ctrl == c)).length

/-- The limit of a controller. -/
def State.ctxLimit (s : State) (c : Nat) : Nat := s.rd (if c = 0 then R.HQE_CTX_CFG_lim0 else R.HQE_CTX_CFG_lim1)

/-- A context not held: which of the free ones is open. -/
def State.ctxFreeNo (s : State) : Nat :=
  let l := s.host.ctxs
  ((List.range (l.length + 1)).map (fun i => (s.free.toNat + i) % 16384)).find? (fun n => l.all (fun e => e.no != n)) |>.getD 0

/-- Whether a Flush of a namespace covers one: all of them for NSID 0xFFFF_FFFF (R395). -/
def flushHas (nsid : BitVec 32) (n : Nat) : Bool := nsid.toNat == 0xFFFFFFFF || nsid.toNat == n

/-- The namespace of a logical space. -/
def Space.nsid : Space → Nat
  | .zns => 1
  | .kv => 2
  | .conv => 3

/-- For a Flush: the media commands of completed writes of its namespaces that are not on media, and the zones whose entries
wait to be written (R395). -/
def State.flushCovers (s : State) (cmd : HostCmd) : List Nat × List Nat :=
  match cmd with
  | .flush nsid =>
    ((s.host.cmds.filter (fun m => m.completed && flushHas nsid m.space.nsid)).map (·.id),
      s.host.unsaved.filter (fun z => flushHas nsid (if z < s.znsZones then 1 else 2)))
  | _ => ([], [])

/-- A context placed on HQE_READY where CLP runs, it has not been accepted, and nothing of it waits (R375). -/
def State.readyTry (c : Context) (s : State) : State :=
  s.when (s.clpOn = true ∧ c.started = false ∧ c.inserted = true ∧ s.clampsClear c.ctrl c.no = true) (State.readyPut c.no)

/-- R368 to R370: HQE fetches a command into a free context and stamps it; one without a clamp entry is ready at once. A
doorbell has been written for it (R456). -/
def execCommandFetch (ctrl : Fin 2) (urgent : Bool) (cmd : HostCmd) (s : State) : Out :=
  .next (
    let c := ctrl.val
    let s := s.pwrDoorbell
    if !s.fetches c then s
    else if 16384 ≤ s.host.ctxs.length ∨ s.ctxLimit c ≤ s.ctxHeld c then s.satCount R.HQE_CNT_STALL_count 213
    else
      let x : Context := ⟨s.ctxFreeNo, c, s.stamp, urgent, cmd, (s.clampOf cmd).isNone, false, false, false, false, false, 0, [],
        (s.flushCovers cmd).1, (s.flushCovers cmd).2, none⟩
      let s := ((s.used.stampNext.psWake c).satCount R.HQE_CNT_FETCH_count 213).updHost (fun h => { h with ctxs := h.ctxs ++ [x] })
      let s := s.ctxShow.when (s.host.ctxs.length = 16384) (State.raise 212)
      s.readyTry x)

/-- R373: the next entry is inserted in stamp order, while HQE and CLP run. What became ready while CLP did not run is placed
on HQE_READY. -/
def execClampInsert (s : State) : Out :=
  .next (if s.hqeOn && s.clpOn then (s.forEach s.host.ctxs State.readyTry).clampStep else s)

/-- A read of HQE_READY returns and removes the first context; the base firmware accepts it while none of its entries waits (R372). -/
def State.readyPop (s : State) : State :=
  let s := { s with reply := BitVec.ofNat 32 (s.rd R.HQE_READY_valid * 2 ^ 31 + s.rd R.HQE_READY_ctx) }
  match s.host.ready with
  | n :: _ => (s.updCtx n (fun c => { c with started := c.started || s.clampsClear c.ctrl n })).readyDrop n
  | [] => s

/-- R375: a read of HQE_READY; in soft reset it reads 0 (R15). -/
def execReadyPop (_who : Init) (s : State) : Out := .next (if s.inSoftReset 31 then { s with reply := 0 } else s.readyPop)

/-- The statuses of type Media and Data Integrity Errors (R350). -/
def Status.integrity : Status → Bool
  | .writeFault | .unrecovered | .guardError | .refError => true
  | _ => false

/-- R370, R374: HQE posts a decided command's completion, frees its context and releases its entries. A Store or Delete that
completes is indexed (R407). -/
def execCompletionPost (ctx : Fin 16384) (s : State) : Out :=
  .next (match s.ctx ctx.val with
    | some c =>
      match c.result with
      | some r =>
        if s.hqeOn then
          ((s.updHost (fun h => { h with
            completions := ⟨c.ctrl, c.no, r⟩ :: h.completions
            mediaErrors := h.mediaErrors + (if r.status.integrity then 1 else 0) })).ctxFree c true).kvCompleted c r.status |>.shnCheck
        else s
      | none => s
    | none => s)

/-! ## CLP_OP (R376) -/

/-- An operation is refused: err and done, source offset 2. -/
def State.clpRefuse (s : State) : State := (s.wr R.CLP_OP_STAT_done 1).setStatus R.CLP_OP_STAT_err 1 226

/-- A disabled CLP performs no operation (DEDUCED, assumption 24). -/
def State.clpGo (op : State → State) (s : State) : State := if s.rdB R.CLP_CTL_en then op s else s

/-- The fields of CLP_OP written with a command; a space of 4 to 7 is refused and leaves that field alone (R567). -/
def State.clpFields (who : Init) (op space : Nat) (append : Bool) (owner ctx : Nat) (s : State) : State :=
  let s := ((((s.wr R.CLP_OP_op op).wrB R.CLP_OP_append append).wr R.CLP_OP_owner owner).wr R.CLP_OP_ctx ctx)
  if 4 ≤ space then s.refuse who R.CLP_OP_space else s.wr R.CLP_OP_space space

/-- The entries of the commands fetched before an ADD are inserted before it (R369, R373). -/
def State.clampAll (s : State) : State :=
  if s.hqeOn && s.clpOn then State.forEach s s.host.ctxs (fun _ s => s.clampStep) else s

/-- ADD: an entry with a new stamp, behind the commands fetched (R376). -/
def State.clpAddOp (who : Init) (space : Nat) (append : Bool) (owner ctx : Nat) (s : State) : State :=
  let s := (s.clpFields who 1 space append owner ctx).clampAll
  if s.host.clamps.length = 4096 then s.clpRefuse
  else
    let st := s.stamp
    let s := s.stampNext.clampInsert (s.rd R.CLP_OP_space) (s.rd64 R.CLP_OP_START_addr) (s.rd64 R.CLP_OP_END_addr) append owner ctx st
    match s.host.clamps.getLast? with
    | some e =>
      let s := ((s.wr R.CLP_OP_STAT_done 1).wr R.CLP_OP_STAT_waiters e.waiters).wr R.CLP_OP_STAT_entry e.no
      s.when (e.waiters = 0 ∧ e.owner = 2) (State.raise 224)
    | none => s

/-- R376: CLP_OP ADD. -/
def execClpAdd (who : Init) (space : BitVec 3) (append : Bool) (owner : BitVec 2) (ctx : BitVec 14) (s : State) : Out :=
  .next (s.accept who R.CLP_OP_go (State.clpGo <| State.clpAddOp who space.toNat append owner.toNat ctx.toNat))

/-- The valid entry that CLP_OP_ENT names. -/
def State.clpEnt (s : State) : Option Clamp := s.host.clamps.find? (fun e => e.no == s.rd R.CLP_OP_ENT_entry)

/-- An entry's range narrowed: later entries that no longer overlap it have one waiter less (R376). -/
def State.clampNarrow (e : Clamp) (lo hi : Nat) (s : State) : State :=
  let n := { e with lo := lo, hi := hi }
  let s := s.setClamps (s.host.clamps.map (fun f => if f.no = e.no then { f with lo := lo, hi := hi } else f))
  s.clampDown (fun f => decide (e.stamp < f.stamp) && e.overlaps f && !n.overlaps f)

/-- NARROW: refused unless the new range lies inside the old one of a valid entry. -/
def State.clpNarrowOp (who : Init) (space : Nat) (append : Bool) (owner ctx : Nat) (s : State) : State :=
  let s := s.clpFields who 2 space append owner ctx
  let lo := s.rd64 R.CLP_OP_START_addr
  let hi := s.rd64 R.CLP_OP_END_addr
  match s.clpEnt with
  | some e => if e.lo ≤ lo ∧ lo ≤ hi ∧ hi ≤ e.hi then (s.clampNarrow e lo hi).wr R.CLP_OP_STAT_done 1 else s.clpRefuse
  | none => s.clpRefuse

/-- R376: CLP_OP NARROW. -/
def execClpNarrow (who : Init) (space : BitVec 3) (append : Bool) (owner : BitVec 2) (ctx : BitVec 14) (s : State) : Out :=
  .next (s.accept who R.CLP_OP_go (State.clpGo <| State.clpNarrowOp who space.toNat append owner.toNat ctx.toNat))

/-- RELEASE: refused where the entry is not valid. -/
def State.clpReleaseOp (who : Init) (space : Nat) (append : Bool) (owner ctx : Nat) (s : State) : State :=
  let s := s.clpFields who 3 space append owner ctx
  match s.clpEnt with
  | some e => (s.clampRelease e).wr R.CLP_OP_STAT_done 1
  | none => s.clpRefuse

/-- R376: CLP_OP RELEASE. -/
def execClpRelease (who : Init) (space : BitVec 3) (append : Bool) (owner : BitVec 2) (ctx : BitVec 14) (s : State) : Out :=
  .next (s.accept who R.CLP_OP_go (State.clpGo <| State.clpReleaseOp who space.toNat append owner.toNat ctx.toNat))

/-! ## Release by Drive Phase (R378 to R380) -/

/-- The lanes of the descriptors posted and not complete on both sequencers. -/
def State.lanesPosted (s : State) : Nat := ((s.host.posted.a ++ s.host.posted.b).map (fun i => i.spec.lanes)).sum

/-- Whether an item's media command may start: its zone's entry is written where the table still shows the zone Empty (R388),
and at most one other media command of the zone is outstanding (R386). -/
def State.cmdMay (s : State) (job : Nat) : Bool :=
  match s.host.cmds.find? (fun c => c.id == job) with
  | some c =>
    c.begun || decide (c.space = .conv)
      || (!(s.host.unsaved.contains c.zone && decide ((zoneFind s.host.table c.zone).st = .empty))
        && decide ((s.host.cmds.filter (fun d => d.begun && decide (d.space ≠ .conv) && d.zone == c.zone)).length < 2))
  | none => true

/-- Whether every data band that an item writes has its group's accumulator ATTACHED (R312). -/
def State.bandsAttached (s : State) (i : Item) : Bool :=
  i.spec.bands.all (fun b =>
    let slot := s.bptSlot b
    !(s.roleAt slot (s.bptBand b % s.rd R.PAR_GEO_n)).isData || (match s.accOf i.spec.act slot with
      | some k => s.accIs k .attached
      | none => false))

/-- Whether the node's seek window is open, or no seek plan applies (R504). A plan whose window or count is 0 is outside the ranges
of R504: whether it opens is open. -/
def State.seekOpen (s : State) : Bool :=
  let f := s.frk
  if !(s.rdB R.FRK_SEEK_CFG_en && s.rdB R.FRK_TB_STAT_sync) then true
  else if f.window = 0 ∨ f.windows = 0 then s.free.toNat % 2 == 0
  else s.driveTime / (f.window * 1000) % f.windows == s.rd R.FRK_STAT_addr % f.windows

/-- The access distance of an item, in 1/256 track. -/
def State.accessDistance (s : State) (i : Item) : Nat := ((s.act.act.get i.spec.act).c0 - 256 * (i.spec.track : Int)).natAbs

/-- The items of an actuator's pending list that may be posted, each with the items before it (R380, R504). The condition on
band pointer indices is one on writes to a band. -/
def State.eligible (s : State) (x : Act) : List Item :=
  let go : List Item → Item → Bool := fun before i =>
    i.spec.bands.all (fun b => before.all (fun j => !j.spec.bands.contains b))
  let rec walk : List Item → List Item → List Item
    | _, [] => []
    | before, i :: r => (if go before i then [i] else []) ++ walk (before ++ [i]) r
  (walk [] (s.host.pend.get x)).filter (fun i =>
    decide (s.lanesPosted + i.spec.lanes ≤ s.rd R.HQE_SCHED_CFG_max_lanes) && s.cmdMay i.job && s.bandsAttached i
      && (s.seekOpen || decide (s.accessDistance i ≤ 256 * s.rd R.FRK_SEEK_CFG_min_trk)))

/-- The seek estimate in µs for a distance in 1/256 track: that of the first class whose bound contains it. Beyond the last
bound the estimate is open. -/
def State.seekTime (s : State) (d256 : Nat) : Nat :=
  match (List.range 16).find? (fun k => decide (d256 ≤ 256 * 8 * s.rd (R.HQE_SEEK_dist.at k))) with
  | some k => s.rd (R.HQE_SEEK_time.at k)
  | none => s.free.toNat % 16384

/-- The access estimate of an item in ns, times 2^32 (R379). -/
def State.accessEstimate (s : State) (i : Item) : Nat :=
  let p := s.rd R.GCK_REV_PERIOD_period
  let t := 1000 * s.seekTime (s.accessDistance i)
  let wait := (((i.spec.phase.toNat * p : Nat) : Int) - ((s.rd R.GCK_DPHASE_dphase * p + t * 2 ^ 32 : Nat) : Int)) % ((2 ^ 32 * p : Nat) : Int)
  t * 2 ^ 32 + wait.toNat

/-- Whether an item is older than age_max ms. -/
def State.itemOld (s : State) (i : Item) : Bool := decide (i.born + 1000000 * s.rd R.HQE_SCHED_CFG_age_max < s.driveTime)

/-- Whether item i goes before item j (R379). -/
def State.goesBefore (s : State) (i j : Item) : Bool :=
  if s.itemOld i || s.itemOld j then s.itemOld i && (!s.itemOld j || decide (i.born < j.born))
  else if s.rdB R.HQE_SCHED_CFG_urgent_first && i.urgent != j.urgent then i.urgent
  else
    let a := s.accessEstimate i
    let b := s.accessEstimate j
    decide (a < b ∨ (a = b ∧ i.stamp < j.stamp))

/-- The item that HQE posts next. -/
def State.bestItem (s : State) (x : Act) : Option Item :=
  (s.eligible x).foldl (fun m i => match m with
    | some j => if s.goesBefore i j then some i else some j
    | none => some i) none

/-- A list without the first entry equal to a value. -/
def dropFirst (i : Item) : List Item → List Item
  | [] => []
  | j :: r => if j = i then r else j :: dropFirst i r

/-- R378, R379: the best eligible item's descriptor is written at the ring's tail and posted; at most depth descriptors stand
posted, and the ring has room under R211. Before a write to a band the attachment record is written (R319). -/
def execItemPost (x : Act) (s : State) : Out :=
  .next (
    let n := s.ringSize x
    let t := s.rd (msqF R.MSQ_RING_TAIL_tail x)
    let used := (t + 1 + n - s.rd (msqF R.MSQ_RING_HEAD_head x) % n) % n
    match s.bestItem x with
    | some i =>
      if s.hqeOn = true ∧ 1 ≤ used ∧ used < n - 1 ∧ (s.host.posted.get x).length < s.rd R.HQE_SCHED_CFG_depth then
        let old := s.itemOld i
        let s := s.when (i.spec.bands ≠ []) State.attachRecord
        let s := s.used.dramPut (s.rd (msqF R.MSQ_RING_BASE_base x) * 256 + 256 * t) (i.spec.desc.take 256)
        let s := (s.wr (msqF R.MSQ_RING_TAIL_tail x) ((t + 1) % n)).idleEnd
        let s := s.updHost (fun h => { h with
          pend := h.pend.set x (dropFirst i (h.pend.get x))
          posted := h.posted.set x (h.posted.get x ++ [i])
          cmds := h.cmds.map (fun c => if c.id = i.job then { c with begun := true } else c)
          ctxs := h.ctxs.map (fun (c : Context) => if i.owner = some c.no ∧ i.stamp = c.stamp then { c with released := true } else c) })
        if old then (s.satCount R.HQE_CNT_AGE_count 213).raise 211 else s
      else s
    | none => s)

end Sys2Proof.Machine
end

