-- ==== Sys2Proof/Machine/Irq.lean ====
section
/-! DEFINITION. The interrupt distributor (spec/01_architecture.md R43 to R49, spec/00_scope.md R573): levels, pending sources, claims
and completions. -/
namespace Sys2Proof.Machine

/-- The status conditions among the conditions of a source (R573); the sources that are not listed follow their event latch alone. -/
def State.statusLevel (s : State) (n : Nat) : Bool :=
  let wch : Nat → Bool := fun c => s.rdB (R.WCH_FLT_overflow.inst c)
    || (c == 0 || c == 4) && (s.rdB (R.WCH_HL_STAT_link_err.inst c) || s.rdB (R.WCH_HL_STAT_pa_fault.inst c))
  match n with
  | 0 => s.rdB R.SYS_CFG_ERR_valid
  | 1 => s.rdB R.SYS_CFG_ERR_overflow
  | 8 => s.rdB R.JIG_LOAD_STAT_done
  | 9 => s.rdB R.JIG_LOAD_STAT_err
  | 11 => s.rdB R.JIG_STAT_lockout
  | 17 => s.rdB R.PWR_PLVL_STAT_fail
  | 21 => s.rdB R.PWR_EST_over
  | 27 => s.rdB R.THM_STAT_latched
  | 29 => s.rdB R.THM_STAT_restored
  | 49 => s.rdB R.BST_FAIL_fail
  | 145 => s.rdB (R.MSQ_MCHK_valid.inst 0)
  | 153 => s.rdB (R.MSQ_MCHK_valid.inst 1)
  | 188 => s.rdB R.SPM_STAT_start_fail
  | 196 => s.rdB (R.ACT_STAT_load_fail.at 0) || s.rdB (R.ACT_STAT_load_fail.at 1)
  | 206 => s.rdB R.PAR_ERR_valid
  | 208 => s.rdB R.HQE_READY_valid
  | 226 => s.rdB R.CLP_OP_STAT_err
  | 228 => s.rdB R.OBJ_DONE_done
  | 229 => s.rdB R.OBJ_MISM_mism
  | 230 => s.rdB R.OBJ_ERR_valid
  | 236 => s.rdB R.BUF_ERR_valid
  | 239 => s.rdB R.BUF_ERR_overflow
  | 240 => s.rdB R.DRC_ERR_valid
  | 241 => s.rdB R.DRC_ERR_overflow
  | 248 => s.rdB R.HIF_RST_EVT_port0
  | 249 => s.rdB R.HIF_RST_EVT_port1
  | 252 => s.rdBit R.SYS_IRQ_SW_sw 0
  | 253 => s.rdBit R.SYS_IRQ_SW_sw 1
  | 254 => s.rdBit R.SYS_IRQ_SW_sw 2
  | 255 => s.rdBit R.SYS_IRQ_SW_sw 3
  | n => if 128 ≤ n ∧ n < 144 then
      (if n % 2 = 0 then s.rdB (R.WCH_FLT_valid.inst ((n - 128) / 2)) else wch ((n - 128) / 2))
    else false

/-- The level of a source: its status conditions, or its event latch (R573). -/
def State.irqLevel (s : State) (n : Nat) : Bool := s.statusLevel n || s.irq.latch.contains n

/-- Whether a source is in service. -/
def State.irqInService (s : State) (n : Nat) : Bool := s.irq.service.any (fun e => e.1 == n)

/-- Whether a source is pending (R43). -/
def State.irqPending (s : State) (n : Nat) : Bool :=
  !s.rdB (R.SYS_IRQ_CFG_nmi.at n) && s.rdB (R.SYS_IRQ_CFG_prio.at n) && s.irqLevel n && !s.irqInService n

/-- Whether a source names a core in its target field. -/
def State.irqFor (s : State) (n c : Nat) : Bool := bitAt (s.rd (R.SYS_IRQ_CFG_target.at n)) c

/-- Whether a core's interrupt input is asserted (R43). -/
def State.irqInput (s : State) (c : Nat) : Bool := (List.range 256).any (fun n => s.irqPending n && s.irqFor n c)

/-- What SYS_IRQ_PENDn reads. -/
def State.irqPendWord (s : State) (n : Nat) : Nat := maskOf ((List.range 32).filter (fun i => s.irqPending (32 * n + i)))

/-- The better of two sources for a claim: the higher priority, then the lower number (R44). -/
def State.irqBetter (s : State) (m n : Nat) : Nat :=
  if s.rd (R.SYS_IRQ_CFG_prio.at m) < s.rd (R.SYS_IRQ_CFG_prio.at n) then n else m

/-- The source that a claim of a core takes. -/
def State.irqBest (s : State) (c : Nat) : Option Nat :=
  ((List.range 256).filter (fun n => s.irqPending n && s.irqFor n c)).foldl
    (fun (m : Option Nat) n => some (m.elim n (fun k => s.irqBetter k n))) none

/-- A claim by core c. -/
def State.irqClaimOp (c : Nat) (s : State) : State :=
  match s.irqBest c with
  | some n =>
    let s := { s with irq := { s.irq with latch := s.irq.latch.filter (· != n), service := (n, c) :: s.irq.service }, reply := BitVec.ofNat 32 (2 ^ 31 + n) }
    (s.wr (R.SYS_IRQ_CLAIM_valid.at c) 1).wr (R.SYS_IRQ_CLAIM_source.at c) n
  | none =>
    let s := { s with reply := 0 }
    (s.wr (R.SYS_IRQ_CLAIM_valid.at c) 0).wr (R.SYS_IRQ_CLAIM_source.at c) 0

/-- R44: a read of SYS_IRQ_CLAIMc; it clears the latch of the source that it claims (R573). -/
def execIrqClaim (core : Fin 6) (s : State) : Out := .next (s.irqClaimOp core.val)

/-- A source completed: refused where it is not in service for the core (R46). -/
def State.irqCompleteOp (who : Init) (c n : Nat) (s : State) : State :=
  if s.irq.service.contains (n, c) then
    let s := { s with irq := { s.irq with service := s.irq.service.filter (fun e => e != (n, c)) } }
    if s.rd (R.SYS_IRQ_CLAIM_source.at c) = n then s.wr (R.SYS_IRQ_CLAIM_valid.at c) 0 else s
  else s.refuse who (R.SYS_IRQ_CLAIM_source.at c)

/-- R46: a write of a source number to SYS_IRQ_CLAIMc acts whatever the field reads (DEDUCED, assumption 33). -/
def execIrqComplete (who : Init) (core : Fin 6) (source : BitVec 8) (s : State) : Out := .next (s.irqCompleteOp who core.val source.toNat)

end Sys2Proof.Machine
end

