-- ==== Sys2Proof/Machine/SpmFx.lean ====
section
/-! DEFINITION. SPM as the other blocks act on it (spec/10_spindle.md): the states of R298, spindle lock (R303), the spin
token (R304), and squall and shutdown (R306). -/
namespace Sys2Proof.Machine

/-- SPM's state beyond its registers updated. -/
def State.updSpm (f : SpmState → SpmState) (s : State) : State := { s with spm := f s.spm }

/-- A counter of SPM raised by one; source offset 5 when it reaches saturation (R307). -/
def State.spmCount (f : Field) (s : State) : State :=
  let t := s.inc f 1
  t.when (t.rd f = 2 ^ f.w - 1 ∧ s.rd f ≠ 2 ^ f.w - 1) (State.raise 189)

/-- SPM_TOK.held is cleared and the release signalled to FRK (R304). -/
def State.spmRelease (s : State) : State :=
  if s.rdB R.SPM_TOK_held then (s.wr R.SPM_TOK_held 0).spinReleased else s

/-- Spindle lock falls: writing stops (R193), source offset 1 (R303). -/
def State.spmLockOff (s : State) : State :=
  let s := s.updSpm (fun p => { p with lockRun := 0 })
  if s.rdB R.SPM_STAT_lock then State.readyNote s (((s.wr R.SPM_STAT_lock 0).raise 185).wchStopAll 2 chans8) else s

/-- Spindle lock rises: source offset 1, and the spin token is released (R303, R304). -/
def State.spmLockOn (s : State) : State :=
  if s.rdB R.SPM_STAT_lock then s else State.readyNote s (((s.wr R.SPM_STAT_lock 1).raise 185).spmRelease)

/-- SPM_STAT.fw changes, raising source offset 6 (R305). -/
def State.setFw (b : Bool) (s : State) : State :=
  if s.rdB R.SPM_STAT_fw = b then s else (s.wrB R.SPM_STAT_fw b).raise 190

/-- The source of the rotor angle in a state on entry; SQUALL keeps the one in use. -/
def spmAngleOf (s : State) : SpmSt → Nat
  | .align => 1
  | .open => 1
  | .run => 2
  | .squall => s.rd R.SPM_STAT_ang_src
  | _ => 0

/-- The speed that SPM_SPEED.rpm shows without a source is left open by the spec; a new open value stands from the change. -/
def State.setAngSrc (n : Nat) (s : State) : State :=
  if s.rd R.SPM_STAT_ang_src = n then s
  else
    let s := s.wr R.SPM_STAT_ang_src n
    let s := s.when (n ≠ 3) State.spmLockOff
    if n = 0 then (s.wr R.SPM_SPEED_rpm s.free.toNat).used else s

/-- The d-axis reference, in 1/256 code, and what SPM_IDREF shows of it in codes. -/
def State.setIdRef (z : Int) (s : State) : State :=
  ((s.updSpm (fun p => { p with idRef := z })).wrI R.SPM_IDREF_id_ref (s.quot z 256)).used

/-- Whether the bridge is driven in a state. -/
def spmDriven (s : State) : SpmSt → Bool
  | .brake => true
  | .reverse => true
  | .align => true
  | .open => true
  | .run => true
  | .latched => true
  | .squall => decide (2 ≤ s.rd R.SPM_STAT_ang_src)
  | _ => false

/-- SPM enters a state, raising source offset 0 (R298): spindle lock falls outside RUN, the bridge and the angle source
follow the state, the observer stops where the bridge is off, and the token is released on entry to IDLE, LATCHED and OFF (R304). -/
def State.spmEnter (x : SpmSt) (s : State) : State :=
  let driven := spmDriven s x
  let s := s.when (x ≠ .run) State.spmLockOff
  let s := (s.setAngSrc (spmAngleOf s x)).wr R.SPM_STAT_state x.code
  let s := s.when (x ≠ .run) (State.setFw false)
  let s := s.when (driven = false) (fun s => (s.wr R.SPM_STAT_obs_conv 0).updSpm (fun p =>
    { p with convRun := 0, lossRun := 0, xchkRun := 0 }))
  let s := s.updSpm (fun p => { p with bridge := driven, braking := x == .brake || x == .reverse || x == .latched,
                                       alignWait := false, handover := false, measured := false, short := 0 })
  let s := s.raise 184
  s.when (x = .idle ∨ x = .latched ∨ x = .off) State.spmRelease

/-- RUN is entered: the observer's angle is in use, nothing is pending, and slot 14 restarts as on enable (R298, R302). The
d-axis reference starts from 0. -/
def State.spmRun (s : State) : State := (((s.spmEnter .run).wr R.SPM_STAT_pending 0).setIdRef 0).slotClear 14

/-- start_fail is set with source offset 4 and the start is no longer pending (R298). -/
def State.spmFail (s : State) : State := (s.setStatus R.SPM_STAT_start_fail 1 188).wr R.SPM_STAT_pending 0

/-- COAST is entered: bridge off, counted (R299). -/
def State.spmCoast (s : State) : State := (s.spmEnter .coast).spmCount R.SPM_CNT_coasts

/-- R298, R306: a squall. With an angle the d-axis reference is 0 and the bridge regenerates; without one it is off. -/
def State.spmSquall (s : State) : State :=
  if s.spmIs .off || s.spmIs .latched || s.spmIs .squall then s else (s.spmEnter .squall).setIdRef 0

/-- R306: both actuators have retracted in a squall, and SPM brakes. -/
def State.spmSquallBrake (s : State) : State :=
  if s.spmIs .squall then s.updSpm (fun p => { p with bridge := true, braking := true, short := 0 }) else s

/-- R298, R306: THM requests the shutdown brake. -/
def State.spmLatch (s : State) : State :=
  if s.spmIs .off || s.spmIs .latched then s else (s.spmEnter .latched).wr R.SPM_STAT_pending 0

/-- The speed condition and the rise or fall of spindle lock at a revolution boundary (R303): the target is slot 14's TGT,
in rpm × 131,072. -/
def State.spindleLockCheck (s : State) : State :=
  let tgt := s.rdI (R.CLE_TGT_tgt.at 14)
  let d : Int := (((s.rd R.SPM_SPEED_rpm * 131072 : Nat) : Int) - tgt).natAbs
  let tol : Int := ((s.rd R.SPM_LOCK_tol : Nat) : Int)
  let s := s.when (2 * tol * tgt < d * 1000000) State.spmLockOff
  let n := if d * 1000000 ≤ tol * tgt then s.spm.lockRun + 1 else 0
  let s := s.updSpm (fun p => { p with lockRun := n })
  s.when (s.spmIs .run = true ∧ s.rd R.SPM_STAT_ang_src = 3 ∧ s.rdB R.SPM_STAT_obs_conv = true
    ∧ s.rdB (R.CLE_SSTAT_ramping.at 14) = false ∧ s.rd R.SPM_LOCK_revs ≤ n ∧ 0 < n) State.spmLockOn

end Sys2Proof.Machine
end

