-- ==== Sys2Proof/Machine/Spm.lean ====
section
/-! DEFINITION. The commands of SPM (spec/10_spindle.md). Angles are in 2^-32 turn; the arithmetic of R287 to R297 is carried
in fixed point far finer than its results (DESIGN CHOICE, assumption 7). -/
namespace Sys2Proof.Machine

/-! ## Numbers -/

/-- 2^32. -/
def two32 : Int := 4294967296

/-- 1/√3 in units of 2^-64. -/
def invSqrt3 : Int := 10650232656328343401

/-- Cosine of an angle in 2^-32 turn, in units of 2^-32. -/
def cos32 (t : Int) : Int := cosTurn t 4294967296 / two32

/-- Sine of an angle in 2^-32 turn, in units of 2^-32. -/
def sin32 (t : Int) : Int := sinTurn t 4294967296 / two32

/-- The angle that v rpm of an electrical speed covers in a number of half PWM periods, in 2^-32 turn; a MOTOR cycle is
5 ns. -/
def State.angleOf (s : State) (v : Int) (halves : Nat) : Int :=
  v * ((s.rd R.SPM_CFG_pp * s.rd R.SPM_PWM_period * 5 * halves : Nat) : Int) * two32 / (2 * 60000000000)

/-! ## Currents (R288 to R290) -/

/-- The phases from the highest duty to the lowest, for a voltage sector (R288). -/
def sectorOrder : Nat → Nat × Nat × Nat
  | 1 => (0, 1, 2)
  | 2 => (1, 0, 2)
  | 3 => (1, 2, 0)
  | 4 => (2, 1, 0)
  | 5 => (2, 0, 1)
  | _ => (0, 2, 1)

/-- Whether a pulse shifted by Δ keeps clear of the period boundary, dead + 40 cycles away (R290); its edge lies gap cycles
from the boundary. -/
def State.shiftFits (s : State) (gap delta : Int) : Bool := decide (((s.rd R.SPM_PWM_dead : Nat) : Int) + 40 < gap - delta)

/-- What becomes of an active vector of a length in cycles: sampled as it stands, sampled after a shift, or missing. -/
def State.vectorSample (s : State) (len gap : Int) : Bool × Bool :=
  let t : Int := ((s.rd R.SPM_SHUNT_t_min : Nat) : Int)
  if t ≤ len then (true, false) else if s.shiftFits gap (t - len) then (true, true) else (false, false)

/-- The shunt samples of a period turned into i_α and i_β where both vectors were sampled (R288); shifts and missing samples
are counted (R289, R290). -/
def State.reconstruct (p : SpmPeriod) (s : State) : State :=
  let d := s.spm.duty
  let o := sectorOrder (s.rd R.SPM_STAT_sector)
  let at3 := fun (i : Nat) => d.getD i 0
  let h : Int := ((s.rd R.SPM_PWM_period : Nat) : Int) / 2
  let dmax := at3 o.1
  let dmid := at3 o.2.1
  let dmin := at3 o.2.2
  let a := s.vectorSample ((dmax - dmid) * h / fixOne) ((fixOne - dmax) * h / fixOne)
  let b := s.vectorSample ((dmid - dmin) * h / fixOne) ((fixOne - dmin) * h / fixOne)
  let s := s.forEach [a, b] (fun v s =>
    if v.2 then s.spmCount R.SPM_CNT2_shifted else if v.1 then s else s.spmCount R.SPM_CNT2_missing)
  let prev := s.spm
  let s := s.updSpm (fun q => { q with alphaPrev := prev.alpha, betaPrev := prev.beta })
  if a.1 && b.1 then
    let imax := p.single.toInt
    let imin := - p.double.toInt
    let cur := fun (i : Nat) => if i = o.1 then imax else if i = o.2.2 then imin else - imax - imin
    s.updSpm (fun q => { q with alpha := cur 0 * two32, beta := (cur 0 + 2 * cur 1) * invSqrt3 / two32 })
  else s

/-! ## The observer (R292, R293) -/

/-- e of R292 on one axis, in mV × 2^32: v − r_ph · i − l_ph · Δi / T, with v in mV × 2^32 and currents in codes × 2^32. -/
def State.backEmf (s : State) (v i prev : Int) : Int :=
  let scale : Int := ((Config.shuntMicroAmp : Nat) : Int)
  let r : Int := ((s.rd R.SPM_OBS_r_ph : Nat) : Int)
  let l : Int := ((s.rd R.SPM_OBS_l_ph : Nat) : Int)
  let t : Int := ((s.rd R.SPM_PWM_period * 5 : Nat) : Int)
  v - r * i * scale / 1000000 - (if t = 0 then 0 else l * 10 * (i - prev) * scale / (1000 * t))

/-- The observer's speed in rpm: w / (2π × pp) × 60. -/
def State.obsRpm (s : State) : Int :=
  let pp : Int := ((s.rd R.SPM_CFG_pp : Nat) : Int)
  if pp = 0 then 0 else s.quot (s.spm.obsW * 60 * 1000000000) (two32 * pp * 6283185307)

/-- π/180 × 2^32 scaled by 10^9, for errors compared in electrical degrees. -/
def degree32 (n : Nat) : Int := ((n : Nat) : Int) * 17453293 * two32 / 1000000000

/-- One run of the observer with the phase voltages of a period (R292): th and w move on, and the runs of small and large
errors are counted. Its electrical revolutions are counted modulo pp (R293). -/
def State.observe (p : SpmPeriod) (s : State) : State :=
  let vu : Int := (p.vu.toNat : Int)
  let vv : Int := (p.vv.toNat : Int)
  let vw : Int := (p.vw.toNat : Int)
  let ea := s.backEmf ((2 * vu - vv - vw) * two32 / 3) s.spm.alpha s.spm.alphaPrev
  let eb := s.backEmf ((vv - vw) * invSqrt3 / two32) s.spm.beta s.spm.betaPrev
  let th : Int := ((s.spm.obsTheta : Nat) : Int)
  let mag : Int := ((isqrt (ea * ea + eb * eb).toNat : Nat) : Int)
  let err : Int := if mag = 0 then 0 else (- ea * cos32 th - eb * sin32 th) / mag
  let w := s.spm.obsW + ((s.rd R.SPM_OBS_PLL_ki : Nat) : Int) * err / 65536
  let t : Int := ((s.rd R.SPM_PWM_period * 5 : Nat) : Int)
  let step := (w * t / 1000000000 + ((s.rd R.SPM_OBS_PLL_kp : Nat) : Int) * err / 65536) * 1000000000
  let th2 := th + s.quot step 6283185307
  let small := decide (err.natAbs ≤ (degree32 (s.rd R.SPM_OBS_LOSS_conv_deg)).natAbs)
  let large := decide ((degree32 (s.rd R.SPM_OBS_LOSS_loss_deg)).natAbs < err.natAbs)
  let pp := max 1 (s.rd R.SPM_CFG_pp)
  let turns := th2 / two32
  let s := (s.updSpm (fun q => { q with
    obsTheta := twosOf 32 th2, obsCount := ((((q.obsCount : Nat) : Int) + turns) % (pp : Int)).toNat, obsW := w,
    convRun := if small then min 48 (q.convRun + 1) else 0, lossRun := if large then min 255 (q.lossRun + 1) else 0 })).used
  (s.wrI R.SPM_SPEED_obs_rpm (clampInt 0 65535 s.obsRpm)).used

/-- Whether an angle has passed a multiple of 60 electrical degrees (R293). -/
def crossed60 (a b : Nat) : Bool := a * 6 / 4294967296 != b * 6 / 4294967296

/-! ## Angles (R294 to R297) -/

/-- The gauge electrical angle θ_g. -/
def State.gaugeTheta (s : State) : Nat := (s.rd R.SPM_CFG_pp * s.spm.dp + s.spm.ofs) % 4294967296

/-- Which offset applies: SPM_GANG_OFS, or the one measured. -/
def State.gaugeOfs (s : State) : Nat := if s.rdB R.SPM_GANG_CFG_ofs_src then s.rd R.SPM_GANG_MEAS_meas else s.rd R.SPM_GANG_OFS_ofs

/-- The handover to the gauge (R294, R295). -/
def State.spmHandover (s : State) : State :=
  let o := s.gaugeOfs
  (s.updSpm (fun q => { q with ofs := o, handover := true, xchkRun := 0 })).setAngSrc 3

/-- The angle in use at the start of the period, by source. -/
def State.thetaNow (s : State) : Nat :=
  match s.rd R.SPM_STAT_ang_src with
  | 1 => s.rd R.SPM_ANGLE_theta
  | 2 => s.spm.obsTheta
  | 3 => s.gaugeTheta
  | _ => s.rd R.SPM_ANGLE_theta

/-- The speed of the source in use, in rpm. -/
def State.speedNow (s : State) : Int :=
  match s.rd R.SPM_STAT_ang_src with
  | 1 => ((s.spm.forced / 4294967296 : Nat) : Int)
  | 2 => ((s.rd R.SPM_SPEED_obs_rpm : Nat) : Int)
  | 3 => ((s.spm.gaugeRpm : Nat) : Int)
  | _ => ((s.rd R.SPM_SPEED_rpm : Nat) : Int)

/-! ## Modulation (R287) -/

/-- The voltage vector of slots 2 and 3, in units of 2^-32 of full scale, scaled down to 1.0 where it is longer. -/
def State.voltage (s : State) : Int × Int :=
  let d := s.slotU 2 * 2
  let q := s.slotU 3 * 2
  let m := ((isqrt (d * d + q * q).toNat : Nat) : Int)
  if m ≤ two32 then (d, q) else (d * two32 / m, q * two32 / m)

/-- The phase duties of a voltage vector at an angle, by min–max injection, in units of 2^-64 (R287): full scale 1.0 is
V_bus / √3. -/
def phaseDuties (v : Int × Int) (theta : Int) : List Int :=
  let c := cos32 theta
  let n := sin32 theta
  let va := v.1 * c - v.2 * n
  let vb := v.1 * n + v.2 * c
  let sq3 : Int := 7439101573
  let u := [va, (- va + vb * sq3 / two32) / 2, (- va - vb * sq3 / two32) / 2]
  let m := minMaxOf u
  u.map (fun z => fixOne / 2 + (z - (m.1 + m.2) / 2) * invSqrt3 / fixOne)
where
  /-- The smallest and largest of a list. -/
  minMaxOf : List Int → Int × Int
    | [] => (0, 0)
    | z :: r => r.foldl (fun p y => (min p.1 y, max p.2 y)) (z, z)

/-- The sector of the voltage vector: which phase has the highest duty and which the lowest (R288). -/
def sectorOf (d : List Int) : Nat :=
  let u := d.getD 0 0
  let v := d.getD 1 0
  let w := d.getD 2 0
  if v ≤ u ∧ w ≤ v then 1 else if u < v ∧ w ≤ u then 2 else if w < v ∧ u < w then 3
  else if v ≤ w ∧ u < v then 4 else if u < w ∧ v ≤ u then 5 else 6

/-! ## Field weakening (R305) -/

/-- Field weakening for one period, with the 12 V rail in mV. -/
def State.fieldWeaken (rail : Nat) (s : State) : State :=
  let active := s.rdB R.SPM_FW_fw_en && s.spmIs .run
    && (decide (s.rd R.SPM_FW2_base_rpm ≤ s.rd R.SPM_SPEED_rpm) || decide (rail < 11000))
  let s := s.setFw active
  let rated : Int := ((s.rd R.SPM_FW_irated : Nat) : Int)
  let v := s.voltage
  let m : Int := ((isqrt (v.1 * v.1 + v.2 * v.2).toNat : Nat) : Int)
  let z := s.spm.idRef
  if active then
    let z := if ((s.rd R.SPM_FW2_vmod_hi : Nat) : Int) * two32 < m * 256 then z - rated
      else if m * 256 < ((s.rd R.SPM_FW2_vmod_lo : Nat) : Int) * two32 then min 0 (z + rated) else z
    let lim := -(((s.rd R.SPM_FW_id_lim : Nat) : Int) * rated * 256 / 100)
    s.setIdRef (max lim z)
  else if s.spmIs .run && decide (z < 0) then s.setIdRef (min 0 (z + rated))
  else s

/-! ## The PWM period -/

/-- The short duty of R301 after one sample of the braking current. -/
def State.brakeStep (i : Int) (s : State) : State :=
  s.updSpm (fun q => { q with short := if ((s.rd R.SPM_BRAKE_ilim : Nat) : Int) < i.natAbs then q.short - 1 else min 63 (q.short + 1) })

/-- A pending sample with a Q1.31 input for a current loop. -/
def currentSample (z : Int) : PendSample := ⟨satSigned 32 z, true, false⟩

/-- The transforms and loops of a period in which the bridge carries a vector. -/
def State.spmDrive (p : SpmPeriod) (s : State) : State :=
  let s := s.reconstruct p
  let old := s.spm.obsTheta
  let s := s.observe p
  let s := s.when (s.spmIs .run = true ∧ s.rd R.SPM_STAT_ang_src = 2 ∧ s.rdB R.GCK_STAT_lock = false
    ∧ crossed60 old s.spm.obsTheta = true) (State.slotTrigger 14 false)
  let s := s.when (s.spmIs .open = true) (fun s =>
    let f := s.spm.forced + s.rd R.SPM_OPEN_acc * (s.rd R.SPM_PWM_period * 5) * 4294967296 / 1000000000
    let a := s.rd R.SPM_ANGLE_theta
    let s := s.updSpm (fun q => { q with forced := f })
    s.wr R.SPM_ANGLE_theta (twosOf 32 (((a : Nat) : Int) + s.angleOf (((f / 4294967296 : Nat) : Int)) 2)))
  let s := s.when (s.spmIs .run = true ∧ s.rd R.SPM_STAT_ang_src = 2 ∧ s.spm.gaugeValid = true
    ∧ (s.rdB R.SPM_GANG_CFG_ofs_src = false ∨ s.spm.measured = true)) State.spmHandover
  let g := s.gaugeTheta
  let off := (signedOf 32 (twosOf 32 (((s.spm.obsTheta : Nat) : Int) - (g : Int)))).natAbs
  let bad := s.rd R.SPM_STAT_ang_src == 3 && decide (s.rd R.SPM_OBS_LOSS_xchk_deg * 4294967296 < off * 360)
  let s := s.updSpm (fun q => { q with xchkRun := if bad then min 255 (q.xchkRun + 1) else 0 })
  let t : Int := ((s.thetaNow : Nat) : Int)
  let s := s.wr R.SPM_ANGLE_theta s.thetaNow
  let s := (s.wrI R.SPM_SPEED_rpm (clampInt 0 65535 s.speedNow)).fieldWeaken p.rail.toNat
  let centre := t + s.angleOf s.speedNow 1
  let c := cos32 centre
  let n := sin32 centre
  let id := s.quot ((s.spm.alpha * c + s.spm.beta * n) / two32) 4096
  let iq := s.quot ((s.spm.beta * c - s.spm.alpha * n) / two32) 4096
  let s := ((s.used.wrI R.SPM_IDQ_i_d (id / 65536)).wrI R.SPM_IDQ_i_q (iq / 65536))
  let s := (s.slotTriggerWith 2 (currentSample id)).slotTriggerWith 3 (currentSample iq)
  let angle := if s.spm.handover then ((s.spm.obsTheta : Nat) : Int) + s.angleOf s.speedNow 1 else centre
  let d := phaseDuties s.voltage angle
  let s := s.updSpm (fun q => { q with duty := d, handover := false })
  let s := s.when (s.spmIs .squall = true) (State.slotRef 3
    (if p.rail.toNat < s.rd R.SPM_SQ_v_hold then -(((s.rd R.SPM_SQ_sq_i : Nat) : Int) * 1048576) else 0))
  s.wr R.SPM_STAT_sector (sectorOf d)

/-- R287: a spindle PWM period. With the bridge off nothing is driven; while SPM brakes, the short duty follows the sampled
current (R301); otherwise the currents are reconstructed, the observer runs, slots 2 and 3 are triggered and the next
period's duties are computed. -/
def execSpmPwmPeriod (p : SpmPeriod) (s : State) : Out :=
  .next (
    let s := s.updSpm (fun q => { q with dp := p.dp.toNat, gaugeRpm := p.rpm.toNat })
    if !s.spm.bridge then s
    else if s.spm.braking then (s.observe p).brakeStep p.brake.toInt
    else s.spmDrive p)

/-! ## The observer's events -/

/-- R292, R298: the error has stayed within conv_deg for 48 periods, or the observer has been converged since. In OPEN at
catch_rpm or above, RUN is entered. -/
def execObserverConverged (s : State) : Out :=
  .next (if 48 ≤ s.spm.convRun ∨ s.rdB R.SPM_STAT_obs_conv = true then
      let s := s.wr R.SPM_STAT_obs_conv 1
      s.when (s.spmIs .open = true ∧ s.rd R.SPM_CATCH_catch_rpm * 4294967296 ≤ s.spm.forced) State.spmRun
    else s)

/-- R299: observer loss in RUN, by its own error or by the cross-check of R295; the base firmware logs it. In the other states
the observer leaves convergence (R292). -/
def execObserverLoss (s : State) : Out :=
  .next (if s.spmIs .run && (decide (s.rd R.SPM_OBS_LOSS_loss_n ≤ s.spm.lossRun) || decide (s.rd R.SPM_OBS_LOSS_loss_n ≤ s.spm.xchkRun)) then
      let s := (((s.spmCount R.SPM_CNT_obs_loss).raise 187).logOpen 0x3E false).wr R.SPM_STAT_obs_conv 0
      if s.spm.gaugeValid then
        let s := s.spmLockOff
        let s := if s.rd R.SPM_STAT_ang_src = 2 then s.spmHandover else s
        let g := s.gaugeTheta
        let w : Int := ((s.spm.gaugeRpm * s.rd R.SPM_CFG_pp : Nat) : Int) * two32 * 6283185307 / (60 * 1000000000)
        s.updSpm (fun q => { q with obsTheta := g, obsW := w, convRun := 0, lossRun := 0, xchkRun := 0 })
      else s.spmCoast
    else if s.rd R.SPM_OBS_LOSS_loss_n ≤ s.spm.lossRun then s.wr R.SPM_STAT_obs_conv 0
    else s)

/-- The speed of an rpm value in the observer's units. -/
def State.rpmToW (s : State) (rpm : Nat) : Int := ((rpm * s.rd R.SPM_CFG_pp : Nat) : Int) * two32 * 6283185307 / (60 * 1000000000)

/-! ## Starting and stopping (R298 to R302) -/

/-- MEASURE is entered with a start pending. -/
def State.spmMeasure (s : State) : State := (s.spmEnter .measure).wr R.SPM_STAT_pending 1

/-- SPM_CTL.start, at the block. -/
def State.spmStartOp (who : Init) (s : State) : State :=
  if s.spmIs .idle && s.rdB R.SPM_TOK_held then s.spmMeasure
  else if s.spmIs .brake && s.rdB R.SPM_TOK_held then s.wr R.SPM_STAT_pending 1
  else s.refuse who R.SPM_CTL_start

/-- R298: SPM_CTL.start. -/
def execSpmStart (who : Init) (s : State) : Out := .next (s.accept who R.SPM_CTL_start (State.spmStartOp who))

/-- Whether both actuators are PARKED or OFF. -/
def State.headsParked (s : State) : Bool :=
  decide (s.rd (R.ACT_STAT_state.at 0) ≤ 1) && decide (s.rd (R.ACT_STAT_state.at 1) ≤ 1)

/-- SPM_CTL.stop, at the block. -/
def State.spmStopOp (who : Init) (s : State) : State :=
  if s.spmIs .measure || s.spmIs .align || s.spmIs .open || s.spmIs .run || s.spmIs .coast then
    if s.headsParked then (s.spmEnter .brake).wr R.SPM_STAT_pending 0
    else if s.spmIs .run then s.refuse who R.SPM_CTL_stop else s
  else s

/-- R298: SPM_CTL.stop. -/
def execSpmStop (who : Init) (s : State) : Out := .next (s.accept who R.SPM_CTL_stop (State.spmStopOp who))

/-- R298, R302: the arbiter has admitted align_i; ALIGN holds θ_e at 0 with the d-axis reference align_i. -/
def State.alignAdmitted (s : State) : State :=
  if s.spm.alignWait && (s.spmIs .measure || s.spmIs .brake) then
    let s := ((s.spmEnter .align).wr R.SPM_ANGLE_theta 0).setIdRef (s.rdI R.SPM_START_align_i * 256)
    s.slotRef 3 0
  else s

/-- ALIGN waits for the wake arbiter to admit align_i on rail 1 (R298, R460). -/
def State.alignAsk (s : State) : State :=
  let ma := s.rd R.SPM_START_align_i * Config.shuntMicroAmp / 1000
  if s.spm.alignWait then s
  else
    let s := s.updSpm (fun q => { q with alignWait := true })
    if s.arbOpen 1 then (s.arbAdmitted 1 ma).alignAdmitted else s.arbRequest .spm 1 ma

/-- R298: the phase-sense amplitude has stayed below amp_min for 20 ms with the bridge off. -/
def execSpmStill (s : State) : Out :=
  .next (if s.spmIs .measure then s.alignAsk
    else if s.spmIs .brake then
      if s.rdB R.SPM_STAT_pending then s.alignAsk else s.spmEnter .idle
    else if s.spmIs .latched then s.updSpm (fun q => { q with bridge := false, braking := false })
    else s)

/-- R298, R300: MEASURE has found the rotation's order, speed and angle. -/
def execMeasureOrderFound (forward : Bool) (rpm : BitVec 16) (theta : Word) (s : State) : Out :=
  .next (if s.spmIs .measure then
      if forward then
        if s.rd R.SPM_CATCH_catch_rpm ≤ rpm.toNat then
          let s := s.updSpm (fun q => { q with obsTheta := theta.toNat, obsCount := 0, obsW := s.rpmToW rpm.toNat })
          let s := (s.wr R.SPM_SPEED_obs_rpm rpm.toNat).spmCount R.SPM_CNT_catches
          (s.spmRun).wr R.SPM_SPEED_rpm rpm.toNat
        else s.spmEnter .brake
      else if s.rd R.SPM_CATCH_rev_rpm ≤ rpm.toNat then
        (((s.spmEnter .reverse).wr R.SPM_STAT_reverse 1).raise 186).spmCount R.SPM_CNT_reverses
      else s.spmEnter .brake
    else s)

/-- R298: no order found within 1,000 ms. -/
def execMeasureTimeout (s : State) : Out := .next (if s.spmIs .measure then s.spmEnter .brake else s)

/-- R301: the check of REVERSE every 100 ms. -/
def execReverseCheck (rpm : BitVec 16) (s : State) : Out :=
  .next (if s.spmIs .reverse && decide (rpm.toNat < s.rd R.SPM_CATCH_rev_rpm) then s.spmEnter .brake else s)

/-- R298: brake_max s have passed in BRAKE without still. -/
def execBrakeTimeout (s : State) : Out := .next (if s.spmIs .brake then (s.spmEnter .idle).spmFail else s)

/-- R298, R302: ALIGN has lasted align_ms; OPEN starts with the q-axis reference open_i and the forced speed at 0. -/
def execAlignDone (s : State) : Out :=
  .next (if s.spmIs .align then
      let s := (s.spmEnter .open).setIdRef 0
      (s.updSpm (fun q => { q with forced := 0 })).slotRef 3 (s.rdI R.SPM_START_open_i * 1048576)
    else s)

/-- R298: OPEN has lasted open_max. -/
def execOpenTimeout (s : State) : Out := .next (if s.spmIs .open then (s.spmEnter .brake).spmFail else s)

/-- R298, R299: 2 electrical revolutions have passed in COAST. -/
def execCoastEnd (s : State) : Out := .next (if s.spmIs .coast then s.spmMeasure else s)

/-! ## The gauge angle (R294 to R296) -/

/-- R294: GCK marks its angle valid (R133). -/
def execGaugeAngleValid (s : State) : Out :=
  .next (if s.rdB R.GCK_STAT_lock then s.updSpm (fun q => { q with gaugeValid := true, measured := false }) else s)

/-- R294: with ofs_src 1, th − pp × DP averaged over one revolution boundary interval. -/
def execGaugeOffsetMeasured (mean : Word) (s : State) : Out :=
  .next (if s.spm.gaugeValid && s.rdB R.SPM_GANG_CFG_ofs_src && s.spmIs .run && s.rd R.SPM_STAT_ang_src == 2 then
      (s.wr R.SPM_GANG_MEAS_meas mean.toNat).updSpm (fun q => { q with measured := true })
    else s)

/-- R296: GCK has withdrawn its angle. The observer takes over where it is converged; otherwise COAST, which is logged (R299). -/
def execGaugeAngleWithdrawn (s : State) : Out :=
  .next (if s.spm.gaugeValid && !s.rdB R.GCK_STAT_lock then
      let s := s.updSpm (fun q => { q with gaugeValid := false, measured := false })
      if s.spmIs .run && s.rd R.SPM_STAT_ang_src == 3 then
        if s.rdB R.SPM_STAT_obs_conv then s.setAngSrc 2 else (s.spmCoast).logOpen 0x3E false
      else s
    else s)

/-- SPM_CTL.en or srst written, at the block: in LATCHED neither changes the state (R298, R15). -/
def State.spmEnableOp (srst en : Bool) (s : State) : State :=
  let off := fun (s : State) => if s.spmIs .latched || s.spmIs .off then s else (s.spmEnter .off).wr R.SPM_STAT_pending 0
  if srst then
    let kept := s.spmIs .latched
    let s := (off s).blockReset 28 R.SPM_CTL_srst
    if kept then s.wr R.SPM_STAT_state SpmSt.latched.code
    else { s with spm := { SpmState.init with gaugeValid := s.spm.gaugeValid } }
  else if en then
    let s := s.wr R.SPM_CTL_en 1
    if s.spmIs .off then s.spmEnter .idle else s
  else off (s.wr R.SPM_CTL_en 0).ownerFlush

/-- R298: SPM_CTL.en is cleared or srst set. -/
def execSpmDisable (_who : Init) (srst : Bool) (s : State) : Out := .next (s.spmEnableOp srst false)

end Sys2Proof.Machine
end

