-- ==== Sys2Proof/Machine/Pwr.lean ====
section
/-! DEFINITION. PWR's commands (spec/16_power_states.md): level requests and the AVSBus engine (R450 to R453), the wake
arbiter (R460), Drive Time at the AON edges (R461, R462), idle thresholds (R464) and the power estimate (R466). -/
namespace Sys2Proof.Machine

/-! ## Performance levels -/

/-- R452: a write of PWR_PLVL.req. -/
def execLevelRequest (who : Init) (n : BitVec 2) (s : State) : Out :=
  .next (s.accept who R.PWR_PLVL_req (State.levelRequest n.toNat))

/-- VDone has come: a raise switches the clock, and any other change ends (R450, R451). -/
def State.vdoneOp (c : LevelChange) (s : State) : State :=
  let s := s.updPwr (fun p => { p with acked := p.written })
  if c.dst < c.src then s.setChange (some { c with wait := .clock }) else s.levelEnd c false

/-- R451: a status read of the regulator. -/
def execAvsStatusPoll (vdone : Bool) (mv : BitVec 12) (s : State) : Out :=
  .next (match s.pwr.change with
    | some c =>
      if c.wait = .vdone then
        let s := (s.wrB R.PWR_AVS_STAT_vdone vdone).wr R.PWR_AVS_STAT_mv mv.toNat
        if vdone then s.vdoneOp c else s
      else s
    | none => s)

/-- R451: tmo µs have passed without VDone. The write is repeated once; after that a raise writes the voltage of the level it
started from again, the change fails, and the base firmware logs it. -/
def execAvsTimeout (s : State) : Out :=
  .next (match s.pwr.change with
    | some c =>
      if c.wait = .vdone then
        if c.repeated then
          let s := s.when (c.dst < c.src) (State.avsWrite (s.levelMv c.src))
          (s.levelEnd c true).logOpen 0x3E false
        else (s.setChange (some { c with repeated := true })).avsWrite s.pwr.written
      else s
    | none => s)

/-- R450: the clock switch ends. A slower level's voltage is written after it. -/
def execClockSwitchDone (s : State) : Out :=
  .next (match s.pwr.change with
    | some c =>
      if c.wait = .clock then
        let s := s.wr R.PWR_PLVL_STAT_cur c.dst
        if c.dst < c.src then s.levelEnd c false
        else (s.setChange (some { c with wait := .vdone })).avsWrite (s.levelMv c.dst)
      else s
    | none => s)

/-! ## The wake arbiter (R460) -/

/-- The steps admitted on a rail during the last window. -/
def State.arbRecent (s : State) (rail : Nat) : List Nat :=
  let w := 1000 * s.rd (R.PWR_ARB_CFG_window.at rail)
  (s.pwr.admitted.filter (fun a => a.1 == rail && decide (s.driveTime < a.2.2 + w))).map (·.2.1)

/-- Whether the arbiter admits a request now, and whether it is oversize. -/
def State.arbCan (s : State) (r : ArbReq) : Bool × Bool :=
  let m := s.stepMax r.rail
  if m = 0 then (true, false)
  else if m < r.ma then ((s.arbRecent r.rail).isEmpty, true)
  else (decide ((s.arbRecent r.rail).sum + r.ma ≤ m), false)

/-- What an admission lets its requester do. -/
def State.arbGrant (who : ArbWho) (s : State) : State :=
  match who with
  | .pwr => s.levelAdmitted
  | .spm => s.alignAdmitted
  | .firmware => s.wr R.PWR_ARB_REQ_granted 1

/-- R460: the head request is admitted once its rail's window allows it. -/
def execArbiterAdmit (s : State) : Out :=
  .next (match s.pwr.queue with
    | [] => s
    | r :: q =>
      if (s.arbCan r).1 then
        let beyond := (s.arbCan r).2
        let s := State.arbShow (s.updPwr (fun p => { p with queue := q }))
        let s := (s.arbAdmitted r.rail r.ma).when (beyond = true) (State.pwrCount R.PWR_ARB_STAT_over)
        s.arbGrant r.who
      else s)

/-- PWR_ARB_REQ.go (R460). A rail above 2 names no rail, and such a request is refused (DEDUCED, assumption 17). -/
def State.arbReqOp (who : Init) (rail ma : Nat) (s : State) : State :=
  let s := (s.wr R.PWR_ARB_REQ_rail rail).wr R.PWR_ARB_REQ_ma ma
  if !s.rdB R.PWR_ARB_REQ_granted || decide (2 < rail) then s.refuse who R.PWR_ARB_REQ_go
  else if s.arbOpen rail then s.arbAdmitted rail ma
  else (s.wr R.PWR_ARB_REQ_granted 0).arbRequest .firmware rail ma

/-- R460. -/
def execArbRequest (who : Init) (rail : BitVec 2) (ma : BitVec 16) (s : State) : Out :=
  .next (s.accept who R.PWR_ARB_REQ_go (State.arbReqOp who rail.toNat ma.toNat))

/-! ## PMBus (R453) -/

/-- PWR_PMB_CMD.go (R453). -/
def State.pmbusOp (who : Init) (read : Bool) (addr cmd : Nat) (s : State) : State :=
  let s := ((s.wrB R.PWR_PMB_CMD_read read).wr R.PWR_PMB_CMD_addr addr).wr R.PWR_PMB_CMD_cmd cmd
  if s.rdB R.PWR_PMB_CMD_busy then s.refuse who R.PWR_PMB_CMD_go else s.wr R.PWR_PMB_CMD_busy 1

/-- R453. -/
def execPmbusCommand (who : Init) (read : Bool) (addr : BitVec 7) (cmd : BitVec 8) (s : State) : Out :=
  .next (s.accept who R.PWR_PMB_CMD_go (State.pmbusOp who read addr.toNat cmd.toNat))

/-- R453: a transaction ends; a read that was acknowledged delivers its word. -/
def execPmbusDone (nack : Bool) (data : BitVec 16) (s : State) : Out :=
  .next (if s.rdB R.PWR_PMB_CMD_busy then
      let s := (s.wr R.PWR_PMB_CMD_busy 0).wrB R.PWR_PMB_DATA_nack nack
      let s := s.when (s.rdB R.PWR_PMB_CMD_read = true ∧ nack = false) (State.wr R.PWR_PMB_DATA_data data.toNat)
      s.raise 22
    else s)

/-! ## Drive Time, idle time and the estimate -/

/-- Whether Drive Time counts: not across Calm and Doldrums, which a bridge makes up for (R461, R462). -/
def State.timeRuns (s : State) : Bool := !(s.phaseIs .asleep && decide (1 ≤ s.pwr.target)) && !s.pwr.bridge

/-- The power islands, in the order of CAL_PMONp (R454, R519). -/
inductive Island where
  | aon | cpu | system | host | motion | media | buffer
  deriving DecidableEq, Repr

/-- The island that CAL_PMONp reports. -/
def islandNo : Nat → Island
  | 0 => .aon
  | 1 => .cpu
  | 2 => .system
  | 3 => .host
  | 4 => .motion
  | 5 => .media
  | _ => .buffer

/-- Whether an island is off in the sleep state entered (R454). -/
def State.islandOff (s : State) (i : Island) : Bool :=
  s.phaseIs .asleep && decide (1 ≤ s.pwr.target) &&
    (match i with
      | .aon => false
      | .system | .host => decide (s.pwr.target = 2)
      | .motion => decide (s.pwr.target = 2) || s.spmIs .idle || s.spmIs .off
      | .cpu | .media | .buffer => true)

/-- R462, R463: Drive Time is bridged from the last capture to AON count c1. -/
def State.bridgeTime (c1 : Nat) (s : State) : State :=
  let sum := s.rd R.PWR_DT_Q_frac + (c1 + 2 ^ 48 - s.pwr.capCount) % 2 ^ 48 * 1953125
  let s := (s.wr64 R.PWR_DT_dt ((s.pwr.capDt + sum / 64) % 2 ^ 64)).wr R.PWR_DT_Q_frac (sum % 64)
  let q := if s.rdB R.JIG_STRAP_xtal && s.timeQuality != 2 then 1 else 2
  (s.wr R.PWR_DT_Q_q q).updPwr (fun p => { p with aon := c1, capCount := c1, capDt := s.driveTime, bridge := false })

/-- A latched write of a field of the AON domain acts (R36): a W1C field clears the bits written, PWR_PMB_CMD.go starts its transaction
(R453), and the lowest four bits of a GPIO field change (R566). -/
def State.aonTake (h : Shadow) (s : State) : State :=
  let f := h.field
  let v := h.value.toNat
  let s := { s with shadows := s.shadows.filter (fun g => g.field.key != f.key) }
  let s := if f.blk = 0 then s.wr { f with w := 16 } (s.rd f / 16 * 16 + v % 16)
    else if f.key = R.PWR_PMB_CMD_go.key then s.wr R.PWR_PMB_CMD_busy 1
    else if f.acc = .w1c then s.wr f (Nat.xor (s.rd f) (Nat.land (s.rd f) v))
    else s.wr f v
  (s.when (f.blk = 4) State.evrRefresh).syncCopy f.key

/-- R462: an edge of the 32.768 kHz clock, ns of Drive Time after the last event that told it. The AON count rises, Drive
Time and the count are captured, or Drive Time is loaded where it waits for this edge, and fields of the AON domain act on their latched
values (R36). -/
def execAonEdge (ns : BitVec 32) (s : State) : Out :=
  let s := s.updPwr (fun p => { p with aon := (p.aon + 1) % 2 ^ 48 })
  let s := if s.pwr.bridge then s.bridgeTime s.pwr.aon
    else if s.timeRuns then
      let s := s.advance ns.toNat
      s.updPwr (fun p => { p with capDt := s.driveTime, capCount := p.aon })
    else s
  .next (s.forEach (s.shadows.filter (fun h => h.field.aon)) State.aonTake)

/-- Whether a sequencer's ring is empty (R211). -/
def State.ringEmpty (s : State) (x : Act) : Bool :=
  s.rd (msqF R.MSQ_RING_HEAD_head x) == s.rd (msqF R.MSQ_RING_TAIL_tail x)

/-- Whether the device is idle (R464). -/
def State.deviceIdle (s : State) : Bool :=
  let quiet := fun x : Act => (s.msqIs x .idle || s.msqIs x .parked) && s.ringEmpty x
  s.rd R.HQE_STAT_ctx_used == 0 && quiet .a && quiet .b && s.par.walk.a.isNone && s.par.walk.b.isNone

/-- R464: the idle count reaches threshold k. A threshold of 0 is disabled. -/
def execIdleThreshold (k : Fin 3) (s : State) : Out :=
  let ms := s.rd (R.PWR_IDLE_ms.at k.val)
  .next (if s.deviceIdle && decide (ms ≠ 0) then
      ((s.wr R.PWR_IDLE_STAT_count ms).wrBit R.PWR_IDLE_STAT_reached k.val true).raise 20
    else s)

/-- The estimate of R466 in mW. -/
def State.powerMw (s : State) : Nat :=
  let busy := chans8.filter (fun c => s.rdB (R.RCH_STAT_reading.inst c.val) || s.rdB (R.WCH_STAT_writing.inst c.val))
  50 * s.rd (R.PWR_LVL_base.at s.level) + (if s.spmIs .run then s.rd R.PWR_WGT_mech else 0)
    + s.rd R.PWR_WGT_lane * busy.length

/-- R466: the estimate of each ms, in units of 10 mW; above the cap twice in a row it sets PWR_EST.over, and an estimate
within the cap clears it. -/
def execPowerEstimate (s : State) : Out :=
  let est := s.powerMw
  let s := (s.wr R.PWR_EST_mw (s.quot est 10).toNat).used
  .next (if s.rd R.PWR_CAP_cap * 10 < est then
      let s := s.updPwr (fun p => { p with overRun := p.overRun + 1 })
      s.when (2 ≤ s.pwr.overRun) (State.setStatus R.PWR_EST_over 1 21)
    else (s.updPwr (fun p => { p with overRun := 0 })).wr R.PWR_EST_over 0)

end Sys2Proof.Machine
end

