-- ==== Sys2Proof/Machine/Cal.lean ====
section
/-! DEFINITION. Trims, calibrations and monitors (spec/19_calibration_records.md): strobes (R510 to R512), runs (R513 to
R516), and the voltage and process monitors (R517 to R519). -/
namespace Sys2Proof.Machine

/-! ## Trims (R509) -/

/-- The trims of an instance (R513). -/
def instTrims (i : Nat) : List Nat := if i < 31 then [i] else (List.range 20).map (· + 32)

/-- The instance of a trim. -/
def trimInst (t : Nat) : Nat := if t < 31 then t else 31

/-- The range of a trim in its encoding (R509). -/
def trimRange (t : Nat) : Int × Int :=
  if 8 ≤ t ∧ t < 16 then (-127, 127)
  else if 16 ≤ t ∧ t < 24 then (-32, 32)
  else if t = 26 ∨ t = 27 then (0, 4096)
  else (-128, 128)

/-- The value that a trim's 16 bits stand for: unsigned for the laser references, otherwise signed (R509). -/
def trimValue (t : Nat) (v : Nat) : Int := if t = 26 ∨ t = 27 then ((v % 65536 : Nat) : Int) else signedOf 16 v

/-- Whether a value lies in a trim's range. -/
def trimOk (t : Nat) (v : Int) : Bool := decide ((trimRange t).1 ≤ v ∧ v ≤ (trimRange t).2)

/-- The value fused for a trim at manufacture. -/
def State.fusedTrim (s : State) (t : Nat) : Nat := (s.fuses.trims.getD t 0) % 65536

/-- Both latches of every trim load the fused values (R509). -/
def State.trimLoad (s : State) : State :=
  s.forEach ((List.range 52).filter (· != 31)) (fun t s =>
    (s.wr (R.CAL_TRIM_shadow.at t) (s.fusedTrim t)).wr (R.CAL_TRIM_active.at t) (s.fusedTrim t))

/-- What CAL's registers take from the fuses: the trims and the reference of each process monitor (R509, R519). -/
def State.calFuses (s : State) : State :=
  s.trimLoad.forEach (List.range 7) (fun p s => s.wr (R.CAL_PMON_ref.at p) (s.fuses.pmonRef.getD p 0))

/-- Whether a strobe of an instance is pending, or a run of it is in progress, so that shadow writes, strobes and runs are
refused (R511). -/
def State.instBusy (s : State) (i : Nat) : Bool :=
  s.rdBit R.CAL_PEND_pend i || (s.rdB R.CAL_STAT_busy && s.rd R.CAL_STAT_inst == i)

/-- A shadow latch written (R509, R511). -/
def State.shadowOp (who : Init) (t v : Nat) (s : State) : State :=
  if s.instBusy (trimInst t) || !trimOk t (trimValue t v) then s.refuse who (R.CAL_TRIM_shadow.at t)
  else s.wr (R.CAL_TRIM_shadow.at t) v

/-- A counter of CAL raised; source 43 when it reaches saturation (R534). -/
def State.calCount (f : Field) (s : State) : State :=
  let t := s.inc f 1
  t.when (t.rd f = 2 ^ f.w - 1 ∧ s.rd f ≠ 2 ^ f.w - 1) (State.raise 43)

/-- The actuator of instances 24 to 29. -/
def instAct (i : Nat) : Act := if i % 2 = 0 then .a else .b

/-- The channel of instances 0 to 23. -/
def instCh (i : Nat) : Fin 8 := ⟨i % 8, Nat.mod_lt _ (by decide)⟩

/-- Whether a channel neither reads, writes nor demodulates (R512, R514). -/
def State.chanIdle (s : State) (ch : Fin 8) : Bool :=
  !s.rdB (R.RCH_STAT_reading.inst ch.val) && !s.rdB (R.WCH_STAT_writing.inst ch.val) && !s.demodulates ch

/-- Whether a strobe of an instance acts at once (R512). -/
def State.strobeNow (s : State) (i : Nat) : Bool :=
  !s.rdB R.CAL_CTL_en ||
  (if i < 24 then s.chanIdle (instCh i)
   else if i < 28 then !s.srvTimed (instAct i)
   else true)

/-! ## Preconditions (R514) -/

/-- Whether the temperature of every valid on-die sensor has moved by at most tstab in the last 1,000 ms. -/
def State.tempSteady (s : State) : Bool :=
  (List.range 16).all (fun i =>
    !s.rdB (R.THM_SENS_valid.at i) ||
      (let l := s.thm.hist.filterMap (fun h => h.getD i none)
       let m := minMax l
       decide (m.2 - m.1 ≤ ((s.rd R.CAL_CFG_tstab : Nat) : Int))))

/-- Whether the actuator sample is valid and within 12/256 track of the target. -/
def State.calOnTrack (s : State) (x : Act) : Bool :=
  s.rdB (R.SRV_ACT_FLG_valid.at x.idx)
    && decide (((s.act.act.get x).c - s.rdI (R.SRV_ACT_POS_pos.at x.idx)).natAbs ≤ 12)

/-- The preconditions of an instance as bits (R513). -/
def instPre (i : Nat) : List Nat :=
  if i < 16 then [0, 1, 6]
  else if i < 24 then [0, 5, 6]
  else if i < 26 then [2, 3, 4, 5, 6]
  else if i < 28 then []
  else if i < 31 then [0, 1]
  else [6]

/-- Whether a precondition holds for an instance; QUIET is measured and told by the event. -/
def State.preHolds (s : State) (i : Nat) (quiet : Bool) (bit : Nat) : Bool :=
  let x := instAct i
  match bit with
  | 0 => if i < 24 then s.chanIdle (instCh i)
         else if i < 30 then s.actIs x .parked || s.actIs x .off
         else s.spmIs .idle || s.spmIs .off
  | 1 => quiet
  | 2 => s.actIs x .track
  | 3 => s.calOnTrack x
  | 4 => s.rdB R.SPM_STAT_lock
  | 5 => s.rdB R.GCK_STAT_lock
  | _ => s.tempSteady

/-- The failed precondition bits of an instance. -/
def State.preFails (s : State) (i : Nat) (quiet : Bool) : Nat :=
  maskOf ((instPre i).filter (fun b => !s.preHolds i quiet b))

/-! ## Runs (R515, R516) -/

/-- The shadow latches of an instance are reloaded from the active latches. -/
def State.shadowReload (i : Nat) (s : State) : State :=
  s.forEach (instTrims i) (fun t s => s.wr (R.CAL_TRIM_shadow.at t) (s.rd (R.CAL_TRIM_active.at t)))

/-- A run ends without a strobe: code 3 PRECOND, 4 RANGE, 5 ABORTED or 6 STOPPED (R516). -/
def State.calFail (code fail us value : Nat) (s : State) : State :=
  let i := s.rd R.CAL_STAT_inst
  let s := ((s.wr R.CAL_STAT_busy 0).wr R.CAL_STAT_code code).wr R.CAL_STAT_fail fail
  let s := ((s.wrBit R.CAL_PEND_pend i false).shadowReload i).calCount R.CAL_CNT_EVT_aborts
  (s.raise 41).hwPost 0xA001 3 5 [i, code, fail, us, value]

/-- A run in progress is stopped by a shutdown sequence, a squall or the disabling of CAL (R516). The time it has taken and
what it has measured are not known here. -/
def State.calStop (s : State) : State :=
  if s.rdB R.CAL_STAT_busy then s.used.used.calFail 6 0 s.free.toNat s.used.free.toNat else s

/-- A strobe acts: every shadow latch of the instance enters its active latch (R510); the run that asked for it ends OK
(R515), and the laser references count every strobe (R513). -/
def State.strobeAct (i : Nat) (s : State) : State :=
  let run := s.rdB R.CAL_STAT_busy && s.rd R.CAL_STAT_inst == i
  let s := s.forEach (instTrims i) (fun t s => s.wr (R.CAL_TRIM_active.at t) (s.rd (R.CAL_TRIM_shadow.at t)))
  let s := s.wrBit R.CAL_PEND_pend i false
  let s := if run || i == 26 || i == 27 then
      ((s.calCount (R.CAL_CNT_count.at i)).wr (R.CAL_LAST_LO_dt.at i) (s.driveTime % 2 ^ 32)).wr
        (R.CAL_LAST_HI_dt.at i) (s.driveTime / 2 ^ 32)
    else s
  if run then ((s.wr R.CAL_STAT_busy 0).wr R.CAL_STAT_code 2).raise 40 else s

/-- A strobe is requested; it acts at once where its boundary allows it (R511, R512). -/
def State.strobeAsk (i : Nat) (s : State) : State :=
  let s := s.wrBit R.CAL_PEND_pend i true
  if s.strobeNow i then s.strobeAct i else s

/-- CAL_RUN.go (R515). A disabled CAL starts no run. -/
def State.calGo (who : Init) (i : Nat) (s : State) : State :=
  let s := s.wr R.CAL_RUN_inst i
  if s.rdB R.CAL_STAT_busy || s.instBusy i || i == 26 || i == 27 || !s.rdB R.CAL_CTL_en || s.rdBit R.PWR_SLEEP_STAT_votes 6
  then s.refuse who R.CAL_RUN_go
  else
    let s := ((s.wr R.CAL_STAT_inst i).wr R.CAL_STAT_code 1).wr R.CAL_STAT_fail 0
    let bad := s.preFails i true
    let s := s.wr R.CAL_STAT_busy 1
    if bad ≠ 0 then s.used.calFail 3 bad 0 s.free.toNat else s

/-- R515. -/
def execCalRunGo (who : Init) (inst : BitVec 5) (s : State) : Out :=
  .next (s.accept who R.CAL_RUN_go (State.calGo who inst.toNat))

/-- CAL_RUN.abort while a run is in progress (R516). -/
def State.calAbort (us value : Nat) (s : State) : State :=
  if s.rdB R.CAL_STAT_busy then s.calFail 5 0 us value else s

/-- R516: the run ends with ABORTED, us after its start, with what it had measured. -/
def execCalRunAbort (who : Init) (us : BitVec 32) (value : BitVec 64) (s : State) : Out :=
  .next (s.accept who R.CAL_RUN_abort (State.calAbort us.toNat value.toNat))

/-- R515: the measurement ends with a value for each trim of the instance. A precondition that fails, or a value outside
its range, ends the run without a strobe. -/
def execCalMeasureDone (us : BitVec 32) (vals : List (BitVec 16)) (s : State) : Out :=
  let i := s.rd R.CAL_STAT_inst
  let ts := instTrims i
  let bad := s.preFails i true
  let first := (vals.headD 0).toNat
  .next (if !s.rdB R.CAL_STAT_busy || s.rdBit R.CAL_PEND_pend i || vals.length != ts.length then s
    else if bad ≠ 0 then s.calFail 3 bad us.toNat first
    else
      match (ts.zip vals).find? (fun p => !trimOk p.1 (trimValue p.1 p.2.toNat)) with
      | some p => s.calFail 4 0 us.toNat p.2.toNat
      | none => (s.forEach (ts.zip vals) (fun p s => s.wr (R.CAL_TRIM_shadow.at p.1) p.2.toNat)).strobeAsk i)

/-- R516: a precondition fails during a run; quiet tells whether QUIET holds, value what was measured. -/
def execCalPrecondFail (quiet : Bool) (us : BitVec 32) (value : BitVec 64) (s : State) : Out :=
  let bad := s.preFails (s.rd R.CAL_STAT_inst) quiet
  .next (if s.rdB R.CAL_STAT_busy && decide (bad ≠ 0) then s.calFail 3 bad us.toNat value.toNat else s)

/-! ## Strobes -/

/-- CAL_STROBE.go (R510, R511). -/
def State.calStrobe (who : Init) (i : Nat) (s : State) : State :=
  let s := s.wr R.CAL_STROBE_inst i
  if s.instBusy i then s.refuse who R.CAL_STROBE_go else s.strobeAsk i

/-- R510. -/
def execCalStrobeRequest (who : Init) (inst : BitVec 5) (s : State) : Out :=
  .next (s.accept who R.CAL_STROBE_go (State.calStrobe who inst.toNat))

/-- R512: the boundary of an instance whose strobe is pending. A precondition found failed in the same cycle wins (R515). -/
def execTrimStrobe (inst : BitVec 5) (s : State) : Out :=
  let i := inst.toNat
  .next (if !s.rdBit R.CAL_PEND_pend i then s
    else if s.rdB R.CAL_STAT_busy && s.rd R.CAL_STAT_inst == i && decide (s.preFails i true ≠ 0) then
      s.used.used.calFail 3 (s.preFails i true) s.free.toNat s.used.free.toNat
    else s.strobeAct i)

/-- CAL_CTL.en cleared: a run ends with STOPPED, and pending strobes act at once (R512, R516); by the soft reset the pending
strobes are discarded and the trims return to the fused values (R15, R509). -/
def State.calDisableOp (srst : Bool) (s : State) : State :=
  let s := s.calStop
  if srst then
    let s := (s.blockReset 5 R.CAL_CTL_srst).calFuses
    { s with cal := CalState.init }
  else s.forEach (bitsOf (s.rd R.CAL_PEND_pend) 32) State.strobeAct |>.wr R.CAL_CTL_en 0

/-- R512, R15. -/
def execCalDisable (_who : Init) (srst : Bool) (s : State) : Out := .next (s.calDisableOp srst)

/-! ## Monitors (R517 to R519) -/

/-- The nominal voltage of a rail in mV (R517). -/
def State.railNominal (s : State) (m : Nat) : Nat :=
  match m with
  | 0 => s.pwr.acked
  | 1 => 800
  | 2 => 750
  | 3 => 1800
  | 4 => 1800
  | 5 => 1050
  | 6 => 500
  | 7 => 12000
  | _ => 5000

/-- Whether a rail's last value lies within 3 % of its nominal value (R518). -/
def State.railNear (s : State) (m : Nat) : Bool :=
  let n := s.railNominal m
  let v := s.rd (R.CAL_VMON_mv.at m)
  decide (100 * v ≤ 103 * n ∧ 97 * n ≤ 100 * v)

/-- The mV of a conversion: rails 7 and 8 are converted behind their dividers. The quotient's rounding is open. -/
def State.railMv (s : State) (m raw : Nat) : Nat :=
  if m = 7 then (s.quot ((raw * s.rd R.CAL_VMON_DIV_div12 : Nat) : Int) 64).toNat
  else if m = 8 then (s.quot ((raw * s.rd R.CAL_VMON_DIV_div5 : Nat) : Int) 64).toNat
  else raw

/-- R517, R518: rail m is converted. The second conversion in a row outside its limits sets its bit. -/
def execVmonConversion (m : Fin 9) (raw : BitVec 16) (s : State) : Out :=
  let v := min 65535 (s.railMv m.val raw.toNat)
  let s := s.used.wr (R.CAL_VMON_mv.at m.val) v
  let out := decide (v < s.rd (R.CAL_VMON_LIM_lo.at m.val) ∨ s.rd (R.CAL_VMON_LIM_hi.at m.val) < v)
  let n := if out then min 3 (s.cal.outRun[m] + 1) else 0
  let s := { s with cal := { s.cal with outRun := s.cal.outRun.set m n } }
  let s := if n = 2 then ((s.wrBit R.CAL_VMON_STAT_out m.val true).calCount R.CAL_CNT_EVT_vmon).raise 42 else s
  .next (s.wrB R.CAL_VMON_STAT_in3 ((List.range 9).all s.railNear))

/-- R519: once per ms CAL counts each island's ring oscillator, in MHz; an island that is off reports 0. -/
def execPmonCount (mhz : List (BitVec 16)) (s : State) : Out :=
  .next (if s.islandOff .system then s
    else s.forEach (List.range 7) (fun p s =>
      s.wr (R.CAL_PMON_mhz.at p) (if s.islandOff (islandNo p) then 0 else (mhz.getD p 0).toNat)))

end Sys2Proof.Machine
end

