-- ==== Sys2Proof/Machine/Judge.lean ====
section
/-! DEFINITION. How a bridge judges a write at its entry (spec/00_scope.md R10, R11, R15, R16, R567, R568; spec/01_architecture.md R34):
field by field, against the CORE-side copy. -/
namespace Sys2Proof.Machine

/-- The state with every field as the CORE-side copies show it (R34). -/
def State.copyView (s : State) : State := { s with regs := s.copy.foldl (fun r e => regPut r e.1 e.2) s.regs }

/-- Whether f is a register of the array of g, in any instance of its block. -/
def Field.isA (f g : Field) : Bool := f.lo == g.lo && f.blk - (tableOf f.blk).2 == g.blk && g.covers f.off

/-- The register of g's array that f is. -/
def Field.no (f g : Field) : Nat := (f.off - g.off) / g.stride

/-- The instance of its block that a field belongs to. -/
def Field.instNo (f : Field) : Nat := (tableOf f.blk).2

/-- What a register word gives a field. -/
def Field.of (f : Field) (w : Word) : Nat := bitField w.toNat f.lo f.w

/-- A WO field whose value is data: it has no bit that selects an action, and so a value of 0 is data too (DEDUCED, assumption 32). -/
def Field.woData (f : Field) : Bool :=
  f.isA R.SYS_UART_TX_data || f.isA R.JIG_RESP_resp || f.isA R.JIG_KEY_DATA_data || f.isA R.EVR_POST_CTL_code
    || f.isA R.EVR_POST_CTL_sev || f.isA R.EVR_POST_CTL_source || f.isA R.OBJ_CTX_CMD_ctx || f.isA R.WCH_HL_CMD_cmd

/-- An RWL field that reads 0 and acts on a 1 written (EVR_CLR.go, BST_RUN.go). -/
def Field.isGo (f : Field) : Bool := f.isA R.EVR_CLR_go || f.isA R.BST_RUN_go

/-- Whether no byte of the low n of a word lies outside lo to hi. -/
def bytesWithin (w n lo hi : Nat) : Bool :=
  (List.range n).all (fun i => decide (lo ≤ bitField w (8 * i) 8 ∧ bitField w (8 * i) 8 ≤ hi))

/-- Whether a field of a slot's CFG does not apply to the slot (R261 and the map of CLE_SLOTk_CFG). -/
def cfgNotFor (f : Field) : Bool :=
  let k := f.no R.CLE_CFG_en
  (f.isA R.CLE_CFG_vel_idx && k != 12 && k != 13) || (f.isA R.CLE_CFG_auto_bank && k != 14) || (f.isA R.CLE_CFG_mode && decide (k < 14))
    || ((f.isA R.CLE_CFG_trig || f.isA R.CLE_CFG_fb) && decide (k < 15))

/-- Whether head h is fitted and belongs to actuator x. -/
def State.headOn (s : State) (h : Nat) (x : Act) : Bool := s.headFitted h && decide (s.headAct h = x)

/-- Refusals by the value written, as the register maps give them, judged against the registers before the write (R568); w is the whole
word, c the state as the copies show it. -/
def State.valueRefused (c : State) (who : Init) (f : Field) (w : Word) : Bool :=
  let v := f.of w
  let ranged := match f.rng with
    | some (lo, hi) => f.acc != .wo && (decide (v < lo) || decide (hi < v))
    | none => false
  ranged
    || (match f.blk with
      | 0 => (f.isA R.SYS_RST_CTL_core_run && v == 0)
          || ((f.isA R.SYS_GPIO_PULL_up || f.isA R.SYS_GPIO_PULL_down)
            && Nat.land (R.SYS_GPIO_PULL_up.of w) (R.SYS_GPIO_PULL_down.of w) != 0)
      | 1 => f.isA R.JIG_GOLD_BASE_base && (v % 32 != 0 || c.rdB R.JIG_GOLD_BASE_lock)
      | 2 => f.isA R.PWR_ADJ_adj && (List.range 4).any (fun i => 8 < (signedOf 8 (v / 2 ^ (8 * i))).natAbs)
      | 3 =>
        let sd := if R.THM_LIMITS_shutdown.unlock.contains c.lc.code then R.THM_LIMITS_shutdown.of w else c.rd R.THM_LIMITS_shutdown
        (f.off == R.THM_LIMITS_warn.off && !decide (R.THM_LIMITS_warn.of w < R.THM_LIMITS_throttle.of w ∧ R.THM_LIMITS_throttle.of w < sd))
          || (f.isA R.THM_THR_CFG_floor && decide (c.rd R.THM_THR_CFG_max < v))
      | 4 => (f.isA R.EVR_FLASH_POS_pos && (v % 64 != 0 || decide (v < 0x2010000)))
          || (decide (R.EVR_POST_P_param.off ≤ f.off) && decide (who.code ≠ (f.off - R.EVR_POST_P_param.off) / R.EVR_POST_P_param.stride))
      | 5 => f.isA R.CAL_TRIM_shadow && !trimOk (f.no R.CAL_TRIM_shadow) (trimValue (f.no R.CAL_TRIM_shadow) v)
      | 7 => (f.isA R.GCK_LOAD_CFG_unload_rpm && decide (c.rd R.GCK_LOAD_CFG_load_rpm < v + 100))
          || (f.isA R.GCK_CH_SEL_head && !c.headOn v (chanAct (f.no R.GCK_CH_SEL_head)))
      | 26 => (f.isA R.SRV_REF_CFG_ref_a && !c.headOn v .a) || (f.isA R.SRV_REF_CFG_ref_b && !c.headOn v .b)
      | 27 => cfgNotFor f || (f.isA R.CLE_REF_CFG_aux_slot && !([0, 1, 12, 13] : List Nat).contains v)
      | 28 => (f.off == R.SPM_SHUNT_t_min.off && decide (R.SPM_SHUNT_t_min.of w < R.SPM_SHUNT_t_samp.of w + 80))
          || (f.isA R.SPM_FW2_vmod_hi && decide (v ≤ c.rd R.SPM_FW2_vmod_lo))
      | 30 => f.isA R.PAR_ACC_MBASE_base && v % 256 != 0
      | 34 => f.isA R.BUF_MAINT_SW_way && decide (16 - c.rd R.BUF_SPAD_ways ≤ v)
      | _ => (f.isA R.RCH_LAD_W0_kind && decide (10 ≤ v))
          || (f.isA R.WCH_UNSAFE_lim && !bytesWithin v (if f.no R.WCH_UNSAFE_lim = 16 then 2 else 4) 21 38)
          || (f.isA R.WCH_WT1_width && (v == 0 || (!c.rdB { R.WCH_WT1_mode2 with blk := f.blk, off := f.off } && decide (16 < v)))))

/-- How one field of a write is judged: it is left alone, its part of the write is ignored with a record, or it acts. -/
inductive Verdict where
  | idle
  | ignored (c : ErrCause)
  | acts (v : Nat)
  deriving DecidableEq, Repr

/-- One field of a write judged against the copies (R7, R10, R16, R567). A write of SYS_IRQ_CLAIM completes a source whatever the field
reads (DEDUCED, assumption 33). -/
def State.judge (c : State) (who : Init) (w : Word) (f : Field) : Verdict :=
  let v := f.of w
  match f.acc with
  | .ro | .rc => .idle
  | .w1c | .w1s => if v = 0 then .idle else .acts v
  | .wo => if v = 0 ∧ f.woData = false then .idle else if c.valueRefused who f w then .ignored .refused else .acts v
  | .rw | .rwl =>
    if v = c.rd f ∧ f.isA R.SYS_IRQ_CLAIM_source = false then .idle
    else if f.acc = .rwl ∧ f.unlock.contains c.lc.code = false then .ignored .locked
    else if f.eff = .stat ∧ c.ownerOn f = true then .ignored .static
    else if c.valueRefused who f w then .ignored .refused
    else .acts v

/-- The copy of a field set. -/
def State.copyPut (k v : Nat) (s : State) : State := { s with copy := regPut s.copy k (BitVec.ofNat 32 v) }

/-- A field that acts is shown by the copy at once: RW and RWL fields hold the value, W1S fields gain the bits (R34). -/
def State.copyTakes (f : Field) (v : Nat) (s : State) : State :=
  match f.acc with
  | .rw | .rwl => if f.isGo then s else s.copyPut f.key v
  | .w1s => s.copyPut f.key (Nat.lor (s.rdCopy f) v)
  | _ => s

/-- A write judged field by field, high to low. A write that is ignored in part is recorded once, with the cause of its highest ignored
field, and what acts enters the FIFO as one write. -/
def State.enterFields (who : Init) (blk off : Nat) (fs : List Field) (w : Word) (s : State) : State :=
  let c := s.copyView
  let l := fs.map (fun f => (f, c.judge who w f))
  let acts : List FieldAct := l.filterMap (fun (e : Field × Verdict) => match e.2 with
    | .acts v => some ⟨e.1, v, regFind s.copy e.1.key⟩
    | _ => none)
  let causes := l.filterMap (fun (e : Field × Verdict) => match e.2 with
    | .ignored c => some c
    | _ => none)
  let s := s.forEach acts (fun a s => s.copyTakes a.field a.value)
  let s := match causes with
    | c :: _ => s.cfgErr c true who blk off
    | [] => s
  if acts = [] ∧ causes ≠ [] then s
  else if h : blk < 38 then
    { s with bridges := updV s.bridges ⟨blk, h⟩ (fun (b : Bridge) => { b with fifo := b.fifo ++ [⟨who, off, acts⟩] }) }
  else s

/-- A write enters its bridge. Into a block in soft reset only the srst field acts (R15). -/
def State.bridgeEnter (who : Init) (blk off : Nat) (w : Word) (s : State) : State :=
  let fs := fieldsAt blk off
  if fs.isEmpty || s.absent blk then s.cfgErr .unmapped true who blk off
  else if s.copyView.inSoftReset blk then
    match srstOf blk with
    | some f =>
      if off = f.off ∧ s.isolated.contains blk = false then s.enterFields who blk off [f] w
      else s.cfgErr .softrst true who blk off
    | none => s.cfgErr .softrst true who blk off
  else s.enterFields who blk off fs w

/-- A write reaches its bridge: it enters, or waits outside a full FIFO (R36, R37). -/
def State.bridgeWrite (who : Init) (blk : Fin 38) (off : Nat) (w : Word) (s : State) : State :=
  let b := s.bridges[blk]
  if 16 ≤ b.fifo.length ∨ b.stalled ≠ [] then
    { s with bridges := s.bridges.set blk { b with stalled := b.stalled ++ [⟨who, off, w⟩] } }
  else s.bridgeEnter who blk.val off w

/-- A write by an initiator to a control-space address: one that names no block is decided by the interconnect (R33, R571). -/
def State.regWrite (who : Init) (addr : Nat) (w : Word) (s : State) : State :=
  match placeOf addr with
  | some (blk, off) => if h : blk < 38 then s.bridgeWrite who ⟨blk, h⟩ off w else s.cfgErr .unmapped true who 63 (addr % 65536)
  | none => s.cfgErr .unmapped true who 63 (addr % 65536)

/-- R567. -/
def execRegisterWrite (who : Init) (addr : Nat) (v : Word) (s : State) : Out := .next (s.regWrite who addr v)

/-- R37: the oldest write that waits outside a full bridge FIFO has waited 4,096 core cycles: it is dropped and recorded. -/
def execWriteTimeout (blk : Fin 38) (s : State) : Out :=
  .next (match s.bridges[blk].stalled with
    | p :: r =>
      State.cfgErr .timeout true p.init blk.val p.off
        { s with bridges := updV s.bridges blk (fun (b : Bridge) => { b with stalled := r }) }
    | [] => s)

end Sys2Proof.Machine
end

