-- ==== Sys2Proof/Machine/Rch.lean ====
section
/-! DEFINITION. The commands of the read channels (spec/05_read_channels.md). -/
namespace Sys2Proof.Machine

/-! ## Taking a sector (R151 to R156) -/

/-- A sync candidate's cell offset from the prediction (R154). -/
def candCell (c : SyncCand) : Int := c.ofs16 / 16

/-- Whether candidate a ranks before candidate b: nearer, then fewer differing bits, then earlier (R152). -/
def candBefore (a b : SyncCand) : Bool :=
  if (candCell a).natAbs ≠ (candCell b).natAbs then decide ((candCell a).natAbs < (candCell b).natAbs)
  else if a.diff ≠ b.diff then decide (a.diff < b.diff)
  else decide ((candCell a) < (candCell b))

/-- A candidate placed by rank. -/
def candInsert (c : SyncCand) : List SyncCand → List SyncCand
  | [] => [c]
  | d :: r => if candBefore c d then c :: d :: r else d :: candInsert c r

/-- The four best candidates within the window and the bit threshold (R151, R152). -/
def candRank (win thr : Nat) (l : List SyncCand) : List SyncCand :=
  ((l.filter (fun c => decide ((candCell c).natAbs ≤ win ∧ c.diff ≤ thr))).foldr candInsert []).take 4

/-- The sector that a reading channel takes next: a recovery target with its entry, or the lane's present sector on the
lane's track (R226, R217). -/
def State.nextRead (s : State) (ch : Fin 8) : Option (LaneRec × Nat × Nat × Nat × Option Nat) :=
  let x := chAct ch
  let f := s.lane x (chLane ch)
  match s.chRec ch with
  | none => none
  | some r =>
    if !f.on then none
    else match f.targets with
      | some (e :: _) => some (r, s.entryLaneK ch e, s.rd (rsetF R.RCH_RSET_B_track ch e), s.rd (rsetF R.RCH_RSET_B_sector ch e),
          some e)
      | some [] => none
      | none => if f.k < r.count && s.secTrack x r f.k == f.track then some (r, f.k, s.secTrack x r f.k, s.secIdx x r f.k, none)
          else none

/-- The slot a sector fills: the target's own frozen slot, or a free one (R156). -/
def State.pickSlot (s : State) (ch : Fin 8) (target : Option Nat) : Option Nat :=
  let c := s.rch[ch]
  let own : Slot → Bool := fun x => match target with
    | some e => x.holds e
    | none => false
  if own c.slot0 then some 0 else if own c.slot1 then some 1
  else if c.slot0 = .free then some 0 else if c.slot1 = .free then some 1 else none

/-- The formatter passes the sector just presented to a reading lane. -/
def State.readAdvance (ch : Fin 8) (r : LaneRec) (s : State) : State :=
  let x := chAct ch
  let l := chLane ch
  let f := s.lane x l
  match f.targets with
  | some t => s.updLane x l (fun f => { f with targets := some (t.drop 1) })
  | none =>
    let s := s.updLane x l (fun f => { f with k := f.k + 1 })
    let s := s.wr ((R.MSQ_LANE_SEC_remaining.inst x.idx).at l.val) (r.count - (f.k + 1))
    s.when (f.k + 1 < r.count) (State.wr ((R.MSQ_LANE_SEC_sector.inst x.idx).at l.val) (s.secIdx x r (f.k + 1)))

/-- The rank that a read decodes with: 1, or the ALTSYNC rank of the repeat where the rung re-reads (R162). -/
def State.readRank (s : State) (ch : Fin 8) (target : Option Nat) : Nat :=
  if target.isSome ∧ s.kindNow ch = .altsync ∧ s.rch[ch].rung.isSome then 2 + s.rd (rchF R.RCH_RCV_STAT_repeat ch) else 1

/-- The sector taken: adaptation loaded, the window searched, a slot filled (R143, R151 to R156). -/
def State.takeSector (ch : Fin 8) (cands : List SyncCand) (samples : List (BitVec 7)) (r : LaneRec) (k track sector : Nat)
    (target : Option Nat) (s : State) : State :=
  let x := chAct ch
  let s := s.applyShadows (fun f => f.blk == 8 + ch.val && f.shadowAt .sector)
  let s := (s.adaptLoad ch).updRch ch (fun c => { c with stored := c.stored.map (fun d => { d with suspended := true }) })
  let s := (s.rchCount ch (rchF R.RCH_CNT_SECT_count ch)).headStat (s.chHead ch)
    (fun x => { x with read := min (2 ^ 64 - 1) (x.read + 1) })
  let idle := s.rdBit R.GCK_CH_STAT_rate_err ch.val
  let timed := !s.chSelf ch && s.rdB R.GCK_STAT_lock
  let kept := if idle then [] else candRank (s.rd (rchF R.RCH_SYNC_CFG_win ch)) (s.rd (rchF R.RCH_SYNC_CFG_thr ch)) cands
  let s := s.when (2 ≤ kept.length) (State.rchCount ch (rchF R.RCH_CNT_CAND_multi ch))
  let force := kept.isEmpty && !idle && !s.chSelf ch && s.rdB (rchF R.RCH_SYNC_CFG_force_en ch)
  let rank := s.readRank ch target
  let found := if rank = 1 then !kept.isEmpty || force
    else if kept.isEmpty then !idle && decide (rank ≤ 4) else decide (rank ≤ kept.length)
  let slot := if idle then none else s.pickSlot ch target
  let s := match slot with
    | some i => s.setSlot ch i .filling
    | none => s
  let p := s.secStart x r k
  let f : InFlight := ⟨track, sector, k, target, slot, samples, kept, force, rank, found, timed, p.1, p.2⟩
  ((s.updRch ch (fun c => { c with flight := c.flight ++ [f] })).readAdvance ch r).rchRefresh ch

/-- R151: a reading channel takes the presented sector. An uncorrectable error found in the target's slot makes it hold no
samples, and one in its combine entry clears it (R158). ITER does not take a target while two targets are still decoding
(R163), and no read starts on a lane whose selection has not settled or whose head waits after a heater step (R207, R167). -/
def execSectorRead (ch : Fin 8) (cands : List SyncCand) (samples : List (BitVec 7)) (slotEcc sumEcc : Bool) (s : State) : Out :=
  .next (
    let x := chAct ch
    let w := s.wch[ch]
    if !s.rdB (rchF R.RCH_STAT_reading ch) || s.rch[ch].stopAfter || s.rch[ch].heatWait || w.withheld || (s.hlOn x && !w.settled) then s
    else match s.nextRead ch with
      | none => s
      | some (r, k, track, sector, target) =>
        if s.kindNow ch = .iter ∧ target.isSome ∧ 2 ≤ s.rch[ch].flight.length then
          s.updLane x (chLane ch) (fun f => { f with targets := f.targets.map (fun t => t.drop 1 ++ t.take 1) })
        else
          let s := match target with
            | some e =>
              let s := s.when (slotEcc = true ∧ s.holdsSamples ch e = true) (fun s => ((s.slotRelease ch e).rchCount ch
                (rchF R.RCH_CNT_MISC_ecc ch)).raise (rchSrc ch 3))
              s.when (sumEcc = true ∧ (s.combineOf ch e).isSome = true) (fun s => ((s.combineClear ch e).rchCount ch
                (rchF R.RCH_CNT_MISC_ecc ch)).raise (rchSrc ch 3))
            | none => s
          s.takeSector ch cands samples r k track sector target)

/-! ## The end of a decode -/

/-- The correction of R129 from a sector read gauge-timed under lock, found in the window without forcing at rank 1,
while the head does not write (R130). -/
def State.sectorCorr (ch : Fin 8) (x : InFlight) (s : State) : State :=
  match x.cands with
  | c :: _ =>
    if x.gauge && !x.forced && x.rank == 1 && s.rdB R.GCK_STAT_lock && !s.wch[ch].inRun then
      let a := s.chRatio ch
      let d := s.dataCells (chAct ch) a
      let cell := x.span + 16
      let wedge := if cell < s.fmtSpan (chAct ch) a then x.wedge else x.wedge + 1
      s.corrUpdate (s.chHead ch) a (s.headPhase (chAct ch) a wedge (if wedge = x.wedge then cell else cell - d)) c.ofs16
    else s
  | [] => s

/-- A slot filled by a sector becomes free. -/
def State.slotFree (ch : Fin 8) (x : InFlight) (s : State) : State :=
  match x.slot with
  | some i => s.setSlot ch i .free
  | none => s

/-- A failed sector's slot is frozen for its entry; an entry without one is counted as without samples (R156). -/
def State.slotFreeze (ch : Fin 8) (x : InFlight) (k : Nat) (s : State) : State :=
  match x.slot with
  | some i => s.setSlot ch i (.frozen k x.samples)
  | none => s.rchCount ch (rchF R.RCH_CNT_MISC_sb_none ch)

/-- Lane progress of a read lane: sectors delivered or entered into the recovery set (R227). -/
def State.readProgress (ch : Fin 8) (s : State) : State :=
  let f := (R.MSQ_LANE_PROG_progress.inst (chAct ch).idx).at (chLane ch).val
  s.wr f (s.rd f + 1)

/-- A sector that meets R149 is delivered; a recovery target closes RECOVERED at the current rung. -/
def State.sectorGood (ch : Fin 8) (x : InFlight) (d : Decoded) (m : SectorMeasure) (s : State) : State :=
  let s := s.when (x.forced = true) (State.rchCount ch (rchF R.RCH_CNT_SYNC_forced_ok ch))
  let s := ((s.trackUpdate ch m).sectorCorr ch x).slotFree ch x
  let s := s.deliver ch x.k d.info
  match x.target with
  | some e =>
    let s := s.when (s.kindNow ch = .altsync) (State.rchCount ch (rchF R.RCH_CNT_CAND_alt_ok ch))
    s.entryClose ch e 1 (s.rungNow ch)
  | none => s.readProgress ch

/-- A failed sector: on the fly it opens an entry or overflows the set; in a read rung it keeps its entry. Its samples are
frozen and the read is captured as the configuration or the rung says (R156, R157, R159, R165). -/
def State.sectorBad (ch : Fin 8) (x : InFlight) (m : SectorMeasure) (s : State) : State :=
  let s := s.when (x.forced = true) (State.rchCount ch (rchF R.RCH_CNT_SYNC_forced_fail ch))
  match x.target with
  | some e =>
    let s := s.updRch ch (fun r => { r with cands := if h : e < 16 then r.cands.set e x.cands else r.cands })
    let s := match x.slot with
      | some i => s.setSlot ch i (.frozen e x.samples)
      | none => s
    s.when (s.rch[ch].captureOn = true) (State.capture ch e m.soft)
  | none =>
    let s := (s.rchCount ch (rchF R.RCH_CNT_OTF_FAIL_count ch)).headStat (s.chHead ch) (fun x => { x with otf := stat32 x.otf })
    match s.entryAdd ch x with
    | (s, some k) =>
      let s := (s.slotFreeze ch x k).readProgress ch
      s.when (s.rdB (rchF R.RCH_DEC_CFG_cmb_otf ch) = true) (State.capture ch k m.soft)
    | (s, none) => s.slotFree ch x

/-- R149: the decode of the oldest sector in flight ends. -/
def execSectorDecodeDone (ch : Fin 8) (d : Decoded) (m : SectorMeasure) (s : State) : Out :=
  .next (match s.rch[ch].flight with
    | [] => s
    | x :: rest =>
      let s := s.updRch ch (fun r => { r with flight := rest, lastIter := if x.decodable then d.iter.toNat else 0 })
      let s := if x.decodable then s.guardCheck ch d else s
      let s := if x.decodable && s.decodeOk ch d then s.sectorGood ch x d m else s.sectorBad ch x m
      let s := if rest.isEmpty && s.rch[ch].stopAfter then s.readStopped ch else s
      (s.trackShow ch).rchRefresh ch)

/-- R161: the stored decode in progress ends. A success closes its entry RECOVERED; a failure goes on to the next ALTSYNC
rank or the next target, and clears the combine entry where the rung says so (R165). An uncorrectable error makes the slot
hold no samples, or clears the combine entry (R158). -/
def execStoredDecodeDone (ch : Fin 8) (d : Decoded) (ecc : Bool) (s : State) : Out :=
  .next (match s.rch[ch].stored with
    | none => s
    | some x =>
      if x.suspended then s
      else
        let kind := s.kindNow ch
        let n := s.rungNow ch
        let s := s.updRch ch (fun r => { r with lastIter := d.iter.toNat })
        let s := s.when (ecc = true) (fun s => ((if kind = .combine then s.combineClear ch x.entry else s.slotRelease ch
          x.entry).rchCount ch (rchF R.RCH_CNT_MISC_ecc ch)).raise (rchSrc ch 3))
        let s := if ecc then s else s.guardCheck ch d
        let todo := s.rch[ch].todo
        if !ecc && s.decodeOk ch d then
          let s := s.when (kind = .altsync) (State.rchCount ch (rchF R.RCH_CNT_CAND_alt_ok ch))
          let s := s.when (kind = .combine) (State.rchCount ch R.RCH_CMB_CNT_combined)
          let s := (s.deliver ch (s.entryLaneK ch x.entry) d.info).entryClose ch x.entry 1 n
          s.storedStart ch todo
        else if kind = .altsync ∧ ecc = false ∧ x.rank < s.rd (ladF R.RCH_LAD_W1_rmax ch n) ∧ s.hasRank ch x.entry (x.rank + 1) then
          s.updRch ch (fun r => { r with stored := some { x with rank := x.rank + 1 } })
        else
          let s := s.when (kind = .combine ∧ s.rdB (ladF R.RCH_LAD_W0_clr ch n) = true) (State.combineClear ch x.entry)
          s.storedStart ch todo)

/-! ## Reports and disabling -/

/-- A read of RCH_RPT_HI: it returns the holding register of the pair, as every high-word read does (R5), and removes the oldest
report (R175). -/
def State.reportPop (ch : Fin 8) (s : State) : State :=
  let s := { s with reply := s.heldHigh (8 + ch.val) R.RCH_RPT_LO_track.off }
  (s.updRch ch (fun r => { r with reports := r.reports.drop 1 })).reportShow ch

/-- R175: a read of RCH_RPT_HI; in soft reset it reads 0 (R15). -/
def execReportPop (who : Init) (ch : Fin 8) (s : State) : Out :=
  .next (if s.absent (8 + ch.val) then { (s.cfgErr .unmapped false who (8 + ch.val) (rchF R.RCH_RPT_HI_outcome ch).off) with reply := 0 }
    else if s.inSoftReset (8 + ch.val) then { s with reply := 0 } else s.reportPop ch)

/-- RCH_CTL.en cleared or srst set, at the block: open entries close ABANDONED with a report each, and slots and combine
entries are released (R174). The reports outlive a soft reset, since the rule posts them. -/
def State.rchDisableOp (ch : Fin 8) (srst : Bool) (s : State) : State :=
  let s := (s.closeAll ch 3).rchAbandon ch
  let reps := s.rch[ch].reports
  let s := if srst then s.blockReset (8 + ch.val) (rchF R.RCH_CTL_srst ch) else (s.wr (rchF R.RCH_CTL_en ch) 0).ownerFlush
  let s := State.combineRefresh (s.setCombine (s.combine.filter (fun c => c.ch != ch.val)))
  let s := s.updRch ch (fun _ => { RchState.init with reports := reps })
  (s.reportShow ch).rchRefresh ch

/-- R174: RCH_CTL.en is cleared or srst is set. -/
def execRchDisable (who : Init) (ch : Fin 8) (srst : Bool) (s : State) : Out :=
  .next (if s.absent (8 + ch.val) then s.cfgErr .unmapped true who (8 + ch.val) 0 else s.rchDisableOp ch srst)

end Sys2Proof.Machine
end

