-- ==== Sys2Proof/Machine/Uart.lean ====
section
/-! DEFINITION. The debug UART (spec/21_pins_package.md R566). -/
namespace Sys2Proof.Machine

/-- The UART's state updated, with the registers that show it: tx_free, rx_cnt, and the byte that a read of SYS_UART_RX returns. -/
def State.updUart (f : UartState → UartState) (s : State) : State :=
  let s := { s with uart := f s.uart }
  let s := (s.wr R.SYS_UART_STAT_tx_free (16 - s.uart.tx.length)).wr R.SYS_UART_STAT_rx_cnt s.uart.rx.length
  match s.uart.rx with
  | (b, o) :: _ => ((s.wr R.SYS_UART_RX_valid 1).wrB R.SYS_UART_RX_ovr o).wr R.SYS_UART_RX_data b.toNat
  | [] => ((s.wr R.SYS_UART_RX_valid 0).wr R.SYS_UART_RX_ovr 0).wr R.SYS_UART_RX_data 0

/-- A byte queued for transmission; refused while no entry is free. -/
def State.uartTx (who : Init) (v : Byte) (s : State) : State :=
  if 16 ≤ s.uart.tx.length then s.refuse who R.SYS_UART_TX_data
  else s.updUart (fun u => { u with tx := u.tx ++ [v] })

/-- R566: a write of SYS_UART_TX. A byte of 0 is a byte, since the register has no bit that selects an action (DEDUCED, assumption 32). -/
def execUartTxWrite (who : Init) (v : Byte) (s : State) : Out := .next (s.uartTx who v)

/-- R566: the oldest byte has been shifted out. -/
def execUartTxByteSent (s : State) : Out := .next (s.updUart (fun u => { u with tx := u.tx.drop 1 }))

/-- R566: a byte is received; a full FIFO loses it, which the next byte that enters tells. The input of an unused slot receives none
(R547). -/
def execUartRxByte (v : Byte) (s : State) : Out :=
  .next (if !s.slotUsed 107 then s
  else s.updUart (fun u =>
    if 16 ≤ u.rx.length then { u with lost := true } else { u with rx := u.rx ++ [(v, u.lost)], lost := false }))

/-- A read of SYS_UART_RX returns a byte and removes it. -/
def State.uartPop (s : State) : State :=
  let v := s.rd R.SYS_UART_RX_valid * 2 ^ 31 + s.rd R.SYS_UART_RX_ovr * 2 ^ 30 + s.rd R.SYS_UART_RX_data
  State.updUart (fun u => { u with rx := u.rx.drop 1 }) { s with reply := BitVec.ofNat 32 v }

/-- R566: a read of SYS_UART_RX. -/
def execUartRxPop (_who : Init) (s : State) : Out := .next s.uartPop

end Sys2Proof.Machine
end

