-- ==== Sys2Proof/Machine/Access.lean ====
section
/-! DEFINITION. Reads of registers (spec/00_scope.md R5, R7, R15; spec/01_architecture.md R33, R34), accesses to what is not there (R33,
R40, R571), and the debug port (R574). -/
namespace Sys2Proof.Machine

/-! ## What a register reads -/

/-- What a field reads: a WO field 0, a field with a CORE-side copy the copy, and any other its value. -/
def State.fieldReads (s : State) (f : Field) : Nat :=
  match f.acc with
  | .wo => 0
  | .rw | .rwl | .w1s => s.rdCopy f
  | _ => s.rd f

/-- SYS_BRG_BUSY0 or 1: the bridges that hold writes (R38). -/
def State.bridgeBusy (s : State) (n : Nat) : Nat :=
  maskOf ((List.finRange 38).filterMap (fun b => if b.val / 32 = n ∧ s.bridges[b].fifo ≠ [] then some (b.val % 32) else none))

/-- What a register reads, where no side effect is told apart. -/
def State.wordReads (s : State) (blk off : Nat) : Nat :=
  if blk = 0 ∧ 0x100 ≤ off ∧ off < 0x120 then s.irqPendWord ((off - 0x100) / 4)
  else if blk = 0 ∧ (off = 0x20 ∨ off = 0x24) then s.bridgeBusy ((off - 0x20) / 4)
  else ((fieldsAt blk off).map (fun f => s.fieldReads f % 2 ^ f.w * 2 ^ f.lo)).sum

/-- The RC fields of a register cleared (R7). -/
def State.readClears (blk off : Nat) (s : State) : State :=
  s.forEach ((fieldsAt blk off).filter (fun f => f.acc == .rc)) (fun f s => s.wr f 0)

/-- Whether a register is the low word of a 64-bit pair (R5). -/
def isPairLow (blk off : Nat) : Bool :=
  if blk = 1 then off == 0x8 || (decide (0x100 ≤ off ∧ off < 0x130) && off % 8 == 0)
  else if blk = 2 then off == 0x110 || off == 0x120
  else if blk = 5 then decide (0x400 ≤ off ∧ off < 0x600) && off % 16 == 4
  else if blk = 6 then off == 0x14
  else if blk = 7 then off == 0x10
  else if 8 ≤ blk ∧ blk < 16 then off == 0x50
  else if blk = 27 then decide (0x100 ≤ off ∧ off < 0x700) && off % 64 == 0x18
  else if blk = 31 then off == 0x10
  else if blk = 32 then off == 0x18 || off == 0x20
  else if blk = 33 then off == 0x38
  else if blk = 34 then off == 0x14
  else if blk = 35 then off == 0x1C
  else false

/-- A read of the low word of a pair: the high word is captured into the holding register (R5). -/
def State.pairLow (blk off : Nat) (s : State) : State :=
  { s with
    holding := regPut s.holding (fieldKey blk off 0) (BitVec.ofNat 32 (s.wordReads blk (off + 4)))
    reply := BitVec.ofNat 32 (s.wordReads blk off) }

/-- A read of a register that its block implements, out of soft reset. -/
def State.readServed (blk off : Nat) (s : State) : State :=
  if blk = 0 ∧ 0x140 ≤ off ∧ off < 0x158 then s.irqClaimOp ((off - 0x140) / 4)
  else if blk = 0 ∧ off = 0x103C then s.uartPop
  else if blk = 31 ∧ off = 0x18 then s.readyPop
  else if h : 8 ≤ blk ∧ blk < 16 ∧ off = 0x54 then s.reportPop ⟨blk - 8, by omega⟩
  else if isPairLow blk off then s.pairLow blk off
  else if 4 ≤ off ∧ isPairLow blk (off - 4) = true then { s with reply := s.heldHigh blk (off - 4) }
  else ({ s with reply := BitVec.ofNat 32 (s.wordReads blk off) } : State).readClears blk off

/-- What a block in soft reset reads: 0, but for its srst field, which reads 1 (R15). -/
def softReads (blk off : Nat) : Word :=
  match srstOf blk with
  | some f => if off = f.off then BitVec.ofNat 32 (2 ^ f.lo) else 0
  | none => 0

/-- An access to an address where nothing is, which reads 0 or is ignored and is recorded (R33). -/
def State.unmapped (isWrite : Bool) (who : Init) (addr : Nat) (s : State) : State :=
  let at_ := if addr / 0x10000000 = 4 then placeOf addr else none
  let s := match at_ with
    | some (blk, off) => s.cfgErr .unmapped isWrite who blk off
    | none => s.cfgErr .unmapped isWrite who 63 (addr % 65536)
  if isWrite then s else { s with reply := 0 }

/-- Whether a control-space address names a register that is there (R33). -/
def State.registerAt (s : State) (addr : Nat) : Option (Nat × Nat) :=
  match placeOf addr with
  | some (blk, off) => if (fieldsAt blk off).isEmpty || s.absent blk then none else some (blk, off)
  | none => none

/-- A read by an initiator of a control-space address. -/
def State.regRead (who : Init) (addr : Nat) (s : State) : State :=
  match s.registerAt addr with
  | some (blk, off) => if s.inSoftReset blk then { s with reply := softReads blk off } else s.readServed blk off
  | none => s.unmapped false who addr

/-- R5: a read of the low word of a pair. -/
def execPairLowRead (who : Init) (addr : Nat) (s : State) : Out :=
  .next (match s.registerAt addr with
    | some (blk, off) => if isPairLow blk off then s.regRead who addr else s
    | none => s)

/-- R7: a read of a register that holds an RC field. -/
def execRcFieldRead (who : Init) (addr : Nat) (s : State) : Out :=
  .next (match s.registerAt addr with
    | some (blk, off) => if (fieldsAt blk off).any (fun f => f.acc == .rc) then s.regRead who addr else s
    | none => s)

/-! ## What is not there -/

/-- Where an address beyond the control space leads, for an initiator (R39, R42). -/
inductive MemPlace where
  | aonSram (off : Nat)
  | ring (off : Nat)
  | sram (x : Act) (off : Nat)
  | spad (off : Nat)
  | dram (cached : Bool) (a : Nat)
  | rom
  deriving DecidableEq, Repr

/-- Whether an initiator is a real-time core. -/
def rtOf : Init → Option Nat
  | .rt0 => some 0
  | .rt1 => some 1
  | _ => none

/-- The memory that an address names (R39): the debug port sees what AC0 to AC3 see (DEDUCED, assumption 36). -/
def State.memAt (s : State) (who : Init) (addr : Nat) : Option MemPlace :=
  if addr < 0x10000 then some .rom
  else if 0x8000000 ≤ addr ∧ addr < 0x8030000 then some (.aonSram (addr - 0x8000000))
  else if 0x8030000 ≤ addr ∧ addr < 0x8040000 then some (.ring (addr - 0x8030000))
  else if 0x20000000 ≤ addr ∧ addr < 0x20800000 then some (.spad (addr - 0x20000000))
  else match rtOf who with
    | some n =>
      if 0x10000000 ≤ addr ∧ addr < 0x10020000 then some (.sram (if n = 0 then .a else .b) (addr - 0x10000000))
      else if 0x80000000 ≤ addr ∧ addr < 0xC0000000 then
        some (.dram false (s.rd (R.SYS_RTWIN_base.at n) * 0x40000000 + (addr - 0x80000000)))
      else none
    | none =>
      if 0x11000000 ≤ addr ∧ addr < 0x11020000 then some (.sram .a (addr - 0x11000000))
      else if 0x12000000 ≤ addr ∧ addr < 0x12020000 then some (.sram .b (addr - 0x12000000))
      else if 0x100000000 ≤ addr ∧ addr < 0x480000000 then some (.dram true (addr - 0x100000000))
      else if 0x500000000 ≤ addr ∧ addr < 0x880000000 then some (.dram false (addr - 0x500000000))
      else none

/-- Whether a place is a part of a range that is not present (R40). -/
def State.notPresent (s : State) : MemPlace → Bool
  | .spad off => decide (s.buf.spadReady * 0x100000 ≤ off)
  | .dram _ a => decide (s.usableBytes ≤ a)
  | _ => false

/-- R33, R40: an access to an address of the control space that is not there, or to DRAM or scratchpad that is not present. -/
def execUnmappedAccess (who : Init) (isWrite : Bool) (addr : Nat) (s : State) : Out :=
  .next (
    if addr / 0x10000000 = 4 then (if (s.registerAt addr).isSome then s else s.unmapped isWrite who addr)
    else match s.memAt who addr with
      | some m => if s.notPresent m then s.unmapped isWrite who addr else s
      | none => s)

/-! ## The debug port -/

/-- The bytes of the always-on ring (R520, R524); a slot that no record has been written to reads 0 (DESIGN CHOICE, assumption 5). -/
def State.ringByte (s : State) (off : Nat) : Byte :=
  match s.evr.ring.find? (fun e => e.1 == off / 64) with
  | some e => e.2.bytes.getD (off % 64) 0
  | none => 0

/-- A local SRAM of RT0 or RT1. -/
def SramState.rt (m : SramState) : Act → Memory
  | .a => m.rt0
  | .b => m.rt1

/-- A word read from memory; the boot ROM's contents are open. -/
def State.memReads (p : MemPlace) (s : State) : State :=
  let four := fun (m : Memory) (o : Nat) => BitVec.ofNat 32 (memReadLe m (o / 4 * 4) 4)
  match p with
  | .aonSram o => { s with reply := four s.sram.aon o }
  | .ring o => { s with reply := BitVec.ofNat 32 (leValue ((List.range 4).map (fun i => s.ringByte (o / 4 * 4 + i)))) }
  | .sram x o => { s with reply := four (s.sram.rt x) o }
  | .spad o => { s with reply := four s.buf.spad o }
  | .dram cached a =>
    let t := if cached then s.drcRead .l2 (a / 32) .none else s.bufServe (.core 0) (a / 4 * 4) (.read 4)
    { t with reply := if cached then BitVec.ofNat 32 (leValue (((s.rawWord (a / 32)).drop (a % 32 / 4 * 4)).take 4)) else four s.dram a }
  | .rom => { s.used with reply := s.free.truncate 32 }

/-- A word written to memory. The ring takes no write of a core or of the debug port (R524), and the ROM none at all. -/
def State.memWrites (p : MemPlace) (v : Word) (s : State) : State :=
  let put := fun (m : Memory) (o : Nat) => memWriteLe m (o / 4 * 4) 4 v.toNat
  match p with
  | .aonSram o => { s with sram := { s.sram with aon := put s.sram.aon o } }
  | .ring _ => s.evrCount R.EVR_CNT_dropped 1
  | .sram .a o => { s with sram := { s.sram with rt0 := put s.sram.rt0 o } }
  | .sram .b o => { s with sram := { s.sram with rt1 := put s.sram.rt1 o } }
  | .spad o => s.spadServe (o / 4 * 4) (.write (leBytes 4 v.toNat)) .none
  | .dram true a =>
    s.drcWrite true (a / 32) (BitVec.ofNat 32 (15 * 2 ^ (a % 32 / 4 * 4)))
      (List.replicate (a % 32 / 4 * 4) 0 ++ leBytes 4 v.toNat) .none
  | .dram false a => s.bufServe (.core 0) (a / 4 * 4) (.write (leBytes 4 v.toNat))
  | .rom => s

/-- A request of the debug port outside the control space. What stands at an address that R39 does not list is open. -/
def State.debugMem (isWrite : Bool) (addr : Nat) (v : Word) (s : State) : State :=
  match s.memAt .dbg addr with
  | some m =>
    if s.notPresent m then s.unmapped isWrite .dbg addr else if isWrite then s.memWrites m v else s.memReads m
  | none => if isWrite then s else { s.used with reply := s.free.truncate 32 }

/-- R574: a request of the debug port, under the gate of the life-cycle state. -/
def execDebugPortAccess (isWrite : Bool) (addr : Nat) (v : Word) (s : State) : Out :=
  let serve := fun (s : State) =>
    if addr / 0x10000000 = 4 then (if isWrite then s.regWrite .dbg addr v else s.regRead .dbg addr) else s.debugMem isWrite addr v
  .next (match s.lc with
    | .blank | .manufacture => serve s
    | .service =>
      if isWrite then
        match if addr / 0x10000000 = 4 then placeOf addr else none with
        | some (blk, off) => s.cfgErr .refused true .dbg blk off
        | none => s.cfgErr .refused true .dbg 63 (addr % 65536)
      else serve s
    | _ => s)

end Sys2Proof.Machine
end

