-- ==== Sys2Proof/Machine/Actuator.lean ====
section
/-! DEFINITION. The commands of ACT (spec/09_control_engine.md, R280). -/
namespace Sys2Proof.Machine

/-- ACT_CTL.act_a or act_b. -/
def actBit : Act → Field
  | .a => R.ACT_CTL_act_a
  | .b => R.ACT_CTL_act_b

/-- Whether an actuator is enabled: ACT_CTL.en and its act_x bit. -/
def State.actOn (s : State) (x : Act) : Bool := s.rdB R.ACT_CTL_en && s.rdB (actBit x)

/-- OFF is entered from any other state: bridge off, milliactuators 0 (R280). -/
def State.actOff (x : Act) (s : State) : State :=
  if s.actIs x .off then s
  else
    let s := ((s.actEnter x .off).maZero x).dispZero x
    s.updAct x (fun _ => ActState.init)

/-- The enables have changed: an enabled actuator in OFF goes to PARKED, a disabled one to OFF. -/
def State.actEnables (x : Act) (s : State) : State :=
  if s.actOn x then (if s.actIs x .off then s.actEnter x .parked else s) else s.actOff x

/-- ACT_CTL written, at the block: en, act_a and act_b, or srst (R280, R15). -/
def State.actEnableOp (srst en a b : Bool) (s : State) : State :=
  if srst then
    let s := ((s.actOff .a).actOff .b).blockReset 29 R.ACT_CTL_srst
    { s with act := ActAll.init }
  else (((((s.wrB R.ACT_CTL_en en).wrB R.ACT_CTL_act_a a).wrB R.ACT_CTL_act_b b).ownerFlush).actEnables .a).actEnables .b

/-- R280: a write of ACT_CTL.en, act_x or srst. -/
def execActEnableWrite (_who : Init) (srst en actA actB : Bool) (s : State) : Out := .next (s.actEnableOp srst en actA actB)

/-- ACT_x_CMD.load, at the block: in PARKED with spindle lock and the SRV state not OFF, LOADING; in PARKED otherwise
refused (R280). -/
def State.actLoadOp (who : Init) (x : Act) (s : State) : State :=
  if s.actIs x .parked then
    if s.rdB R.SPM_STAT_lock && s.rd (srvStateF x) != 0 then
      (s.updAct x (fun _ => ActState.init)).actEnter x .loading
    else s.refuse who (actF R.ACT_CMD_load x)
  else s

/-- R280: ACT_x_CMD.load. -/
def execActLoadCmd (who : Init) (x : Act) (s : State) : Out :=
  .next (s.accept who (actF R.ACT_CMD_load x) (State.actLoadOp who x))

/-- R280: ACT_x_CMD.retract moves a loaded or loading actuator to RETRACT. -/
def execActRetractCmd (who : Init) (x : Act) (s : State) : Out :=
  .next (s.accept who (actF R.ACT_CMD_retract x) (State.actRetract x))

/-- R280: LOADING has lasted load_max ms. -/
def execActLoadTimeout (x : Act) (s : State) : Out :=
  .next (if s.actIs x .loading then (s.actRetract x).setStatusAmong [R.ACT_STAT_load_fail.at 0, R.ACT_STAT_load_fail.at 1] (actF R.ACT_STAT_load_fail x) 1 196 else s)

/-- R280: the velocity estimate has stayed within vpark for 2 ms; RETRACT ends once vest has reached −ret_v / 2. -/
def execRetractParked (x : Act) (s : State) : Out :=
  .next (if s.actIs x .retract && (s.act.act.get x).vestSeen then (s.actPark x).shnCheck else s)

/-- R280: RETRACT has lasted ret_max ms. -/
def execRetractTimeout (x : Act) (s : State) : Out :=
  .next (if s.actIs x .retract then ((s.actPark x).wr (actF R.ACT_STAT_ret_to x) 1).shnCheck else s)

end Sys2Proof.Machine
end

