-- ==== Sys2Proof/Machine/Nvm.lean ====
section
/-! DEFINITION. The commands of the zoned and the conventional namespace that move blocks (spec/12_host_interface.md,
13_queue_ordering.md): acceptance, protection information, write staging, reads. -/
namespace Sys2Proof.Machine

/-! ## Checks -/

/-- The status of a namespace that a command may not name: one that does not exist, or one whose command set lacks the
command (R345). -/
def nsDeny (nsid : BitVec 32) (ok : List Nat) : Option Status :=
  if ok.contains nsid.toNat then none else if 1 ≤ nsid.toNat ∧ nsid.toNat ≤ 3 then some .invalidOpcode else some .invalidNamespace

/-- The blocks of a namespace: NSZE. -/
def State.nsze (s : State) (nsid : Nat) : Nat := if nsid = 1 then s.nsze1 else s.geom.convSectors

/-- Namespace Not Ready: with Do Not Retry 0 until a namespace is ready (R67), and 1 while the thermal latch is set (R477). -/
def State.notReadyNow (s : State) : Status := if s.rdB R.THM_STAT_latched then .notReadyFinal else .notReady

/-- The status of a media command that is turned away before its blocks are looked at: readiness (R67), write protection in
RETIRED (R72), and the namespace's range. -/
def State.mediaDeny (s : State) (nsid : Nat) (write : Bool) (slba n : Nat) : Option Status :=
  if !s.nsReady nsid then some s.notReadyNow
  else if write && decide (s.lc = .retired) then some .writeProtected
  else if s.nsze nsid < slba + n then some .lbaRange else none

/-- The space of a namespace. -/
def nsSpace (nsid : Nat) : Space := if nsid = 1 then .zns else .conv

/-- The protection information of a write checked, with the reference tag expected of block 0 (R362, R363). -/
def protDeny (p : Prot) (tag : Nat) (data : List Block) : Option Status :=
  if p.app then some .invalidField
  else if p.pract then none
  else if p.guard && !(data.mapIdx (fun i b => p.guards.getD i 0 == Config.guard64 b)).all id then some .guardError
  else if p.ref && !(data.mapIdx (fun i _ => p.tags.getD i 0 == BitVec.ofNat 48 (tag + i))).all id then some .refError
  else none

/-- The first status of a list of checks. -/
def firstDeny (l : List (Option Status)) : Option Status := (l.filterMap id).head?

/-! ## Zones of a write (R383) -/

/-- The limit of open and of active zones (R343). -/
def zoneLimit : Nat := 32

/-- Why a write or an append to a zone is turned away (R383, R355). -/
def State.zoneDeny (s : State) (z : Nat) : Option Status :=
  let st := (s.zone z).st
  let opening := decide (zoneLimit ≤ (s.zonesIn ZoneSt.open).length) && (s.zonesIn (· == .implicit)).isEmpty
  match st with
  | .full => some .zoneFull
  | .readOnly => some .zoneReadOnly
  | .offline => some .zoneOffline
  | .empty => if zoneLimit ≤ (s.zonesIn ZoneSt.active).length then some .tooManyActive else if opening then some .tooManyOpen else none
  | .closed => if opening then some .tooManyOpen else none
  | _ => none

/-- The Implicitly Opened zone whose last accepted write is oldest. -/
def State.oldestImplicit (s : State) : Option Nat :=
  (s.zonesIn (· == .implicit)).foldl (fun m z => match m with
    | some y => if (s.zone z).last < (s.zone y).last then some z else some y
    | none => some z) none

/-- A zone takes a write that zoneDeny admits: it becomes Implicitly Opened where it was Empty or Closed, closing another
where 32 are open; the write is its last accepted one. An Empty zone's entry waits to be written (R388). -/
def State.zoneTake (z : Nat) (s : State) : State :=
  let st := (s.zone z).st
  let opens := st == .empty || st == .closed
  let s := if opens && decide (zoneLimit ≤ (s.zonesIn ZoneSt.open).length) then
      match s.oldestImplicit with
      | some y => s.setZone y { s.zone y with st := .closed }
      | none => s
    else s
  let v := s.zone z
  let s := s.setZone z { v with st := if opens then .implicit else v.st, last := s.host.order }
  let s := s.updHost (fun h => { h with order := h.order + 1 })
  s.when (st = .empty) (State.zoneMark z)

/-- A zone's write pointer advanced over n blocks accepted; at the zone's end it becomes Full. -/
def State.zoneAdvance (z n : Nat) (s : State) : State :=
  let v := s.zone z
  let s := s.setZone z { v with wp := v.wp + n }
  s.when (65536 ≤ v.wp + n) (State.zoneFull z false)

/-! ## Write, Zone Append, Write Zeroes -/

/-- The work of a context has begun. -/
def State.beginCtx (n : Nat) (s : State) : State := s.updCtx n (fun c => { c with begun := true })

/-- A write to the zoned namespace at the zone's pointer (R381, R386). -/
def State.znsWrite (c : Context) (slba : Nat) (data : List Block) (p : Prot) (items : List (List ItemSpec)) (s : State) : State :=
  let z := slba / 65536
  let o := slba % 65536
  match firstDeny [s.mediaDeny 1 true slba data.length, protDeny p slba data,
      if 65536 < o + data.length then some .zoneBoundary else none, s.zoneDeny z,
      if (s.zone z).wp = o then none else some .zoneInvalidWrite] with
  | some e => s.ends c.no e
  | none => (((s.beginCtx c.no).zoneTake z).stageZone .zns z o data (some c) items).zoneAdvance z data.length |>.moved c.no

/-- One journal unit of a conventional write: its in-place media command waits in staging for the entry (R393). -/
def State.convUnit (c : Context) (lba : Nat) (data : List Block) (s : State) : State :=
  let q := s.host.jSeq
  let job := s.newId
  let s := s.stage .conv 0 lba data (some c) (some q) []
  s.updHost (fun h => { h with units := h.units ++ [⟨q, lba, data, job, false⟩], jSeq := q + 1 })

/-- Data split into journal units of at most 16 blocks. -/
def State.convUnits (c : Context) (lba : Nat) (data : List Block) (s : State) : State :=
  s.forEach ((cutBlocks 16 data.length data).mapIdx (fun i d => (i, d))) (fun p s => s.convUnit c (lba + 16 * p.1) p.2)

/-- The items of one piece of work that serves no media command. -/
def State.itemsLoose (c : Context) (l : List ItemSpec) (s : State) : State :=
  let id := s.newId
  s.idUsed.itemsAdd id c.stamp c.urgent (some c.no) l

/-- A write to the conventional namespace (R393), with the items that write its journal entries. -/
def State.convWrite (c : Context) (slba : Nat) (data : List Block) (p : Prot) (items : List (List ItemSpec)) (s : State) : State :=
  match firstDeny [s.mediaDeny 3 true slba data.length, protDeny p slba data] with
  | some e => s.ends c.no e
  | none => (((s.beginCtx c.no).convUnits c slba data).itemsLoose c items.flatten).moved c.no

/-- R381, R385, R386, R393: a Write is accepted, its data enter write staging, and it completes under the write cache. -/
def execNvmWrite (ctx : Fin 16384) (items : List (List ItemSpec)) (s : State) : Out :=
  .next (match s.live ctx.val with
    | some c =>
      match c.cmd, c.begun with
      | .write nsid slba data p, false =>
        match nsDeny nsid [1, 3] with
        | some e => s.ends c.no e
        | none => if nsid = 1 then s.znsWrite c slba.toNat data p items else s.convWrite c slba.toNat data p items
      | _, _ => s
    | none => s)

/-- R346, R363, R383: a Zone Append is accepted; its data transfer then runs until APPEND_ASSIGN. -/
def execZoneAppend (ctx : Fin 16384) (s : State) : Out :=
  .next (match s.live ctx.val with
    | some c =>
      match c.cmd, c.begun with
      | .append nsid zslba data p, false =>
        let z := zslba.toNat / 65536
        match firstDeny [nsDeny nsid [1], s.mediaDeny 1 true zslba.toNat 1,
            if zslba.toNat % 65536 ≠ 0 ∨ 256 < data.length ∨ (p.pract = false ∧ p.remap = false) then some .invalidField else none,
            protDeny p p.tag.toNat data, s.zoneDeny z,
            if 65536 < (s.zone z).wp + data.length then some .zoneBoundary else none] with
        | some e => s.ends c.no e
        | none => (s.beginCtx c.no).zoneTake z
      | _, _ => s
    | none => s)

/-- R382, R385: an append's transfer ends. It takes the zone's write pointer, its entry is narrowed to the range, and its
data are in staging. What no longer fits, because another append took the space, is turned away. -/
def execAppendAssign (ctx : Fin 16384) (items : List (List ItemSpec)) (s : State) : Out :=
  .next (match s.live ctx.val with
    | some c =>
      match c.cmd, c.begun && !c.moved with
      | .append _ zslba data _, true =>
        let z := zslba.toNat / 65536
        let o := (s.zone z).wp
        match firstDeny [s.zoneDeny z, if 65536 < o + data.length then some .zoneBoundary else none] with
        | some e => s.ends c.no e
        | none =>
          let lba := blockAt z o
          let s := match s.host.clamps.find? (fun e => e.owner == c.ctrl && e.ctx == c.no && e.append) with
            | some e => s.clampNarrow e lba (lba + data.length - 1)
            | none => s
          let s := s.updCtx c.no (fun c => { c with dw0 := lba })
          (((s.zoneTake z).stageZone .zns z o data (some c) items).zoneAdvance z data.length).moved c.no
      | _, _ => s
    | none => s)

/-- R345, R393: Write Zeroes of at most 16 blocks is one journal unit; a longer one is written in place without the
journal. -/
def execWriteZeroes (ctx : Fin 16384) (items : List (List ItemSpec)) (s : State) : Out :=
  .next (match s.live ctx.val with
    | some c =>
      match c.cmd, c.begun with
      | .writeZeroes nsid slba nlb, false =>
        let n := nlb.toNat + 1
        match firstDeny [nsDeny nsid [3], s.mediaDeny 3 true slba.toNat n] with
        | some e => s.ends c.no e
        | none =>
          let data := List.replicate n (List.replicate 4096 (0 : Byte))
          let s := s.beginCtx c.no
          let s := if n ≤ 16 then (s.convUnit c slba.toNat data).itemsLoose c items.flatten
            else s.stage .conv 0 slba.toNat data (some c) none items.flatten
          s.moved c.no
      | _, _ => s
    | none => s)

/-! ## Flush (R395) -/

/-- R395: the Flush completes once what stood before it is on media with its zone and journal entries. -/
def execNvmFlush (ctx : Fin 16384) (s : State) : Out :=
  .next (match s.live ctx.val with
    | some c =>
      match c.cmd with
      | .flush nsid =>
        let one := nsid.toNat ≠ 0xFFFFFFFF
        if one ∧ (nsDeny nsid [1, 2, 3]).isSome = true then s.ends c.no .invalidNamespace
        else if (if one then s.nsReady nsid.toNat else s.mediaReady) then
          s.when ((s.host.cmds.any (fun m => c.before.contains m.id)) = false
            ∧ (s.host.unsaved.any c.zonesBefore.contains) = false) (fun s => s.ends c.no .ok)
        else s.ends c.no s.notReadyNow
      | _ => s
    | none => s)

/-! ## Read and Verify -/

/-- TLER of a namespace's Error Recovery feature (R347). -/
def State.tler (s : State) (nsid : Nat) : Nat :=
  ((s.host.feats.find? (fun f => f.fid == 5 && f.nsid == nsid)).map (fun f => f.value.toNat % 65536)).getD 0

/-- The recovery limit of a namespace's read descriptors in revolutions (R354). -/
def State.recoveryLimit (s : State) (nsid : Nat) : Nat :=
  if s.tler nsid = 0 then 0 else min 65535 (max 1 (s.tler nsid * s.rd R.GCK_RATE_CFG_jig_rpm / 600))

/-- An item whose descriptor carries a recovery limit (R212). -/
def ItemSpec.limited (n : Nat) (i : ItemSpec) : ItemSpec := { i with desc := i.desc.take 4 ++ leBytes 2 n ++ i.desc.drop 6 }

/-- The read items of a command: each is awaited by itself. -/
def State.readItems (c : Context) (l : List ItemSpec) (s : State) : State :=
  s.forEach l (fun i s =>
    let id := s.newId
    let s := s.idUsed.itemAdd id c.stamp c.urgent (some c.no) i
    s.updCtx c.no (fun c => { c with waits := c.waits ++ [id] }))

/-- The blocks that reads of the media have brought: none for an unrecovered block, or bytes that met R149. -/
abbrev Got := List (Nat × Option Block)

/-- A block as a command sees it: from staging, as the media delivered it, or as it was written. -/
def State.blockGot (s : State) (sp : Space) (got : Got) (a : Nat) : Option Block :=
  match s.staged sp a with
  | some b => some b
  | none =>
    if sp ≠ .conv ∧ s.blockLost (a / 65536) (a % 65536) = true then none
    else match got.find? (fun g => g.1 == a) with
      | some g => g.2
      | none => some (s.blockRead sp a)

/-- The Full zone that a read covers from its start to its write pointer (R414). -/
def State.wholeZone (s : State) (slba n : Nat) : Option Nat :=
  let z := slba / 65536
  if slba % 65536 = 0 ∧ (s.zone z).st = .full ∧ (s.zone z).wp ≤ n then some z else none

/-- The whole-zone read's verification (R414): its outcome, with the stored and the computed digest. -/
def State.zoneVerify (s : State) (z : Nat) (blocks : List (Option Block)) : AuditOut × BitVec 256 × BitVec 256 :=
  let mine := blocks.take (s.zone z).wp
  let d := ((s.digestOf z).bind (·.digest))
  let h := Config.sha256 ((mine.map (fun b => b.getD [])).flatten)
  if mine.any Option.isNone then (.unreadable, d.getD 0, 0)
  else match d with
    | some x => (if x = h then .ok else .mismatch, x, h)
    | none => (.noDigest, 0, h)

/-- The place of the first missing block. -/
def firstBadOf (blocks : List (Option Block)) : Option Nat := (List.range blocks.length).find? (fun i => (blocks.getD i none).isNone)

/-- A whole-zone read recorded, and its command ended on a mismatch (R414, R418). -/
def State.zoneReport (c : Context) (z slba : Nat) (blocks : List (Option Block)) (data : Payload) (s : State) : State :=
  let r := s.zoneVerify z blocks
  let s := s.auditOut (s.ctrl c.ctrl).capture .zone r.1 .read [] slba (4096 * (s.zone z).wp) ((firstBadOf blocks).getD noBad) 1 r.2.1 r.2.2
  if r.1 = .mismatch then s.endsAt c .unrecovered slba 1 data else s

/-- What a Read transfers, with the protection information of R362 unless PRACT strips it. -/
def readPayload (blocks : List (Option Block)) (slba : Nat) (p : Prot) : Payload :=
  .blocks blocks (if p.pract then [] else blocks.mapIdx (fun i b => (Config.guard64 (b.getD []), (slba + i) % 2 ^ 48)))

/-- A Read's or Verify's blocks have come: it delivers them and ends (R172, R414). -/
def State.deliverBlocks (c : Context) (nsid slba n : Nat) (p : Option Prot) (got : Got) (s : State) : State :=
  let blocks := (List.range n).map (fun i => s.blockGot (nsSpace nsid) got (slba + i))
  let data := match p with
    | some p => readPayload blocks slba p
    | none => .none
  let s := s.used
  let s := match nsid, p, s.wholeZone slba n with
    | 1, some _, some z => s.zoneReport c z slba blocks data
    | _, _, _ => s
  match firstBadOf blocks with
  | some i => s.endsAt c .unrecovered (slba + i) nsid data
  | none => s.settle c.no ⟨.ok, 0, data⟩

/-- A Read or Verify: the first call releases its media work where not every block is in staging; once all of it has ended, the
blocks are delivered. -/
def State.readOp (c : Context) (nsid : BitVec 32) (slba n : Nat) (p : Option Prot) (items : List ItemSpec) (got : Got) (s : State) :
    State :=
  if c.begun then (if c.waits.isEmpty then s.deliverBlocks c nsid.toNat slba n p got else s)
  else
    match firstDeny [nsDeny nsid [1, 3], s.mediaDeny nsid.toNat false slba n,
        match p with
        | some p => if p.app then some .invalidField
          else if p.ref && !p.pract && p.tag.toNat != slba % 2 ^ 48 then some .refError else none
        | none => none,
        if nsid = 1 ∧ slba / 65536 ≠ (slba + n - 1) / 65536 then some .zoneBoundary
        else if nsid = 1 ∧ (s.zone (slba / 65536)).st = .offline then some .zoneOffline else none] with
    | some e => s.ends c.no e
    | none =>
      let s := s.beginCtx c.no
      let all := (List.range n).all (fun i => (s.staged (nsSpace nsid.toNat) (slba + i)).isSome)
      if all || items.isEmpty then s.deliverBlocks c nsid.toNat slba n p got
      else s.readItems c (items.map (ItemSpec.limited (s.recoveryLimit nsid.toNat)))

/-- R377, R385, R172, R414: a Read. -/
def execNvmRead (ctx : Fin 16384) (items : List ItemSpec) (got : List (Nat × Option Block)) (s : State) : Out :=
  .next (match s.live ctx.val with
    | some c =>
      match c.cmd with
      | .read nsid slba nlb p => s.readOp c nsid slba.toNat (nlb.toNat + 1) (some p) items got
      | _ => s
    | none => s)

/-- R345: a Verify reads, decodes and checks every block and transfers nothing. -/
def execNvmVerify (ctx : Fin 16384) (items : List ItemSpec) (got : List (Nat × Option Block)) (s : State) : Out :=
  .next (match s.live ctx.val with
    | some c =>
      match c.cmd with
      | .verify nsid slba nlb => s.readOp c nsid slba.toNat (nlb.toNat + 1) none items got
      | _ => s
    | none => s)

end Sys2Proof.Machine
end

