-- ==== Sys2Proof/Machine/Kv.lean ====
section
/-! DEFINITION. The Key Value commands (spec/14_object_services.md R407 to R409). -/
namespace Sys2Proof.Machine

/-- Why a Key Value command is turned away before its key is looked up: readiness, write protection in RETIRED, and the key's
length (R407). -/
def State.kvDeny (s : State) (write : Bool) (key : List Byte) : Option Status :=
  if !s.nsReady 2 then some s.notReadyNow
  else if write && decide (s.lc = .retired) then some .writeProtected
  else if key.isEmpty ∨ 16 < key.length then some .keySize else none

/-- Whether a key is in the index. -/
def State.kvHas (s : State) (k : List Byte) : Bool := (kvFind s.host.kv.index k).isSome

/-- R400, R407: a Store is accepted: its record is allocated on the zones named and staged; a value whose digest ends in error
is not written (R412). -/
def State.storeOp (c : Context) (key value : List Byte) (opt : StoreOpt) (zones : List Nat) (items : List (List ItemSpec))
    (digestOk : Bool) (s : State) : State :=
  let n := (value.length + 4095) / 4096 + 2
  match firstDeny [s.kvDeny true key, if 0xFFFFFFFF < value.length then some .invalidField else none,
      if opt = .mustExist ∧ s.kvHas key = false then some .keyMissing else none,
      if opt = .mustNotExist ∧ s.kvHas key = true then some .keyExists else none,
      if s.kvFree < n ∨ 33554432 ≤ s.host.kv.index.length then some .capacity else none] with
  | some e => s.ends c.no e
  | none =>
    if !digestOk then s.ends c.no .internalError
    else
      match s.kvPlace true n zones with
      | none => s
      | some ext =>
        let r : KvRec := ⟨key, s.host.kv.seq, false, value, Config.sha256 value, s.driveTime, ext⟩
        ((s.beginCtx c.no).kvWrite r (some c) items).moved c.no

/-- R407. -/
def execKvStore (ctx : Fin 16384) (zones : List Nat) (items : List (List ItemSpec)) (digestOk : Bool) (s : State) : Out :=
  .next (match s.live ctx.val with
    | some c =>
      match c.cmd, c.begun with
      | .store key value opt, false => s.storeOp c key value opt zones items digestOk
      | _, _ => s
    | none => s)

/-- A Retrieve's blocks have come: the value is transferred, and compared where the host's buffer holds all of it (R408). -/
def State.retrieveEnd (c : Context) (r : KvRec) (size : Nat) (got : List (Nat × Option Block)) (s : State) : State :=
  let v := r.value.length
  let blocks := r.places.map (fun p => s.blockGot .kv got (blockAt p.1 p.2))
  let data := (blocks.drop 1).take ((v + 4095) / 4096)
  let s := s.used
  let bytes := valueOf v blocks
  let report := fun (o : AuditOut) (h : BitVec 256) (s : State) =>
    s.auditOut (s.ctrl c.ctrl).capture .value o .retrieve r.key 0 v ((firstBadOf data).getD noBad) 2 r.digest h
  if (data.take ((min size v + 4095) / 4096)).any Option.isNone then
    (s.when (v ≤ size) (report .unreadable 0)).endsAt c .unrecovered 0 2 (.blocks data [])
  else if size < v then s.settle c.no ⟨.ok, v, .bytes (bytes.take size)⟩
  else
    let h := Config.sha256 bytes
    if h = r.digest then (report .ok h s).settle c.no ⟨.ok, v, .bytes bytes⟩
    else (report .mismatch h s).endsAt c .unrecovered 0 2 (.bytes bytes)

/-- R408: the first call releases the reads, with the recovery limit of R354; once they have ended the value is delivered. -/
def execKvRetrieve (ctx : Fin 16384) (items : List ItemSpec) (got : List (Nat × Option Block)) (s : State) : Out :=
  .next (match s.live ctx.val with
    | some c =>
      match c.cmd with
      | .retrieve key size =>
        match firstDeny [if c.begun then none else s.kvDeny false key, if s.kvHas key then none else some .keyMissing] with
        | some e => s.ends c.no e
        | none =>
          match s.kvGet key with
          | none => s
          | some r =>
            if c.begun then (if c.waits.isEmpty then s.retrieveEnd c r size got else s)
            else
              let s := s.beginCtx c.no
              if items.isEmpty || r.places.all (fun p => (s.staged .kv (blockAt p.1 p.2)).isSome) then s.retrieveEnd c r size got
              else s.readItems c (items.map (ItemSpec.limited (s.recoveryLimit 2)))
      | _ => s
    | none => s)

/-- R409: a Delete writes a tombstone. -/
def execKvDelete (ctx : Fin 16384) (zones : List Nat) (items : List (List ItemSpec)) (s : State) : Out :=
  .next (match s.live ctx.val with
    | some c =>
      match c.cmd, c.begun with
      | .delete key, false =>
        match firstDeny [s.kvDeny true key, if s.kvHas key then none else some .keyMissing,
            if s.kvFree = 0 then some .capacity else none] with
        | some e => s.ends c.no e
        | none =>
          match s.kvPlace true 1 zones with
          | none => s
          | some ext =>
            let r : KvRec := ⟨key, s.host.kv.seq, true, [], 0, s.driveTime, ext⟩
            ((s.beginCtx c.no).kvWrite r (some c) items).moved c.no
      | _, _ => s
    | none => s)

/-- R409: Exist reads the index only. -/
def execKvExist (ctx : Fin 16384) (s : State) : Out :=
  .next (match s.live ctx.val with
    | some c =>
      match c.cmd with
      | .exist key =>
        match s.kvDeny false key with
        | some e => s.ends c.no e
        | none => s.ends c.no (if s.kvHas key then .ok else .keyMissing)
      | _ => s
    | none => s)

/-- Whether byte strings are in lexical order. -/
def bytesLt : List Byte → List Byte → Bool
  | [], [] => false
  | [], _ => true
  | _, [] => false
  | a :: r, b :: t => decide (a.toNat < b.toNat) || (a == b && bytesLt r t)

/-- The order of List: bucket, key fold, key bytes (R409). -/
def keyBefore (a b : List Byte) : Bool :=
  decide (keyBucket a < keyBucket b)
    || (keyBucket a == keyBucket b && (decide (keyFold a < keyFold b) || (keyFold a == keyFold b && bytesLt a b)))

/-- A key put into a list in List's order. -/
def keyInsert (k : List Byte) : List (List Byte) → List (List Byte)
  | [] => [k]
  | j :: r => if keyBefore k j then k :: j :: r else j :: keyInsert k r

/-- R409: List walks the buckets after the key given, or from the first where none is given. -/
def execKvList (ctx : Fin 16384) (s : State) : Out :=
  .next (match s.live ctx.val with
    | some c =>
      match c.cmd with
      | .list key max =>
        if !s.nsReady 2 then s.ends c.no s.notReadyNow
        else if 16 < key.length then s.ends c.no .keySize
        else
          let l := ((s.host.kv.index.map (·.key)).filter (fun k => key.isEmpty || keyBefore key k)).foldl (fun l k => keyInsert k l) []
          s.settle c.no ⟨.ok, 0, .keys (l.take max)⟩
      | _ => s
    | none => s)

end Sys2Proof.Machine
end

