-- ==== Sys2Proof/Machine/Zones.lean ====
section
/-! DEFINITION. Zone Management Send and Receive (spec/12_host_interface.md R343, R355; spec/13_queue_ordering.md R383; spec/
11_slot_parity.md R318). -/
namespace Sys2Proof.Machine

/-! ## Why an action is turned away -/

/-- A Read Only or an Offline zone takes no action but those that R355 names. -/
def ZoneSt.shut : ZoneSt → Option Status
  | .readOnly => some .zoneReadOnly
  | .offline => some .zoneOffline
  | _ => none

/-- Open (R383). -/
def State.openDeny (s : State) (z : Nat) : Option Status :=
  let full := decide (zoneLimit ≤ (s.zonesIn ZoneSt.open).length)
  match (s.zone z).st with
  | .empty => if zoneLimit ≤ (s.zonesIn ZoneSt.active).length then some .tooManyActive else if full then some .tooManyOpen else none
  | .closed => if full then some .tooManyOpen else none
  | .full => some .zoneTransition
  | x => x.shut

/-- Close: of an open or a Closed zone. -/
def State.closeDeny (s : State) (z : Nat) : Option Status :=
  match (s.zone z).st with
  | .empty | .full => some .zoneTransition
  | x => x.shut

/-- Finish. -/
def State.finishDeny (s : State) (z : Nat) : Option Status := (s.zone z).st.shut

/-- Reset: refused for a Read Only zone (R355). -/
def State.resetDeny (s : State) (z : Nat) : Option Status := (s.zone z).st.shut

/-- Offline: of a Read Only zone (R355). -/
def State.offlineDeny (s : State) (z : Nat) : Option Status :=
  match (s.zone z).st with
  | .readOnly => none
  | .offline => some .zoneOffline
  | _ => some .zoneTransition

/-! ## The actions -/

/-- A zone's state replaced. -/
def State.zoneSt (z : Nat) (x : ZoneSt) (s : State) : State := s.setZone z { s.zone z with st := x }

/-- Open: Explicitly Opened; an Empty zone's entry waits to be written (R388). -/
def State.zoneOpen (z : Nat) (s : State) : State :=
  (s.zoneSt z .explicit).when ((s.zone z).st = .empty) (State.zoneMark z)

/-- Close. -/
def State.zoneClose (z : Nat) (s : State) : State := s.zoneSt z .closed

/-- Finish: the zone becomes Full, with its digest (R413). -/
def State.zoneFinish (z : Nat) (s : State) : State := if (s.zone z).st = .full then s else s.zoneFull z false

/-- The media commands of a zone in staging dropped with their items. -/
def State.zoneDrop (z : Nat) (s : State) : State :=
  let ids := (s.host.cmds.filter (fun c => decide (c.space ≠ .conv) && c.zone == z)).map (·.id)
  let keep : List Item → List Item := fun l => l.filter (fun i => !ids.contains i.job)
  s.updHost (fun h => { h with
    cmds := h.cmds.filter (fun c => !ids.contains c.id)
    pend := ⟨keep h.pend.a, keep h.pend.b⟩ })

/-- The actuator of a media zone. -/
def State.zoneActOf (s : State) (z : Nat) : Act := if s.zoneAct z = 0 then .a else .b

/-- The band pointer indices that a Reset of a zone waits for: all of a sealed group's, else the zone's own (R318, R198). -/
def State.resetBands (s : State) (z : Nat) : List Nat :=
  let x := s.zoneActOf z
  if s.groupSealed x (s.zoneSlot z) then (List.range s.geom.n).map (s.bandIndex x (s.zoneSlot z))
  else [(s.zoneBands z).1, (s.zoneBands z).2]

/-- Whether nothing is outstanding on bands: no descriptor posted, no operation in progress and no walker request of theirs. -/
def State.bandsQuiet (s : State) (x : Act) (l : List Nat) : Bool :=
  (s.host.posted.get x).all (fun i => i.spec.bands.all (fun b => !l.contains b))
    && lanes4.all (fun n => match s.laneRec x n with
      | some r => !(r.band && l.contains r.bpt) || (s.msq.get x).opDone
      | none => true)

/-- Reset: staged writes of the zone are dropped; a sealed group is unsealed by setting both parity band pointers to 0; the
zone's band pointers become 0, its epoch rises, and its digest and blocks are gone (R318, R92, R413). An Empty zone stays as
it is. -/
def State.zoneReset (z : Nat) (s : State) : State :=
  let v := s.zone z
  if v.st = .empty then s
  else
    let x := s.zoneActOf z
    let slot := s.zoneSlot z
    let parity := if s.groupSealed x slot then
        ((List.range s.geom.n).filter (fun u => !(s.roleAt slot u).isData)).map (s.bandIndex x slot) else []
    let s := (s.zoneDrop z).forEach parity (fun i s => s.dramPut (s.bandEntry i) (leBytes 4 0))
    let s := (s.setBandPtrs z 0).setZone z ⟨.empty, 0, (v.epoch + 1) % 65536, 0, false, v.last⟩
    ((s.zoneMark z).digestDrop z).mediaCut (s.zoneSpace z) z 0

/-- Offline. -/
def State.zoneOffline (z : Nat) (s : State) : State := ((s.zoneSt z .offline).zoneMark z).digestDrop z

/-! ## Zone Management Send -/

/-- A Zone Management Send: of one zone where its state allows it, or, with Select All, of every zone in the states that the
action takes. ready tells whether the action may act on a zone now; until it may, the command waits. -/
def State.zoneSend (act : ZoneAct) (takes : ZoneSt → Bool) (deny : State → Nat → Option Status) (ready : State → Nat → Bool)
    (op : Nat → State → State) (n : Nat) (s : State) : State :=
  match s.live n with
  | some c =>
    match c.cmd with
    | .zoneSend nsid a all zslba =>
      if a ≠ act then s
      else
        match firstDeny [nsDeny nsid [1], s.mediaDeny 1 true (if all then 0 else zslba.toNat) 1] with
        | some e => s.ends n e
        | none =>
          if all then
            let l := (s.host.zones.map (·.1)).filter (fun z => decide (z < s.znsZones) && takes (s.zone z).st)
            if act = .open ∧ zoneLimit < (s.zonesIn ZoneSt.open).length + l.length then s.ends n .tooManyOpen
            else if l.all (ready s) then (s.forEach l op).ends n .ok else s
          else
            let z := zslba.toNat / 65536
            if zslba.toNat % 65536 ≠ 0 then s.ends n .invalidField
            else match deny s z with
              | some e => s.ends n e
              | none => if ready s z then (op z s).ends n .ok else s
    | _ => s
  | none => s

/-- R383: Open. -/
def execZoneOpen (ctx : Fin 16384) (s : State) : Out :=
  .next (s.zoneSend .open (· == .closed) State.openDeny (fun _ _ => true) State.zoneOpen ctx.val)

/-- R383: Close. -/
def execZoneClose (ctx : Fin 16384) (s : State) : Out :=
  .next (s.zoneSend .close ZoneSt.open State.closeDeny (fun _ _ => true) State.zoneClose ctx.val)

/-- R383, R413: Finish. -/
def execZoneFinish (ctx : Fin 16384) (s : State) : Out :=
  .next (s.zoneSend .finish ZoneSt.active State.finishDeny (fun _ _ => true) State.zoneFinish ctx.val)

/-- R318: Reset, once nothing is outstanding on the bands. -/
def execZoneReset (ctx : Fin 16384) (s : State) : Out :=
  .next (s.zoneSend .reset (fun x => x.active || x == .full) State.resetDeny
    (fun s z => s.bandsQuiet (s.zoneActOf z) (s.resetBands z)) State.zoneReset ctx.val)

/-- R355: Offline. -/
def execZoneOffline (ctx : Fin 16384) (s : State) : Out :=
  .next (s.zoneSend .offline (· == .readOnly) State.offlineDeny (fun _ _ => true) State.zoneOffline ctx.val)

/-! ## Report Zones (R343) -/

/-- The zone states of a Reporting Options value. -/
def reportTakes (o : Nat) (x : ZoneSt) : Bool :=
  match o with
  | 0 => true
  | 1 => x == .empty
  | 2 => x == .implicit
  | 3 => x == .explicit
  | 4 => x == .closed
  | 5 => x == .full
  | 6 => x == .readOnly
  | _ => x == .offline

/-- A zone's descriptor. -/
def State.zoneDesc (s : State) (z : Nat) : ZoneDesc :=
  let v := s.zone z
  ⟨v.st, 65536, z * 65536, blockAt z v.wp, v.byCtrl⟩

/-- R343: Report Zones from the zone of SLBA on, with or without Partial Report. -/
def execReportZones (ctx : Fin 16384) (s : State) : Out :=
  .next (match s.live ctx.val with
    | some c =>
      match c.cmd with
      | .reportZones nsid slba extended option part max =>
        match firstDeny [nsDeny nsid [1], if extended ∨ 7 < option.toNat then some .invalidField else none,
            s.mediaDeny 1 false slba.toNat 1] with
        | some e => s.ends c.no e
        | none =>
          let first := slba.toNat / 65536
          let l := ((List.range (s.znsZones - first)).map (· + first)).filter (fun z => reportTakes option.toNat (s.zone z).st)
          let shown := l.take max.toNat
          s.settle c.no ⟨.ok, 0, .zones (if part then shown.length else l.length) (shown.map s.zoneDesc)⟩
      | _ => s
    | none => s)

end Sys2Proof.Machine
end

