-- ==== Sys2Proof/Machine/Recover.lean ====
section
/-! DEFINITION. What the base firmware does of its own accord with zones, the journal, the key index and the audit
(spec/13_queue_ordering.md R387 to R394, spec/14_object_services.md R405, R406, R410, R413 to R419). -/
namespace Sys2Proof.Machine

/-! ## The tail scan (R387 to R390) -/

/-- R390: one Active zone is scanned after gauge lock. complete tells how many of the media commands that a power loss cut short
are found complete: a later one found complete implies the earlier ones. Each command is wholly present or wholly absent
(R387), and the pointer never falls below the fault floor. The digest of a zone that holds data is pending: its context was lost
(R413). -/
def execTailScan (z : BitVec 20) (complete : Nat) (s : State) : Out :=
  .next (
    let z := z.toNat
    let v := s.zone z
    if v.st = .unscanned ∧ s.rdB R.GCK_STAT_lock = true then
      let mine := (s.host.torn.filter (fun t => t.1 == z)).take complete
      let wp := max v.floor (mine.foldl (fun _ t => t.2.2) v.wp)
      let t := s.setZone z { v with st := if 0 < wp then .closed else .empty, wp := wp }
      let t := ((t.setBandPtrs z wp).mediaCut (s.zoneSpace z) z wp).updHost (fun h => { h with torn := h.torn.filter (fun t => t.1 != z) })
      State.readyNote s (if 0 < wp then t.digestPut z none false else t.digestDrop z)
    else s)

/-! ## The journal (R392 to R394) -/

/-- The slot of a sequence number: slots are used in ring order. -/
def jSlotOf (seq : Nat) : Nat := seq % 896

/-- A valid entry put on its slot. -/
def jPut (e : JSlot) (l : List JSlot) : List JSlot := e :: l.filter (fun f => jSlotOf f.seq != jSlotOf e.seq)

/-- R393: every sector of a unit's entry is complete. Its command waits for it no longer, and the blocks are written in place
with the items given. At most 32 entries wait for their in-place writes, and a slot is not used while its last entry waits. -/
def execJournalEntryComplete (seq : BitVec 64) (items : List ItemSpec) (s : State) : Out :=
  .next (
    let waiting := s.host.units.filter (·.written)
    match s.host.units.find? (fun u => u.seq == seq.toNat && !u.written) with
    | some u =>
      if waiting.length < 32 ∧ waiting.all (fun w => jSlotOf w.seq != jSlotOf u.seq) = true then
        let s := s.updHost (fun h => { h with
          units := h.units.map (fun x => if x.seq = u.seq then { x with written := true } else x)
          slots := jPut ⟨u.seq, h.applied, u.lba, u.data⟩ h.slots
          cmds := h.cmds.map (fun c => if c.id = u.job then { c with left := items.length } else c) })
        let s := s.itemsAdd u.job s.stamp false none items
        match s.host.cmds.find? (fun c => c.id == u.job) with
        | some c => (match c.ctx with
          | some n => s.ctxDone n u.job
          | none => s)
        | none => s
      else s
    | none => s)

/-- An entry inserted by rising sequence number. -/
def jInsert (e : JSlot) : List JSlot → List JSlot
  | [] => [e]
  | f :: r => if e.seq < f.seq then e :: f :: r else f :: jInsert e r

/-- R394: at power-up the valid entries above the highest applied_through are written in place, in sequence order. found names
the units whose entries a power loss met while they were being written and that prove valid. -/
def execJournalReplay (found : List Nat) (s : State) : Out :=
  .next (if s.host.replayed || !s.rdB R.GCK_STAT_lock then s
    else
      let late := (s.host.units.filter (fun u => !u.written && found.contains u.seq)).map (fun u => (⟨u.seq, s.host.applied, u.lba, u.data⟩ : JSlot))
      let all : List JSlot := late.foldl (fun l e => jPut e l) s.host.slots
      let a := (all.map (·.through)).foldl max 0
      let l := (all.filter (fun (e : JSlot) => decide (a < e.seq))).foldl (fun l e => jInsert e l) []
      let t := s.forEach l (fun e s => s.mediaPut .conv e.lba e.data)
      let top := (all.map (·.seq)).foldl max 0
      let t := t.updHost (fun h => { h with units := [], slots := all, applied := max h.applied top, jSeq := max h.jSeq (top + 1), replayed := true })
      State.readyNote s t)

/-! ## The zone state table (R388) -/

/-- A zone as its entry records it: whether an active zone is open or closed is not recorded. -/
def Zone.saved (v : Zone) : Zone := { v with st := if v.st.active then .unscanned else v.st }

/-- R388: the gathered entries of an actuator's zones are written to the system area. The audit records in the DRAM buffer go
with them (DESIGN CHOICE, assumption 23). -/
def execZoneStateFlush (x : Act) (s : State) : Out :=
  .next (
    let l := s.host.unsaved.filter (fun z => s.zoneActOf z == x)
    let t := l.foldl (fun t z => zonePut t z (s.zone z).saved) s.host.table
    State.shnCheck ((s.updHost (fun h => { h with table := t, unsaved := h.unsaved.filter (fun z => !l.contains z) })).updAudit
      (fun a => { a with buffered := 0 })))

/-! ## The key index (R405, R406) -/

/-- R405: the changes since the last batch are appended to the index journal, with the allocation points. -/
def execIndexJournalBatch (s : State) : Out :=
  .next (s.updKv (fun k => { k with
    journal := k.journal ++ k.dirty, journalLen := k.journalLen + 64 * k.dirty.length, dirty := [], allocSaved := k.alloc }))

/-- R405: past 1 GiB of journal a checkpoint is written to the other copy, and the journal restarts. -/
def execIndexCheckpoint (s : State) : Out :=
  .next (if 2 ^ 30 < s.host.kv.journalLen then
      s.updKv (fun k =>
        let k := if k.newer = 0 then { k with copy1 := k.index, newer := 1 } else { k with copy0 := k.index, newer := 0 }
        { k with journal := [], journalLen := 0 })
    else s)

/-- The records of a zone whose headers lie at or beyond a block, in their order. -/
def State.kvWalkOf (s : State) (z p : Nat) : List KvRec :=
  let l := s.host.kv.recs.filter (fun r => r.head.1 == z && decide (p ≤ r.head.2))
  let put : KvRec → List KvRec → List KvRec := fun r l => l.filter (fun q => decide (q.head.2 < r.head.2)) ++ [r]
    ++ l.filter (fun q => !decide (q.head.2 < r.head.2))
  l.foldl (fun l r => put r l) []

/-- The walk forward in one zone: present records are applied, up to the first that is not present (R406). -/
def State.kvWalk (s : State) (z p : Nat) (index : List KvEntry) : List KvEntry :=
  (((s.kvWalkOf z p).takeWhile s.kvPresent).map KvRec.entry).foldl kvApply index

/-- R406: the index is rebuilt after the tail scan: checkpoint, journal, then the walk in each zone that is active now or was
active at the last batch. Blocks of an absent record are dead. -/
def execIndexRebuild (s : State) : Out :=
  .next (if s.host.indexed || !s.scanned then s
    else
      let k := s.host.kv
      let base := k.journal.foldl kvApply (if k.newer = 0 then k.copy0 else k.copy1)
      let active := (s.host.zones.filter (fun e => decide (s.znsZones ≤ e.1) && e.2.st.active)).map (·.1)
      let zones := active ++ (k.allocSaved.map (·.1)).filter (fun z => !active.contains z)
      let point : Nat → Nat := fun z => ((k.allocSaved.find? (fun a => a.1 == z)).map (·.2)).getD 0
      let index := (zones.foldl (fun l z => s.kvWalk z (point z) l) base).filter (fun e => !e.tomb)
      let recs := k.recs.filter s.kvPresent
      let seq := (recs.map (·.seq)).foldl max 0
      let t := s.updKv (fun k => { k with
        recs := recs, index := index, dirty := [], seq := max k.seq (seq + 1)
        alloc := active.map (fun z => (z, (s.zone z).wp)) })
      State.readyNote s (t.updHost (fun h => { h with indexed := true })))

/-! ## Compaction (R410) -/

/-- Whether a record is the live one of its key. -/
def State.kvLive (s : State) (r : KvRec) : Bool :=
  match kvFind s.host.kv.index r.key with
  | some e => e.seq == r.seq
  | none => false

/-- Whether work of the base firmware on an inclusive range of a clamp space must wait: an entry of a command overlaps it, and no
internal entry that has stopped waiting covers it (R376). -/
def State.clampHeld (s : State) (space lo hi : Nat) : Bool :=
  s.host.clamps.any (fun e => decide (e.owner < 2) && e.space == space && decide (e.lo ≤ hi ∧ lo ≤ e.hi))
    && !s.host.clamps.any (fun e => e.owner == 2 && e.waiters == 0 && e.space == space && decide (e.lo ≤ lo ∧ hi ≤ e.hi))

/-- Whether a copy of a record waits: for a command on its key or on its extents (R410). -/
def State.kvCopyWaits (s : State) (r : KvRec) : Bool :=
  s.clampHeld 2 (keyFold r.key) (keyFold r.key)
    || r.extents.any (fun e => s.clampHeld 3 (blockAt e.zone e.first) (blockAt e.zone (e.first + e.count - 1)))

/-- The live records with a block in a zone. -/
def State.kvLiveIn (s : State) (z : Nat) : List KvRec :=
  s.host.kv.recs.filter (fun r => s.kvLive r && r.extents.any (fun e => e.zone == z))

/-- The live blocks of a zone. -/
def State.kvLiveBlocks (s : State) (z : Nat) : Nat :=
  ((s.kvLiveIn z).map (fun r => (r.places.filter (fun p => p.1 == z)).length)).sum

/-- The Full device-managed zone with the fewest live blocks. -/
def State.kvVictim (s : State) : Option Nat :=
  (((List.range s.kvZones).map (· + s.znsZones)).filter (fun z => decide ((s.zone z).st = .full))).foldl (fun m z => match m with
    | some y => if s.kvLiveBlocks z < s.kvLiveBlocks y then some z else some y
    | none => some z) none

/-- One live record copied as a new one: key, size and stored digest kept, the bytes as they are read, a mismatch recorded
(R410). -/
def State.kvCopy (zones : List Nat) (got : List (Nat × Option Block)) (r : KvRec) (s : State) : State :=
  match s.kvPlace true r.blocks.length (zones.filter (fun z => decide ((s.zone z).st ≠ .full))) with
  | none => s
  | some ext =>
    let blocks := r.places.map (fun p => s.blockGot .kv got (blockAt p.1 p.2))
    let filled := blocks.map (fun b => some (b.getD (Config.openBlock s.freeCount)))
    let bytes := valueOf r.value.length filled
    let h := Config.sha256 bytes
    let o := if blocks.any Option.isNone then AuditOut.unreadable else if h = r.digest then .ok else .mismatch
    let q : KvRec := ⟨r.key, s.host.kv.seq, false, bytes, r.digest, r.dt, ext⟩
    let s := s.used.auditOut false .value o .compaction r.key 0 r.value.length ((firstBadOf (blocks.drop 1)).getD noBad) 2 r.digest
      (if o = .unreadable then 0 else h)
    (s.kvWrite q none []).kvIndex q

/-- R410: while fewer than 64 device-managed zones are Empty, the live records of the Full zone with the fewest live blocks are
copied to the zones named, but for those that commands still hold clamped; once none is left and every copy is on media, the zone
is reset. -/
def execCompaction (zones : List Nat) (got : List (Nat × Option Block)) (s : State) : Out :=
  .next (if 64 ≤ s.kvEmpty.length || !s.nsReady 2 then s
    else match s.kvVictim with
      | none => s
      | some z =>
        if (s.kvLiveIn z).isEmpty then
          if s.host.cmds.any (fun c => decide (c.space = .kv)) || !s.bandsQuiet (s.zoneActOf z) (s.resetBands z) then s
          else (s.zoneReset z).updKv (fun k => { k with recs := k.recs.filter (fun r => r.extents.all (fun e => e.zone != z)) })
        else s.forEach ((s.kvLiveIn z).filter (fun r => !s.kvCopyWaits r)) (State.kvCopy zones got))

/-! ## Audits (R413 to R419) -/

/-- Whether an audit of a zone waits for a command's clamp entry (R416). -/
def State.zoneClamped (s : State) (z : Nat) : Bool :=
  s.clampHeld (if z < s.znsZones then 0 else 3) (z * 65536) (z * 65536 + 65535)

/-- The zone that an audit pass looks at next. -/
def State.auditNext (s : State) : Option Nat :=
  ((List.range s.allZones).filter (fun z => decide (s.host.audit.cursor ≤ z))).find? (fun z =>
    decide ((s.zone z).st = .full) || (decide (s.znsZones ≤ z) && (s.zone z).st.active))

/-- An audit's outcome counted. -/
def State.auditCount (value : Bool) (o : AuditOut) (s : State) : State :=
  s.updAudit (fun a => { a with
    values := a.values + (if value then 1 else 0)
    zones := a.zones + (if value then 0 else 1)
    mism := a.mism + (if o = .mismatch then 1 else 0)
    unread := a.unread + (if o = .unreadable then 1 else 0) })

/-- One value audited: every block of it read, its digest compared. -/
def State.auditValue (got : List (Nat × Option Block)) (r : KvRec) (s : State) : State :=
  let blocks := r.places.map (fun p => s.blockGot .kv got (blockAt p.1 p.2))
  let data := (blocks.drop 1).take ((r.value.length + 4095) / 4096)
  let h := Config.sha256 (valueOf r.value.length blocks)
  let o := if data.any Option.isNone then AuditOut.unreadable else if h = r.digest then .ok else .mismatch
  let s := s.auditOut false .value o .audit r.key 0 r.value.length ((firstBadOf data).getD noBad) 2 r.digest (if o = .unreadable then 0 else h)
  s.auditCount true o

/-- One Full zone audited. -/
def State.auditFull (got : List (Nat × Option Block)) (z : Nat) (s : State) : State :=
  let v := s.zone z
  let zns := decide (z < s.znsZones)
  let blocks := (List.range v.wp).map (fun b => s.blockGot (s.zoneSpace z) got (blockAt z b))
  let r := s.zoneVerify z blocks
  let s := s.auditOut false (if zns then .zone else .kvZone) r.1 .audit [] (z * 65536) (4096 * v.wp)
    ((firstBadOf blocks).getD noBad) (if zns then 1 else 2) r.2.1 r.2.2
  (s.auditCount false r.1).updAudit (fun a => { a with done := a.done + 1 })

/-- The pass starts (R416). -/
def State.auditStart (s : State) : State :=
  let full := ((s.host.zones.filter (fun e => decide (e.2.st = .full))).length)
  let s := s.updAudit (fun a => { a with
    pass := a.pass + 1, running := true, done := 0, fullAtStart := full, values := 0, zones := 0, mism := 0, unread := 0, cursor := 0 })
  s.auditPut .passStart .ok .audit [] 0 0 noBad 0 0 0

/-- The pass ends, with its counts (R419). -/
def State.auditEnd (s : State) : State :=
  let a := s.host.audit
  let s := s.auditPut .passEnd .ok .audit (leBytes 4 a.values ++ leBytes 4 a.zones ++ leBytes 4 a.mism ++ leBytes 4 a.unread) 0 0 noBad 0 0 0
  s.updAudit (fun a => { a with running := false, lastEnd := s.driveTime })

/-- R416, R417: an audit pass reads its next zone: a Full zone with the values whose headers lie in it, or the present records
below the allocation point of an active device-managed zone. It waits while a command's clamp entry stands over the zone. -/
def execAuditZone (got : List (Nat × Option Block)) (s : State) : Out :=
  .next (if !s.mediaReady then s
    else
      let s := if s.host.audit.running then s else s.auditStart
      match s.auditNext with
      | none => s.auditEnd
      | some z =>
        if s.zoneClamped z then s
        else
          let recs := s.host.kv.recs.filter (fun r => r.head.1 == z && s.kvLive r)
          let s := s.used
          let s := if (s.zone z).st = .full then s.auditFull got z else s
          (s.forEach recs (State.auditValue got)).updAudit (fun a => { a with cursor := z + 1 }))

/-- R413: the pending digest of a Full zone is derived by reading the zone back: it is marked so, and DERIVED recorded. A zone
with an unrecovered block stays pending. -/
def execZoneDigestReadback (z : BitVec 20) (got : List (Nat × Option Block)) (s : State) : Out :=
  .next (
    let z := z.toNat
    let v := s.zone z
    match s.digestOf z with
    | some d =>
      if v.st = .full ∧ d.digest = none ∧ s.mediaReady = true then
        let zns := decide (z < s.znsZones)
        let blocks := (List.range v.wp).map (fun b => s.blockGot (s.zoneSpace z) got (blockAt z b))
        let bad := blocks.any Option.isNone
        let h := Config.sha256 ((blocks.map (fun b => b.getD [])).flatten)
        let s := s.used.auditOut false (if zns then .zone else .kvZone) (if bad then .unreadable else .derived) .readBack []
          (z * 65536) (4096 * v.wp) ((firstBadOf blocks).getD noBad) (if zns then 1 else 2) 0 (if bad then 0 else h)
        s.when (bad = false) (State.digestPut z (some h) true)
      else s
    | none => s)

end Sys2Proof.Machine
end

