-- ==== Sys2Proof/Machine/Par.lean ====
section
/-! DEFINITION. The accumulator commands of PAR, its scan, its walkers' rounds and its disabling
(spec/11_slot_parity.md). -/
namespace Sys2Proof.Machine

/-- A field of accumulator k. -/
def accF (f : Field) (k : Fin 8) : Field := f.at k.val

/-- An accumulator's state set. -/
def State.accSet (k : Fin 8) (x : AccSt) (s : State) : State := (s.wr (accF R.PAR_ACC_STAT_state k) x.code).wr (accF R.PAR_ACC_STAT_scan_busy k) 0

/-- A command refused with cause REFUSED (R311). -/
def State.accRefuse (who : Init) (k : Fin 8) (s : State) : State := s.refuse who (accF R.PAR_ACC_CTL_cmd k)

/-- Whether another accumulator holds the same actuator and slot as accumulator k's register. -/
def State.accTaken (s : State) (k : Fin 8) : Bool :=
  chans8.any (fun j => j != k && !s.accIs j .free && s.rd (accF R.PAR_ACC_CTL_act j) == s.rd (accF R.PAR_ACC_CTL_act k)
    && s.rd (accF R.PAR_ACC_CTL_slot j) == s.rd (accF R.PAR_ACC_CTL_slot k))

/-- Whether no lane is bound to accumulator k. -/
def State.accUnbound (s : State) (k : Fin 8) : Bool := s.accLanes k == 0

/-- act and slot of a register written with a command: each is refused unless the state is FREE, and left alone where it
holds the value already (R567). -/
def State.accName (who : Init) (k : Fin 8) (x : Act) (slot : BitVec 17) (s : State) : State :=
  let free := s.accIs k .free
  let put := fun (f : Field) (v : Nat) (s : State) =>
    if s.rd f = v then s else if free then s.wr f v else s.refuse who f
  put (accF R.PAR_ACC_CTL_slot k) slot.toNat (put (accF R.PAR_ACC_CTL_act k) x.idx s)

/-- The commands of PAR_ACCk_CTL.cmd. -/
inductive AccCmd where
  | attach | rebuild | ready | seal | check | scan | release
  deriving DecidableEq, Repr

/-- The state that a command leads to, or none where it is refused: the table of R311. A disabled PAR accepts none. -/
def State.accNext (s : State) (k : Fin 8) (c : AccCmd) : Option AccSt :=
  if !s.rdB R.PAR_CTL_en then none
  else match c with
    | .attach => if s.accIs k .free && !s.accTaken k then some .attached else none
    | .rebuild => if s.accIs k .free && !s.accTaken k || s.accIs k .damaged then some .rebuilding else none
    | .check => if s.accIs k .free && !s.accTaken k then some .checking else none
    | .ready => if s.accIs k .rebuilding && s.accUnbound k then some .attached else none
    | .seal => if s.accIs k .attached && s.accUnbound k then some .sealing else none
    | .scan => if s.accIs k .checking && s.accUnbound k then some .checking else none
    | .release => if !s.accIs k .free && s.accUnbound k then some .free else none

/-- PAR_ACCk_CTL.cmd, at the block (R311, R316): ATTACH, REBUILD and CHECK clear hw, SEAL starts the count of sourced
sectors, SCAN starts a scan. After RELEASE the attachment record is written (R319). -/
def State.accCmdOp (who : Init) (k : Fin 8) (c : AccCmd) (s : State) : State :=
  match s.accNext k c with
  | none => s.accRefuse who k
  | some y =>
    let s := s.accSet k y
    match c with
    | .attach | .rebuild | .check => s.wr (accF R.PAR_ACC_STAT_hw k) 0
    | .seal => { s with par := { s.par with sourced := updV s.par.sourced k (fun _ => (0, 0)) } }
    | .scan => s.wr (accF R.PAR_ACC_STAT_scan_busy k) 1
    | .release => s.attachRecord
    | _ => s

/-- A write of PAR_ACCk_CTL that names a group and carries a command. -/
def State.accGroupOp (who : Init) (k : Fin 8) (x : Act) (slot : BitVec 17) (c : AccCmd) (s : State) : State :=
  (s.accName who k x slot).accCmdOp who k c

/-- R311: ATTACH. -/
def execAccAttach (who : Init) (k : Fin 8) (x : Act) (slot : BitVec 17) (s : State) : Out :=
  .next (s.accept who (accF R.PAR_ACC_CTL_cmd k) (State.accGroupOp who k x slot .attach))

/-- R311: REBUILD. -/
def execAccRebuild (who : Init) (k : Fin 8) (x : Act) (slot : BitVec 17) (s : State) : Out :=
  .next (s.accept who (accF R.PAR_ACC_CTL_cmd k) (State.accGroupOp who k x slot .rebuild))

/-- R311: READY. -/
def execAccReady (who : Init) (k : Fin 8) (s : State) : Out :=
  .next (s.accept who (accF R.PAR_ACC_CTL_cmd k) (State.accCmdOp who k .ready))

/-- R315: SEAL. -/
def execAccSeal (who : Init) (k : Fin 8) (s : State) : Out :=
  .next (s.accept who (accF R.PAR_ACC_CTL_cmd k) (State.accCmdOp who k .seal))

/-- R311: CHECK. -/
def execAccCheck (who : Init) (k : Fin 8) (x : Act) (slot : BitVec 17) (s : State) : Out :=
  .next (s.accept who (accF R.PAR_ACC_CTL_cmd k) (State.accGroupOp who k x slot .check))

/-- R316: SCAN. -/
def execAccScan (who : Init) (k : Fin 8) (s : State) : Out :=
  .next (s.accept who (accF R.PAR_ACC_CTL_cmd k) (State.accCmdOp who k .scan))

/-- R311: RELEASE. -/
def execAccRelease (who : Init) (k : Fin 8) (s : State) : Out :=
  .next (s.accept who (accF R.PAR_ACC_CTL_cmd k) (State.accCmdOp who k .release))

/-- The band sectors below hw in which accumulator k's P or Q holds a non-zero byte (R316). -/
def State.nonZeroSectors (s : State) (k : Fin 8) : List Nat :=
  let hw := s.accHw k
  let area := fun (base size : Nat) =>
    (s.dram.filter (fun c => decide (base ≤ c.1) && decide (c.1 < base + size * hw))).map (fun c => (c.1 - base) / size)
  (area (s.accP k 0) 4096 ++ area (s.accQ k 0) 4096 ++ area (s.accPm k 0) 16 ++ area (s.accQm k 0) 16).eraseDups

/-- R316: a scan ends; the sectors with any non-zero byte are counted and the first of them recorded, source offset 5. -/
def execScanDone (k : Fin 8) (s : State) : Out :=
  .next (if s.rdB (accF R.PAR_ACC_STAT_scan_busy k) then
      let l := s.nonZeroSectors k
      let first := match l with
        | [] => 0
        | b :: r => r.foldl min b
      let s := ((s.wr (accF R.PAR_ACC_STAT_scan_busy k) 0).wr (accF R.PAR_ACC_SCAN_nonzero k) (min 65535 l.length)).wr
        (accF R.PAR_ACC_SCAN_first k) first
      s.when (l ≠ []) (State.raise 205)
    else s)

/-- R322: a round of an actuator's walker ends, with the decodes of the survivors read. -/
def execWalkerRound (x : Act) (reads : List SurvivorRead) (s : State) : Out := .next (s.walkRoundEnd x reads)

/-- PAR_CTL.en cleared or srst set, at the block: every accumulator is FREE, bindings are dropped and walker requests end
(R311, R323). -/
def State.parDisableOp (srst : Bool) (s : State) : State :=
  let s := (s.walkEnd .a).walkEnd .b
  let s := (s.parClose .a).parClose .b
  let s := s.forEach chans8 (fun k s => s.accSet k .free)
  if srst then { s.blockReset 30 R.PAR_CTL_srst with par := ParState.init } else s.wr R.PAR_CTL_en 0

/-- R311: a write clears PAR_CTL.en or sets srst. -/
def execParDisable (_who : Init) (srst : Bool) (s : State) : Out := .next (s.parDisableOp srst)

end Sys2Proof.Machine
end

