-- ==== Sys2Proof/Machine/Retire.lean ====
section
/-! DEFINITION. What the base firmware does with heads, bands and groups (spec/11_slot_parity.md): retirement (R324),
relocation (R325, R326), scrub (R327) and the rebuild of accumulators at power-up (R319). -/
namespace Sys2Proof.Machine

/-! ## The remap table -/

/-- A remap entry written to the system-area copy and then to DRAM (R326). -/
def State.remapPut (i : Nat) (v : Nat) (s : State) : State :=
  let s := s.updHost (fun h => { h with remapSaved := (i, BitVec.ofNat 32 v) :: h.remapSaved.filter (fun e => e.1 != i) })
  s.dramPut (s.rd R.PAR_REMAP_BASE_base * 4096 + 4 * i) (leBytes 4 v)

/-- The indices of an actuator's logical bands. -/
def State.bandsOf (s : State) (x : Act) : List Nat :=
  ((List.range s.geom.usable).map (fun sl => (List.range s.geom.n).map (s.bandIndex x sl))).flatten

/-- The head that an entry's band lies on. -/
def State.bandHead (s : State) (x : Act) (i : Nat) : Option Nat := (s.bandPlace x (s.bptSlot i) (i % s.geom.n)).map (·.1)

/-! ## The relocation pool (R325, R326) -/

/-- The number of slot positions. -/
def State.positionsAll (s : State) : Nat := (s.geom.annuli.map (·.positions)).sum

/-- Whether a place (surface, slot position) of an actuator is in the pool: its head is in service, no entry is RELOCATED to
it, and it is a spare position, a LENT band, or the old place of a band that has been relocated. -/
def State.placeFree (s : State) (x : Act) (u p : Nat) : Bool :=
  let base := if x = .a then 0 else s.headCount .a
  let at_ := s.remapEntry (s.bandIndex x p u)
  decide (u < s.geom.n) && decide (p < s.positionsAll) && !s.rdBit R.PAR_RET_ret (base + u)
    && (s.bandsOf x).all (fun i =>
      let e := s.remapEntry i
      !(decide (remapState e = .relocated) && bitField e 17 4 == u && e % 131072 == p))
    && (decide (s.geom.usable ≤ p) || decide (remapState at_ = .lent) || decide (remapState at_ = .relocated))

/-- The places of the pool on both actuators: spare positions and LENT bands left. -/
def State.poolLeft (s : State) : Nat :=
  ([Act.a, Act.b].map (fun x => ((List.range s.geom.n).map (fun u =>
    ((List.range s.positionsAll).filter (fun p => s.placeFree x u p)).length)).sum)).sum

/-- The places of the pool at manufacture: the spare positions on every surface. -/
def State.poolAll (s : State) : Nat := 2 * s.geom.n * (s.positionsAll - s.geom.usable)

/-- Whether Available Spare is below its threshold of 10 % (R350). -/
def State.spareLow (s : State) : Bool := decide (100 * s.poolLeft < 10 * s.poolAll)

/-- What follows a change of the pool: Critical Warning bit 0 (R350, R360). -/
def State.poolNote (old : State) (s : State) : State := s.smartRise 0 old.spareLow s.spareLow

/-! ## Retirement (R324) -/

/-- The heads retired on an actuator. -/
def State.retiredOn (s : State) (x : Act) : Nat := ((s.actHeads x).filter (s.rdBit R.PAR_RET_ret)).length

/-- The zones of an actuator that have a band on a head, each with its other band's index. -/
def State.zonesOnHead (s : State) (x : Act) (h : Nat) : List (Nat × Nat) :=
  (List.range s.allZones).filterMap (fun z =>
    if s.zoneActOf z ≠ x then none
    else
      let b := s.zoneBands z
      if s.bandHead x b.1 = some h then some (z, b.2) else if s.bandHead x b.2 = some h then some (z, b.1) else none)

/-- A zone's change is told: in the Changed Zone List with its notice, or for a device-managed zone as a changed namespace
(R355). -/
def State.zoneChanged (z : Nat) (s : State) : State :=
  if z < s.znsZones then
    State.asyncAll .zoneChanged (s.updHost (fun h => { h with
      changedZones := if h.changedZones.contains z then h.changedZones else h.changedZones ++ [z] }))
  else
    State.asyncAll .nsChanged (s.updHost (fun h => { h with
      changedNs := if h.changedNs.contains 2 then h.changedNs else h.changedNs ++ [2] }))

/-- The table of R324 for one zone; sealed and held are taken before any band is marked. A group whose accumulator is being
rebuilt or sealed counts as attached. -/
def State.retireZone (sealed : Bool) (acc : Option (Fin 8)) (z other : Nat) (s : State) : State :=
  let v := s.zone z
  match v.st with
  | .empty => State.zoneChanged z ((s.zoneOffline z).remapPut other (3 * 2 ^ 30))
  | .offline | .readOnly => s
  | _ =>
    if sealed then s
    else
      match acc with
      | some k =>
        if s.accIs k .damaged || s.accIs k .checking then State.zoneChanged z ((s.zoneSt z .readOnly).zoneMark z)
        else if v.st = .full then s else State.zoneChanged z (s.zoneFull z true)
      | none => State.zoneChanged z ((s.zoneSt z .readOnly).zoneMark z)

/-- Head h retired: its PAR_RET bit, its bands DEGRADED, its zones re-stated; the first retirement sets Critical Warning bit 2
(R350). -/
def State.headRetire (h : Nat) (s : State) : State :=
  let x := s.headAct h
  let first := s.rd R.PAR_RET_ret = 0 ∧ s.host.damaged = false
  let bands := (s.bandsOf x).filter (fun i => decide (s.bandHead x i = some h) && decide (remapState (s.remapEntry i) ≠ .lent))
  let zones := (s.zonesOnHead x h).map (fun p => (p, s.groupSealed x (s.zoneSlot p.1), s.accOf x (s.zoneSlot p.1)))
  let s := s.wrBit R.PAR_RET_ret h true
  let s := s.forEach bands (fun i s => s.remapPut i (2 * 2 ^ 30))
  let s := s.forEach zones (fun p s => s.retireZone p.2.1 p.2.2 p.1.1 p.1.2)
  s.when first (State.asyncAll (.smart 2))

/-- R324: the base firmware retires a head, unless two of its actuator's heads are retired already. -/
def execHeadRetire (h : Fin 32) (s : State) : Out :=
  .next (if s.headFitted h.val && !s.rdBit R.PAR_RET_ret h.val && decide (s.retiredOn (s.headAct h.val) < 2) then State.poolNote s (s.headRetire h.val) else s)

/-! ## Relocation (R326) -/

/-- Whether a place comes first in the pool: spare positions in ascending order, then the rest. Which surface is taken is a
rotation that the caller follows. -/
def State.placeNext (s : State) (x : Act) (u p : Nat) : Bool :=
  let spare := fun q => (List.range s.geom.n).any (fun v => s.placeFree x v q)
  s.placeFree x u p && (if s.geom.usable ≤ p then (List.range (p - s.geom.usable)).all (fun q => !spare (s.geom.usable + q))
    else (List.range (s.positionsAll - s.geom.usable)).all (fun q => !spare (s.geom.usable + q)))

/-- R326: a band has been copied to the pool's next place, and its entry is swapped: the system-area copy, then DRAM. -/
def execBandRelocation (index : BitVec 21) (surface : BitVec 4) (position : BitVec 17) (s : State) : Out :=
  .next (
    let i := index.toNat
    let x := if i % (2 * s.geom.n) < s.geom.n then Act.a else Act.b
    if decide (i < s.geom.usable * (2 * s.geom.n)) && decide (remapState (s.remapEntry i) ≠ .lent)
        && s.placeNext x surface.toNat position.toNat then
      State.poolNote s ((s.remapPut i (2 ^ 30 + surface.toNat * 2 ^ 17 + position.toNat)).updHost (fun h => { h with
        relocate := h.relocate.filter (· != i) }))
    else s)

/-! ## Scrub (R327) -/

/-- Where an error that a band sector's syndromes show lies (R327). -/
inductive ScrubFind where
  | data (j : Nat) | parityA | parityB | many
  deriving DecidableEq, Repr

/-- The band that syndromes S0 and S1 locate, among n − 2 data bands. -/
def scrubFind (n : Nat) (s0 s1 : List Byte) : ScrubFind :=
  let zero : List Byte → Bool := fun l => l.all (· == 0)
  if !zero s0 && zero s1 then .parityA
  else if zero s0 && !zero s1 then .parityB
  else if zero s0 then .many
  else
    match (List.range (n - 2)).find? (fun j => s0.map (gfAlpha j) == s1) with
    | some j => .data j
    | none => .many

/-- The logical band of a group that a finding names; all of them where it names none. -/
def State.scrubBands (s : State) (slot : Nat) (f : ScrubFind) : List Nat :=
  (List.range s.geom.n).filter (fun u =>
    match f with
    | .data j => decide (bandRole s.geom.n slot u = .data j)
    | .parityA => decide (bandRole s.geom.n slot u = .p)
    | .parityB => decide (bandRole s.geom.n slot u = .q)
    | .many => true)

/-- A band sector judged: the bands it locates are queued for relocation, and an error beyond location is logged. -/
def State.scrubJudge (k : Fin 8) (x : Act) (slot b : Nat) (s : State) : State :=
  let f := scrubFind s.geom.n (s.dramGet (s.accP k b) 4096 ++ s.dramGet (s.accPm k b) 16)
    (s.dramGet (s.accQ k b) 4096 ++ s.dramGet (s.accQm k b) 16)
  let l := (s.scrubBands slot f).map (s.bandIndex x slot)
  let s := s.updHost (fun h => { h with relocate := h.relocate ++ l.filter (fun i => !h.relocate.contains i) })
  s.when (f = .many) (State.logOpen 0x3E false)

/-- R327: a step of the scrub of a sealed group on accumulator k. -/
def execScrubGroup (k : Fin 8) (x : Act) (slot : BitVec 17) (step : ScrubStep) (s : State) : Out :=
  .next (
    let mine := decide (s.accOf x slot.toNat = some k) && s.accIs k .checking
    match step with
    | .check => if s.groupSealed x slot.toNat && s.accIs k .free then s.accGroupOp .ac0 k x slot .check else s
    | .scan => if mine then s.accCmdOp .ac0 k .scan else s
    | .judge unrecovered =>
      if mine && !s.rdB (accF R.PAR_ACC_STAT_scan_busy k) then
        let bad := (s.nonZeroSectors k).filter (fun b => !unrecovered.contains b)
        (s.forEach bad (State.scrubJudge k x slot.toNat)).accCmdOp .ac0 k .release
      else s)

/-! ## Power-up (R319) -/

/-- R319: a step of the rebuild of a group that the attachment record names, once the tail scan has completed. -/
def execAccumulatorRecovery (k : Fin 8) (x : Act) (slot : BitVec 17) (step : RecoverStep) (s : State) : Out :=
  .next (if s.host.groups.contains (x.idx, slot.toNat) && s.scanned then
      match step with
      | .rebuild => s.accGroupOp .ac0 k x slot .rebuild
      | .ready =>
        let t := if s.accIs k .rebuilding then s.accCmdOp .ac0 k .ready else s
        if t.accOf x slot.toNat = some k ∧ t.accIs k .attached = true then
          State.readyNote s (t.updHost (fun h => { h with groups := h.groups.filter (· != (x.idx, slot.toNat)) }))
        else t
    else s)

end Sys2Proof.Machine
end

