-- ==== Sys2Proof/Machine/Identify.lean ====
section
/-! DEFINITION. What the host sees of a controller (spec/12_host_interface.md): the BAR (R334), the controller registers (R336)
and Identify (R339 to R344, R351), the data structures field by field. -/
namespace Sys2Proof.Machine

/-! ## The BAR (R334, R336) -/

/-- What an offset of BAR0 holds (R334). -/
inductive BarPart where
  | controller
  | doorbell (queue : Nat) (completion : Bool)
  | msixTable (entry : Nat)
  | msixPending
  | nothing
  deriving DecidableEq, Repr

/-- The BAR's layout; dual tells port mode 1, in which the doorbells of queues above 64 hold nothing (R334). The doorbells of a
queue are its submission tail and its completion head, in that order (PRESUMED, assumption 104). -/
def barPart (dual : Bool) (off : Nat) : BarPart :=
  if off < 0x1000 then .controller
  else if off < 0x1408 then
    let q := (off - 0x1000) / 8
    if dual && decide (64 < q) then .nothing else .doorbell q (decide (4 ≤ off % 8))
  else if 0x2000 ≤ off ∧ off < 0x2810 then .msixTable ((off - 0x2000) / 16)
  else if 0x3000 ≤ off ∧ off < 0x3018 then .msixPending
  else .nothing

/-- The values of R336 and the fields that a controller shows of itself. -/
inductive CtrlReg where
  | mqes | cqr | ams | to | dstrd | nssrs | css | mpsmin | mpsmax | crwms | crims | vs | crwmt | crimt
  | ccEn | ccCrime | cstsRdy | cstsCfs | cstsShst
  deriving DecidableEq, Repr

/-- A field of controller c's registers (R336 to R338); the base firmware sets CSTS.CFS while the thermal latch is set (R477). -/
def State.ctrlReg (s : State) (c : Nat) : CtrlReg → Nat
  | .mqes => 4095
  | .cqr => 1
  | .ams => 1
  | .to => 120
  | .dstrd => 0
  | .nssrs => 0
  | .css => 2 ^ 6
  | .mpsmin => 0
  | .mpsmax => 4
  | .crwms => 1
  | .crims => 1
  | .vs => 0x00020000
  | .crwmt => 120
  | .crimt => 4
  | .ccEn => if (s.ctrl c).en then 1 else 0
  | .ccCrime => if (s.ctrl c).crime then 1 else 0
  | .cstsRdy => if (s.ctrl c).rdy then 1 else 0
  | .cstsCfs => s.rd R.THM_STAT_latched
  | .cstsShst => (s.ctrl c).shst

/-- The place of a field: its byte offset, its lowest bit and its width, as the NVMe base specification has them (PRESUMED,
assumption 104). -/
def CtrlReg.place : CtrlReg → Nat × Nat × Nat
  | .mqes => (0x00, 0, 16)
  | .cqr => (0x00, 16, 1)
  | .ams => (0x00, 17, 2)
  | .to => (0x00, 24, 8)
  | .dstrd => (0x04, 0, 4)
  | .nssrs => (0x04, 4, 1)
  | .css => (0x04, 5, 8)
  | .mpsmin => (0x04, 16, 4)
  | .mpsmax => (0x04, 20, 4)
  | .crwms => (0x04, 27, 1)
  | .crims => (0x04, 28, 1)
  | .vs => (0x08, 0, 32)
  | .ccEn => (0x14, 0, 1)
  | .ccCrime => (0x14, 24, 1)
  | .cstsRdy => (0x1C, 0, 1)
  | .cstsCfs => (0x1C, 1, 1)
  | .cstsShst => (0x1C, 2, 2)
  | .crwmt => (0x68, 0, 16)
  | .crimt => (0x68, 16, 16)

/-- The fields of the controller registers. -/
def ctrlRegs : List CtrlReg :=
  [.mqes, .cqr, .ams, .to, .dstrd, .nssrs, .css, .mpsmin, .mpsmax, .crwms, .crims, .vs, .ccEn, .ccCrime, .cstsRdy, .cstsCfs, .cstsShst,
    .crwmt, .crimt]

/-- The double word that the fields of R336 to R338 give at an offset of controller c's registers; what they do not hold is 0. -/
def State.ctrlWord (s : State) (c off : Nat) : Nat :=
  ((ctrlRegs.filter (fun r => r.place.1 == off)).map (fun r => s.ctrlReg c r * 2 ^ r.place.2.1)).sum

/-! ## Strings -/

/-- The bytes of an ASCII string. -/
def ascii (t : String) : List Byte := t.toList.map (fun c => BitVec.ofNat 8 c.toNat)

/-- A string padded with spaces to n bytes. -/
def padTextTo (n : Nat) (l : List Byte) : List Byte := l.take n ++ List.replicate (n - l.length) 0x20

/-- A hexadecimal digit. -/
def hexDigit (d : Nat) : Byte :=
  BitVec.ofNat 8 (if d < 10 then 48 + d else if Config.hexCapital then 55 + d else 87 + d)

/-- The n hexadecimal digits of a number, highest first. -/
def hexText : Nat → Nat → List Byte
  | 0, _ => []
  | n + 1, v => hexDigit (v / 16 ^ n % 16) :: hexText n v

/-- The n decimal digits of a number, highest first. -/
def decText : Nat → Nat → List Byte
  | 0, _ => []
  | n + 1, v => BitVec.ofNat 8 (48 + v / 10 ^ n % 10) :: decText n v

/-- The FR string of an image's generation: "ZN" and six decimal digits (R339). -/
def frText (generation : Nat) : List Byte := ascii "ZN" ++ decText 6 generation

/-- The SUBNQN: a UUID of version 8 whose low 64 bits are JIG_UID (R339). -/
def State.subnqn (s : State) : List Byte :=
  let hi := (Config.uuidHigh s.fuses.uid).toNat
  let lo := s.fuses.uid.toNat
  let dash := ascii "-"
  ascii "nqn.2014-08.org.nvmexpress:uuid:" ++ hexText 8 (hi / 2 ^ 32) ++ dash ++ hexText 4 (hi / 2 ^ 16 % 2 ^ 16) ++ dash
    ++ ascii "8" ++ hexText 3 (hi % 2 ^ 12) ++ dash ++ hexText 4 (lo / 2 ^ 48) ++ dash ++ hexText 12 (lo % 2 ^ 48)

/-! ## The data structures -/

/-- A named number. -/
def num (name : String) (n : Nat) : String × IdentVal := (name, .num n)

/-- A named string. -/
def text (name : String) (l : List Byte) : String × IdentVal := (name, .text l)

/-- A power state descriptor: MP in 10 mW, latencies in µs, and for a non-operational state 1 in each of RWT, RWL, RRT and RRL
(R351). -/
def powerState (n : String) (mp : Nat) (nops : Bool) (enlat exlat : Nat) : List (String × IdentVal) :=
  [num ("PSD" ++ n ++ ".MP") mp, num ("PSD" ++ n ++ ".NOPS") (if nops then 1 else 0), num ("PSD" ++ n ++ ".ENLAT") enlat,
    num ("PSD" ++ n ++ ".EXLAT") exlat]
  ++ ["RWT", "RWL", "RRT", "RRL"].map (fun f => num ("PSD" ++ n ++ "." ++ f) (if nops then 1 else 0))

/-- The power states of R351. -/
def powerStates : List (String × IdentVal) :=
  powerState "0" 2600 false 0 0 ++ powerState "1" 1150 false 2000 2000 ++ powerState "2" 840 true 1000 1000
    ++ powerState "3" 560 true 250000 150000 ++ powerState "4" 130 true 21000000 30000000

/-- Identify Controller of R339, for controller c, with the vendor-specific bytes that EXT_CODE gives (R365). -/
def State.identifyCtrl (s : State) (c : Nat) (vendor : List Byte) : List (String × IdentVal) :=
  [num "VID" (s.rd R.HIF_ID_VD_vid), num "SSVID" (s.rd R.HIF_ID_SS_ssvid),
    text "SN" (hexText 16 s.fuses.uid.toNat ++ List.replicate 4 0x20), text "MN" (padTextTo 40 s.presence.model),
    text "FR" (frText (s.rd R.JIG_IMG_GEN_generation)), num "CNTLID" (c + 1),
    num "CMIC" (if s.rdB R.HIF_STAT_mode then 3 else 0), num "VER" 0x00020000, num "RTD3R" 40000000, num "RTD3E" 8000000,
    num "OAES" (2 ^ 8 + 2 ^ 9 + 2 ^ 27), num "CTRATT" 0, num "CNTRLTYPE" 1, num "OACS" 4, num "ACL" 3, num "AERL" 7]
  ++ [num "FRMW" 0x14, num "LPA" 0x4F, num "ELPE" 63, num "NPSS" 4, num "APSTA" 1, num "WCTEMP" 368, num "CCTEMP" 388,
    num "MTFA" 80, num "FWUG" 1, num "KAS" 10, num "SANICAP" 0, num "SQES" 0x66, num "CQES" 0x44, num "MAXCMD" 4096, num "NN" 3,
    num "ONCS" 0xD8, num "FUSES" 0, num "FNA" 0, num "CDW" 0, num "VWC" 0x07]
  ++ [num "AWUN" 15, num "AWUPF" 15, num "SGLS" 1, num "MDTS" 0, text "SUBNQN" s.subnqn]
  ++ powerStates ++ [text "VS" vendor]

/-- The device-managed zones that are Offline. -/
def State.kvOffline (s : State) : Nat := (s.host.zones.filter (fun e => decide (s.znsZones ≤ e.1) && e.2.st == .offline)).length

/-- Whether a namespace is shared by two controllers (R331). -/
def State.nmic (s : State) : String × IdentVal := num "NMIC" (if s.rdB R.HIF_STAT_mode then 1 else 0)

/-- Identify Namespace of NSID 1 and 3 (R342). -/
def State.identifyNs (s : State) (nsid : Nat) : List (String × IdentVal) :=
  let n := if nsid = 1 then 255 else 15
  let size := s.nsze nsid
  let cap := if nsid = 1 then size - 65536 * (s.zonesIn (· == .offline)).length else size
  [num "NSZE" size, num "NCAP" cap, num "NUSE" cap, num "DPC" 1, num "DPS" 1, num "NLBAF" 0, num "FLBAS" 0, num "NSFEAT" 2,
    num "NAWUN" n, num "NAWUPF" n, num "NOWS" n, num "NPWG" n, num "LBAF0.LBADS" 12, num "LBAF0.MS" 16, s.nmic]

/-- The Key Value namespace (R344, R355): the bytes of value data it holds and may hold, without the zones that are Offline. -/
def State.identifyKv (s : State) : List (String × IdentVal) :=
  let size := (s.kvZones - s.kvOffline) * 268435456
  let used := ((s.host.kv.recs.filter s.kvLive).map (fun r => r.value.length)).sum
  [num "NSZE" size, num "NCAP" size, num "NUSE" used, num "KVF0.KML" 16, num "KVF0.VML" 0xFFFFFFFF, num "KVF0.MNK" 33554432,
    num "NKVF" 0, num "DPC" 0, num "DPS" 0, s.nmic]

/-- What Identify answers. -/
def State.identifyResult (s : State) (c : Nat) (sel : IdentSel) (vendor : List Byte) : Result :=
  let ok := fun (l : List (String × IdentVal)) => (⟨.ok, 0, .fields l⟩ : Result)
  let of : Nat → List Nat → List (String × IdentVal) → Result := fun n good l =>
    if good.contains n then ok l else .of (if 1 ≤ n ∧ n ≤ 3 then .invalidField else .invalidNamespace)
  match sel with
  | .controller => ok (s.identifyCtrl c vendor)
  | .anyNamespace n => of n [1, 3] (s.identifyNs n)
  | .zonedController => ok [num "ZASL" 8]
  | .zonedNamespace n => of n [1] [num "ZOC" 0, num "OZCS" 0, num "MAR" 31, num "MOR" 31, num "RRL" 0, num "FRL" 0,
      num "LBAFE0.ZSZE" 65536, num "LBAFE0.ZDES" 0]
  | .nvmNamespace n => of n [1, 3] [num "ELBAF0.STS" 0, num "ELBAF0.PIF" 2]
  | .kvNamespace n => of n [2] s.identifyKv
  | .activeNamespaces => ok [num "NSID0" 1, num "NSID1" 2, num "NSID2" 3]
  | .commandSets => ok [num "COMBINATION0" 7]

end Sys2Proof.Machine
end

