-- ==== Sys2Proof/Machine/Evr.lean ====
section
/-! DEFINITION. The event recorder's commands (spec/19_calibration_records.md): posting, the flash stores, store failures
and retries, and clearing (R522 to R533). -/
namespace Sys2Proof.Machine

/-- The position of a device's log. -/
def posF (d : Nat) : Field := R.EVR_FLASH_POS_pos.at d

/-- Whether EVR starts no flash operation: after its sleep vote, after a shutdown trigger or after a squall (R531). -/
def State.evrHeldOff (s : State) : Bool :=
  s.rdB R.THM_STAT_sd_seq || s.rdB R.THM_STAT_latched || s.rdB R.THM_STAT_squall || s.rdBit R.PWR_SLEEP_STAT_votes 7

/-- Whether a device's store can be written now: EVR enabled, the store healthy, nothing in progress, no clear (R530 to
R532). -/
def State.storeReady (s : State) (d : Nat) : Bool :=
  s.rdB R.EVR_CTL_en && !s.storeFailed d && (s.evr.log d).job.isNone && s.evr.clearTo.isNone && !s.evrHeldOff

/-- The records of the next page: up to four pending ones, as many as the page has slots left (R526). -/
def State.pageRecords (s : State) (d : Nat) : List EventRecord :=
  let n := min (min 4 (s.evrPending d)) (4 - s.rd (posF d) / 64 % 4)
  (List.range n).filterMap (fun i => s.ringRecord ((s.rd (evrNextF d) + i) % 2 ^ 32))

/-- EVR erases the block that the position starts before it programs into it, and otherwise programs a page (R526). -/
def State.flashStart (d : Nat) (s : State) : State :=
  if s.rd (posF d) % 0x10000 = 0 && !(s.evr.log d).erased then s.setJob d (some .erase)
  else s.setJob d (some (.program (s.pageRecords d)))

/-- R526: four records are pending for a flash store. -/
def execFlashPageProgram (d : Fin 2) (s : State) : Out :=
  .next (s.when (s.storeReady d.val = true ∧ 4 ≤ s.evrPending d.val) (State.flashStart d.val))

/-- R526: flush_ms after the oldest pending record was committed, a partial page is programmed. -/
def execFlashFlushTimer (d : Fin 2) (s : State) : Out :=
  .next (s.when (s.storeReady d.val = true ∧ 1 ≤ s.evrPending d.val) (State.flashStart d.val))

/-- The slots from an offset on, each holding the next record. -/
def slotsPut (l : List (Nat × EventRecord)) (off : Nat) : List EventRecord → List (Nat × EventRecord)
  | [] => l
  | r :: rs => slotsPut (slotPut l off r) (off + 64) rs

/-- The page after the one at an offset; the area wraps from 0x400_0000 to 0x201_0000 (R526). -/
def pageAfter (off : Nat) : Nat :=
  let p := (off / 256 + 1) * 256
  if 0x4000000 ≤ p then 0x2010000 else p

/-- A page has been programmed: its slots hold the records, and the pointer and the position move on (R525, R526). -/
def State.pageDone (d : Nat) (rs : List EventRecord) (s : State) : State :=
  let off := s.rd (posF d)
  let s := s.updLog d (fun l => ⟨slotsPut l.area off rs, none, decide (pageAfter off % 0x10000 ≠ 0)⟩)
  (s.wr (posF d) (pageAfter off)).wr (evrNextF d) ((s.rd (evrNextF d) + rs.length) % 2 ^ 32)

/-- The block under the position has been erased: programming starts where records are pending (R526). -/
def State.blockErased (d : Nat) (s : State) : State :=
  let blk := s.rd (posF d) / 0x10000
  let s := s.updLog d (fun l => ⟨l.area.filter (fun e => e.1 / 0x10000 != blk), none, true⟩)
  s.when (s.storeReady d = true ∧ 1 ≤ s.evrPending d) (State.flashStart d)

/-- A clear ends: source 34 rises and clearing falls (R532). -/
def State.clearEnd (s : State) : State :=
  ((s.updEvr (fun e => { e with clearTo := none })).wr R.EVR_STAT_clearing 0).raise 34

/-- A clear whose last erase has ended, or that has no healthy device to erase, ends (R532). -/
def State.clearCheck (s : State) : State :=
  s.when (s.evr.clearTo.isSome = true ∧ s.evr.log0.job = none ∧ s.evr.log1.job = none) State.clearEnd

/-- R526, R530: a page program or a block erase ends; `ok` tells that the status is good and the read-back equal. A program
that a clear found in progress is followed by the erases of the clear. -/
def execFlashProgramDone (d : Fin 2) (ok : Bool) (s : State) : Out :=
  .next (match (s.evr.log d.val).job, ok with
    | none, _ => s
    | some .clear, true => s
    | some _, false => (s.storeFail d.val (s.rd (posF d.val))).clearCheck
    | some (.program rs), true =>
      if s.evr.clearTo.isSome then s.setJob d.val (some .clear) else s.pageDone d.val rs
    | some .erase, true =>
      if s.evr.clearTo.isSome then s.setJob d.val (some .clear) else s.blockErased d.val)

/-- R530: a page program over 6 ms or an erase over 4 s fails the store. -/
def execFlashProgramTimeout (d : Fin 2) (s : State) : Out :=
  .next (if (s.evr.log d.val).job.isNone then s else (s.storeFail d.val (s.rd (posF d.val))).clearCheck)

/-- R528: the oldest record pending for the media store is 600 s old, or 1 s while both flash stores have failed. -/
def execMediaStoreAge (s : State) : Out :=
  .next (s.when (1 ≤ s.evrPending 2 ∧ s.storeFailed 2 = false) (State.raise 36))

/-- R522: a write of EVR_POSTc_CTL by core c commits a record. A write by another initiator, or severity 7, is refused. -/
def State.postOp (who : Init) (c : Fin 6) (code sev source : Nat) (s : State) : State :=
  if who.code ≠ c.val then s.refuse who (R.EVR_POST_CTL_code.at c.val)
  else if sev = 7 then s.refuse who (R.EVR_POST_CTL_sev.at c.val)
  else
    let p := fun k => s.rd ((R.EVR_POST_P_param.at c.val).plus (4 * k))
    s.evrPost code sev source false ((List.range 5).map (fun k => p (2 * k) + 2 ^ 32 * p (2 * k + 1)))

/-- R522. -/
def execEventPost (who : Init) (c : Fin 6) (code : BitVec 16) (sev : BitVec 3) (source : BitVec 8) (s : State) : Out :=
  .next (s.accept who (R.EVR_POST_CTL_code.at c.val) (State.postOp who c code.toNat sev.toNat source.toNat))

/-- R524: a core write to the always-on ring is dropped and counted. -/
def execAonRingWriteDrop (s : State) : Out := .next (s.evrCount R.EVR_CNT_dropped 1)

/-- The media store is marked failed, unless it already is (R530). The offset in 0xB001 is a flash offset, which the media
store has not: a free value. -/
def State.mediaFailOp (s : State) : State := if s.storeFailed 2 then s else s.used.storeFail 2 s.free.toNat

/-- R530: EVR_STORE_CTL.mfail. -/
def execEvrMediaFail (who : Init) (s : State) : Out := .next (s.accept who R.EVR_STORE_CTL_mfail State.mediaFailOp)

/-- Stores return to service, and each pointer resumes under R525 (R530). -/
def State.storeRetryOp (bits : Nat) (s : State) : State :=
  State.evrRefresh (s.forEach (bitsOf bits 3) (fun k s => (s.wrBit R.EVR_STAT_store_fail k false).storeLag k))

/-- R530: EVR_STORE_CTL.retry. -/
def execEvrStoreRetry (who : Init) (bits : BitVec 3) (s : State) : Out :=
  .next (s.accept who R.EVR_STORE_CTL_retry (State.storeRetryOp bits.toNat))

/-- EVR_CTL.en written (R531). -/
def State.evrEnableOp (en : Bool) (s : State) : State := (s.wrB R.EVR_CTL_en en).evrRefresh

/-- R531: EVR_CTL.en set; from now on each healthy store is written from its pointer. -/
def execEvrEnable (who : Init) (s : State) : Out := .next (s.accept who R.EVR_CTL_en (State.evrEnableOp true))

/-- Whether a record is erased by the floor or stale (R523, R533). -/
def State.recordGone (s : State) (n : Nat) : Bool :=
  !seqBefore (s.rd R.EVR_CLR_FLOOR_floor) n || decide (2 ^ 30 ≤ seqFrom n s.evrSeq)

/-- The lowest sequence number held in the ring, in a flash log or, as told, in the media store (R532). -/
def State.lowestHeld (s : State) (media : Option Word) : Option Nat :=
  let l := (s.evr.ring ++ s.evr.log0.area ++ s.evr.log1.area).map (fun e => e.2.seq) ++ (media.map (·.toNat)).toList
  (l.filter (fun n => !s.recordGone n)).foldl
    (fun m n => some (m.elim n (fun k => if seqBefore n k then n else k))) none

/-- A clear of the log (R532). -/
def State.clearOp (who : Init) (media : Option Word) (s : State) : State :=
  if s.rdB R.EVR_STAT_clearing then s.refuse who R.EVR_CLR_go
  else
    let n := (s.evrSeq + 2 ^ 32 - 1) % 2 ^ 32
    let low := (s.lowestHeld media).getD s.free.toNat
    let s := (s.used.wr R.EVR_STAT_clearing 1).updEvr (fun e => { e with clearTo := some n })
    let s := s.hwPost 0xB002 4 4 [low, n, who.code, s.uid, 0]
    let s := s.wr R.EVR_CLR_FLOOR_floor n
    let s := s.updEvr (fun e => { e with ring := e.ring.filter (fun x => seqBefore n x.2.seq) })
    let s := s.forEach ([0, 1].filter (fun d => !s.storeFailed d)) (fun d s =>
      let s := s.wr (evrNextF d) ((n + 1) % 2 ^ 32)
      s.when ((s.evr.log d).job = none ∧ s.evrHeldOff = false) (State.setJob d (some .clear)))
    if s.evrHeldOff then s else s.clearCheck

/-- R532: EVR_CLR.go, unlocked in SERVICE only. -/
def execLogClear (who : Init) (media : Option Word) (s : State) : Out :=
  .next (s.acceptRwl who R.EVR_CLR_go (State.clearOp who media))

/-- R532: the last erase of a clear has ended. Every healthy device's area is empty. -/
def execLogClearDone (s : State) : Out :=
  let idle := fun j : Option FlashJob => j == none || j == some .clear
  .next (if s.evr.clearTo.isSome && idle s.evr.log0.job && idle s.evr.log1.job && !s.evrHeldOff then
    State.clearEnd (s.forEach ([0, 1].filter (fun d => !s.storeFailed d)) (fun d s =>
      s.updLog d (fun _ => ⟨[], none, true⟩)))
  else s)

end Sys2Proof.Machine
end

