-- ==== Sys2Proof/Machine/MediaFx.lean ====
section
/-! DEFINITION. The revolution boundary of R17 as the blocks see it, and the observer's revolution mark (R293). -/
namespace Sys2Proof.Machine

/-- Gauge lock, as GCK_STAT shows it (R116). -/
def State.gaugeLock (s : State) : Bool := s.rdB R.GCK_STAT_lock

/-- What a revolution boundary triggers: the channels count revolutions spent in recovery, a sequencer counts the
revolutions since its first write fault (R218), and slots 15 to 23 with trig 0 sample (R260). -/
def State.triggerRevolution (s : State) : State :=
  let s := s.rchRevolution
  let s := s.forEach [.a, .b] (fun x s => s.updMsq x (fun m => { m with faultRevs := m.faultRevs.map (· + 1) }))
  s.slotTriggerBy 0

/-- A wrap of Drive Phase under lock triggers slot 14, the spindle speed loop (R260, R133). -/
def State.triggerWrap (s : State) : State := s.slotTrigger 14 true

/-- R293: the observer's mark, the revolution boundary while the gauge is not locked. Drive Phase is 0 there where the
observer supplies it (R121). The zero crossing that falls with it belongs to the PWM period that passed it. -/
def execObserverMark (s : State) : Out :=
  .next (if s.gaugeLock then s
    else
      let s := s.when (s.rd R.GCK_STAT_dp_src = 2) (State.wr R.GCK_DPHASE_dphase 0)
      ((s.applyShadows (fun f => f.shadowAt .revolution)).spindleLockCheck).triggerRevolution)

end Sys2Proof.Machine
end

