-- ==== Sys2Proof/Machine/Gck.lean ====
section
/-! DEFINITION. The gauge timebase (spec/04_gauge_timebase.md): loading, lock, changeover and the spare monitor. The
transitions are those of R118. -/
namespace Sys2Proof.Machine

/-- The states of GCK_STAT.state. -/
inductive GckSt where
  | off | load | acq | index | locked | hold | switch | fault | unload
  deriving DecidableEq, Repr

/-- The encoding of GCK_STAT.state. -/
def GckSt.code : GckSt → Nat
  | .off => 0
  | .load => 1
  | .acq => 2
  | .index => 3
  | .locked => 4
  | .hold => 5
  | .switch => 6
  | .fault => 7
  | .unload => 8

/-- Whether GCK is in a state. -/
def State.gckIs (s : State) (x : GckSt) : Bool := s.rd R.GCK_STAT_state == x.code

/-- The active gauge head. -/
def State.gckActive (s : State) : GaugeHead := if s.rdB R.GCK_STAT_active then .spare else .primary

/-- Whether a gauge head counts as flying (R115). -/
def State.gaugeFlying (s : State) : GaugeHead → Bool
  | .primary => s.rdB R.GCK_STAT_prim_fly
  | .spare => s.rdB R.GCK_STAT_spare_fly

/-- The amplitude code of a gauge head. -/
def State.gaugeAmp (s : State) : GaugeHead → Nat
  | .primary => s.rd R.GCK_AMP_prim_amp
  | .spare => s.rd R.GCK_AMP_spare_amp

/-- A measured amplitude of a gauge head is shown in GCK_AMP. -/
def State.setGaugeAmp (h : GaugeHead) (amp : BitVec 8) (s : State) : State :=
  match h with
  | .primary => s.wr R.GCK_AMP_prim_amp amp.toNat
  | .spare => s.wr R.GCK_AMP_spare_amp amp.toNat

/-- Whether a gauge head has been active in the current sequence (R118). -/
def State.gaugeTried (s : State) : GaugeHead → Bool
  | .primary => s.gck.primTried
  | .spare => s.gck.spareTried

/-- A gauge head counts as tried. -/
def State.markTried (h : GaugeHead) (s : State) : State :=
  match h with
  | .primary => { s with gck := { s.gck with primTried := true } }
  | .spare => { s with gck := { s.gck with spareTried := true } }

/-- The active gauge head is set. -/
def State.setActive (h : GaugeHead) (s : State) : State := (s.wr R.GCK_STAT_active h.code).markTried h

/-- spare_ok falls, raising source 58 (R134, R139). -/
def State.spareOkOff (s : State) : State :=
  let s := { s with gck := { s.gck with spareSeen := false } }
  s.when (s.rdB R.GCK_STAT_spare_ok = true) (fun s => (s.wr R.GCK_STAT_spare_ok 0).raise 58)

/-- Gauge lock falls: the write gates close (R193), SRV leaves GAUGE (R244) and the angle's valid mark falls with it (R133). -/
def State.gaugeLockOff (s : State) : State :=
  if s.gaugeLock then State.readyNote s (((s.wr R.GCK_STAT_lock 0).wchGaugeLost).srvLockLost) else s

/-- The source of Drive Phase changes outside lock; the step is a value the spec leaves open (R121, DESIGN CHOICE, assumption 6). -/
def State.phaseSource (n : Nat) (s : State) : State :=
  if s.rd R.GCK_STAT_dp_src = n then s
  else ((s.wr R.GCK_STAT_dp_src n).wr R.GCK_DP_STEP_step s.free.toNat).used

/-- GCK enters a state in which the observer supplies Drive Phase (R121) and lock is withdrawn (R116). -/
def State.gckEnter (x : GckSt) (s : State) : State :=
  ((s.wr R.GCK_STAT_state x.code).gaugeLockOff).phaseSource 2

/-- FAULT is entered, raising source 57 (R139). -/
def State.gckFault (s : State) : State := (s.gckEnter .fault).raise 57

/-- ACQ is entered. -/
def State.gckAcq (s : State) : State :=
  let s := s.gckEnter .acq
  { s with gck := { s.gck with dueCount := none } }

/-- SWITCH is entered: lock is withdrawn, Drive Phase goes on at the holdover count (R135), source 55. -/
def State.gckSwitch (s : State) : State :=
  let s := (((s.wr R.GCK_STAT_state GckSt.switch.code).gaugeLockOff).phaseSource 1).raise 55
  { s with gck := { s.gck with switchHeld := false } }

/-- A failed attempt proceeds as the first case of R118 that applies. -/
def State.gckFailed (s : State) : State :=
  let h := s.gckActive
  let other := s.rdB R.GCK_CTL_auto_spare && s.gaugeFlying h.other && !s.gaugeTried h.other
  if other && decide (s.gaugeAmp h < s.rd R.GCK_LOSS_CFG_amp_min) then s.gckSwitch
  else if 0 < s.rd R.GCK_STAT_tries_left then
    (s.wr R.GCK_STAT_tries_left (s.rd R.GCK_STAT_tries_left - 1)).gckAcq
  else if other then s.gckSwitch
  else s.gckFault

/-- The load outputs are driven and LOAD is entered; a new sequence begins (R115, R118). -/
def State.gckLoad (s : State) : State :=
  let first : GaugeHead := if !s.gck.primFitted && s.gck.spareFitted then .spare else .primary
  let both := first == GaugeHead.primary && s.rdB R.GCK_CTL_spare_mon && s.gck.spareFitted
  let s := { s with gck := { s.gck with
    primDriven := first == GaugeHead.primary, spareDriven := first == GaugeHead.spare || both, primTried := false, spareTried := false,
    frameOfs := 0 } }
  ((s.setActive first).wr R.GCK_STAT_tries_left (s.rd R.GCK_LOSS_CFG_tries)).gckEnter .load

/-- Both heads are unloaded: the outputs are no longer driven, the fly bits fall, lock is withdrawn (R115, R118). -/
def State.gckUnload (s : State) : State :=
  let s := { s with gck := { s.gck with primDriven := false, spareDriven := false } }
  (((s.wr R.GCK_STAT_prim_fly 0).wr R.GCK_STAT_spare_fly 0).spareOkOff).gckEnter .unload

/-- The unload condition of R115 acts in every state but OFF and UNLOAD. -/
def State.gckUnloadIfLoaded (s : State) : State :=
  if s.gckIs .off || s.gckIs .unload then s else s.gckUnload

/-- The speed SPM reports, in rpm. -/
def State.spindleRpm (s : State) : Nat := s.rd R.SPM_SPEED_rpm

/-- The lock threshold in Drive Phase units: lock_win is in 1/1,024 gauge cycle (R118). -/
def State.lockWinDp (s : State) : Nat := s.rd R.GCK_PLL_CFG_lock_win * 64

/-- Drive Phase units from b to a, as a signed difference. -/
def dpDiff (a b : Nat) : Int := signedOf 32 (twosOf 32 ((a : Int) - (b : Int)))

/-- LOCKED is entered: lock is asserted, Drive Phase comes from the gauge with the step recorded, source 52 (R118, R121);
the revolution period restarts (R123) and SRV may enter GAUGE (R244). A lock instant at Drive Phase 0 is a wrap. -/
def State.gckLocked (stepNow : Option Word) (s : State) : State :=
  let s := State.readyNote s (((s.wr R.GCK_STAT_state GckSt.locked.code).wr R.GCK_STAT_lock 1).wr R.GCK_STAT_dp_src 0)
  let s := match stepNow with
    | some v => s.wr R.GCK_DP_STEP_step v.toNat
    | none => s
  let s := { s with gck := { s.gck with missing := 0, captured := false, spareSeen := false } }
  ((s.wr R.GCK_REV_PERIOD_period 0).raise 52).when (s.gck.frameOfs = 0) State.triggerWrap

/-- A loss on the active head in LOCKED: HOLD, lock withdrawn, source 53 (R117, R118). -/
def State.gckLoss (s : State) : State :=
  ((((s.wr R.GCK_STAT_state GckSt.hold.code).inc R.GCK_EVT_CNT_loss 1).gaugeLockOff).phaseSource 1).raise 53

/-- A revolution of the active head since the spare's capture: it is fresh while less than 2 revolutions old, and a capture at a negative offset
stands just before the index of its own revolution (R134). -/
def State.spareOlder (s : State) : State :=
  let age := s.gck.spareAge + 1
  let s := { s with gck := { s.gck with spareAge := age } }
  s.when ((if s.rdI R.GCK_SPARE_MEAS_meas_ofs < 0 then 3 else 2) ≤ age) (State.wr R.GCK_SPARE_MEAS_fresh 0)

/-- The index while LOCKED: Drive Time is captured and the revolution boundary passes (R123, R17, R133). -/
def State.gckIndexLocked (s : State) : State :=
  let prev := s.rd64 R.GCK_IDX_DT_dt
  let now := s.driveTime
  let s := (s.wr64 R.GCK_IDX_DT_dt now).wr R.GCK_REV_PERIOD_period
    (if s.gck.captured then min (now - prev) (2 ^ 32 - 1) else 0)
  let s := State.spareOlder { s with gck := { s.gck with missing := 0, captured := true } }
  let s := s.applyShadows (fun f => f.shadowAt .revolution)
  ((s.spindleLockCheck).triggerRevolution).when (s.gck.frameOfs = 0) State.triggerWrap

/-! ## Operations of GCK_CTL, at the instant the write reaches the block -/

/-- GCK_CTL.load: refused below load_rpm; OFF with en = 1 goes to LOAD (R115, R118). -/
def State.gckLoadOp (who : Init) (s : State) : State :=
  if s.spindleRpm < s.rd R.GCK_LOAD_CFG_load_rpm then s.refuse who R.GCK_CTL_load
  else if s.gckIs .off && s.rdB R.GCK_CTL_en then s.gckLoad else s

/-- GCK_CTL.swap: SWITCH from LOCKED or HOLD with the other head flying; refused otherwise (R118, R136). -/
def State.gckSwapOp (who : Init) (s : State) : State :=
  if (s.gckIs .locked || s.gckIs .hold) && s.gaugeFlying s.gckActive.other then s.gckSwitch
  else s.refuse who R.GCK_CTL_swap

/-- The offset of the spare's index in the primary's frame (R135). -/
def State.spareFrame (s : State) : Int :=
  if s.rdB R.GCK_SPARE_MEAS_fresh then s.rdI R.GCK_SPARE_MEAS_meas_ofs else s.rdI R.GCK_SPARE_OFS_ofs

/-- GCK_CTL.relock: a new sequence in ACQ from FAULT with a head flying; refused otherwise (R118). -/
def State.gckRelockOp (who : Init) (s : State) : State :=
  if s.gckIs .fault && (s.gaugeFlying .primary || s.gaugeFlying .spare) then
    let head : GaugeHead := if s.gaugeFlying .primary then .primary else .spare
    let ofs : Int := if s.gaugeFlying .primary then 0 else s.spareFrame
    let s := { s with gck := { s.gck with primTried := false, spareTried := false, frameOfs := ofs } }
    ((s.setActive head).wr R.GCK_STAT_tries_left (s.rd R.GCK_LOSS_CFG_tries)).gckAcq
  else s.refuse who R.GCK_CTL_relock

/-- GCK_CTL.en cleared or srst set (R118, R15). -/
def State.gckDisableOp (srst : Bool) (s : State) : State :=
  if srst then
    let s := (s.gckUnloadIfLoaded).blockReset 7 R.GCK_CTL_srst
    { s with gck := { GckState.init with primFitted := s.gck.primFitted, spareFitted := s.gck.spareFitted } }
  else ((s.wr R.GCK_CTL_en 0).ownerFlush).gckUnloadIfLoaded

/-! ## Commands -/

/-- R115: the speed has reached load_rpm while en and auto_load are 1; OFF goes to LOAD. -/
def execGaugeLoadSpeed (s : State) : Out :=
  .next (s.when ((s.gckIs .off && s.rdB R.GCK_CTL_en && s.rdB R.GCK_CTL_auto_load
    && decide (s.rd R.GCK_LOAD_CFG_load_rpm ≤ s.spindleRpm)) = true) State.gckLoad)

/-- R115: the speed has fallen below unload_rpm. -/
def execGaugeUnloadSpeed (s : State) : Out :=
  .next (s.when (s.spindleRpm < s.rd R.GCK_LOAD_CFG_unload_rpm) State.gckUnloadIfLoaded)

/-- R115, GCK_CTL.load: load now; refused below load_rpm; OFF with en = 1 goes to LOAD. -/
def execGckLoadCmd (who : Init) (s : State) : Out := .next (s.accept who R.GCK_CTL_load (State.gckLoadOp who))

/-- R115, GCK_CTL.unload. -/
def execGckUnloadCmd (who : Init) (s : State) : Out := .next (s.accept who R.GCK_CTL_unload State.gckUnloadIfLoaded)

/-- R118, R136, GCK_CTL.swap: in LOCKED or HOLD with the other head flying, SWITCH; refused otherwise. -/
def execGckSwapCmd (who : Init) (s : State) : Out := .next (s.accept who R.GCK_CTL_swap (State.gckSwapOp who))

/-- R118, GCK_CTL.relock: in FAULT with a head flying, a new sequence begins in ACQ; refused otherwise. A relock on the
spare keeps the primary's frame at the offset of R135. -/
def execGckRelockCmd (who : Init) (s : State) : Out := .next (s.accept who R.GCK_CTL_relock (State.gckRelockOp who))

/-- R118, last row: en cleared or srst set. The heads unload, and a soft reset returns the block's registers to their
reset values while the outputs stay at the unload level (R15). -/
def execGckDisable (_who : Init) (srst : Bool) (s : State) : Out := .next (s.gckDisableOp srst)

/-- R115: the fly bit rises 20 ms after the head's load output is driven. -/
def execGaugeHeadFlying (head : GaugeHead) (s : State) : Out :=
  .next (match head with
    | .primary => s.when (s.gck.primDriven = true) (State.wr R.GCK_STAT_prim_fly 1)
    | .spare => s.when (s.gck.spareDriven = true) (State.wr R.GCK_STAT_spare_fly 1))

/-- R118, LOAD: amplitude at or above amp_min for 256 cycles on the active head. -/
def execGaugeAmplitudeOk (amp : BitVec 8) (s : State) : Out :=
  .next (if s.gckIs .load && decide (s.rd R.GCK_LOSS_CFG_amp_min ≤ amp.toNat) then
    (s.setGaugeAmp s.gckActive amp).gckAcq else s)

/-- R118, LOAD: 50 ms have passed without that. -/
def execGaugeLoadTimeout (s : State) : Out :=
  .next (if s.gckIs .load then
      if s.gaugeFlying .spare && s.rdB R.GCK_CTL_auto_spare && s.gckActive == .primary then (s.setActive .spare).gckAcq
      else s.gckFault.raise 61
    else s)

/-- R118, ACQ: 4,096 consecutive cycles within lock_win. -/
def execGaugePhaseLock (s : State) : Out :=
  .next (if s.gckIs .acq then
      let s := s.gckEnter .index
      { s with gck := { s.gck with dueCount := none } }
    else s)

/-- R118, ACQ: 2 revolutions at SPM speed have passed, and no capture of the spare is fresh any more (R134). -/
def execGaugeAcqTimeout (amp : BitVec 8) (s : State) : Out :=
  .next (if s.gckIs .acq then ((s.setGaugeAmp s.gckActive amp).wr R.GCK_SPARE_MEAS_fresh 0).gckFailed else s)

/-- The gauge count at which the active head's index falls: the end of cycle 65,535 in the primary's frame, and the offset
of R135 when the spare keeps that frame. -/
def State.frameCount (s : State) : Nat :=
  if s.gck.frameOfs = 0 then 65535 else (twosOf 32 s.gck.frameOfs / 65536) % 65536

/-- R117, R118, R123, R135: an index on the active gauge head (or, in SWITCH, on the new head, where one away from its place once the phase is
held is a cycle slip), detected at a gauge count and Drive Phase, ns of Drive Time
after the time last advanced; step is the Drive Phase step that asserting lock makes. -/
def execGaugeIndex (count : BitVec 16) (phase step : Word) (ns : BitVec 32) (s : State) : Out :=
  let s := s.advance ns.toNat
  .next (
    if s.gckIs .index then
      let s := s.spareOlder
      match s.gck.dueCount with
      | none => { s with gck := { s.gck with dueCount := some s.frameCount } }
      | some due => if count.toNat = due then (s.wr R.GCK_DPHASE_dphase (twosOf 32 s.gck.frameOfs)).gckLocked (some step)
          else s.gckFailed
    else if s.gckIs .locked then
      if count.toNat = s.frameCount then (s.wr R.GCK_DPHASE_dphase (twosOf 32 s.gck.frameOfs)).gckIndexLocked else s.gckLoss
    else if s.gckIs .switch && s.gck.switchHeld then
      if (dpDiff phase.toNat (twosOf 32 s.gck.switchOfs)).natAbs ≤ s.lockWinDp then
        let s := { s with gck := { s.gck with frameOfs := s.gck.switchOfs } }
        let s := (s.setActive s.gckActive.other).inc R.GCK_EVT_CNT_switch 1
        ((s.wr R.GCK_DPHASE_dphase phase.toNat).raise 56).gckLocked none
      else (s.inc R.GCK_EVT_CNT_loss 1).gckFault
    else s)

/-- R118: no index within 65,600 cycles, a failed attempt in INDEX and FAULT in SWITCH. -/
def execGaugeIndexTimeout (amp : BitVec 8) (s : State) : Out :=
  .next (if s.gckIs .index then (s.setGaugeAmp s.gckActive amp).spareOlder.gckFailed
    else if s.gckIs .switch then s.spareOlder.gckFault else s)

/-- R117: an expected index is absent in LOCKED. The first is counted and raises source 54; absent in two consecutive
revolutions it is a loss. -/
def execGaugeIndexMissing (s : State) : Out :=
  .next (if s.gckIs .locked then
      if s.gck.missing = 0 then
        let s := { s with gck := { s.gck with missing := 1 } }
        (s.inc R.GCK_EVT_CNT_idx_miss 1).raise 54
      else s.gckLoss
    else s)

/-- R117: an amplitude or phase-error criterion is met on the active head, or on the new head in SWITCH (R118). -/
def execGaugeLoss (amp : BitVec 8) (s : State) : Out :=
  .next (if s.gckIs .locked then (s.setGaugeAmp s.gckActive amp).gckLoss
    else if s.gckIs .switch then ((s.setGaugeAmp s.gckActive.other amp).inc R.GCK_EVT_CNT_loss 1).gckFault
    else s)

/-- R118, HOLD: hold_max × 256 cycles have passed. The free-running count is kept, so the next index is due at the
frame's count. -/
def execGaugeHoldEnd (amp : BitVec 8) (phaseOk : Bool) (s : State) : Out :=
  .next (if s.gckIs .hold then
      let s := s.setGaugeAmp s.gckActive amp
      if phaseOk && decide (s.rd R.GCK_LOSS_CFG_amp_min ≤ amp.toNat) then
        let s := s.gckEnter .index
        { s with gck := { s.gck with dueCount := some s.frameCount } }
      else s.gckFailed
    else s)

/-- R135: the PLL has held the new head's phase for 1,024 cycles; the DCO phase is set to it plus ofs and the step is
recorded. -/
def execSwitchPhaseLock (step : Word) (s : State) : Out :=
  .next (if s.gckIs .switch && !s.gck.switchHeld then
      let ofs : Int := match s.gckActive.other with
        | .primary => 0
        | .spare => s.spareFrame
      let s := { s with gck := { s.gck with switchHeld := true, switchOfs := ofs } }
      s.wr R.GCK_DP_STEP_step step.toNat
    else s)

/-- R118, R135: SWITCH without lock after one revolution plus 1,024 cycles. -/
def execSwitchTimeout (s : State) : Out := .next (if s.gckIs .switch then s.spareOlder.gckFault else s)

/-- R118, UNLOAD: 20 ms have passed. -/
def execGaugeUnloadDone (s : State) : Out :=
  .next (if s.gckIs .unload then (s.wr R.GCK_STAT_state GckSt.off.code).raise 62 else s)

/-- R134: an index on the monitored spare, at a Drive Phase, and apart from the spare's previous index by 65,536 cycles
plus a signed distance in Drive Phase units. -/
def execSpareIndex (phase : Word) (apart : BitVec 32) (s : State) : Out :=
  .next (if s.gckIs .locked && s.gckActive == .primary && s.gaugeFlying .spare then
      let good := s.gck.spareSeen && decide ((dpDiff apart.toNat 0).natAbs ≤ s.lockWinDp)
      let s := (s.wrI R.GCK_SPARE_MEAS_meas_ofs (signedOf 24 phase.toNat)).wr R.GCK_SPARE_MEAS_fresh 1
      let s := { s with gck := { s.gck with spareSeen := true, spareAge := 0 } }
      s.when (good = true) (State.wr R.GCK_STAT_spare_ok 1)
    else s)

/-- R134: the monitored spare meets a criterion of R117. -/
def execSpareGaugeLoss (amp : BitVec 8) (s : State) : Out :=
  .next (if s.gckIs .locked && s.gckActive == .primary && s.gaugeFlying .spare then
      (s.setGaugeAmp .spare amp).spareOkOff else s)

end Sys2Proof.Machine
end

