-- ==== Sys2Proof/Machine/ThmFx.lean ====
section
/-! DEFINITION. What THM starts in hardware (spec/17_thermal_squall.md): the shutdown sequence (R474, R475) and the squall
sequence (R479). -/
namespace Sys2Proof.Machine

/-- THM's state beyond its registers updated. -/
def State.updThm (f : ThmState → ThmState) (s : State) : State := { s with thm := f s.thm }

/-- A counter of THM raised; source 30 when it reaches saturation (R484). -/
def State.thmCount (f : Field) (s : State) : State :=
  let t := s.inc f 1
  t.when (t.rd f = 2 ^ f.w - 1 ∧ s.rd f ≠ 2 ^ f.w - 1) (State.raise 30)

/-- The causes of the shutdown sequence (R474). -/
inductive SdCause where
  | abs | rise | diode | sensor | request
  deriving DecidableEq, Repr

/-- The encoding of THM_STAT.sd_cause. -/
def SdCause.code : SdCause → Nat
  | .abs => 1
  | .rise => 2
  | .diode => 3
  | .sensor => 4
  | .request => 5

/-- Both sequencers enter STOPPED and recording stops on every writing channel with a cause of R199; a calibration run ends
with STOPPED (R193, R225, R516). A firmware activation in progress is over (R81). -/
def State.stopMedia (cause : Nat) (s : State) : State :=
  let s := s.updHost (fun h => { h with activation := none })
  (((s.wchStopAll cause chans8).msqStop .a).msqStop .b).calStop

/-- The shutdown sequence starts, unless it runs already or the latch is set (R474, R475 steps 1 and 2). -/
def State.sdStart (cause : SdCause) (sensor : Nat) (s : State) : State :=
  if s.rdB R.THM_STAT_sd_seq || s.rdB R.THM_STAT_latched then s
  else
    let s := ((s.wr R.THM_STAT_sd_seq 1).wr R.THM_STAT_sd_cause cause.code).wr R.THM_STAT_sd_sensor sensor
    let s := (s.wr R.THM_AON_STAT_sd_cause cause.code).wr R.THM_STAT_flash 0
    ((s.updThm (fun t => { t with sdRetract := false })).raise 26).stopMedia 4

/-- Every head of an actuator is set to PA_HCTL mode 0 (R475). -/
def State.headsOff (x : Act) (s : State) : State :=
  s.forEach (s.actHeads x) (fun h s => s.hlPush x (hlWrite 3 (s.headPos h) 0x10 0))

/-- Step 4 of the shutdown sequence (R475). -/
def State.sdRetractOp (s : State) : State :=
  let s := s.updThm (fun t => { t with sdRetract := true })
  let s := ((s.actRetract .a).actRetract .b).gckUnloadIfLoaded
  (s.headsOff .a).headsOff .b

/-- Step 5: the latch, the shutdown brake, P3 and the record (R475, R477). -/
def State.sdLatchOp (s : State) : State :=
  let s := ((s.wr R.THM_STAT_latched 1).wr R.THM_STAT_sd_seq 0).wr R.THM_STAT_retracted 1
  let s := (s.wr R.THM_AON_STAT_sd 1).wr R.THM_AON_STAT_sd_cause (s.rd R.THM_STAT_sd_cause)
  let s := (s.spmLatch).hwPost 0x2001 6 3
    [s.rd R.THM_STAT_sd_cause, s.rd R.THM_STAT_sd_sensor, s.rd R.THM_MAX_tmax, s.rd R.THM_STAT_flash, 0]
  (s.statusRise 27).thmHoldP3

/-- The squall sequence (R479). How the record tells the inputs tripped is open. -/
def State.squallOp (s : State) : State :=
  let s := ((s.wr R.THM_STAT_squall 1).raise 28).wr R.THM_AON_STAT_sq 1
  let s := (s.thmCount R.THM_CNT_squalls).stopMedia 3
  let s := ((s.actRetract .a).actRetract .b).spmSquall
  let s := (s.gckUnloadIfLoaded).updThm (fun t => { t with sqSeq := true })
  (s.used.hwPost 0x2002 5 3 [s.free.toNat, s.rd R.THM_STAT_latched, 0, 0, 0]).thmHoldP3

end Sys2Proof.Machine
end

