-- ==== Sys2Proof/Machine/Thm.lean ====
section
/-! DEFINITION. THM's commands (spec/17_thermal_squall.md): conversions with their thresholds, rises and throttling (R468 to
R472), and the steps of the shutdown and squall sequences (R474 to R482). -/
namespace Sys2Proof.Machine

/-! ## Conversions (R468, R469) -/

/-- The registers that show an input: 0 to 15 on-die sensors, 16 to 19 diodes. -/
def inputValid (i : Nat) : Field := if i < 16 then R.THM_SENS_valid.at i else R.THM_DIODE_valid.at (i - 16)

/-- The value register of an input. -/
def inputValue (i : Nat) : Field := if i < 16 then R.THM_SENS_value.at i else R.THM_DIODE_value.at (i - 16)

/-- Whether a conversion is good: a value from −40 °C to 150 °C, and for a diode neither open nor shorted (R469). -/
def convGood : Option Int → Bool
  | some v => decide (-640 ≤ v ∧ v ≤ 2400)
  | none => false

/-- One input converted: in 1/16 °C, or none where it is found open or shorted. The value is the mean of the last eight
conversions, whose rounding is open (R468); validity follows R469. -/
def State.thmInput (i : Fin 20) (c : Option Int) (s : State) : State :=
  let u := s.thm.inputs[i]
  let conv := match c with
    | some v => (v :: u.conv).take 8
    | none => u.conv
  let good := if convGood c then min 8 (u.good + 1) else 0
  let s := s.updThm (fun t => { t with inputs := t.inputs.set i ⟨conv, good⟩ })
  let s := if conv.isEmpty then s else (s.wrI (inputValue i.val) (s.quot conv.sum ((conv.length : Nat) : Int))).used
  let s := s.when (16 ≤ i.val) (State.wrB (R.THM_DIODE_open.at (i.val - 16)) c.isNone)
  if s.rdB (inputValid i.val) then
    if convGood c then s else ((s.wr (inputValid i.val) 0).thmCount R.THM_CNT_fault).raise 30
  else s.when (good = 8) (State.wr (inputValid i.val) 1)

/-- The inputs. -/
def thmInputs : List (Fin 20) := [0, 1, 2, 3, 4, 5, 6, 7, 8, 9, 10, 11, 12, 13, 14, 15, 16, 17, 18, 19]

/-- The values of the valid on-die sensors now. -/
def State.sensorsNow (s : State) : List (Option Int) :=
  (List.range 16).map (fun i => if s.rdB (inputValid i) then some (s.rdI (inputValue i)) else none)

/-- The rises over n conversions, with their sensors (R471). -/
def State.rises (s : State) (n : Nat) : List (Nat × Int) :=
  (List.range 16).filterMap (fun i =>
    match (s.thm.hist.headD []).getD i none, (s.thm.hist.getD n []).getD i none with
    | some a, some b => some (i, a - b)
    | _, _ => none)

/-- The largest rise; 0 where none is computed. -/
def largest (l : List (Nat × Int)) : Int :=
  match l with
  | [] => 0
  | x :: xs => xs.foldl (fun m p => max m p.2) x.2

/-- Tmax with its sensor, the lowest numbered at a tie (R470). -/
def State.tmax (s : State) : Option (Nat × Int) :=
  (List.range 16).foldl (fun m i =>
    if s.rdB (inputValid i) then
      let v := s.rdI (inputValue i)
      match m with
      | some p => if p.2 < v then some (i, v) else some p
      | none => some (i, v)
    else m) none

/-- The valid diodes used in thresholds with a threshold of theirs in 1/16 °C; 0 disables it (R470, R474). -/
def State.diodes (s : State) (thr : Field) : List (Nat × Int × Int) :=
  (List.range 4).filterMap (fun n =>
    if s.rdB (R.THM_DIODE_valid.at n) && s.rdB (R.THM_DIODE_CFG_en.at n) && s.rdB (thr.at n) then
      some (n, s.rdI (R.THM_DIODE_value.at n), 16 * ((s.rd (thr.at n) : Nat) : Int))
    else none)

/-- A temperature limit in 1/16 °C. -/
def State.limit (s : State) (f : Field) : Int := 16 * ((s.rd f : Nat) : Int)

/-- The warning condition (R470). -/
def State.warnOp (s : State) : State :=
  match s.tmax with
  | none => s
  | some (_, t) =>
    let w := s.limit R.THM_LIMITS_warn
    if s.rdB R.THM_STAT_warn then
      if t ≤ w - s.limit R.THM_THR_CFG_hyst then (s.wr R.THM_STAT_warn 0).raise 24 else s
    else if w ≤ t then ((s.smartRise 1 (s.rdB R.THM_THR_STAT_level) true).wr R.THM_STAT_warn 1).raise 24 else s

/-- The throttle demand after a conversion (R470, R471). -/
def State.demandNow (s : State) : Bool :=
  let slow := (s.rises 1000).any (fun r => decide (((s.rd R.THM_RATE_CFG_slow : Nat) : Int) < r.2))
  let hyst := s.limit R.THM_THR_CFG_hyst
  let thr := s.limit R.THM_LIMITS_throttle
  let ds := s.diodes R.THM_DIODE_CFG_thr
  let enter := s.tmax.elim false (fun p => decide (thr ≤ p.2)) || slow || ds.any (fun d => decide (d.2.2 ≤ d.2.1))
  enter || (s.thm.demand &&
    (s.tmax.elim false (fun p => decide (thr - hyst < p.2)) || ds.any (fun d => decide (d.2.2 - hyst < d.2.1))))

/-- The throttle level steps towards max under the demand and towards floor without it, at the spacing of step_ms (R472). -/
def State.levelStep (s : State) : State :=
  let target := if s.thm.demand then s.rd R.THM_THR_CFG_max else s.rd R.THM_THR_CFG_floor
  let cur := s.rd R.THM_THR_STAT_level
  let due := s.thm.sinceStep.elim true (fun n => decide (s.rd R.THM_THR_CFG_step_ms ≤ n))
  if due && cur != target then
    let s := (s.wr R.THM_THR_STAT_level (if cur < target then cur + 1 else cur - 1)).updThm
      (fun t => { t with sinceStep := some 0 })
    let s := s.updHost (fun h => { h with throttled := true })
    ((s.smartRise 1 (s.rdB R.THM_STAT_warn || cur != 0) true).thmCount R.THM_CNT_levels).raise 25
  else s

/-- The shutdown triggers that a conversion can show, in the order of R474. -/
def State.sdTrigger (s : State) : Option (SdCause × Nat) :=
  let fast : Int := ((s.rd R.THM_RATE_CFG_fast : Nat) : Int)
  match s.tmax.filter (fun p => decide (s.limit R.THM_LIMITS_shutdown ≤ p.2)) with
  | some p => some (.abs, p.1)
  | none =>
    match (s.rises 100).find? (fun r => decide (fast < r.2)) with
    | some r => some (.rise, r.1)
    | none =>
      ((s.diodes R.THM_DIODE_CFG_sd).find? (fun d => decide (d.2.2 ≤ d.2.1))).map (fun d => (.diode, 16 + d.1))

/-- What follows the conversions of one ms: Tmax, the rises, the warning, the throttle level and the shutdown triggers (R470
to R474). -/
def State.thmJudge (s : State) : State :=
  let s := s.updThm (fun t => { t with hist := (s.sensorsNow :: t.hist).take 1001, sinceStep := t.sinceStep.map (· + 1) })
  let s := match s.tmax with
    | some (i, t) => (s.wrI R.THM_MAX_tmax t).wr R.THM_MAX_sensor i
    | none => s
  let s := (s.wrI R.THM_RISE_slow (largest (s.rises 1000))).wrI R.THM_RISE_fast (largest (s.rises 100))
  let s := s.warnOp
  let s := s.updThm (fun t => { t with demand := s.demandNow })
  let s := s.levelStep
  match s.sdTrigger with
  | some (c, n) => s.sdStart c n
  | none => s

/-- R468 to R472: the conversions of one ms; in Doldrums THM is off (R454). -/
def execThmConversion (conv : List (Option Int)) (s : State) : Out :=
  .next (if s.islandOff .system then s
    else (s.forEach thmInputs (fun i s => s.thmInput i (conv.getD i.val none))).thmJudge)

/-! ## Shutdown (R474 to R477) -/

/-- THM_CTL.sd_req: refused outside MANUFACTURE and SERVICE. The sensor of a request is open (R474). -/
def State.sdReqOp (who : Init) (s : State) : State :=
  if s.lc = .manufacture ∨ s.lc = .service then s.used.sdStart .request (s.free.toNat % 32) else s.refuse who R.THM_CTL_sd_req

/-- R474. -/
def execThmShutdownRequest (who : Init) (s : State) : Out := .next (s.accept who R.THM_CTL_sd_req (State.sdReqOp who))

/-- R474: no on-die sensor has been valid for 100 ms. The sensor that the status names is open. -/
def execSensorTimeout (s : State) : Out :=
  .next (if (List.range 16).any (fun i => s.rdB (inputValid i)) then s else s.used.sdStart .sensor (s.free.toNat % 32))

/-- Whether a flash program or erase of the event stores is in progress. -/
def State.flashBusy (s : State) : Bool := s.evr.log0.job.isSome || s.evr.log1.job.isSome

/-- Whether a write lane is active. -/
def State.lanesBusy (s : State) : Bool := chans8.any (fun c => s.rdB (R.WCH_STAT_lane_active.inst c.val))

/-- R475: steps 2 and 3 have ended, and step 4 runs. -/
def execShutdownRetract (s : State) : Out :=
  .next (if s.rdB R.THM_STAT_sd_seq && !s.thm.sdRetract && !s.flashBusy && !s.lanesBusy then s.sdRetractOp else s)

/-- Whether a protective sequence has flash operations watched (R476, R479). -/
def State.flashWatched (s : State) : Bool := s.rdB R.THM_STAT_sd_seq || s.rdB R.THM_STAT_squall

/-- The records of the block under a device's position, whose erase did not complete, may be gone or not. -/
def State.blockUnknown (d : Nat) (s : State) : State :=
  let blk := s.rd (posF d) / 0x10000
  let keep := decide (s.freeBit = 1)
  s.used.updLog d (fun l => ⟨l.area.filter (fun e => e.1 / 0x10000 != blk || keep), none, false⟩)

/-- R476: a program or erase in progress ends, ok telling of its status, or an erase is suspended. -/
def execFlashOpEnd (d : Fin 2) (ok suspended : Bool) (s : State) : Out :=
  .next (if !s.flashWatched then s
    else
      match (s.evr.log d.val).job with
      | none => s
      | some (.program rs) =>
        let s := s.wr R.THM_STAT_flash 1
        if ok then s.pageDone d.val rs else s.storeFail d.val (s.rd (posF d.val))
      | some .erase =>
        let s := s.wr R.THM_STAT_flash 1
        if suspended then s.blockUnknown d.val
        else if ok then s.blockErased d.val else s.storeFail d.val (s.rd (posF d.val))
      | some .clear => (s.wr R.THM_STAT_flash 1).setJob d.val none)

/-- R476: a program or erase has not ended 5 ms after the trigger; the device is reset, and the page or sector is left
unknown. -/
def execFlashOpAbandon (d : Fin 2) (s : State) : Out :=
  .next (if s.flashWatched && (s.evr.log d.val).job.isSome then
      let s := s.wr R.THM_STAT_flash 2
      match (s.evr.log d.val).job with
      | some (.program rs) =>
        let kept := decide (s.freeBit = 1)
        let off := s.rd (posF d.val)
        s.used.updLog d.val (fun l => ⟨if kept then slotsPut l.area off rs else l.area, none, l.erased⟩)
      | _ => s.blockUnknown d.val
    else s)

/-! ## Squall (R478 to R482) -/

/-- R478, R479: a power-fail trip has lasted dgl × 0.25 µs. In Doldrums none is detected. -/
def execSquallDetect (s : State) : Out :=
  .next (if s.rdB R.THM_STAT_squall || s.islandOff .system then s else s.squallOp)

/-- R479: both actuators are PARKED; SPM brakes and the sequence ends. -/
def execSquallRetracted (s : State) : Out :=
  .next (if s.rdB R.THM_STAT_squall && s.thm.sqSeq && s.headsParked then
      let s := (s.wr R.THM_STAT_retracted 1).updThm (fun t => { t with sqSeq := false })
      (s.spmSquallBrake).raise 29
    else s)

/-- R481: both rails have been good for restore_ms after the sequence. -/
def execSquallRestored (s : State) : Out :=
  .next (if s.rdB R.THM_STAT_squall && !s.thm.sqSeq && decide (11400 ≤ s.rd (R.CAL_VMON_mv.at 7))
      && decide (4750 ≤ s.rd (R.CAL_VMON_mv.at 8)) then s.setStatus R.THM_STAT_restored 1 29
    else s)

end Sys2Proof.Machine
end

