-- ==== Sys2Proof/Machine/Logs.lean ====
section
/-! DEFINITION. The log pages (spec/12_host_interface.md R349, R350, R356 to R359; spec/14_object_services.md R418 to R420). -/
namespace Sys2Proof.Machine

/-! ## Error Information, SMART, firmware slots -/

/-- A temperature in 1/16 °C as kelvin; how it is rounded is open (R349). -/
def State.kelvin (s : State) (v : Int) : Nat := (s.quot (100 * v + 16 * 27315) 1600).toNat

/-- A named temperature; an input that THM marks invalid is not reported. -/
def State.tempField (s : State) (name : String) (v : Option Int) : List (String × IdentVal) :=
  match v with
  | some v => [num name (s.kelvin v)]
  | none => []

/-- The hottest valid on-die sensor among those numbered lo to lo + n − 1. -/
def State.hottest (s : State) (lo n : Nat) : Option Int :=
  (((s.sensorsNow.drop lo).take n).filterMap id).foldl (fun m v => some (m.elim v (fun w => max w v))) none

/-- R483: after a thermal shutdown, the warning is reported until Tmax is at most warn − hyst. -/
def State.coolingDown (s : State) : Bool :=
  s.rdB R.THM_AON_STAT_sd
    && !s.tmax.elim false (fun p => decide (p.2 ≤ s.limit R.THM_LIMITS_warn - s.limit R.THM_THR_CFG_hyst))

/-- The Critical Warning bits (R350, R483). -/
def State.criticalWarning (s : State) : Nat :=
  (if s.spareLow then 1 else 0) + (if s.rdB R.THM_STAT_warn || s.rdB R.THM_THR_STAT_level || s.coolingDown then 2 else 0)
    + (if s.host.damaged || s.rdB R.PAR_RET_ret then 4 else 0) + (if s.lc = .retired then 8 else 0)

/-- SMART / Health Information. Available Spare's rounding and the time counted under a throttle are open. -/
def State.smartLog (s : State) : List (String × IdentVal) :=
  [num "Critical Warning" s.criticalWarning]
  ++ s.tempField "Composite Temperature" (s.hottest 0 16)
  ++ (if s.poolAll = 0 then [] else
    [num "Available Spare" (s.quot ((100 * s.poolLeft : Nat) : Int) ((s.poolAll : Nat) : Int)).toNat])
  ++ [num "Available Spare Threshold" 10, num "Percentage Used" 0, num "Media and Data Integrity Errors" s.host.mediaErrors]
  ++ (List.range 4).flatMap (fun i => s.tempField ("Temperature Sensor " ++ toString (i + 1))
      (if s.rdB (R.THM_DIODE_valid.at i) then some (s.rdI (R.THM_DIODE_value.at i)) else none))
  ++ (List.range 4).flatMap (fun q => s.tempField ("Temperature Sensor " ++ toString (q + 5)) (s.hottest (4 * q) 4))
  ++ [num "Thermal Management Temperature 1 Time" (if s.host.throttled then s.free.toNat else 0)]

/-- The FR strings of the copies in slots 1 and 2. -/
def State.fwSlotLog (s : State) : List (String × IdentVal) :=
  (List.range 2).map (fun d => text ("FRS" ++ toString (d + 1)) (frText (imgGeneration (imgOfList (s.flashDev d).copy))))

/-! ## Lists -/

/-- The commands supported, by name: the Admin commands that chapter 12 describes and the I/O commands of each command set
(R345). -/
def effectsLog : List (String × IdentVal) :=
  (["Get Log Page", "Identify", "Abort", "Set Features", "Get Features", "Asynchronous Event Request", "Firmware Commit",
    "Firmware Image Download"].map (fun n => num ("Admin " ++ n) 1))
  ++ (["Flush", "Write", "Read", "Write Zeroes", "Verify"].map (fun n => num ("NVM " ++ n) 1))
  ++ (["Flush", "Store", "Retrieve", "List", "Delete", "Exist"].map (fun n => num ("Key Value " ++ n) 1))
  ++ (["Flush", "Write", "Read", "Verify", "Zone Management Send", "Zone Management Receive", "Zone Append"].map
    (fun n => num ("Zoned Namespace " ++ n) 1))

/-- The Changed Namespace List. -/
def State.changedNsLog (s : State) : List (String × IdentVal) :=
  s.host.changedNs.mapIdx (fun i n => num ("NSID" ++ toString i) n)

/-- The Changed Zone List. -/
def State.changedZonesLog (s : State) : List (String × IdentVal) :=
  s.host.changedZones.mapIdx (fun i z => num ("ZSLBA" ++ toString i) (z * 65536))

/-! ## Telemetry (R356) -/

/-- The 1,024 records of the always-on ring; a slot that holds none is 0. -/
def State.ringBytes (s : State) : List Byte :=
  (List.range 1024).flatMap (fun q => match s.evr.ring.find? (fun e => e.1 == q) with
    | some e => e.2.bytes
    | none => List.replicate 64 0)

/-- Every counter of every block in block-index order: the key of its field and its value. -/
def State.counters (s : State) : List (Nat × Nat) :=
  (List.range 38).flatMap (fun b =>
    ((tableOf b).1.filter (fun f => f.acc == .rc)).flatMap (fun f =>
      ((List.range f.n).map (fun i => (f.at i).inst (tableOf b).2)).filterMap (fun g =>
        if instanceHas b g.off then some (g.key, s.rd g) else none)))

/-! ## The event log (R357, R358) -/

/-- The sequence number in an event record's bytes. -/
def seqOfBytes (l : List Byte) : Nat := leValue ((l.drop 4).take 4)

/-- A record placed by age, oldest first; one that an earlier store holds stays. -/
def placeRecord (now : Nat) (r : List Byte) : List (List Byte) → List (List Byte)
  | [] => [r]
  | q :: l =>
    if seqOfBytes q = seqOfBytes r then q :: l
    else if seqFrom (seqOfBytes q) now < seqFrom (seqOfBytes r) now then r :: q :: l
    else q :: placeRecord now r l

/-- The records available, oldest first, each from the first of FLASH0, FLASH1, the media store and the ring that holds it
(R529); media are those of the media store. Erased and stale ones are not presented (R523, R533). -/
def State.eventRecords (s : State) (media : List (List Byte)) : List (List Byte) :=
  let all := s.evr.log0.area.map (·.2.bytes) ++ s.evr.log1.area.map (·.2.bytes) ++ media ++ s.evr.ring.map (·.2.bytes)
  (all.filter (fun r => !s.recordGone (seqOfBytes r))).foldl (fun l r => placeRecord s.evrSeq r l) []

/-- The header of log page 0xC0; with no record the numbers of the first and the last are open. -/
def State.eventHeader (s : State) (l : List (List Byte)) : List Byte :=
  let first := (l.head?.map seqOfBytes).getD (s.free.toNat % 2 ^ 32)
  let last := (l.getLast?.map seqOfBytes).getD (s.free.toNat / 2 ^ 32)
  let lost := if l.isEmpty then 0 else seqFrom first last + 1 - l.length
  leBytes 2 1 ++ leBytes 2 0 ++ leBytes 4 l.length ++ leBytes 4 first ++ leBytes 4 last ++ leBytes 4 lost
    ++ leBytes 4 (s.rd R.EVR_STAT_in_use) ++ leBytes 8 s.driveTime ++ leBytes 1 (s.timeQuality % 4) ++ leBytes 31 0

/-! ## Media and head status (R359) -/

/-- The zones of NSID 1 in a state. -/
def State.zonesOf (s : State) (x : ZoneSt) : Nat := (s.zonesIn (· == x)).length

/-- Every slot group, by actuator and slot. -/
def State.groupsAll (s : State) : List (Act × Nat) :=
  [Act.a, Act.b].flatMap (fun x => (List.range s.geom.usable).map (fun sl => (x, sl)))

/-- The record of head h. -/
def State.headRecord (s : State) (h : Nat) : List Byte :=
  let x := if p : h < 32 then s.host.heads[h] else ⟨0, 0, 0, 0, 0, 0⟩
  let st := if !s.headFitted h then 0 else if s.rdBit R.PAR_RET_ret h then 2 else 1
  leBytes 1 st ++ leBytes 3 0 ++ leBytes 8 x.read ++ leBytes 4 x.otf ++ leBytes 4 x.low ++ leBytes 4 x.high ++ leBytes 4 x.parity
    ++ leBytes 4 x.unrec

/-- Log page 0xC1. -/
def State.mediaLog (s : State) : List Byte :=
  let degraded := ((s.bandsOf .a ++ s.bandsOf .b).filter (fun i => decide (remapState (s.remapEntry i) = .degraded))).length
  let sealed := (s.groupsAll.filter (fun g => s.groupSealed g.1 g.2)).length
  let open_ := (s.groupsAll.filter (fun g => !s.groupSealed g.1 g.2 && decide (0 < s.groupHw g.1 g.2))).length
  let bit3 := (if s.rdB R.SPM_STAT_lock then 1 else 0) + (if s.powerToken then 2 else 0) + (if s.rdB R.SPM_TOK_held then 4 else 0)
  leBytes 2 1 ++ leBytes 1 (s.rd R.GCK_STAT_active) ++ leBytes 1 bit3 ++ leBytes 4 (s.rd R.PAR_RET_ret)
    ++ leBytes 4 (s.zonesOf .offline) ++ leBytes 4 (s.zonesOf .readOnly) ++ leBytes 4 degraded ++ leBytes 4 s.poolLeft
    ++ leBytes 4 sealed ++ leBytes 4 open_ ++ leBytes 32 0 ++ (List.range 32).flatMap s.headRecord
    ++ List.replicate (2048 - 64 - 1024) 0

/-! ## The audit log (R418 to R420) -/

/-- The 128 bytes of an audit record (R419). -/
def AuditRec.bytes (r : AuditRec) : List Byte :=
  let middle := if r.kind = AuditKind.value.code ∨ r.kind = AuditKind.passEnd.code then padTo 16 r.key
    else if r.kind = AuditKind.passStart.code then leBytes 16 0 else leBytes 8 r.slba ++ leBytes 8 0
  leBytes 4 r.seq ++ leBytes 4 0 ++ leBytes 8 r.dt ++ leBytes 1 (r.quality % 4) ++ leBytes 1 r.kind ++ leBytes 1 r.outcome
    ++ leBytes 1 r.origin ++ leBytes 1 (if r.kind = AuditKind.value.code then r.key.length else 0) ++ leBytes 3 0 ++ middle
    ++ leBytes 8 r.size ++ leBytes 4 r.firstBad ++ leBytes 4 r.nsid ++ leBytes 8 0 ++ leBytes 32 r.stored.toNat
    ++ leBytes 32 r.computed.toNat

/-- The header of log page 0xC2 for controller c (R418). -/
def State.auditHeader (s : State) (c : Nat) (l : List AuditRec) : List Byte :=
  let a := s.host.audit
  let first := (l.head?.map (·.seq)).getD (s.free.toNat % 2 ^ 32)
  let last := (l.getLast?.map (·.seq)).getD (s.free.toNat / 2 ^ 32)
  leBytes 2 1 ++ leBytes 2 0 ++ leBytes 4 l.length ++ leBytes 4 first ++ leBytes 4 last ++ leBytes 4 a.lost
    ++ leBytes 1 ((if (s.ctrl c).capture then 1 else 0) + (if a.running then 2 else 0)) ++ leBytes 3 0 ++ leBytes 8 s.driveTime
    ++ leBytes 1 (s.timeQuality % 4) ++ leBytes 3 0 ++ leBytes 4 a.pass ++ leBytes 4 a.done ++ leBytes 4 a.fullAtStart
    ++ leBytes 8 a.lastEnd ++ leBytes 72 0

/-! ## Get Log Page -/

/-- n bytes of a page from an offset. -/
def slicePage (offset n : Nat) (l : List Byte) : Result := ⟨.ok, 0, .bytes ((l.drop offset).take n)⟩

/-- The records from the one with a sequence number on; none where it is not available. -/
def fromSeq (seq : Nat) (l : List (List Byte)) (seqOf : List Byte → Nat) : Option (List (List Byte)) :=
  if l.any (fun r => seqOf r == seq) then some (l.dropWhile (fun r => seqOf r != seq)) else none

/-- A page of records: unit is the size of its header and of a record. The offset is a multiple of it, and with LSP 1 counts from
the record named (R358, R420). -/
def recordPage (unit lsp offset index n : Nat) (header : List Byte) (l : List (List Byte)) (seqOf : List Byte → Nat) : Result :=
  if offset % unit ≠ 0 then .of .invalidField
  else if lsp = 1 then
    match fromSeq index l seqOf with
    | some m => slicePage offset n (header ++ m.flatten)
    | none => .of .invalidField
  else slicePage offset n (header ++ l.flatten)

/-- What Get Log Page answers for a log of R356. -/
def State.logResult (s : State) (c lid nsid lsp offset index n : Nat) (media : List (List Byte)) : Result :=
  let ok := fun (p : Payload) => (⟨.ok, 0, p⟩ : Result)
  if lid = 0x01 then ok (.errors s.host.errors)
  else if lid = 0x02 then
    (if nsid = 0 ∨ nsid = 0xFFFFFFFF ∨ (1 ≤ nsid ∧ nsid ≤ 3) then ok (.fields s.smartLog) else .of .invalidNamespace)
  else if lid = 0x03 then ok (.fields s.fwSlotLog)
  else if lid = 0x04 then ok (.fields s.changedNsLog)
  else if lid = 0x05 then ok (.fields effectsLog)
  else if lid = 0x07 ∨ lid = 0x08 then ok (.telemetry s.ringBytes s.counters)
  else if lid = 0xBF then (if nsid = 1 then ok (.fields s.changedZonesLog) else .of .invalidNamespace)
  else if lid = 0xC0 then
    let l := s.eventRecords media
    recordPage 64 lsp offset index n (s.eventHeader l) l seqOfBytes
  else if lid = 0xC1 then slicePage offset n s.mediaLog
  else if lid = 0xC2 then
    let l := s.host.audit.recs.reverse
    recordPage 128 lsp offset index n (s.auditHeader c l) (l.map AuditRec.bytes) (fun b => leValue (b.take 4))
  else .of .invalidLog

/-- What else a log page's read does: with Retained Asynchronous Event 0 a changed list is cleared, and page 0xC0 unmasks the
vendor event (R361); LSP 2 and 3 of page 0xC2 turn capture on and off (R420). -/
def State.logEffect (c lid lsp : Nat) (rae : Bool) (s : State) : State :=
  if lid = 0x04 && !rae then s.updHost (fun h => { h with changedNs := [] })
  else if lid = 0xBF && !rae then s.updHost (fun h => { h with changedZones := [] })
  else if lid = 0xC0 && !rae then s.updCtrl c (fun k => { k with vendorMasked := false })
  else if lid = 0xC2 && (lsp == 2 || lsp == 3) then s.updCtrl c (fun k => { k with capture := lsp == 2 })
  else s

/-- Whether a command is an Admin command. -/
def adminCmd : HostCmd → Bool
  | .identify _ | .getLog _ _ _ _ _ _ _ | .setFeature _ _ _ _ _ | .getFeature _ _ _ _ | .abort _ | .asyncEvent
  | .download _ _ | .commit _ _ => true
  | .other admin _ _ => admin
  | _ => false

/-- Whether a context is that of an Asynchronous Event Request that is held. -/
def State.aerHeld (s : State) (n : Nat) : Bool := s.host.c0.aers.contains n || s.host.c1.aers.contains n

/-- Whether every Admin command of an earlier stamp is decided or a held request: they are executed one at a time, in stamp order
(R370). -/
def State.adminTurn (s : State) (c : Context) : Bool :=
  s.host.ctxs.all (fun d => !(adminCmd d.cmd && d.result.isNone && decide (d.stamp < c.stamp) && !s.aerHeld d.no))

/-- An Admin command that may be processed now: accepted and not decided, its turn come, and no activation in its steps 1 to 5
(R80). -/
def State.adminLive (s : State) (n : Nat) : Option Context :=
  (s.live n).filter (fun c => s.host.activation.isNone && s.adminTurn c && !s.aerHeld n)

/-- Get Log Page of one of some logs. -/
def State.getLog (n : Nat) (lids : List Nat) (media : List (List Byte)) (s : State) : State :=
  match s.adminLive n with
  | some c =>
    match c.cmd with
    | .getLog lid nsid lsp offset index rae bytes =>
      if lids.contains lid.toNat then
        let r := s.logResult c.ctrl lid.toNat nsid.toNat lsp.toNat offset.toNat index.toNat bytes media
        let s := s.used.settle c.no r
        s.when (r.status = .ok) (State.logEffect c.ctrl lid.toNat lsp.toNat rae)
      else s
    | _ => s
  | none => s

/-- R356: Error Information. -/
def execGetLogErrorInfo (ctx : Fin 16384) (s : State) : Out := .next (s.getLog ctx.val [0x01] [])

/-- R349, R350: SMART / Health Information. -/
def execGetLogSmart (ctx : Fin 16384) (s : State) : Out := .next (s.getLog ctx.val [0x02] [])

/-- R356: Firmware Slot Information. -/
def execGetLogFwSlot (ctx : Fin 16384) (s : State) : Out := .next (s.getLog ctx.val [0x03] [])

/-- R356: Changed Namespace List. -/
def execGetLogChangedNs (ctx : Fin 16384) (s : State) : Out := .next (s.getLog ctx.val [0x04] [])

/-- R356: Commands Supported and Effects. -/
def execGetLogEffects (ctx : Fin 16384) (s : State) : Out := .next (s.getLog ctx.val [0x05] [])

/-- R356: Telemetry, host-initiated and controller-initiated. -/
def execGetLogTelemetry (ctx : Fin 16384) (s : State) : Out := .next (s.getLog ctx.val [0x07, 0x08] [])

/-- R355: Changed Zone List. -/
def execGetLogChangedZones (ctx : Fin 16384) (s : State) : Out := .next (s.getLog ctx.val [0xBF] [])

/-- R357, R358, R361: the event log; media are the records that the media store holds. -/
def execGetLogEvents (ctx : Fin 16384) (media : List (List Byte)) (s : State) : Out := .next (s.getLog ctx.val [0xC0] media)

/-- R359: media and head status. -/
def execGetLogMediaStatus (ctx : Fin 16384) (s : State) : Out := .next (s.getLog ctx.val [0xC1] [])

/-- R418 to R420: the fixity audit log. -/
def execGetLogAudit (ctx : Fin 16384) (s : State) : Out := .next (s.getLog ctx.val [0xC2] [])

end Sys2Proof.Machine
end

