-- ==== Sys2Proof/Machine/Admin.lean ====
section
/-! DEFINITION. The Admin commands but firmware's (spec/12_host_interface.md R340, R347, R348, R353, R360, R365; spec/
16_power_states.md R465): Identify, features, Abort, Asynchronous Event Request, commands outside the supported ones. -/
namespace Sys2Proof.Machine

/-- A command's result decided, using up the free values that it has taken. -/
def State.answer (n : Nat) (r : Result) (s : State) : State := s.used.settle n r

/-- R339: Identify; vendor are the bytes 3,072 to 4,095 that EXT_CODE gives Identify Controller. -/
def execIdentify (ctx : Fin 16384) (vendor : List Byte) (s : State) : Out :=
  .next (match s.adminLive ctx.val with
    | some c => match c.cmd with
      | .identify sel => s.answer c.no (s.identifyResult c.ctrl sel vendor)
      | _ => s
    | none => s)

/-! ## Features (R347) -/

/-- The Feature Identifiers of R347 but the vendor's. -/
def featIds : List Nat := [0x01, 0x02, 0x04, 0x05, 0x06, 0x07, 0x08, 0x09, 0x0B, 0x0C, 0x0E, 0x0F, 0x19]

/-- Which value of a feature a command names: a namespace's TLER, a sensor's threshold or a vector's configuration, by Dword 11
(PRESUMED, assumption 26). -/
def featKey (fid nsid dw11 : Nat) : Nat :=
  if fid = 0x05 then nsid else if fid = 0x04 then dw11 / 2 ^ 16 % 64 else if fid = 0x09 then dw11 % 2 ^ 16 else 0

/-- A feature's value put into a list. -/
def featPut (f : Feat) (l : List Feat) : List Feat := f :: l.filter (fun g => !(g.fid == f.fid && g.nsid == f.nsid))

/-- A feature's value in a list. -/
def featGet (l : List Feat) (fid key : Nat) : Option Feat := l.find? (fun f => f.fid == fid && f.nsid == key)

/-- The default of a feature: the write cache enabled, everything else 0; the spec gives none (DESIGN CHOICE, assumption 21). -/
def featDefault (fid key : Nat) : Feat := ⟨fid, key, if fid = 0x06 then 1 else 0, []⟩

/-- A feature's value set, and saved where the command asks for it. -/
def State.featSet (save : Bool) (f : Feat) (s : State) : State :=
  s.updHost (fun h => { h with feats := featPut f h.feats, saved := if save then featPut f h.saved else h.saved })

/-- Set Features of one feature: what deny turns away is refused, and otherwise the effect is taken, which may give Dword 0. 0x0E
and 0x0F are not saveable (R347). -/
def State.setFeat (n fid : Nat) (deny : BitVec 32 → Nat → List Nat → Option Status)
    (op : Context → BitVec 32 → Bool → Nat → List Nat → State → State × Nat) (s : State) : State :=
  match s.adminLive n with
  | some c =>
    match c.cmd with
    | .setFeature f nsid save value data =>
      if f.toNat ≠ fid then s
      else if save = true ∧ (fid = 0x0E ∨ fid = 0x0F) then s.ends n .invalidField
      else match deny nsid value.toNat data with
        | some e => s.ends n e
        | none =>
          let r := op c nsid save value.toNat data s
          r.1.settle n ⟨.ok, r.2, .none⟩
    | _ => s
  | none => s

/-- Nothing is turned away. -/
def denyNone : BitVec 32 → Nat → List Nat → Option Status := fun _ _ _ => none

/-- The value is kept as the feature's. -/
def State.keepFeat (fid : Nat) (_c : Context) (nsid : BitVec 32) (save : Bool) (value : Nat) (data : List Nat) (s : State) : State × Nat :=
  (s.featSet save ⟨fid, featKey fid nsid.toNat value, BitVec.ofNat 32 value, data⟩, 0)

/-- R368: Arbitration. -/
def execSetArbitration (ctx : Fin 16384) (s : State) : Out := .next (s.setFeat ctx.val 0x01 denyNone (State.keepFeat 0x01))

/-- A power state selected (R351, R353): the limits follow at once; Get Features returns the state asked for. -/
def State.psSet (c : Context) (_nsid : BitVec 32) (save : Bool) (value : Nat) (data : List Nat) (s : State) : State × Nat :=
  let p := value % 32
  let s := (s.keepFeat 0x02 c 0 save value data).1
  ((s.updCtrl c.ctrl (fun k => { k with ps := p, psOp := if p ≤ 1 then p else k.psOp })).limitsShow, 0)

/-- R351, R353: Power Management. -/
def execSetPowerManagement (ctx : Fin 16384) (s : State) : Out :=
  .next (s.setFeat ctx.val 0x02 (fun _ v _ => if 4 < v % 32 then some .invalidField else none) State.psSet)

/-- R349: Temperature Threshold of the composite temperature or of sensor 1 to 8. -/
def execSetTempThreshold (ctx : Fin 16384) (s : State) : Out :=
  .next (s.setFeat ctx.val 0x04 (fun _ v _ => if 8 < v / 2 ^ 16 % 16 then some .invalidField else none) (State.keepFeat 0x04))

/-- The namespaces that a Set Features of a namespace's feature names. -/
def nsList (nsid : BitVec 32) : List Nat := if nsid.toNat = 0xFFFFFFFF then [1, 2, 3] else [nsid.toNat]

/-- R354: Error Recovery: TLER in bits 15 to 0; DULBE, bit 16, is not supported. -/
def execSetErrorRecovery (ctx : Fin 16384) (s : State) : Out :=
  .next (s.setFeat ctx.val 0x05
    (fun nsid v _ => if (nsList nsid).any (fun n => decide (n < 1 ∨ 3 < n)) then some .invalidNamespace
      else if bitAt v 16 then some .invalidField else none)
    (fun c nsid save v data s => (s.forEach (nsList nsid) (fun n s => (s.keepFeat 0x05 c (BitVec.ofNat 32 n) save v data).1), 0)))

/-- R385: Volatile Write Cache. -/
def execSetVolatileWriteCache (ctx : Fin 16384) (s : State) : Out := .next (s.setFeat ctx.val 0x06 denyNone (State.keepFeat 0x06))

/-- The I/O queue pairs of a controller (R330). -/
def State.queuePairs (s : State) : Nat := if s.rdB R.HIF_STAT_mode then 64 else 128

/-- The numbers of queues granted, as Dword 0 gives them: those asked for, 0-based, up to the pairs of R330. -/
def State.queuesOp (c : Context) (_nsid : BitVec 32) (save : Bool) (value : Nat) (data : List Nat) (s : State) : State × Nat :=
  let m := s.queuePairs - 1
  let v := min m (value / 2 ^ 16) * 2 ^ 16 + min m (value % 2 ^ 16)
  ((s.keepFeat 0x07 c 0 save v data).1, v)

/-- R330, R347: Number of Queues. -/
def execSetNumberOfQueues (ctx : Fin 16384) (s : State) : Out := .next (s.setFeat ctx.val 0x07 denyNone State.queuesOp)

/-- R347: Interrupt Coalescing. -/
def execSetInterruptCoalescing (ctx : Fin 16384) (s : State) : Out := .next (s.setFeat ctx.val 0x08 denyNone (State.keepFeat 0x08))

/-- R347: Interrupt Vector Configuration. -/
def execSetInterruptVectorCfg (ctx : Fin 16384) (s : State) : Out := .next (s.setFeat ctx.val 0x09 denyNone (State.keepFeat 0x09))

/-- R347: Asynchronous Event Configuration. -/
def execSetAsyncEventConfig (ctx : Fin 16384) (s : State) : Out := .next (s.setFeat ctx.val 0x0B denyNone (State.keepFeat 0x0B))

/-- The idle time in ms of the first APST entry whose target is a power state; 0 where there is none. An entry holds its
target in bits 7:3 and its time in bits 31:8 (PRESUMED, assumption 26). -/
def apstIdle (entries : List Nat) (ps : Nat) : Nat :=
  ((entries.find? (fun e => e / 8 % 32 == ps)).map (fun e => e / 256 % 2 ^ 24)).getD 0

/-- APST: enabled, the idle thresholds are those of the entries for PS2, PS3 and PS4; disabled, they are 0 (R465). -/
def State.apstOp (c : Context) (_nsid : BitVec 32) (save : Bool) (value : Nat) (data : List Nat) (s : State) : State × Nat :=
  let s := (s.keepFeat 0x0C c 0 save value (data.take 32)).1
  (s.forEach (List.range 3) (fun i s => s.wr (R.PWR_IDLE_ms.at i)
    (if bitAt value 0 then min (2 ^ R.PWR_IDLE_ms.w - 1) (apstIdle (data.take 32) (2 + i)) else 0)), 0)

/-- R465: Autonomous Power State Transition. -/
def execSetApst (ctx : Fin 16384) (s : State) : Out := .next (s.setFeat ctx.val 0x0C denyNone State.apstOp)

/-- The Timestamp: the host's time in ms sets this controller's offset of Drive Time, in ns. -/
def State.timestampOp (c : Context) (_nsid : BitVec 32) (_save : Bool) (_value : Nat) (data : List Nat) (s : State) : State × Nat :=
  let t := (data.headD 0 % 2 ^ 48) * 1000000
  (s.updCtrl c.ctrl (fun k => { k with tsOffset := (t + 2 ^ 80 - s.driveTime) % 2 ^ 80 }), 0)

/-- R347: Timestamp. -/
def execSetTimestamp (ctx : Fin 16384) (s : State) : Out := .next (s.setFeat ctx.val 0x0E denyNone State.timestampOp)

/-- R347: Keep Alive Timer. -/
def execSetKeepAliveTimer (ctx : Fin 16384) (s : State) : Out := .next (s.setFeat ctx.val 0x0F denyNone (State.keepFeat 0x0F))

/-- R341, R347: I/O Command Set Profile, index 0 only. -/
def execSetIoCommandSetProfile (ctx : Fin 16384) (s : State) : Out :=
  .next (s.setFeat ctx.val 0x19 (fun _ v _ => if v % 512 ≠ 0 then some .invalidField else none) (State.keepFeat 0x19))

/-- The host's time in ms at a controller. -/
def State.timestampNow (s : State) (c : Nat) : Nat := (s.driveTime + (s.ctrl c).tsOffset) % 2 ^ 80 / 1000000 % 2 ^ 48

/-- What Get Features answers (R347, R353). -/
def State.getFeatureResult (s : State) (c fid nsid : Nat) (sel : FeatSel) (dw11 : Nat) : Result :=
  if !featIds.contains fid then .of .invalidField
  else if fid = 0x05 ∧ (nsid < 1 ∨ 3 < nsid) then .of .invalidNamespace
  else
    let key := featKey fid nsid dw11
    let d := featDefault fid key
    let f := match sel with
      | .current => (featGet s.host.feats fid key).getD d
      | .default => d
      | .saved => (featGet s.host.saved fid key).getD d
    if fid = 0x0E then ⟨.ok, 0, .bytes (leBytes 8 (if sel = .current then s.timestampNow c else 0))⟩
    else if fid = 0x0C then ⟨.ok, f.value.toNat, .bytes ((List.range 32).flatMap (fun i => leBytes 8 (f.data.getD i 0)))⟩
    else if fid = 0x02 ∧ sel = .current then ⟨.ok, (s.ctrl c).ps, .none⟩
    else ⟨.ok, f.value.toNat, .none⟩

/-- R347: Get Features. -/
def execGetFeatures (ctx : Fin 16384) (s : State) : Out :=
  .next (match s.adminLive ctx.val with
    | some c => match c.cmd with
      | .getFeature fid nsid sel dw11 => s.settle c.no (s.getFeatureResult c.ctrl fid.toNat nsid.toNat sel dw11.toNat)
      | _ => s
    | none => s)

/-! ## Abort (R348) -/

/-- The media commands of a context in staging. -/
def State.cmdsOf (s : State) (c : Context) : List MediaCmd := s.host.cmds.filter (fun m => m.ctx == some c.no)

/-- The zones that media commands write. -/
def zonesTouched (l : List MediaCmd) : List Nat := ((l.filter (fun m => decide (m.space ≠ .conv))).map (·.zone)).eraseDups

/-- The first block and the end of what media commands write to a zone. -/
def zoneSpan (l : List MediaCmd) (z : Nat) : Nat × Nat :=
  let mine := l.filter (fun m => decide (m.space ≠ .conv) && m.zone == z)
  (mine.foldl (fun a m => min a m.first) 65536, mine.foldl (fun a m => max a (m.first + m.data.length)) 0)

/-- Whether writes that have not been released can be taken back: in every zone they are the last that it took, and it is not
Full. -/
def State.canTakeBack (s : State) (l : List MediaCmd) : Bool :=
  (zonesTouched l).all (fun z => decide ((s.zone z).wp = (zoneSpan l z).2) && (s.zone z).st != .full)

/-- A zone's pointer set back before what media commands would have written; a device-managed zone's allocation point goes
with it. -/
def State.takeBack (l : List MediaCmd) (z : Nat) (s : State) : State :=
  let p := (zoneSpan l z).1
  (s.setZone z { s.zone z with wp := p }).updKv (fun k => { k with
    alloc := k.alloc.map (fun a => if a.1 = z then (z, min a.2 p) else a) })

/-- Media commands of a context dropped with the items of its that serve no media command which stays, its zones' pointers set
back; the units of a conventional write and the record of a Store go with them. -/
def State.dropCmds (c : Context) (l : List MediaCmd) (s : State) : State :=
  let ids := l.map (·.id)
  let stays := (s.host.cmds.filter (fun m => !ids.contains m.id)).map (·.id)
  let keep : List Item → List Item := fun l => l.filter (fun i => !(i.owner == some c.no && i.stamp == c.stamp) || stays.contains i.job)
  let mine : KvRec → Bool := fun r => (s.cmdsOf c).any (fun m => decide (m.space = .kv)
    && (r.extents.head?.map (fun e => (e.zone, e.first))) == some (m.zone, m.first))
  let s := s.updHost (fun h => { h with
    cmds := h.cmds.filter (fun m => !ids.contains m.id)
    units := h.units.filter (fun u => !ids.contains u.job)
    pend := ⟨keep h.pend.a, keep h.pend.b⟩ })
  let s := s.updKv (fun k => { k with recs := k.recs.filter (fun r => !mine r) })
  s.forEach (zonesTouched l) (State.takeBack l)

/-- The staged work of a context dropped. -/
def State.dropWork (c : Context) (s : State) : State := s.dropCmds c (s.cmdsOf c)

/-- The media commands of a context that have not been released dropped, where they can be taken back: those in progress run
to their end (R80, R396). -/
def State.dropUnreleased (c : Context) (s : State) : State :=
  let l := (s.cmdsOf c).filter (fun m => !m.begun)
  if s.canTakeBack l then s.dropCmds c l else s

/-- Whether a command can still be aborted: undecided, and nothing of it released to a sequencer. One that the write pointer
of its zone has moved past counts as released (DEDUCED, assumption 27). -/
def State.abortable (s : State) (c : Context) : Bool :=
  c.result.isNone && !c.released
    && s.canTakeBack (s.cmdsOf c) && !s.aerHeld c.no && !adminCmd c.cmd

/-- R348: Abort: of a command of its own controller; Dword 0 bit 0 is 1 where it is not aborted. -/
def execAbortCommand (ctx : Fin 16384) (s : State) : Out :=
  .next (match s.adminLive ctx.val with
    | some c => match c.cmd with
      | .abort t =>
        match (s.ctx t.toNat).filter (fun d => d.ctrl == c.ctrl && s.abortable d) with
        | some d => ((s.dropWork d).ends d.no .abortRequested).settle c.no ⟨.ok, 0, .none⟩
        | none => s.settle c.no ⟨.ok, 1, .none⟩
      | _ => s
    | none => s)

/-! ## Asynchronous Event Request (R360) -/

/-- R360: a request is held until an event is posted; one that waits is told at once. AERL allows 8 outstanding requests. -/
def execAsyncEventRequest (ctx : Fin 16384) (s : State) : Out :=
  .next (match s.adminLive ctx.val with
    | some c => match c.cmd with
      | .asyncEvent =>
        let k := s.ctrl c.ctrl
        match k.events with
        | e :: r => (s.updCtrl c.ctrl (fun k => { k with events := r })).settle c.no ⟨.ok, asyncDw0 e, .none⟩
        | [] =>
          if 8 ≤ k.aers.length then s.ends c.no .asyncLimit
          else s.updCtrl c.ctrl (fun k => { k with aers := k.aers ++ [c.no] })
      | _ => s
    | none => s)

/-! ## Commands outside the supported ones (R340, R345, R356, R365) -/

/-- Whether an opcode lies in the vendor range: Admin 0xC0 to 0xFF, I/O 0x80 to 0xFF (R365). -/
def vendorOp (admin : Bool) (op : Nat) : Bool := decide ((if admin then 0xC0 else 0x80) ≤ op)

/-- How a command that nothing supports ends: an opcode, a log or a feature. Commands that the vendor ranges hold belong to
VENDOR_COMMAND. -/
def unsupported : HostCmd → Option Status
  | .other admin _ op => if vendorOp admin op.toNat then none else some .invalidOpcode
  | .getLog lid _ _ _ _ _ _ =>
    if [0x01, 0x02, 0x03, 0x04, 0x05, 0x07, 0x08, 0xBF, 0xC0, 0xC1, 0xC2].contains lid.toNat ∨ 0xD0 ≤ lid.toNat then none
    else some .invalidLog
  | .setFeature fid _ _ _ _ => if featIds.contains fid.toNat ∨ 0xC0 ≤ fid.toNat then none else some .invalidField
  | .getFeature fid _ _ _ => if featIds.contains fid.toNat ∨ 0xC0 ≤ fid.toNat then none else some .invalidField
  | _ => none

/-- A command outside the supported ones, whose turn has come where it is an Admin command. -/
def State.anyLive (s : State) (n : Nat) : Option Context :=
  match s.live n with
  | some c => if adminCmd c.cmd then s.adminLive n else some c
  | none => none

/-- R340, R345, R347, R356: an unsupported opcode, feature or log. -/
def execUnsupportedCommand (ctx : Fin 16384) (s : State) : Out :=
  .next (match s.anyLive ctx.val with
    | some c => match unsupported c.cmd with
      | some e => s.ends c.no e
      | none => s
    | none => s)

/-- How a command of the vendor ranges ends without a handler (R365). -/
def vendorNone : HostCmd → Option Status
  | .other admin _ op => if vendorOp admin op.toNat then some .invalidOpcode else none
  | .getLog lid _ _ _ _ _ _ => if 0xD0 ≤ lid.toNat then some .invalidLog else none
  | .setFeature fid _ _ _ _ => if 0xC0 ≤ fid.toNat then some .invalidField else none
  | .getFeature fid _ _ _ => if 0xC0 ≤ fid.toNat then some .invalidField else none
  | _ => none

/-- R365: a command of the vendor ranges is routed to its handler in EXT_CODE, which answers with a Dword 0, or is refused where
there is none. -/
def execVendorCommand (ctx : Fin 16384) (handler : Option Word) (s : State) : Out :=
  .next (match s.anyLive ctx.val with
    | some c => match vendorNone c.cmd, handler with
      | some _, some w => s.settle c.no ⟨.ok, w.toNat, .none⟩
      | some e, none => s.ends c.no e
      | none, _ => s
    | none => s)

end Sys2Proof.Machine
end

