-- ==== Sys2Proof/Machine/ResetFx.lean ====
section
/-! DEFINITION. Blocks taken to their POR values (R14, R541), as logic BIST and the power-down of an island leave them. -/
namespace Sys2Proof.Machine

/-- Whether the Head Link engine of WCH0 or WCH4 holds a register: it is no part of a BIST target (R537). -/
def hlReg (k : Nat) : Bool := (keyBlk k == 16 || keyBlk k == 20) && decide (0x800 ≤ keyOff k)

/-- The registers of a block at their POR values, in the block and in its bridge, with nothing pending; the fields of the AON domain
and those that keep picks out stay. -/
def State.regsFresh (blk : Nat) (keep : Nat → Bool) (s : State) : State :=
  let stays : Nat × Word → Bool := fun e => keyBlk e.1 != blk || keptAtPor e.1 || keep e.1
  State.dropShadows blk { s with
    regs := s.regs.filter stays
    copy := s.copy.filter stays
    holding := s.holding.filter (fun e => keyBlk e.1 != blk) }

/-- The state of a block beyond its registers as POR leaves it. The frames that FRK has put on the ring stay on it, and what DRC's check
bits say of DRAM's words stays with them. -/
def State.innerFresh (blk : Nat) (s : State) : State :=
  if blk = 7 then { s with gck := GckState.init }
  else if h : 8 ≤ blk ∧ blk < 16 then
    let s := { s with
      rch := s.rch.set (blk - 8) RchState.init (by omega)
      combine := if blk = 8 then [] else s.combine.filter (fun c => c.ch != blk - 8) }
    s.wr R.RCH_CMB_STAT_used s.combine.length
  else if h : 16 ≤ blk ∧ blk < 24 then { s with wch := s.wch.set (blk - 16) WchState.init (by omega) }
  else if blk = 24 then { s with msq := s.msq.set .a MsqState.init }
  else if blk = 25 then { s with msq := s.msq.set .b MsqState.init }
  else if blk = 26 then { s with srv := SrvState.init }
  else if blk = 27 then { s with cle := CleState.init }
  else if blk = 28 then { s with spm := SpmState.init }
  else if blk = 29 then { s with act := ActAll.init }
  else if blk = 30 then { s with par := ParState.init }
  else if blk = 31 then s.updHost (fun h => { h with ctxs := [], ready := [], pend := ⟨[], []⟩, posted := ⟨[], []⟩ })
  else if blk = 32 then s.updHost (fun h => { h with clamps := [] })
  else if blk = 33 then s.updHost (fun h => { h with objUe := [] })
  else if blk = 34 then { s with buf := BufState.init }
  else if blk = 35 then { s with drc := { DrcState.init with poison := s.drc.poison, flips := s.drc.flips } }
  else if blk = 36 then { s with frk := { FrkState.init with out := s.frk.out, seq := s.frk.seq } }
  else s

/-- A block at its POR values, but for a Head Link engine. -/
def State.blockFresh (blk : Nat) (s : State) : State := (s.regsFresh blk hlReg).innerFresh blk

end Sys2Proof.Machine
end

