-- ==== Sys2Proof/Machine/Bst.lean ====
section
/-! DEFINITION. Logic BIST and boundary scan (spec/20_self_test.md). -/
namespace Sys2Proof.Machine

/-- The endings of a run, and the states of BST_STAT.code beside them (R540). -/
inductive BstCode where
  | none | busy | pass | fail | precond | aborted | stopped
  deriving DecidableEq, Repr

/-- The encoding of BST_STAT.code. -/
def BstCode.code : BstCode → Nat
  | .none => 0
  | .busy => 1
  | .pass => 2
  | .fail => 3
  | .precond => 4
  | .aborted => 5
  | .stopped => 6

/-- The conditions of R536. -/
def State.bstMay (s : State) : Bool :=
  decide (s.lc = .manufacture ∨ s.lc = .service) && decide (s.level ≤ 1) && !s.phaseIs .commit
    && s.rdB R.CAL_VMON_STAT_in3 && !s.rdB R.THM_STAT_sd_seq && !s.rdB R.THM_STAT_squall

/-- The blocks of a target (R537). -/
def bstBlocks (t : Nat) : List Nat :=
  if t < 8 then [8 + t, 16 + t] else if t = 8 then [7] else if t = 9 then [24] else if t = 10 then [25] else if t = 11 then [26]
  else if t = 12 then [27] else if t = 13 then [29] else if t = 14 then [28] else if t = 15 then [30] else if t = 16 then [31, 32]
  else if t = 17 then [33] else if t = 18 then [36] else []

/-- Whether a block is enabled. -/
def State.blockOn (s : State) (blk : Nat) : Bool :=
  let en : Option Field := match blk with
    | 7 => some R.GCK_CTL_en
    | 24 => some (R.MSQ_CTL_en.inst 0)
    | 25 => some (R.MSQ_CTL_en.inst 1)
    | 26 => some R.SRV_CTL_en
    | 27 => some R.CLE_CTL_en
    | 28 => some R.SPM_CTL_en
    | 29 => some R.ACT_CTL_en
    | 30 => some R.PAR_CTL_en
    | 31 => some R.HQE_CTL_en
    | 32 => some R.CLP_CTL_en
    | 33 => some R.OBJ_CTL_en
    | 35 => some R.DRC_CTL_en
    | 36 => some R.FRK_CTL_en
    | n => if 8 ≤ n ∧ n < 16 then some (R.RCH_CTL_en.inst (n - 8)) else if 16 ≤ n ∧ n < 24 then some (R.WCH_CTL_en.inst (n - 16))
        else none
  en.elim false s.rdB

/-- Whether the descriptor running on a channel's sequencer uses its lane. -/
def State.laneBusy (s : State) (c : Nat) : Bool :=
  !(s.msq.get (chanAct c)).opDone && (s.opLanes (chanAct c)).any (fun l => l.val == c % 4)

/-- Whether a target may start: its blocks are disabled, and a channel's lane is free (R537). -/
def State.bstTargetOk (s : State) (t : Nat) : Bool :=
  decide (t ≤ 18) && (bstBlocks t).all (fun b => !s.blockOn b) && !(decide (t < 8) && s.laneBusy t)

/-- A counter of BST_CNT raised; source 51 when it reaches saturation (R545). -/
def State.bstCount (f : Field) (s : State) : State := s.satCount f 51

/-- The target's blocks at their POR values. -/
def State.bstFresh (t : Nat) (s : State) : State := s.forEach (bstBlocks t) State.blockFresh

/-- BST_STAT.code written. -/
def State.bstCode (c : BstCode) (s : State) : State := s.wr R.BST_STAT_code c.code

/-- A run starts: the target is isolated, and its outputs and what it shows to other blocks take their reset levels (R539). What its
registers hold can no longer be read, and R541 gives them their POR values. -/
def State.bstStart (t : Nat) (s : State) : State :=
  let s := ((s.wr R.BST_STAT_busy 1).bstCode .busy).wr R.BST_STAT_target t
  { s.bstFresh t with isolated := bstBlocks t, bistFull := s.rdB R.BST_RUN_mode }

/-- A run ends, is re-initialised and released (R540, R541). -/
def State.bstEnd (c : BstCode) (s : State) : State :=
  let t := s.rd R.BST_STAT_target
  let s := (s.bstFresh t).wr R.BST_STAT_busy 0
  (((({ s with isolated := [] } : State).bstCode c).bstCount R.BST_CNT_runs)).raise 48

/-- BST_RUN.go, with the mode and target of the same write (R536, R537). -/
def State.bstGo (who : Init) (s : State) : State :=
  if s.rdB R.BST_CTL_en = false ∨ s.rdB R.BST_STAT_busy = true then s.refuse who R.BST_RUN_go
  else if !s.bstMay then (s.refuse who R.BST_RUN_go).bstCode .precond
  else if !s.bstTargetOk (s.rd R.BST_RUN_target) then s.refuse who R.BST_RUN_go
  else s.bstStart (s.rd R.BST_RUN_target)

/-- The plain fields of BST_RUN. -/
def State.bstFields (mode : Bool) (target : Nat) (s : State) : State := (s.wrB R.BST_RUN_mode mode).wr R.BST_RUN_target target

/-- R537: BST_RUN is written with go = 1; go is unlocked in MANUFACTURE and SERVICE. -/
def execBistRunGo (who : Init) (mode : Bool) (target : BitVec 5) (s : State) : Out :=
  .next (s.accept who R.BST_RUN_go (fun s => (s.bstFields mode target.toNat).acceptRwl who R.BST_RUN_go (State.bstGo who)))

/-- A run in progress ends with a code. -/
def State.bstStop (c : BstCode) (s : State) : State := if s.rdB R.BST_STAT_busy then s.bstEnd c else s

/-- R540: BST_RUN.abort. -/
def execBistAbort (who : Init) (s : State) : Out := .next (s.accept who R.BST_RUN_abort (State.bstStop .aborted))

/-- R540: a condition of R536 has become false during a run. -/
def execBistPrecondFail (s : State) : Out := .next (if s.bstMay then s else s.bstStop .precond)

/-! ## Boundary scan (R542 to R544) -/

/-- Whether EXTEST or one of its kin is the TAP's instruction. -/
def TapState.extest (t : TapState) : Bool := decide (t.instr = .extest ∨ t.instr = .extestPulse ∨ t.instr = .extestTrain)

/-- BST_BSCAN.active follows the instruction and the groups; source 50 tells of a change of either since old (R545). -/
def State.bscanShow (s old : State) : State :=
  let s := s.wrB R.BST_BSCAN_active (s.tap.extest && s.rdB R.BST_BSCAN_groups)
  s.when (old.rd R.BST_BSCAN_groups ≠ s.rd R.BST_BSCAN_groups ∨ old.rd R.BST_BSCAN_active ≠ s.rd R.BST_BSCAN_active) (State.raise 50)

/-- The owning blocks of a group (R543). -/
def groupOwners (g : Nat) : List Nat :=
  if g = 0 then [8, 9, 10, 11, 16, 17, 18, 19] else if g = 1 then [12, 13, 14, 15, 20, 21, 22, 23] else if g = 2 then [29]
  else if g = 3 then [35] else [36]

/-- The groups set: a granted DRAM group loses DRAM's contents and training (R544), and a granted ring group holds the bypass open, which
is closed again when the group is released (R543). -/
def State.groupsSet (v : Nat) (s : State) : State :=
  let old := s
  let s := s.wr R.BST_BSCAN_groups v
  let s := s.when (bitAt v 3 = true) (fun s => { s.wr R.DRC_STAT_ready 0 with dram := [] })
  let s := if bitAt v 4 then s.wr R.FRK_STAT_bypass 1 else s.when (old.rdBit R.BST_BSCAN_groups 4 = true) (State.wr R.FRK_STAT_bypass 0)
  s.bscanShow old

/-- BST_BSCAN.groups written: every group that it adds is refused unless R536 holds and its owners are disabled. -/
def State.groupsOp (who : Init) (v : Nat) (s : State) : State :=
  let now := s.rd R.BST_BSCAN_groups
  let new := (List.range 5).filter (fun g => bitAt v g && !bitAt now g)
  if v = now then s
  else if new = [] then s.groupsSet v
  else if s.rdB R.BST_CTL_en = false then s.refuse who R.BST_BSCAN_groups
  else if !s.bstMay then (s.refuse who R.BST_BSCAN_groups).bstCode .precond
  else if (new.flatMap groupOwners).any s.blockOn then s.refuse who R.BST_BSCAN_groups
  else s.groupsSet v

/-- R543: BST_BSCAN.groups is written; unlocked in MANUFACTURE and SERVICE. -/
def execBscanGrant (who : Init) (groups : BitVec 5) (s : State) : Out :=
  .next (s.accept who R.BST_BSCAN_groups (fun s =>
    if groups.toNat = s.rd R.BST_BSCAN_groups then s else s.acceptRwl who R.BST_BSCAN_groups (State.groupsOp who groups.toNat)))

/-- R543: a condition of R536 has become false while a group is granted: every group is released. -/
def execBscanPrecondRelease (s : State) : Out :=
  .next (if s.rdB R.BST_BSCAN_groups && !s.bstMay then (s.groupsSet 0).bstCode .precond else s)

/-- BST_CTL.srst set: a run ends with STOPPED, every group is released, and the registers are reset (R540, R15). -/
def State.bstResetOp (s : State) : State :=
  ((s.bstStop .stopped).when (s.rdB R.BST_BSCAN_groups = true) (State.groupsSet 0)).blockReset 6 R.BST_CTL_srst

/-- R540. -/
def execBistSoftReset (_who : Init) (s : State) : Out := .next s.bstResetOp

/-- R540: all patterns are applied with this MISR: PASS where it is the golden signature of the target and of the mode the run started
with. -/
def execBistDone (misr : BitVec 64) (s : State) : Out :=
  .next (
    if !s.rdB R.BST_STAT_busy then s
    else if !s.bstMay then s.bstEnd .precond
    else
      let t := s.rd R.BST_STAT_target
      let s := s.wr64 R.BST_MISR_misr misr.toNat
      if misr = Config.goldenSig t (if s.bistFull then 1 else 0) then
        ((s.wrBit R.BST_PASS_pass t true).wrBit R.BST_FAIL_fail t false).bstEnd .pass
      else
        let s := (s.wrBit R.BST_PASS_pass t false).bstCount R.BST_CNT_fails
        let rises := !s.rdB R.BST_FAIL_fail
        let s := s.wrBit R.BST_FAIL_fail t true
        (s.when (rises = true) (State.statusRise 49)).bstEnd .fail)

/-! ## The test access port (R542) -/

/-- An instruction loaded. -/
def State.tapLoad (i : TapInstr) (s : State) : State :=
  let old := s
  ({ s with tap := { s.tap with instr := i } } : State).bscanShow old

/-- R542: BYPASS. -/
def execTapBypass (s : State) : Out := .next (s.tapLoad .bypass)

/-- R542: IDCODE: version 1, part 0x4410, manufacturer 0x5A3. -/
def execTapIdcode (s : State) : Out := .next { s.tapLoad .idcode with reply := 0x14410B47 }

/-- R542: SAMPLE/PRELOAD: the cells capture the pads and are loaded from the scan path. -/
def execTapSamplePreload (pads load : List Bool) (s : State) : Out :=
  .next { s.tapLoad .samplePreload with tap := ⟨.samplePreload, pads, load⟩ }

/-- EXTEST or one of its kin: on the granted groups the pads follow the cells and are observed; with no group granted the instruction
selects the bypass register. -/
def State.tapExtest (i : TapInstr) (pads load : List Bool) (s : State) : State :=
  let s := s.tapLoad i
  if s.rdB R.BST_BSCAN_groups then { s with tap := ⟨i, pads, load⟩ } else s

/-- R542: EXTEST. -/
def execTapExtest (pads load : List Bool) (s : State) : Out := .next (s.tapExtest .extest pads load)

/-- R542: EXTEST_PULSE, of IEEE 1149.6. -/
def execTapExtestPulse (pads load : List Bool) (s : State) : Out := .next (s.tapExtest .extestPulse pads load)

/-- R542: EXTEST_TRAIN, of IEEE 1149.6. -/
def execTapExtestTrain (pads load : List Bool) (s : State) : Out := .next (s.tapExtest .extestTrain pads load)

end Sys2Proof.Machine
end

