-- ==== Sys2Proof/Machine/Obj.lean ====
section
/-! DEFINITION. The digest engine OBJ (spec/14_object_services.md R411, R412, R421): its contexts and its ring in DRAM. -/
namespace Sys2Proof.Machine

/-- The record of a context. -/
def State.objCtx (s : State) (c : Nat) : Nat := s.rd R.OBJ_CTX_BASE_base * 4096 + 256 * c

/-- The status byte of a context. -/
def State.objStatus (s : State) (c : Nat) : Nat := s.dramLe (s.objCtx c + 168) 1

/-- OBJ_STAT.open follows the contexts. -/
def State.objShow (s : State) : State := s.wr R.OBJ_STAT_open ((List.range 64).filter (fun c => s.objStatus c == 1)).length

/-- A context's status written. -/
def State.objSet (c n : Nat) (s : State) : State := State.objShow (s.dramPut (s.objCtx c + 168) (leBytes 1 n))

/-- A counter of OBJ_CNT_EVT raised, source offset 3 on saturation. -/
def State.objCount (f : Field) (s : State) : State := s.satCount f 231

/-- OBJ_ERR captures an error as R50 has it, source offset 2. -/
def State.objErr (cause ctx entry : Nat) (s : State) : State :=
  let s := s.objCount R.OBJ_CNT_EVT_err
  if s.rdB R.OBJ_ERR_valid then s.wr R.OBJ_ERR_overflow 1
  else (((s.wr R.OBJ_ERR_cause cause).wr R.OBJ_ERR_ctx ctx).wr R.OBJ_ERR_entry entry).setStatus R.OBJ_ERR_valid 1 230

/-- Bit c of an array of two registers set, with the source that follows it. -/
def State.objBit (f : Field) (source c : Nat) (s : State) : State :=
  let g := f.at (c / 32)
  let was := s.rdB (f.at 0) || s.rdB (f.at 1)
  let s := s.wrBit g (c % 32) true
  if was then s else s.statusRise source

/-- Whether OBJ runs. -/
def State.objOn (s : State) : Bool := s.rdB R.OBJ_CTL_en && !s.inSoftReset 33

/-- The ring's size. -/
def State.objSize (s : State) : Nat := 2 ^ s.rd R.OBJ_RING_SIZE_log2

/-- OBJ_RING_TAIL, at the block, with the rules of R211. -/
def State.objTailOp (who : Init) (v : Nat) (s : State) : State :=
  let n := s.objSize
  let h := s.rd R.OBJ_RING_HEAD_head
  if n ≤ v ∨ n - 1 ≤ (v + n - h % n) % n then s.refuse who R.OBJ_RING_TAIL_tail else s.wr R.OBJ_RING_TAIL_tail v

/-- R411: feeds are posted by advancing the tail. -/
def execObjFeedPost (who : Init) (v : BitVec 12) (s : State) : Out :=
  .next (s.accept who R.OBJ_RING_TAIL_tail (State.objTailOp who v.toNat))

/-- SHA-256 over the whole blocks of a byte string, with what is left. -/
def shaBlocks : Nat → BitVec 256 → List Byte → BitVec 256 × List Byte
  | 0, h, l => (h, l)
  | n + 1, h, l => if l.length < 64 then (h, l) else shaBlocks n (Config.sha256Step h (l.take 64)) (l.drop 64)

/-- The end of a message: the result digest, the status, and the bits and counts that follow it (R411). -/
def State.objFinal (c : Nat) (compare done : Bool) (h : BitVec 256) (n : Nat) (rest : List Byte) (s : State) : State :=
  let a := s.objCtx c
  let d := leBytes 32 (Config.sha256Final h n rest).toNat
  let same := s.dramGet (a + 104) 32 == d
  let s := (s.dramPut (a + 136) d).objCount R.OBJ_CNT_EVT_finals
  let s := s.objSet c (if compare then (if same then 2 else 3) else 4)
  let s := if compare && !same then (s.objBit R.OBJ_MISM_mism 229 c).objCount R.OBJ_CNT_EVT_mism else s
  s.when (done = true) (State.objBit R.OBJ_DONE_done 228 c)

/-- A feed of an open context digested. -/
def State.objDigest (c addr len flags : Nat) (s : State) : State :=
  let a := s.objCtx c
  let n := s.dramLe (a + 32) 8
  let m := s.dramGet (a + 40) (n % 64) ++ s.dramGet addr len
  let r := shaBlocks (m.length / 64) (BitVec.ofNat 256 (s.dramLe a 32)) m
  let s := ((s.dramPut a (leBytes 32 r.1.toNat)).dramPut (a + 32) (leBytes 8 (n + len))).dramPut (a + 40) r.2
  let s := s.wr64 R.OBJ_CNT_BYTES_bytes ((s.rd64 R.OBJ_CNT_BYTES_bytes + len) % 2 ^ 64)
  if bitAt flags 0 then s.objFinal c (bitAt flags 1) (bitAt flags 2) r.1 (n + len) r.2 else s

/-- One ring entry taken: a feed too long, or to a context that is not open, is discarded; one that meets an uncorrectable
DRAM error ends its context with status 5, and that context's later feeds are discarded with the same cause (R412). -/
def State.objTake (s : State) : State :=
  let e := s.rd R.OBJ_RING_HEAD_head
  let a := s.rd R.OBJ_RING_BASE_base * 4096 + 16 * e
  let addr := s.dramLe a 8
  let len := s.dramLe (a + 8) 4
  let c := s.dramLe (a + 12) 1
  let flags := s.dramLe (a + 13) 1
  let s := s.wr R.OBJ_RING_HEAD_head ((e + 1) % s.objSize)
  if 0x1000000 < len then s.objErr 3 (c % 64) e
  else if s.host.objUe.contains c then s.objErr 2 (c % 64) e
  else if 64 ≤ c ∨ s.objStatus c ≠ 1 then s.objErr 1 (c % 64) e
  else if s.poisonIn addr len ∨ s.poisonIn (s.objCtx c) 256 then
    ((s.objSet c 5).updHost (fun h => { h with objUe := c :: h.objUe })).objErr 2 c e
  else s.objDigest c addr len flags

/-- R412: OBJ digests the next ring entry, unless its vote in a sleep entry holds feeds off (R456). -/
def execObjFeed (s : State) : Out :=
  .next (if s.objOn && s.rd R.OBJ_RING_HEAD_head != s.rd R.OBJ_RING_TAIL_tail && !s.rdBit R.PWR_SLEEP_STAT_votes 5 then s.objTake else s)

/-- OPEN: bytes 0 to 103 initialised, status 1. OPEN of an open context is refused with cause CMD; the ring entry recorded with
it is open. A disabled OBJ takes no command (DEDUCED, assumption 24). -/
def State.objOpenOp (c : Nat) (s : State) : State :=
  if !s.objOn then s
  else if s.objStatus c = 1 then s.used.objErr 4 c (s.free.toNat % 4096)
  else
    let s := s.dramPut (s.objCtx c) (leBytes 32 Config.sha256Init.toNat ++ List.replicate 72 0)
    (s.objSet c 1).updHost (fun h => { h with objUe := h.objUe.filter (· != c) })

/-- R411: OBJ_CTX_CMD OPEN. -/
def execObjCtxOpen (who : Init) (c : Fin 64) (s : State) : Out := .next (s.accept who R.OBJ_CTX_CMD_op (State.objOpenOp c.val))

/-- R411: OBJ_CTX_CMD ABORT. -/
def execObjCtxAbort (who : Init) (c : Fin 64) (s : State) : Out :=
  .next (s.accept who R.OBJ_CTX_CMD_op (fun s => if s.objOn then s.objSet c.val 5 else s))

/-- OBJ disabled: open contexts take status 5, and the ring is emptied. -/
def State.objDisableOp (srst : Bool) (s : State) : State :=
  let s := s.forEach ((List.range 64).filter (fun c => s.objStatus c == 1)) (fun c s => s.objSet c 5)
  let s := s.wr R.OBJ_RING_HEAD_head (s.rd R.OBJ_RING_TAIL_tail)
  if srst then s.blockReset 33 R.OBJ_CTL_srst else s.wr R.OBJ_CTL_en 0

/-- A write clears OBJ_CTL.en or sets srst. -/
def execObjDisable (_who : Init) (srst : Bool) (s : State) : Out := .next (s.objDisableOp srst)

end Sys2Proof.Machine
end

