-- ==== Sys2Proof/Machine/Sleep.lean ====
section
/-! DEFINITION. Sleep and wake (spec/16_power_states.md R454 to R459, R462). -/
namespace Sys2Proof.Machine

/-- The phase written. -/
def State.setPhase (p : SleepPhase) (s : State) : State := s.wr R.PWR_SLEEP_STAT_phase p.code

/-- Whether a voter has voted yes. -/
def State.voted (s : State) (v : Nat) : Bool := s.rdBit R.PWR_SLEEP_STAT_votes v

/-! ## Preconditions and votes (R455, R456) -/

/-- Whether a port is ready for Doldrums: not there, its link in L2 or L3, or its PERST asserted. -/
def State.portAsleep (s : State) (inL2 p : Nat) : Bool := (p == 1 && !s.rdB R.HIF_STAT_mode) || bitAt inL2 p || (s.ctrl p).perst

/-- The precondition of a sleep state (R455). -/
def State.sleepMay (s : State) (target inL2 : Nat) : Bool :=
  decide (target = 0)
    || (s.actDown .a && s.actDown .b && (decide (target = 1)
      || ((s.spmIs .idle || s.spmIs .off) && s.portAsleep inL2 0 && s.portAsleep inL2 1 && !s.frkIs .cabinet)))

/-- The condition of a voter (R456), as far as the state shows it: that no request is in flight at BUF, the devices' self-refresh and
TLPs pending are the event's to tell. -/
def State.voteHolds (s : State) (inL2 v : Nat) : Bool :=
  let seq := fun x : Act => (s.msqIs x .idle || s.msqIs x .paused || s.msqIs x .parked) && s.ringEmpty x
  match v with
  | 0 => (List.range 6).all (fun c => !s.rdBit R.SYS_RST_CTL_core_run c || s.rdBit R.PWR_VOTE_yes c)
  | 1 => s.host.ctxs.isEmpty && !s.pwr.doorbell
  | 2 => seq .a
  | 3 => seq .b
  | 4 => s.par.walk.a.isNone && s.par.walk.b.isNone && s.par.bind.toList.all (·.isNone)
  | 5 => s.rd R.OBJ_RING_HEAD_head == s.rd R.OBJ_RING_TAIL_tail
  | 6 => !s.rdB R.CAL_STAT_busy
  | 7 => s.evr.log0.job.isNone && s.evr.log1.job.isNone
  | 8 => decide (s.pwr.target = 0) || (!s.pwr.draining && !s.rdB R.BUF_STAT_draining)
  | 10 => decide (s.pwr.target ≠ 2) || (s.portAsleep inL2 0 && s.portAsleep inL2 1)
  | _ => true

/-! ## Prepare, abort and back-off (R456, R458) -/

/-- PWR_SLEEP_CTL written with go: refused outside RUN and unless the precondition holds (R455, R458). -/
def State.sleepGo (who : Init) (target inL2 : Nat) (s : State) : State :=
  let s := if target = 3 then s.refuse who R.PWR_SLEEP_CTL_target else s.wr R.PWR_SLEEP_CTL_target target
  let t := s.rd R.PWR_SLEEP_CTL_target
  if s.phaseIs .run && s.sleepMay t inL2 then
    ((s.setPhase .prepare).wr R.PWR_SLEEP_STAT_votes 0).updPwr (fun p => { p with
      target := t, doorbell := false, draining := false, releasing := [], wakeKept := none })
  else s.refuse who R.PWR_SLEEP_CTL_go

/-- R455, R456: PWR_SLEEP_CTL.go; bit p of inL2 tells that port p's link is in L2 or L3. -/
def execSleepGo (who : Init) (target : BitVec 2) (inL2 : BitVec 2) (s : State) : Out :=
  .next (s.accept who R.PWR_SLEEP_CTL_go (State.sleepGo who target.toNat inL2.toNat))

/-- An abort is over: every voter is released, source 18 is raised, the base firmware logs it, and a level request held is applied. -/
def State.abortEnd (s : State) : State :=
  let s := ((s.wr R.PWR_SLEEP_STAT_votes 0).updPwr (fun p => { p with releasing := [] })).raise 18
  let s := s.logOpen 0x3E false
  if s.pwr.change.isSome then s else s.levelNext

/-- The voters released in descending order as far as no stop runs (R458). -/
def State.releaseGo (s : State) : State :=
  if s.pwr.draining then s
  else if s.pwr.releasing.isEmpty then s
  else s.abortEnd

/-- An entry aborted by a voter, or by the timeout, 15: the voters that have voted and one whose stop runs are to be released, and the back-off
starts. -/
def State.sleepAbort (v : Nat) (s : State) : State :=
  let k := s.pwr.aborts + 1
  let s := ((s.setPhase .backoff).wr R.PWR_SLEEP_STAT_abort_by v).pwrCount R.PWR_CNT_aborts
  let voters := ((List.range 11).filter (fun i => s.voted i)).reverse
  let s := s.updPwr (fun p => { p with
    aborts := k, backoffMs := s.rd R.PWR_SLEEP_CFG_backoff * 2 ^ min k 4, releasing := voters ++ [0] })
  s.releaseGo

/-- The lowest voter that voted yes and whose condition has turned false. -/
def State.withdrawn (s : State) (inL2 : Nat) : Option Nat := (List.range 11).find? (fun v => s.voted v && !s.voteHolds inL2 v)

/-- PWR asks for BUF's drain once voters 0 to 7 have voted, for Calm and Doldrums. -/
def State.askDrain (s : State) : State :=
  if s.rd R.PWR_SLEEP_STAT_votes = 0xFF ∧ 1 ≤ s.pwr.target then
    (s.wr R.BUF_STAT_draining 1).updPwr (fun p => { p with draining := true })
  else s

/-- R456: a voter votes yes: PWR asks in ascending order, and its condition holds. A withdrawal that has come about in the meantime aborts
instead. The last vote starts Commit, which for Lull and Calm moves to P3 (R457), and for Doldrums takes FRK to OFF (R495). -/
def execVoteYes (voter : Fin 11) (inL2 : BitVec 2) (s : State) : Out :=
  .next (
    let v := voter.val
    if !s.phaseIs .prepare then s
    else match s.withdrawn inL2.toNat with
      | some w => s.sleepAbort w
      | none =>
        if (List.range v).all (fun i => s.voted i) && !s.voted v && s.voteHolds inL2.toNat v then
          let s := (s.wrBit R.PWR_SLEEP_STAT_votes v true).askDrain
          if s.rd R.PWR_SLEEP_STAT_votes = 0x7FF then
            let s := s.setPhase .commit
            if s.pwr.target ≤ 1 then s.goP3 else s.frkOff
          else s
        else s)

/-- R458: a voter's condition turns false in Prepare. -/
def execVoteWithdrawal (voter : Fin 11) (inL2 : BitVec 2) (s : State) : Out :=
  .next (
    let v := voter.val
    if s.phaseIs .prepare && s.voted v && (!s.voteHolds inL2.toNat v || decide (8 ≤ v)) then s.sleepAbort v else s)

/-- R458: prep_tmo has passed without every vote. -/
def execPrepareTimeout (s : State) : Out := .next (if s.phaseIs .prepare then s.sleepAbort 15 else s)

/-- R458: the stop that a release waits for has ended, and the voters that wait are released. -/
def execVoterRelease (s : State) : Out :=
  .next (if s.phaseIs .backoff && !s.rdB R.BUF_STAT_draining then (s.updPwr (fun p => { p with draining := false })).releaseGo else s)

/-- R458: the back-off has elapsed. -/
def execBackoffEnd (s : State) : Out := .next (if s.phaseIs .backoff then s.setPhase .run else s)

/-! ## Commit (R457, R454) -/

/-- The blocks of the islands that Calm powers off (R454): media and DRC, and motion where the spindle is idle or off. -/
def State.calmOff (s : State) : List Nat :=
  (List.range 16).map (· + 8) ++ [24, 25, 26, 30, 33, 35] ++ (if s.spmIs .idle || s.spmIs .off then [7, 27, 28, 29] else [])

/-- BUF's island off: the scratchpad ways that PWR_RET names keep their contents, and with them the assignment of the ways
(DEDUCED, assumption 34). -/
def State.bufOff (s : State) : State :=
  let ret := s.rd R.PWR_RET_ways
  let ways := s.rd R.BUF_SPAD_ways
  let kept := (List.range ways).filter (fun m => bitAt ret (15 - m))
  let spad := s.buf.spad.filter (fun c => kept.contains (c.1 / 0x100000))
  let poison := s.buf.spadPoison.filter (fun w => kept.contains (32 * w / 0x100000))
  let s := s.blockFresh 34
  if kept.isEmpty then s
  else { s.wr R.BUF_SPAD_ways ways with buf := { s.buf with spad := spad, spadReady := ways, spadPoison := poison } }

/-- A block off with everything in it, a Head Link engine too. -/
def State.blockOff (blk : Nat) (s : State) : State :=
  let s := (s.regsFresh blk (fun _ => false)).innerFresh blk
  if blk = 16 then { s with hl := s.hl.set .a HlState.init } else if blk = 20 then { s with hl := s.hl.set .b HlState.init } else s

/-- The exit from sleep starts (R459): Calm's islands are powered through the wake arbiter, the step being open; Doldrums asserts
PWR_CORE_EN, after which the core supplies give POR. -/
def State.exitStart (src : Option Nat) (s : State) : State :=
  let s := s.setPhase .exit
  let s := match src with
    | some b => if s.rdB R.PWR_WAKE_SRC_src then s else s.wr R.PWR_WAKE_SRC_src (2 ^ b)
    | none => s
  if s.pwr.target = 1 then
    let ma := s.free.toNat % 65536
    let s := (s.used).updPwr (fun p => { p with bridge := true })
    if s.arbOpen 0 then s.arbAdmitted 0 ma else s.arbRequest .pwr 0 ma
  else if s.pwr.target = 2 then (s.updPwr (fun p => { p with coreEn := true })).wr R.PWR_AON_STAT_dol_exit 1
  else s

/-- R457: Commit ends: the level is P3 for Lull and Calm, islands are off, and for Doldrums PWR_CORE_EN is deasserted. A wake event that was
kept starts the exit. -/
def execCommitDone (s : State) : Out :=
  .next (
    if s.phaseIs .commit && (decide (s.pwr.target = 2) || (s.level == 3 && s.pwr.change.isNone)) then
      let s := ((s.setPhase .asleep).updPwr (fun p => { p with aborts := 0 })).pwrCount R.PWR_CNT_entries
      let s := if s.pwr.target = 1 then
          let s := State.forEach s.bufOff s.calmOff State.blockOff
          { s with
            cores := Vector.replicate 6 .held
            sram := { s.sram with
              rt0 := if s.rdB R.PWR_RET_rt0 then s.sram.rt0 else []
              rt1 := if s.rdB R.PWR_RET_rt1 then s.sram.rt1 else [] } }
        else if s.pwr.target = 2 then s.updPwr (fun p => { p with coreEn := false })
        else s
      match s.pwr.wakeKept with
      | some b => (s.updPwr (fun p => { p with wakeKept := none })).exitStart (if b < 8 then some b else none)
      | none => s
    else s)

/-! ## Wake and exit (R459) -/

/-- The sources of a group of PWR_WAKE_EN. -/
def wakeSources : Nat → List Nat
  | 0 => (List.range 16).map (· + 208) ++ (List.range 4).map (· + 248)
  | 4 => (List.range 4).map (· + 244)
  | 5 => (List.range 8).map (· + 24)
  | 7 => (List.range 12).map (· + 52) ++ (List.range 8).map (· + 184) ++ (List.range 8).map (· + 192)
  | _ => []

/-- Whether a group's event holds: a source of it is pending, a doorbell for the host's (as the worked example wakes), and an input of the AON
domain, and a GRANT, REVOKE or waking MBX of the ring (R506), is the event itself. -/
def State.wakeHolds (s : State) (b : Nat) : Bool :=
  b == 1 || b == 2 || b == 3 || b == 4 || b == 6 || (wakeSources b).any s.irqPending || (b == 0 && s.pwr.doorbell)

/-- Whether a wake event acts in the state entered or being entered (R459). -/
def State.wakeActs (s : State) (src : Option Nat) : Bool :=
  match s.pwr.target, src with
  | 0, some b => (wakeSources b).any s.irqPending || (b == 0 && s.pwr.doorbell)
  | 0, none => (List.range 256).any s.irqPending
  | 1, some b => s.rdBit R.PWR_WAKE_EN_en b && s.wakeHolds b
  | 2, some b => s.rdBit R.PWR_WAKE_EN_en b && (b == 1 || b == 2 || b == 3 || b == 6)
  | _, _ => false

/-- A wake event: asleep it starts the exit; during Commit it is kept, the first one (R457, R459). -/
def State.wakeOp (src : Option Nat) (s : State) : State :=
  if !s.wakeActs src then s
  else if s.phaseIs .asleep then s.exitStart src
  else if s.phaseIs .commit then s.updPwr (fun p => { p with wakeKept := some (p.wakeKept.getD (src.getD 8)) })
  else s

/-- R459: a wake event, by its bit of PWR_WAKE_EN, or of a source of no group, which wakes from Lull only. A rising PERST releases its
port. -/
def execWakeEvent (src : Option (Fin 8)) (s : State) : Out :=
  .next (
    let s := match src with
      | some 1 => s.updCtrl 0 (fun k => { k with perst := false })
      | some 2 => s.updCtrl 1 (fun k => { k with perst := false })
      | _ => s
    s.wakeOp (src.map (·.val)))

/-- A released core enters the secondary entry: it runs from the address in its JIG_ENTRY pair, and waits where that is 0. RT0 and RT1
use the low word only (R66). -/
def State.coreEnter (c : Fin 6) (s : State) : State :=
  let f := R.JIG_ENTRY_addr.at (2 * c.val)
  let g := R.JIG_ENTRY_addr.at (2 * c.val + 1)
  let a := s.rd f + (if c.val < 4 then 2 ^ 32 * s.rd g else 0)
  { s with cores := s.cores.set c (if a = 0 then .waiting else .running a) }

/-- The cores that core_run names released. -/
def State.coresEnter (s : State) : State :=
  s.forEach (List.range 6) (fun i s => if h : i < 6 then (if s.rdBit R.SYS_RST_CTL_core_run i then s.coreEnter ⟨i, h⟩ else s) else s)

/-- R459, R467: the exit from Lull or Calm ends and the device is in RUN. Calm: Drive Time has been loaded, DRAM has left self-refresh with a
retrain pass, and the cores are released at the secondary entry. -/
def execSleepExitDone (s : State) : Out :=
  .next (
    if s.phaseIs .exit && decide (s.pwr.target ≤ 1) && s.pwr.queue.all (fun r => r.who != .pwr) then
      let calm := s.pwr.target = 1
      let s := s.when (s.pwr.bridge = true) (fun s => s.bridgeTime ((s.pwr.aon + 1) % 2 ^ 48))
      let s := (s.setPhase .run).wr R.PWR_SLEEP_STAT_votes 0
      let s := s.when calm (fun s => ((s.wr R.PWR_AON_STAT_calm_exit 1).coresEnter).updDrc (fun d => { d with retrain := [0, 1, 2, 3] }))
      (s.levelResume).raise 19
    else s)

/-- R459: the AON count reaches PWR_ALARM; 0 disables the alarm. -/
def execAonAlarm (s : State) : Out :=
  .next (if s.rd64 R.PWR_ALARM_cnt ≠ 0 ∧ s.rd64 R.PWR_ALARM_cnt % 2 ^ 48 = s.pwr.aon then s.wakeOp (some 3) else s)

/-- R566: the wake GPIO that PRESENCE names has read 1 for 3 periods of the AON clock. One whose slot is unused reads 0 (R547). -/
def execGpioWake (s : State) : Out :=
  .next (match s.presence.wakeGpio with
    | some g => if s.slotUsed (108 + g) then (s.wrBit R.SYS_GPIO_IN_in g true).wakeOp (some 6) else s
    | none => s)

end Sys2Proof.Machine
end

