-- ==== Sys2Proof/Machine/CoreRun.lean ====
section
/-! DEFINITION. SYS_RST_CTL (spec/01_architecture.md; spec/02_jig_boot_lifecycle.md R66): which cores run, and the request for a
warm reset. -/
namespace Sys2Proof.Machine

/-- SYS_RST_CTL.core_run, at the block: refused where no core would run; a core moved from 0 to 1 enters the secondary entry, and one
moved from 1 to 0 is held. -/
def State.coreRunOp (who : Init) (run : Nat) (s : State) : State :=
  if run = 0 then s.refuse who R.SYS_RST_CTL_core_run
  else
    let old := s
    (s.wr R.SYS_RST_CTL_core_run run).forEach (List.finRange 6) (fun c s =>
      if bitAt run c.val && !old.rdBit R.SYS_RST_CTL_core_run c.val then s.coreEnter c
      else if !bitAt run c.val then { s with cores := s.cores.set c .held }
      else s)

/-- R66: a write of core_run. -/
def execCoreRunWrite (who : Init) (run : BitVec 6) (s : State) : Out :=
  .next (s.accept who R.SYS_RST_CTL_core_run (State.coreRunOp who run.toNat))

/-- SYS_RST_CTL.warm written 1: WARM follows 64 core cycles later. -/
def State.warmAsk (s : State) : State := { s with warmPending := true }

/-- R12. -/
def execWarmRequest (who : Init) (s : State) : Out := .next (s.accept who R.SYS_RST_CTL_warm State.warmAsk)

end Sys2Proof.Machine
end

