-- ==== Sys2Proof/Machine/Jig.lean ====
section
/-! DEFINITION. JIG's commands (spec/02_jig_boot_lifecycle.md): key slots and roll-back (R54 to R56), the golden copy (R68, R70,
R71), and the life cycle (R72 to R76). -/
namespace Sys2Proof.Machine

/-! ## Fuses -/

/-- The fuse array updated. -/
def State.updFuses (f : Fuses → Fuses) (s : State) : State := { s with fuses := f s.fuses }

/-- The registers that show the key fuses (R54). -/
def State.keyShow (s : State) : State :=
  let bits : (KeySlot → Bool) → Nat := fun p => maskOf ((List.range 4).filter (fun i => if h : i < 4 then p s.fuses.slots[i] else false))
  ((s.wrB R.JIG_KEY_STAT_svc s.fuses.svcProgrammed).wr R.JIG_KEY_STAT_revoked (bits (·.revoked))).wr R.JIG_KEY_STAT_programmed
    (bits (·.programmed))

/-- The life-cycle state that the fuses hold; a pattern that matches no state reads as RETIRED, and SERVICE is not held in
fuses (R72, R73). -/
def Fuses.state (f : Fuses) : Lc := if f.lifecycle = 3 then .retired else Lc.ofCode f.lifecycle

/-- The fuse array sensed: the life-cycle state, the floor, the UID, the grade, the key fuses and the fused trims (R64, R509). -/
def State.fusesSense (s : State) : State :=
  let s := (s.wr R.JIG_STAT_lc_state s.fuses.state.code).wr R.JIG_RBK_STAT_floor s.fuses.floor
  let s := (s.wr64 R.JIG_UID_uid s.fuses.uid.toNat).wr R.SYS_ID_grade s.fuses.grade
  s.keyShow.calFuses

/-- A fuse program starts. -/
def State.fuseStart (op : FuseOp) (s : State) : State := State.jigBusy (s.updJig (fun j => { j with fuseOp := some op }))

/-- The fuse program in progress ends. -/
def State.fuseEnd (s : State) : State := State.jigBusy (s.updJig (fun j => { j with fuseOp := none }))

/-- The value of the key data words, the first n of them (R54). -/
def State.keyWords (s : State) (n : Nat) : Nat :=
  (s.jig.keyData.toList.take n).foldr (fun w r => w.toNat + 2 ^ 32 * r) 0

/-- Whether the fields of JIG_KEY_CTL are unlocked: MANUFACTURE and SERVICE. -/
def State.keyOpen (s : State) : Bool := decide (s.lc = .manufacture ∨ s.lc = .service)

/-- A slot of the fuse array. -/
def State.keySlot (s : State) (n : Fin 4) : KeySlot := s.fuses.slots[n]

/-- The fields of JIG_KEY_CTL written: locked outside MANUFACTURE and SERVICE, which is recorded where the write would change
them (R10, R567). -/
def State.keyFields (who : Init) (op : Nat) (slot : Fin 4) (s : State) : State :=
  if s.keyOpen then (s.wr R.JIG_KEY_CTL_op op).wr R.JIG_KEY_CTL_slot slot.val
  else s.when (s.rd R.JIG_KEY_CTL_op ≠ op ∨ s.rd R.JIG_KEY_CTL_slot ≠ slot.val)
    (State.cfgErr .locked true who R.JIG_KEY_CTL_op.blk R.JIG_KEY_CTL_op.off)

/-- JIG_KEY_CTL.go, judged by the state before the write with the op and slot that the register then holds (R54, R55, R568). -/
def State.keyGo (who : Init) (s : State) : State :=
  let op := s.rd R.JIG_KEY_CTL_op
  let n : Fin 4 := ⟨s.rd R.JIG_KEY_CTL_slot % 4, Nat.mod_lt _ (by decide)⟩
  if s.rdB R.JIG_STAT_busy then s.refuse who R.JIG_KEY_CTL_go
  else if op = 1 ∧ s.lc = .manufacture ∧ (s.keySlot n).programmed = false then
    s.fuseStart (.keySlot n (BitVec.ofNat 384 (s.keyWords 12)))
  else if op = 2 ∧ s.keyOpen = true ∧ s.rd R.JIG_IMG_INFO_key_slot ≠ n.val then s.fuseStart (.revoke n)
  else if op = 3 ∧ s.lc = .manufacture ∧ s.fuses.svcProgrammed = false then s.fuseStart (.svcKey (BitVec.ofNat 256 (s.keyWords 8)))
  else s.refuse who R.JIG_KEY_CTL_go

/-- A write of JIG_KEY_CTL with go = 1. -/
def State.keyOp (who : Init) (op : Nat) (slot : Fin 4) (s : State) : State :=
  s.accept who R.JIG_KEY_CTL_go (fun s => (s.keyFields who op slot).keyGo who)

/-- R54: op 1. -/
def execKeyProgramSlot (who : Init) (slot : Fin 4) (s : State) : Out := .next (s.keyOp who 1 slot)

/-- R55: op 2. -/
def execKeyRevokeSlot (who : Init) (slot : Fin 4) (s : State) : Out := .next (s.keyOp who 2 slot)

/-- R54: op 3. -/
def execKeyProgramService (who : Init) (slot : Fin 4) (s : State) : Out := .next (s.keyOp who 3 slot)

/-- A slot of the fuse array updated. -/
def State.updKeySlot (n : Fin 4) (f : KeySlot → KeySlot) (s : State) : State :=
  s.updFuses (fun x => { x with slots := updV x.slots n f })

/-- R54, R55, R577: a key or revocation program ends; ok tells that its fuses sensed correctly. A value other than the one a
program of the same fuses began with does not sense. -/
def execFuseProgramDone (ok : Bool) (s : State) : Out :=
  .next (match s.jig.fuseOp with
    | some (.keySlot n v) =>
      let good := ok && (!(s.keySlot n).begun || decide ((s.keySlot n).hash = v))
      let s := s.updKeySlot n (fun k => { k with hash := if k.begun then k.hash else v, begun := true, programmed := good })
      (s.fuseEnd.keyShow).when (good = false) (State.raise 12)
    | some (.svcKey v) =>
      let good := ok && (!s.fuses.svcBegun || decide (s.fuses.svcKey = v))
      let s := s.updFuses (fun f => { f with svcKey := if f.svcBegun then f.svcKey else v, svcBegun := true, svcProgrammed := good })
      (s.fuseEnd.keyShow).when (good = false) (State.raise 12)
    | some (.revoke n) =>
      let s := s.when (ok = true) (State.updKeySlot n (fun k => { k with revoked := true }))
      (s.fuseEnd.keyShow).when (ok = false) (State.raise 12)
    | _ => s)

/-- A write of JIG_RBK_CTL.target (R56); 0 is no action (R567). -/
def State.rbkOp (who : Init) (v : Nat) (s : State) : State :=
  if v = 0 then s
  else if v ≤ s.fuses.floor ∨ s.rd R.JIG_IMG_INFO_sec_ver < v ∨ 64 < v ∨ s.lc = .blank ∨ s.lc = .retired
      ∨ s.rdB R.JIG_STAT_busy = true then s.refuse who R.JIG_RBK_CTL_target
  else s.fuseStart (.rollback v)

/-- R56. -/
def execRollbackRaise (who : Init) (target : BitVec 7) (s : State) : Out :=
  .next (s.accept who R.JIG_RBK_CTL_target (State.rbkOp who target.toNat))

/-- R56, R82: the last roll-back fuse is programmed and sensed. -/
def execRollbackProgramDone (s : State) : Out :=
  .next (match s.jig.fuseOp with
    | some (.rollback v) => (((s.updFuses (fun f => { f with floor := v })).wr R.JIG_RBK_STAT_floor v).fuseEnd).raise 13
    | _ => s)

/-! ## The golden copy -/

/-- JIG_GOLD_BASE.lock set. -/
def State.goldLockOp (s : State) : State := s.wr R.JIG_GOLD_BASE_lock 1

/-- R68: the base and the protection are locked until WARM. -/
def execGoldLock (who : Init) (s : State) : Out := .next (s.accept who R.JIG_GOLD_BASE_lock State.goldLockOp)

/-- The magic and part checks of R51. -/
def imgPart (g : ImgSrc) : Bool := imgMagic g && imgLe g 0xC 2 == 0x4410

/-- JIG_GOLD_BASE.swap (R71): the boot records are read as they stand now. -/
def State.goldSwapOp (who : Init) (s : State) : State :=
  if s.rdB R.JIG_STAT_busy || !s.rdB R.JIG_GOLD_BASE_stage_lock || !imgPart (s.imgOfSlot 1) then s.refuse who R.JIG_GOLD_BASE_swap
  else State.jigBusy (s.updJig (fun j => { j with swap := some (s.flash.dev0.record, s.flash.dev1.record) }))

/-- R71: a swap starts. -/
def execGoldSwap (who : Init) (s : State) : Out := .next (s.accept who R.JIG_GOLD_BASE_swap (State.goldSwapOp who))

/-- JIG_IMG_INFO and JIG_IMG_GEN from the header of golden slot 0. -/
def State.imgInfo (s : State) : State :=
  let g := s.imgOfSlot 0
  ((s.wr R.JIG_IMG_INFO_key_slot (imgKeySlot g)).wr R.JIG_IMG_INFO_sec_ver (imgSecVer g)).wr R.JIG_IMG_GEN_generation (imgGeneration g)

/-- The swap takes effect with the boot records read at its start (R71). -/
def State.swapTakes (a b : Option BootRecord) (s : State) : State :=
  let s := (s.wr R.JIG_GOLD_BASE_half (1 - s.rd R.JIG_GOLD_BASE_half)).wr R.JIG_GOLD_BASE_stage_lock 0
  let s := (s.wr R.JIG_STAT_boot_copy (preferredOf a b)).imgInfo
  State.jigBusy (s.updJig (fun j => { j with swap := none }))

/-- R71. -/
def execGoldSwapEffect (s : State) : Out :=
  .next (match s.jig.swap with
    | some (a, b) => s.swapTakes a b
    | none => s)

/-- The slot that a half of the region is. -/
def State.slotOfHalf (s : State) (half : Nat) : Nat := if s.rd R.JIG_GOLD_BASE_half = half then 0 else 1

/-- R70: the affected section has been re-read from the flash copy that boot_copy names: with its digest right it is written
back and gold_ok set; otherwise loads from it are refused, with source 9. Either outcome is logged. -/
def execGoldRepairDone (s : State) : Out :=
  .next (match s.jig.repair with
    | [] => s
    | (half, type) :: r =>
      let s := s.updJig (fun j => { j with repair := r })
      let copy := s.rd R.JIG_STAT_boot_copy
      let src := imgOfList (s.flashDev copy).copy
      match (if copy < 2 then imgFind src type else none) with
      | some x =>
        let bytes := src x.off x.len
        let mine := imgFind (s.imgOfSlot (s.slotOfHalf half)) type
        if (mine.map (·.digest)).getD x.digest = digestBytes bytes then
          ((s.dramSet (s.goldBase + goldSlotBytes * half + x.off) bytes).wr R.JIG_STAT_gold_ok 1).logOpen 0x3E false
        else ((s.updJig (fun j => { j with badSections := (half, type) :: j.badSections })).raise 9).logOpen 0x3E false
      | none => ((s.updJig (fun j => { j with badSections := (half, type) :: j.badSections })).raise 9).logOpen 0x3E false)

/-! ## The life cycle (R74 to R76) -/

/-- The results of JIG_LC_STAT. -/
inductive LcResult where
  | none | ok | mismatch | locked | fuse | busy | refused
  deriving DecidableEq, Repr

/-- The encoding of JIG_LC_STAT.result. -/
def LcResult.code : LcResult → Nat
  | .none => 0
  | .ok => 1
  | .mismatch => 2
  | .locked => 3
  | .fuse => 4
  | .busy => 5
  | .refused => 6

/-- The result of a request. -/
def State.lcResult (r : LcResult) (s : State) : State := s.wr R.JIG_LC_STAT_result r.code

/-- The life-cycle state changes, raising source 10 (R82). RETIRED write-protects every namespace, which Critical Warning bit 3
tells (R350, R360). -/
def State.lcEnter (x : Lc) (s : State) : State :=
  ((s.smartRise 3 (decide (s.lc = .retired)) (decide (x = .retired))).wr R.JIG_STAT_lc_state x.code).raise 10

/-- The nonce's bytes. -/
def State.nonceBytes (s : State) : List Byte := (List.range 8).flatMap (fun n => leBytes 4 (s.rd (R.JIG_CHAL_nonce.at n)))

/-- Whether the response matches: the nonce is fresh, and the response is the HMAC under the service key of the nonce, the
UID and the byte 0x03 (R75). -/
def State.responseOk (s : State) : Bool :=
  decide (s.jig.nonce = .fresh)
    && (s.jig.resp.toList.flatMap (fun w => leBytes 4 w.toNat)
      == leBytes 32 (Config.hmacSha256 s.fuses.svcKey (s.nonceBytes ++ leBytes 8 s.fuses.uid.toNat ++ [3])).toNat)

/-- A request for SERVICE in DEPLOYED (R74, R75). -/
def State.serviceRequest (s : State) : State :=
  if s.rdB R.JIG_STAT_lockout then s.lcResult .locked
  else
    let good := s.responseOk
    let s := s.updJig (fun j => { j with nonce := .spent })
    if good then (((s.wr R.JIG_LC_STAT_fail_cnt 0).lcResult .ok).lcEnter .service).logOpen 0x3E false
    else
      let n := min 8 (s.rd R.JIG_LC_STAT_fail_cnt + 1)
      let s := (s.wr R.JIG_LC_STAT_fail_cnt n).lcResult .mismatch
      (s.when (n = 8) (State.setStatus R.JIG_STAT_lockout 1 11)).logOpen 0x3E false

/-- Whether an activation is in its quiesce phase: in-flight commands complete or the cache is flushed (R76, R79). -/
def State.quiescing (s : State) : Bool :=
  match s.host.activation with
  | some a => decide (a.step = .drain ∨ a.step = .flush)
  | none => false

/-- A request judged (R74, R76); 0 is no request. -/
def State.lcRequestOp (who : Init) (req : Nat) (s : State) : State :=
  if req = 0 then s
  else if s.quiescing || s.rdB R.JIG_STAT_busy then (s.lcResult .busy).refuse who R.JIG_LC_CTL_req
  else
    let any := (List.range 4).any (fun i => if h : i < 4 then s.fuses.slots[i].programmed else false)
    match s.lc, req with
    | .blank, 1 => if s.rd R.JIG_IMG_INFO_key_slot = 0xFF then s.fuseStart (.lifecycle 1)
        else (s.lcResult .refused).refuse who R.JIG_LC_CTL_req
    | .manufacture, 2 => if any && s.fuses.svcProgrammed then s.fuseStart (.lifecycle 2)
        else (s.lcResult .refused).refuse who R.JIG_LC_CTL_req
    | .manufacture, 4 => s.fuseStart (.lifecycle 4)
    | .deployed, 3 => s.serviceRequest
    | .service, 2 => ((s.lcResult .ok).lcEnter .deployed).logOpen 0x3E false
    | .service, 4 => s.fuseStart (.lifecycle 4)
    | _, _ => (s.lcResult .refused).refuse who R.JIG_LC_CTL_req

/-- R74: a write of JIG_LC_CTL.req. -/
def execLcRequest (who : Init) (req : BitVec 3) (s : State) : Out :=
  .next (s.accept who R.JIG_LC_CTL_req (State.lcRequestOp who req.toNat))

/-- A fresh nonce (R75). -/
def State.challengeOp (s : State) : State :=
  let s := s.forEach (List.range 8) (fun n s => (s.wr (R.JIG_CHAL_nonce.at n) (s.free.toNat % 2 ^ 32)).used)
  s.updJig (fun j => { j with nonce := .fresh })

/-- R75: a write of JIG_LC_CTL.chal. -/
def execChallenge (who : Init) (s : State) : Out := .next (s.accept who R.JIG_LC_CTL_chal State.challengeOp)

/-- R75: 60 s after it was generated, a nonce expires. -/
def execNonceExpire (s : State) : Out :=
  .next (if s.jig.nonce = .fresh then s.updJig (fun j => { j with nonce := .expired }) else s)

/-- The service-key bits that a program of RETIRED's fuses has blown where it does not reach its end: any of them (R74, R577). -/
def State.svcKeyCut (s : State) : State :=
  s.forEach (List.range 4) (fun i s =>
    (s.updFuses (fun f => { f with svcKey := f.svcKey ||| BitVec.ofNat 256 (s.free.toNat * 2 ^ (64 * i)) })).used)

/-- R74: a fuse transition ends; ok tells that its fuses sensed correctly. RETIRED blows all service-key bits. -/
def execLcTransitionDone (ok : Bool) (s : State) : Out :=
  .next (match s.jig.fuseOp with
    | some (.lifecycle n) =>
      let s := s.fuseEnd
      if ok then
        let s := s.updFuses (fun f => { f with lifecycle := n, svcKey := if n = 4 then BitVec.allOnes 256 else f.svcKey })
        (s.lcResult .ok).lcEnter (Lc.ofCode n)
      else ((s.when (n = 4) State.svcKeyCut).lcResult .fuse).raise 12
    | _ => s)

end Sys2Proof.Machine
end

