-- ==== Sys2Proof/Machine/Load.lean ====
section
/-! DEFINITION. The JIG loader (spec/02_jig_boot_lifecycle.md R69, R575, R576) and what each loadable section writes into its
blocks (R549, R111, R177, R178, R235, R236, R269, R448). -/
namespace Sys2Proof.Machine

/-! ## Words and tables -/

/-- A register's writable fields loaded from a word. -/
def State.loadReg (blk off v : Nat) (s : State) : State :=
  s.forEach ((fieldsAt blk off).filter (fun f => f.acc == .rw)) (fun f s => s.wr f (bitField v f.lo f.w))

/-- n words of a section from byte o loaded into consecutive registers from off. -/
def State.loadWords (g : ImgSrc) (o n blk off : Nat) (s : State) : State :=
  s.forEach (List.range n) (fun i s => s.loadReg blk (off + 4 * i) (imgLe g (o + 4 * i) 4))

/-- A section as bytes of its own. -/
def secBytes (g : ImgSrc) (x : Sec) : ImgSrc := fun o n => g (x.off + o) n

/-! ## The sections -/

/-- PRESENCE (R549); the loader clears each pull-down whose pull-up it sets (R566). -/
def State.loadPresence (g : ImgSrc) (s : State) : State :=
  let s := s.forEach (List.range 4) (fun i s => s.wr (R.SYS_SLOT_USED_used.at i) (imgLe g (4 + 4 * i) 4))
  let s := { s with
    positions := ⟨imgLe g 20 2, imgLe g 22 2⟩
    gck := { s.gck with primFitted := bitAt (imgLe g 24 1) 0, spareFitted := bitAt (imgLe g 24 1) 1 }
    presence := ⟨imgLe g 37 1 % 8, g 48 40, g 128 (imgLe g 88 2), if imgLe g 102 1 < 4 then some (imgLe g 102 1) else none⟩ }
  let p := imgLe g 25 1
  let s := (s.wr R.HIF_PORT_CFG_mode (bitField p 0 1)).wr R.HIF_PORT_CFG_max_rate (bitField p 1 2)
  let s := (s.wr R.HIF_PORT_CFG_clk_mode (bitField p 3 1)).wr R.HIF_PORT_CFG_clk_mode_ssc (bitField p 4 1)
  let s := (s.wr R.HIF_STAT_mode (bitField p 0 1)).wr R.HIF_MI_CFG_addr (imgLe g 26 1 % 128)
  let s := (s.wr R.FRK_LOCAL_spin_en (bitField (imgLe g 27 1) 0 1)).wr R.FRK_LOCAL_pwr_en (bitField (imgLe g 27 1) 1 1)
  let s := ((s.loadReg 37 0x10 (imgLe g 28 4)).loadReg 37 0x14 (imgLe g 32 4)).wr R.HIF_REV_rev (imgLe g 36 1)
  let s := ((s.loadReg 26 0x8 (imgLe g 40 4)).wr R.SRV_SYNC_PAT_pattern (imgLe g 44 2)).loadReg 26 0x1C (imgLe g 46 2)
  let up := imgLe g 100 2
  let down := (BitVec.ofNat 16 (s.rd R.SYS_GPIO_PULL_down) &&& ~~~(BitVec.ofNat 16 up)).toNat
  (((s.wr R.SYS_GPIO_DIR_dir (imgLe g 96 2)).wr R.SYS_GPIO_OUT_out (imgLe g 98 2)).wr R.SYS_GPIO_PULL_up up).wr R.SYS_GPIO_PULL_down down

/-- An annulus record of GEOMETRY. -/
def annulusOf (g : ImgSrc) (a : Nat) : AnnulusRec :=
  let o := 64 + 32 * a
  ⟨imgLe g o 4, imgLe g (o + 4) 4, imgLe g (o + 8) 4, imgLe g (o + 12) 4, imgLe g (o + 16) 2, imgLe g (o + 18) 2,
    imgLe g (o + 20) 2, imgLe g (o + 22) 2, imgLe g (o + 24) 4, imgLe g (o + 28) 2⟩

/-- GEOMETRY as the parts that read it hold it (R111). -/
def geometryOf (g : ImgSrc) : Geometry :=
  { w := imgLe g 0 2, g := imgLe g 2 2, n := imgLe g 4 1, usable := imgLe g 8 4, kvBase := imgLe g 12 4, strip := imgLe g 16 4,
    convSectors := imgLe g 20 4, convTracks := imgLe g 24 2, sysTracks := imgLe g 26 2, rConv := imgLe g 28 4,
    rSys := imgLe g 32 4, sync := imgLe g 36 4 % 2 ^ 24, annuli := (List.range 64).map (annulusOf g) }

/-- GEOMETRY into GCK_RATIO and the sync pattern of every channel (R576). -/
def State.loadGeometry (g : ImgSrc) (s : State) : State :=
  let e := geometryOf g
  let s := s.forEach (e.annuli.mapIdx (fun a r => (a, r.ratio))) (fun p s => s.wr (R.GCK_RATIO_ratio.at p.1) p.2)
  let s := (s.wr (R.GCK_RATIO_ratio.at 64) e.rConv).wr (R.GCK_RATIO_ratio.at 65) e.rSys
  State.forEach { s with geom := e } chans8 (fun ch s => s.wr (rchF R.RCH_SYNC_PAT_pattern ch) e.sync)

/-- An actuator's block of ADAPT (R178). -/
def State.loadAdaptOf (g : ImgSrc) (o : Nat) (x : Act) (s : State) : State :=
  let s := s.forEach (actChans x) (fun ch s =>
    let b := 8 + ch.val
    ((s.loadWords g o 0x840 b 0x2000).loadWords g (o + 0x2100) 0x2400 b 0x7000).loadWords g (o + 0xB100) 4 b 0x60)
  s.forEach ((s.actHeads x).mapIdx (fun l h => (l, h))) (fun p s =>
    s.forEach (List.range 64) (fun a s =>
      let e := o + 0xB200 + 8 * (64 * p.1 + a)
      (s.wr (R.GCK_PHOFS_OFS_ofs.at (64 * p.2 + a)) (imgLe g e 4)).wr (R.GCK_PHOFS_SLOPE_slope.at (64 * p.2 + a)) (imgLe g (e + 4) 4)))

/-- ADAPT. -/
def State.loadAdapt (g : ImgSrc) (s : State) : State := (s.loadAdaptOf g 0x40 .a).loadAdaptOf g 0xD240 .b

/-- LADDER into every channel (R177). -/
def State.loadLadder (g : ImgSrc) (s : State) : State := s.forEach chans8 (fun ch s => s.loadWords g 0 32 (8 + ch.val) 0x200)

/-- One word of a control store (R235). -/
def State.loadStoreWord (x : Act) (g : ImgSrc) (i : Nat) (s : State) : State :=
  s.updMsq x (fun m => { m with store := storePut m.store i (BitVec.ofNat 128 (imgLe g (16 * i) 16)) })

/-- A control store (R235). -/
def State.loadStore (x : Act) (g : ImgSrc) (s : State) : State := s.forEach (List.range 4096) (fun i s => s.loadStoreWord x g i)

/-- A dispatch table (R236), its parity bits with it. -/
def State.loadDispatch (x : Act) (g : ImgSrc) (s : State) : State :=
  s.forEach (List.range 256) (fun i s =>
    s.forEach (fieldsAt (24 + x.idx) (0x400 + 4 * i)) (fun f s => s.wr f (bitField (imgLe g (4 * i) 4) f.lo f.w)))

/-- CLE_COEF: both banks of every slot (R269); where a bank stands in the section is open (DESIGN CHOICE, assumption 19). -/
def State.loadCoef (bytes : List Byte) (s : State) : State :=
  s.forEach (List.range 24) (fun k s => s.forEach (List.range 2) (fun b s => s.forEach (List.range 64) (fun w s =>
    s.wr (R.CLE_BANK_coef.at (128 * k + 64 * b + w)) (Config.cleCoef bytes k b w).toNat)))

/-- PWR_LVL: PWR_LVL0 to PWR_LVL3 and PWR_WGT (R448); the section's layout is open (DESIGN CHOICE, assumption 19). -/
def State.loadLevels (bytes : List Byte) (s : State) : State :=
  let s := s.forEach (List.range 4) (fun n s => s.loadReg 2 (0x10 + 4 * n) (Config.pwrLvl bytes n).toNat)
  s.loadReg 2 R.PWR_WGT_mech.off (Config.pwrLvl bytes 4).toNat

/-- The types with a block to load into (R575). -/
def loadable : List Nat := [0x10, 0x11, 0x12, 0x13, 0x20, 0x21, 0x22, 0x23, 0x30, 0x40]

/-- A section written into its blocks. -/
def State.loadSection (type : Nat) (g : ImgSrc) (len : Nat) (s : State) : State :=
  match type with
  | 0x10 => s.loadPresence g
  | 0x11 => s.loadGeometry g
  | 0x12 => s.loadAdapt g
  | 0x13 => s.loadLadder g
  | 0x20 => s.loadStore .a g
  | 0x21 => s.loadStore .b g
  | 0x22 => s.loadDispatch .a g
  | 0x23 => s.loadDispatch .b g
  | 0x30 => s.loadCoef (g 0 len)
  | 0x40 => s.loadLevels (g 0 len)
  | _ => s

/-- The enables of the blocks that a section is written into; PWR has none. -/
def loadTargets : Nat → List Field
  | 0x10 => [R.HIF_CTL_en, R.FRK_CTL_en, R.SRV_CTL_en, R.GCK_CTL_en]
  | 0x11 => R.GCK_CTL_en :: chans8.map (rchF R.RCH_CTL_en)
  | 0x12 => R.GCK_CTL_en :: chans8.map (rchF R.RCH_CTL_en)
  | 0x13 => chans8.map (rchF R.RCH_CTL_en)
  | 0x20 => [msqF R.MSQ_CTL_en .a]
  | 0x21 => [msqF R.MSQ_CTL_en .b]
  | 0x22 => [msqF R.MSQ_CTL_en .a]
  | 0x23 => [msqF R.MSQ_CTL_en .b]
  | 0x30 => [R.CLE_CTL_en]
  | _ => []

/-! ## Loads (R69, R575) -/

/-- The sequencer whose control store a type is. -/
def loadAct (type : Nat) : Option Act := if type = 0x20 then some .a else if type = 0x21 then some .b else none

/-- JIG_LOAD_STAT.err set: source 9 follows it. -/
def State.loadErr (s : State) : State := s.setStatus R.JIG_LOAD_STAT_err 1 9

/-- A word that its sequencer has marked for reload: it may be loaded while the sequencer is enabled (R69). -/
def State.wordMarked (s : State) (type index : Nat) : Bool :=
  match loadAct type with
  | some x => s.msqIs x .mcheck && (s.msq.get x).reload == some index
  | none => false

/-- Whether a go is refused (R575), or its section could not be repaired (R70). -/
def State.loadRefused (s : State) (type : Nat) (src : Bool) (word : Option Nat) : Bool :=
  let marked := match word with
    | some i => s.wordMarked type i
    | none => false
  s.rdB R.JIG_STAT_busy || (src && !s.rdB R.JIG_GOLD_BASE_stage_lock)
    || ((loadTargets type).any s.rdB && !marked) || (word.isSome && (loadAct type).isNone) || !loadable.contains type
    || s.jig.badSections.contains (s.halfOf (if src then 1 else 0), type)

/-- A write of JIG_LOAD_CTL with go = 1. -/
def State.loadOp (who : Init) (type : Nat) (src : Bool) (word : Option Nat) (index : Nat) (s : State) : State :=
  let refused := s.loadRefused type src word
  let s := ((s.wr R.JIG_LOAD_CTL_type type).wrB R.JIG_LOAD_CTL_src src).wrB R.JIG_LOAD_CTL_word word.isSome
  let s := s.wr R.JIG_LOAD_CTL_index index
  if refused then (s.refuse who R.JIG_LOAD_CTL_go).loadErr
  else State.jigBusy (s.updJig (fun j => { j with load := some ⟨type, word, src⟩ }))

/-- R69: a whole section; the index field of the same write is kept as written. -/
def execLoadSection (who : Init) (type : BitVec 16) (src : Bool) (index : BitVec 12) (s : State) : Out :=
  .next (s.accept who R.JIG_LOAD_CTL_go (State.loadOp who type.toNat src none index.toNat))

/-- R69: one control-store word. -/
def execLoadWord (who : Init) (type : BitVec 16) (src : Bool) (index : BitVec 12) (s : State) : Out :=
  .next (s.accept who R.JIG_LOAD_CTL_go (State.loadOp who type.toNat src (some index.toNat) index.toNat))

/-- The section that a load reads, where the image holds it, it digests right and no word of it is poisoned (R69, R437). -/
def State.loadFound (s : State) (l : LoadOp) : Option Sec :=
  let slot := if l.src then 1 else 0
  let g := s.imgOfSlot slot
  (imgFind g l.type).filter (fun x => secOk g x && !s.poisonIn (s.goldSlot slot + x.off) x.len)

/-- A load's bytes written into its target. -/
def State.loadTake (l : LoadOp) (x : Sec) (s : State) : State :=
  let g := secBytes (s.imgOfSlot (if l.src then 1 else 0)) x
  match l.word, loadAct l.type with
  | some i, some a => (s.loadStoreWord a g i).msqReloaded a i
  | _, _ => s.loadSection l.type g x.len

/-- The end of a load (R575): on a digest mismatch nothing is written. -/
def State.loadEnd (l : LoadOp) (s : State) : State :=
  match s.loadFound l with
  | some x => (s.loadTake l x).setStatus R.JIG_LOAD_STAT_done 1 8
  | none =>
    let s := s.loadErr
    match loadAct l.type with
    | some a => s.msqLoadErr a
    | none => s

/-- R575: the load in progress ends. -/
def execLoadDone (s : State) : Out :=
  .next (match s.jig.load with
    | some l => (State.jigBusy (s.updJig (fun j => { j with load := none }))).loadEnd l
    | none => s)

/-- The boot loads (R576): every loadable section of golden slot 0, in the order of R576. -/
def State.bootLoad (s : State) : State :=
  let g := s.imgOfSlot 0
  s.forEach loadable (fun t s => match imgFind g t with
    | some x => s.loadSection t (secBytes g x) x.len
    | none => s)

end Sys2Proof.Machine
end

