-- ==== Sys2Proof/Machine/Apply.lean ====
section
/-! DEFINITION. What the fields of a posted write do when it reaches its block (spec/00_scope.md R7, R16, R567, R568): the fields that
are stored, and the operations of SYS, JIG, PWR, THM, EVR, CAL and BST. -/
namespace Sys2Proof.Machine

/-! ## The fields of a write -/

/-- The value that a write gives a field, where its part of the write acts. -/
def Posted.val (p : Posted) (f : Field) : Option Nat := (p.acts.find? (fun a => a.field.key == f.key)).map (·.value)

/-- Whether a write gives a field a value, or a 1 where the field acts on a 1. -/
def Posted.has (p : Posted) (f : Field) : Bool := (p.val f).isSome

/-- What a field holds once the write has acted, as a truth value. -/
def Posted.now (p : Posted) (f : Field) (s : State) : Bool := ((p.val f).getD (s.rd f)) != 0

/-- A field whose value is stored: a field of the AON domain and a Shadowed field of an enabled block wait for their edge or boundary, and a
W1C field clears the bits written 1. -/
def State.storeField (f : Field) (v : Nat) (s : State) : State :=
  if f.aon then s.pend f v
  else match f.acc with
    | .w1c => s.wr f (Nat.xor (s.rd f) (Nat.land (s.rd f) v))
    | .w1s => s.wr f (Nat.lor (s.rd f) v)
    | .rw | .rwl => if f.isShadowed && s.ownerOn f then s.pend f v else s.wr f v
    | _ => s

/-- A field of SYS_GPIO_DIR, OUT or PULL: bits 15:4 change at once, and bits 3:0 at the next AON edge (R566). -/
def State.storeGpio (f : Field) (v : Nat) (s : State) : State :=
  let s := s.wr f (v / 16 * 16 + s.rd f % 16)
  s.when (v % 16 ≠ s.rd f % 16) (State.pend { f with w := 4, aon := true } (v % 16))

/-- Whether a field is one of the GPIO port's. -/
def Field.isGpio (f : Field) : Bool :=
  f.isA R.SYS_GPIO_DIR_dir || f.isA R.SYS_GPIO_OUT_out || f.isA R.SYS_GPIO_PULL_up || f.isA R.SYS_GPIO_PULL_down

/-! ## SYS -/

/-- SYS_IRQ_SW.sw written: sources 252 to 255 follow its bits. -/
def State.irqSwOp (v : Nat) (s : State) : State :=
  let old := s
  (s.wr R.SYS_IRQ_SW_sw v).forEach ((List.range 4).filter (fun i => bitAt v i && !old.rdBit R.SYS_IRQ_SW_sw i))
    (fun i s => s.statusRise (252 + i))

/-- A field of SYS that does more than hold its value. -/
def State.actSys (p : Posted) (a : FieldAct) (s : State) : State :=
  let f := a.field
  if f.isA R.SYS_RST_CTL_core_run then s.coreRunOp p.init a.value
  else if f.isA R.SYS_RST_CTL_warm then s.warmAsk
  else if f.isA R.SYS_IRQ_CLAIM_source then s.irqCompleteOp p.init (f.no R.SYS_IRQ_CLAIM_source) a.value
  else if f.isA R.SYS_IRQ_SW_sw then s.irqSwOp a.value
  else if f.isA R.SYS_UART_TX_data then s.uartTx p.init (BitVec.ofNat 8 a.value)
  else if f.isGpio then s.storeGpio f a.value
  else s

/-- Whether a field of SYS does more than hold its value. -/
def ownSys (f : Field) : Bool :=
  f.acc == .wo || f.isA R.SYS_RST_CTL_core_run || f.isA R.SYS_IRQ_CLAIM_source || f.isA R.SYS_IRQ_SW_sw || f.isGpio

/-! ## JIG -/

/-- Fields of JIG that do more than hold their value: stage_lock after a swap judged by the register before the write (R71, R568). -/
def ownJig (f : Field) : Bool := f.acc == .wo || f.isA R.JIG_GOLD_BASE_stage_lock

/-- A JIG_RESP or JIG_KEY_DATA word written. -/
def State.jigWords (f : Field) (v : Nat) (s : State) : State :=
  let w := BitVec.ofNat 32 v
  if h : f.isA R.JIG_RESP_resp = true ∧ f.no R.JIG_RESP_resp < 8 then s.updJig (fun j => { j with resp := j.resp.set (f.no R.JIG_RESP_resp) w h.2 })
  else if h : f.isA R.JIG_KEY_DATA_data = true ∧ f.no R.JIG_KEY_DATA_data < 12 then
    s.updJig (fun j => { j with keyData := j.keyData.set (f.no R.JIG_KEY_DATA_data) w h.2 })
  else s

/-- The load that the fields of JIG_LOAD_CTL name. -/
def State.loadNamed (who : Init) (s : State) : State :=
  let i := s.rd R.JIG_LOAD_CTL_index
  s.loadOp who (s.rd R.JIG_LOAD_CTL_type) (s.rdB R.JIG_LOAD_CTL_src) (if s.rdB R.JIG_LOAD_CTL_word then some i else none) i

/-- A swap judged by the register before the write; stage_lock of the same write is stored where no swap acts (R71, R568). -/
def State.swapNamed (p : Posted) (s : State) : State :=
  let t := s.goldSwapOp p.init
  if t.jig.swap.isSome && s.jig.swap.isNone then t
  else match p.val R.JIG_GOLD_BASE_stage_lock with
    | some v => t.wr R.JIG_GOLD_BASE_stage_lock v
    | none => t

/-- A field of JIG that does more than hold its value. -/
def State.actJig (p : Posted) (a : FieldAct) (s : State) : State :=
  let f := a.field
  if f.isA R.JIG_RBK_CTL_target then s.rbkOp p.init a.value
  else if f.isA R.JIG_GOLD_BASE_swap then s.swapNamed p
  else if f.isA R.JIG_GOLD_BASE_stage_lock then (if p.has R.JIG_GOLD_BASE_swap then s else s.wr f a.value)
  else if f.isA R.JIG_LC_CTL_chal then s.challengeOp
  else if f.isA R.JIG_LC_CTL_req then s.lcRequestOp p.init a.value
  else if f.isA R.JIG_KEY_CTL_go then s.keyGo p.init
  else if f.isA R.JIG_LOAD_CTL_go then s.loadNamed p.init
  else s.jigWords f a.value

/-! ## PWR and THM -/

/-- Fields of PWR that do more than hold their value. -/
def ownPwr (f : Field) : Bool := f.acc == .wo || f.isA R.PWR_PLVL_req

/-- A field of PWR that does more than hold its value. That a link is in L2 or L3 no register shows: it is open here. -/
def State.actPwr (p : Posted) (a : FieldAct) (s : State) : State :=
  let f := a.field
  if f.isA R.PWR_PLVL_req then s.levelRequest a.value
  else if f.isA R.PWR_SLEEP_CTL_go then s.used.sleepGo p.init (s.rd R.PWR_SLEEP_CTL_target) (s.free.toNat % 4)
  else if f.isA R.PWR_ARB_REQ_go then s.arbReqOp p.init (s.rd R.PWR_ARB_REQ_rail) (s.rd R.PWR_ARB_REQ_ma)
  else if f.isA R.PWR_PMB_CMD_go then (if s.rdB R.PWR_PMB_CMD_busy then s.refuse p.init f else s.pend f 1)
  else s

/-- A field of THM that does more than hold its value. -/
def State.actThm (p : Posted) (a : FieldAct) (s : State) : State :=
  if a.field.isA R.THM_CTL_sd_req then s.sdReqOp p.init else s

/-! ## EVR and CAL -/

/-- Fields of EVR that do more than hold their value. -/
def ownEvr (f : Field) : Bool := f.acc == .wo || f.isGo || f.isA R.EVR_CTL_en

/-- An EVR_POSTc_CTL write: it commits a record where no field of it has been refused (R522). -/
def State.postNamed (p : Posted) (f : Field) (code : Nat) (s : State) : State :=
  let c := f.no R.EVR_POST_CTL_code
  match p.val (R.EVR_POST_CTL_sev.at c), p.val (R.EVR_POST_CTL_source.at c) with
  | some sev, some src => if h : c < 6 then s.postOp p.init ⟨c, h⟩ code sev src else s
  | _, _ => s

/-- A field of EVR that does more than hold its value. What the media store holds no register shows: it is open here. -/
def State.actEvr (p : Posted) (a : FieldAct) (s : State) : State :=
  let f := a.field
  if f.isA R.EVR_CTL_en then s.evrEnableOp (a.value != 0)
  else if f.isA R.EVR_STORE_CTL_mfail then s.mediaFailOp
  else if f.isA R.EVR_STORE_CTL_retry then s.storeRetryOp a.value
  else if f.isA R.EVR_CLR_go then s.used.clearOp p.init (some (s.free.truncate 32))
  else if f.isA R.EVR_POST_CTL_code then s.postNamed p f a.value
  else s

/-- Fields of CAL that do more than hold their value. -/
def ownCal (f : Field) : Bool := f.acc == .wo || f.isA R.CAL_CTL_en || f.isA R.CAL_TRIM_shadow

/-- CAL_RUN.abort written; its time and what was measured by then are open here. -/
def State.calAbortNow (s : State) : State := s.used.used.calAbort s.free.toNat s.used.free.toNat

/-- A field of CAL that does more than hold its value. A go and an abort of one write are both judged by the state before it (R568): the
abort ends the run that the go finds, or finds none. -/
def State.actCal (p : Posted) (a : FieldAct) (s : State) : State :=
  let f := a.field
  if f.isA R.CAL_CTL_en then (if a.value = 0 then s.calDisableOp false else s.wr f a.value)
  else if f.isA R.CAL_RUN_go then
    (if p.has R.CAL_RUN_abort && s.rdB R.CAL_STAT_busy then s.calAbortNow.refuse p.init f else s.calGo p.init (s.rd R.CAL_RUN_inst))
  else if f.isA R.CAL_RUN_abort then (if p.has R.CAL_RUN_go then s else s.calAbortNow)
  else if f.isA R.CAL_STROBE_go then s.calStrobe p.init (s.rd R.CAL_STROBE_inst)
  else if f.isA R.CAL_TRIM_shadow then s.shadowOp p.init (f.no R.CAL_TRIM_shadow) a.value
  else s

/-! ## BST -/

/-- Fields of BST that do more than hold their value. -/
def ownBst (f : Field) : Bool := f.acc == .wo || f.isGo || f.isA R.BST_BSCAN_groups

/-- A field of BST that does more than hold its value; a go and an abort of one write as for CAL. -/
def State.actBst (p : Posted) (a : FieldAct) (s : State) : State :=
  let f := a.field
  if f.isA R.BST_RUN_go then
    (if p.has R.BST_RUN_abort && s.rdB R.BST_STAT_busy then (s.bstStop .aborted).refuse p.init f else s.bstGo p.init)
  else if f.isA R.BST_RUN_abort then (if p.has R.BST_RUN_go then s else s.bstStop .aborted)
  else if f.isA R.BST_BSCAN_groups then s.groupsOp p.init a.value
  else s

end Sys2Proof.Machine
end

