-- ==== Sys2Proof/Machine/CtrlFx.lean ====
section
/-! DEFINITION. Controller resets (spec/12_host_interface.md R335, R366; spec/13_queue_ordering.md R396). -/
namespace Sys2Proof.Machine

/-- HIF_RST_EVT's field of a port. -/
def rstEvtF (p : Nat) : Field := if p = 0 then R.HIF_RST_EVT_port0 else R.HIF_RST_EVT_port1

/-- A bit of HIF_RST_EVT set; source 248 or 249 follows the port's bits (R366, R367). -/
def State.rstEvent (p bit : Nat) (s : State) : State :=
  let t := s.wrBit (rstEvtF p) bit true
  if s.rdB (rstEvtF p) then t else t.statusRise (248 + p)

/-- HQE stops fetching for a controller; source 209 or 210 tells of it (R396, R398). -/
def State.fetchStop (c : Nat) (s : State) : State :=
  if s.rdB (fetchF c) then ((s.wr (fetchF c) 0).fetchShow).raise (209 + c) else s

/-- A context of a controller that is reset (R396, steps 2 to 6): a command not started is discarded, and so is a write whose
data had not all come; of one that is undecided what has not been released is dropped; completed data stay. -/
def State.ctxReset (x : Context) (s : State) : State :=
  let discard := fun (s : State) => (s.ctxFree x false).satCount R.HQE_CNT_DISC_count 213
  if !x.started then discard s
  else match x.result with
    | some r => s.ctxFree x (r.status == .ok)
    | none =>
      let s := s.dropUnreleased x
      match x.cmd with
      | .write _ _ _ _ | .append _ _ _ _ | .store _ _ _ => if x.moved then s.ctxFree x false else discard s
      | _ => s.ctxFree x false

/-- What the base firmware does at a controller reset (R366, R396). -/
def State.fwReset (c : Nat) (s : State) : State := s.forEach (s.host.ctxs.filter (fun x => x.ctrl == c)) State.ctxReset

/-- What hardware does at a controller reset, with its event in HIF_RST_EVT (R366, R396 step 1): fetching stops, and the controller's
registers are reset. Capture of manifests is off. -/
def State.hwReset (c bit : Nat) (s : State) : State :=
  ((s.rstEvent c bit).fetchStop c).updCtrl c (fun k => { k with
    en := false, rdy := false, shst := 0, aers := [], events := [], capture := false })

/-- A controller reset; during steps 1 to 5 of an activation the base firmware acts on it after step 6 (R80). -/
def State.ctrlReset (c bit : Nat) (s : State) : State :=
  let s := s.hwReset c bit
  match s.host.activation with
  | some a => s.updHost (fun h => { h with activation := some { a with held := if a.held.contains c then a.held else a.held ++ [c] } })
  | none => s.fwReset c

/-- The upN bit of HIF_STAT. -/
def upF (p : Nat) : Field := if p = 0 then R.HIF_STAT_up0 else R.HIF_STAT_up1

/-- A port exists: port 1 in mode 1 only (R330). -/
def State.portThere (s : State) (p : Nat) : Bool := p == 0 || s.rdB R.HIF_STAT_mode

/-- A port's link shown: up, speed, width, power management state, device state and LTSSM state. Source 250 tells of a change of up, speed
or width (R367). -/
def State.linkShow (p : Nat) (up : Bool) (speed width pm dstate ltssm : Nat) (s : State) : State :=
  let old := s
  let s := (s.wrB (upF p) up).wr (R.HIF_LINK_speed.at p) speed
  let s := ((s.wr (R.HIF_LINK_width.at p) width).wr (R.HIF_LINK_pm.at p) pm).wr (R.HIF_LINK_dstate.at p) dstate
  let s := s.wr (R.HIF_LINK_ltssm.at p) ltssm
  s.when (old.rdB (upF p) ≠ up ∨ old.rd (R.HIF_LINK_speed.at p) ≠ s.rd (R.HIF_LINK_speed.at p)
    ∨ old.rd (R.HIF_LINK_width.at p) ≠ s.rd (R.HIF_LINK_width.at p)) (State.raise 250)

/-- A port's link down. -/
def State.linkOff (p : Nat) (s : State) : State := if s.rdB (upF p) then s.linkShow p false 0 0 0 0 0 else s

/-- HIF_CTL.en written, at the block: while it is 0 no port trains, and a link that was up is down, which resets its controller. -/
def State.hifEnableOp (en : Bool) (s : State) : State :=
  let s := s.wrB R.HIF_CTL_en en
  if en then s else s.forEach [0, 1] (fun p s => if s.rdB (upF p) then (s.linkOff p).ctrlReset p 2 else s)

/-- A host reaches a controller's registers: its port is there, linked, and configuration requests are answered. -/
def State.ctrlThere (s : State) (c : Nat) : Bool := s.portThere c && s.rdB (upF c) && s.rdB R.HIF_CTL_cfg_ready

end Sys2Proof.Machine
end

