-- ==== Sys2Proof/Machine/Frk.lean ====
section
/-! DEFINITION. The commands of FRK (spec/18_fretik_ring.md). -/
namespace Sys2Proof.Machine

/-! ## Receiving frames (R488 to R492) -/

/-- A frame passed on with one more hop. -/
def frameHop (f : RingFrame) : RingFrame := { f with hops := f.hops + 1 }

/-- Whether the node takes part in the ring above its bypass: LINKED to SOLO. -/
def State.frkUp (s : State) : Bool := !s.frkIs .off && !s.frkIs .listen

/-- Whether a frame is for this node. -/
def State.frkForMe (s : State) (f : RingFrame) : Bool := f.dst == dstAll || (f.dst == s.frkAddr && decide (s.frkAddr < 64))

/-- A frame answered by ACK or NAK with a reason (R490); a broadcast is never answered. -/
def State.frkAnswer (t : FrameType) (reason : Nat) (f : RingFrame) (s : State) : State :=
  if f.dst = dstAll then s else s.frkSend t f.src (leBytes 2 f.seq ++ leBytes 1 f.src ++ leBytes 1 reason)

/-- A good frame of a type received: one whose length is wrong is discarded and counted, and answered with NAK reason 3
where it is unicast (R490). -/
def State.frkTake (t : FrameType) (f : RingFrame) (op : State → State) (s : State) : State :=
  if s.frkUp && f.type == t.code && s.frkForMe f then
    if t.lenOk f.payload.length then op s else (s.frkCount R.FRK_CNT_crc).frkAnswer .nak 3 f
  else s

/-- R491: a frame that passes: a bad one is counted and goes out aborted; a good one has its hops raised, and a BCN its
residence. A frame for this node alone, its own broadcast returning, and one whose hops reaches 64 are taken off (R492). -/
def execFrameForward (f : RingFrame) (crcOk : Bool) (residence : BitVec 32) (s : State) : Out :=
  .next (if s.frkUp then
      if !crcOk then s.frkCount R.FRK_CNT_crc
      else if (f.dst == s.frkAddr || (f.dst == dstAll && f.src == s.frkAddr)) && decide (s.frkAddr < 64) then s
      else if 63 ≤ f.hops then s
      else
        let p := if f.type = FrameType.bcn.code then
            f.payload.take 8 ++ leBytes 4 (payLe f.payload 8 4 + residence.toNat) ++ f.payload.drop 12 else f.payload
        s.frkEmit { frameHop f with payload := p }
    else s)

/-! ## The receive ring (R506) -/

/-- A received frame placed in the receive ring and acknowledged; a full ring answers NAK reason 1 (R505, R506). The ring
is full where R211 forbids the producer's advance. -/
def State.frkStore (f : RingFrame) (s : State) : State :=
  let tail := s.rd R.FRK_RX_TAIL_tail
  if (tail + 2) % 64 = s.rd R.FRK_RX_HEAD_head then s.frkAnswer .nak 1 f
  else
    let a := s.rd R.FRK_RX_BASE_base * 4096 + 512 * tail
    let s := s.dramPut a (leBytes 8 s.driveTime ++ leBytes 1 f.type ++ leBytes 1 f.src ++ leBytes 2 f.payload.length ++ f.payload)
    (((s.wr R.FRK_RX_TAIL_tail ((tail + 1) % 64)).raise 246)).frkAnswer .ack 0 f

/-! ## Node states (R495) -/

/-- FRK_CTL written, at the block: srst, or en with its refusal under strap 0b11 (R493, R495). -/
def State.frkEnableOp (who : Init) (srst en : Bool) (s : State) : State :=
  if srst then
    let s := (s.frkOff).blockReset 36 R.FRK_CTL_srst
    { s with frk := { FrkState.init with out := s.frk.out, seq := s.frk.seq } }
  else if !en then (s.wr R.FRK_CTL_en 0).frkOff
  else if s.rd R.JIG_STRAP_role = 3 then s.refuse who R.FRK_CTL_en
  else
    let s := s.wr R.FRK_CTL_en 1
    if s.frkIs .off then (s.wr R.FRK_STAT_addr 0xFE).frkEnter .listen else s

/-- R495: a write of FRK_CTL.en or srst. -/
def execFrkEnableWrite (who : Init) (srst en : Bool) (s : State) : Out := .next (s.frkEnableOp who srst en)

/-- The cabinet numbers the ring again with a new epoch (R495). -/
def State.frkEnumerate (s : State) : State :=
  let e := (s.frk.epoch + 1) % 65536
  (s.updFrk (fun f => { f with epoch := e })).frkSend .enum dstAll (leBytes 1 1 ++ leBytes 1 0 ++ leBytes 2 e)

/-- R495, R507: the receiver has held lock. LISTEN goes to LINKED with the bypass opened; elsewhere lock is regained and
the cabinet enumerates again. -/
def execRingLock (s : State) : Out :=
  .next (if s.frkIs .listen then ((s.wr R.FRK_STAT_in_lock 1).wr R.FRK_STAT_bypass 1).frkEnter .linked
    else if s.frkUp && !s.rdB R.FRK_STAT_in_lock then
      let s := (s.wr R.FRK_STAT_in_lock 1).raise 245
      s.when (s.frkIs .cabinet = true) State.frkEnumerate
    else s)

/-- R495: no signal for listen ms: the bypass opens and idles are sent. -/
def execListenTimeout (s : State) : Out :=
  .next (if s.frkIs .listen then (s.wr R.FRK_STAT_bypass 1).frkEnter .linked else s)

/-- The rank of this node's strap in ELECT (R490). -/
def State.frkRank (s : State) : Nat :=
  match s.rd R.JIG_STRAP_role with
  | 2 => 2
  | 1 => 1
  | _ => 0

/-- The ELECT payload that names this node. -/
def State.electPayload (s : State) : List Byte :=
  leBytes 1 s.frkRank ++ leBytes 1 (s.rd R.FRK_CFG_prio) ++ leBytes 6 0 ++ leBytes 8 s.uid

/-- R495: no BCN for lost ms makes an eligible node start an election. -/
def execBeaconLost (s : State) : Out :=
  .next (if (s.frkIs .linked || s.frkIs .drawer) && decide (0 < s.frkRank) then
      (s.frkEnter .elect).frkSend .elect dstAll s.electPayload
    else s)

/-- R495: solo s without DRAWER or CABINET: the local budget applies, and grants what is queued (R500). -/
def execSoloTimeout (s : State) : Out :=
  .next (if s.frkIs .linked && s.rdB R.FRK_CFG_solo then ((s.frkEnter .solo).localGrant .spin).localGrant .power else s)

/-- R507: input lock has been lost for 1 µs. -/
def execRingLockLost (s : State) : Out :=
  .next (if s.rdB R.FRK_STAT_in_lock then (s.wr R.FRK_STAT_in_lock 0).raise 245 else s)

/-- R507: a node without input lock sends a BRK every 1 ms. -/
def execBrkTick (s : State) : Out :=
  .next (if s.frkUp && !s.rdB R.FRK_STAT_in_lock then s.frkSend .brk dstAll (leBytes 1 s.frkAddr) else s)

/-- The JOIN that answers a BCN. -/
def State.frkJoin (s : State) : State := (s.updFrk (fun f => { f with joined := true })).frkSend .join 0 (leBytes 8 s.uid)

/-! ## The time beacon (R501 to R504) -/

/-- The renewal map of a kind: the addresses of its holders. -/
def State.renewMap (s : State) (k : TokKind) : Nat := maskOf ((s.tokInTable k).map (fun e => e.addr % 64))

/-- R501: the cabinet sends a BCN. The seek plan's window and count are values the spec leaves open within their ranges
(R504). -/
def execBeaconSend (s : State) : Out :=
  .next (if s.frkIs .cabinet then
      let v := s.free.toNat
      s.used.frkSend .bcn dstAll (leBytes 8 s.driveTime ++ leBytes 4 0 ++ leBytes 4 s.frk.wire ++ leBytes 2 s.frk.epoch
        ++ leBytes 1 (s.rd R.FRK_STAT_nodes) ++ leBytes 1 (if s.frk.census.isSome then 1 else 0) ++ leBytes 2 (50 + v % 4951)
        ++ leBytes 1 (1 + v / 8192 % 16) ++ leBytes 1 0 ++ leBytes 8 (s.renewMap .spin) ++ leBytes 8 (s.renewMap .power))
    else s)

/-- sync changes, raising source 247. -/
def State.setSync (b : Bool) (s : State) : State :=
  if s.rdB R.FRK_TB_STAT_sync = b then s else (s.wrB R.FRK_TB_STAT_sync b).raise 247

/-- Drive Time corrected by a beacon's offset: a step, which the base firmware logs, or PWR's rate trim over one period, held at ±200 ppm (R502). -/
def State.timeCorrect (d : Int) (s : State) : State :=
  let s := s.wrI R.FRK_TB_STAT_offset (satSigned 31 d)
  let s := if s.rd R.FRK_TB_CFG_step_ns < d.natAbs then
      ((s.wr64 R.PWR_DT_dt (twosOf 64 ((s.driveTime : Int) + d))).raise 247).logOpen 0x3E false
    else
      let lim : Int := ((200 * s.rd R.FRK_TB_CFG_period : Nat) : Int)
      { s with pwr := { s.pwr with trim := clampInt (-lim) lim d } }
  let n := if d.natAbs ≤ 100 then s.frk.good + 1 else 0
  let s := s.updFrk (fun f => { f with good := n })
  if 3 ≤ n then (s.setSync true).wr R.PWR_DT_Q_q 3 else s

/-- The remaining lease of a token in s, as TOKRPT carries it. -/
def State.leaseLeft (s : State) (k : TokKind) : Nat :=
  s.rd R.FRK_TOK_CFG_lease - (s.driveTime - s.frk.renewed.get k) / 1000000000

/-- The answer to a census request (R499). -/
def State.frkReport (s : State) : State :=
  let b := fun (k : TokKind) => s.frk.tok.get k == .ring
  s.frkSend .tokrpt 0 (leBytes 8 s.uid ++ leBytes 1 ((if b .spin then 1 else 0) + (if b .power then 2 else 0)) ++ leBytes 1 0
    ++ leBytes 2 (if b .spin then s.leaseLeft .spin else 0) ++ leBytes 2 (if b .power then s.leaseLeft .power else 0))

/-- What a drawer does with a BCN: its address takes effect with the BCN's epoch, its Drive Time is corrected, its tokens
are renewed, the seek plan is taken and a census answered (R495, R498, R499, R502, R504). -/
def State.beaconTaken (f : RingFrame) (s : State) : State :=
  let p := f.payload
  let s := match s.frk.nextAddr with
    | some (a, e) => if e = payLe p 16 2 then (s.wr R.FRK_STAT_addr a).updFrk (fun k => { k with nextAddr := none, epoch := e }) else s
    | none => s
  let d : Int := ((payLe p 0 8 : Nat) : Int) + ((payLe p 8 4 : Nat) : Int)
    + s.quot ((f.hops * payLe p 12 4 : Nat) : Int) 1000 - (s.driveTime : Int)
  let s := (s.used.wr R.FRK_STAT_nodes (payLe p 18 1)).timeCorrect d
  let now := s.driveTime
  let s := s.forEach [(TokKind.spin, 24), (TokKind.power, 32)] (fun q s =>
    if bitAt (payLe p q.2 8) s.frkAddr && decide (s.frkAddr < 64) then s.updFrk (fun k => { k with renewed := k.renewed.set q.1 now })
    else s)
  let s := s.updFrk (fun k => { k with window := payLe p 20 2, windows := payLe p 22 1 })
  s.when (bitAt (payLe p 19 1) 0 = true) State.frkReport

/-- R501, R502: a BCN received, ns of Drive Time after the time last advanced. The cabinet's own returns after loopNs and
gives the wire estimate; outranks tells whether another sending cabinet ranks above this one under R494, which no field of
the frame carries. -/
def execFrameBcn (f : RingFrame) (ns loopNs : BitVec 32) (outranks : Bool) (s : State) : Out :=
  let s := s.advance ns.toNat
  .next (s.frkTake .bcn f (fun s =>
    if s.frkIs .cabinet then
      if f.src = s.frkAddr then
        let n := s.rd R.FRK_STAT_nodes
        if n = 0 then s
        else (s.used).updFrk (fun k => { k with wire := (s.quot (((loopNs.toNat : Int) - (payLe f.payload 8 4 : Int)) * 1000) (n : Int)).toNat })
      else if outranks then
        let s := (s.updFrk (fun k => { k with table := [], queue := [], census := none })).tableShow
        ((s.wr R.FRK_STAT_addr 0xFE).frkEnter .linked).frkJoin
      else s
    else if s.frkIs .elect then ((s.wr R.FRK_STAT_addr 0xFE).frkEnter .linked).frkJoin
    else if s.frkIs .linked then s.frkJoin
    else if s.frkIs .drawer then s.beaconTaken f else s))

/-- R502: 10 periods without a beacon: sync falls and the trim returns to 0. -/
def execBeaconSyncTimeout (s : State) : Out :=
  .next (let s := s.setSync false
    let s := s.updFrk (fun k => { k with good := 0 })
    { s with pwr := { s.pwr with trim := 0 } })

/-! ## Addresses and elections (R494, R495) -/

/-- The census ends: holders above a budget are revoked, newest first, and granting begins (R499). -/
def State.revokeNewest (k : TokKind) (s : State) : State :=
  let l := (s.tokInTable k).reverse
  s.forEach (l.take (l.length - s.rd (tokMax k))) (fun e s =>
    if e.uid = s.uid then (s.tokDrop k).tokFree e.uid k else s.frkSend .revoke e.addr (tokPayload e.uid k))

/-- The census ends. -/
def State.censusEnd (s : State) : State :=
  (((s.updFrk (fun k => { k with census := none })).revokeNewest .spin).revokeNewest .power).grantAll

/-- A drawer takes an address from an ENUM and forwards it with the next one; a node that finds none left is unaddressed, which is
logged. -/
def State.enumTaken (f : RingFrame) (s : State) : State :=
  let next := payLe f.payload 0 1
  if next < 64 then
    let solo := s.frkIs .solo
    let was := s.frkIs .drawer
    let s := s.updFrk (fun k => { k with nextAddr := some (next, payLe f.payload 2 2) })
    let s := s.frkEmit { frameHop f with payload := leBytes 1 (next + 1) ++ f.payload.drop 1 }
    let s := if was then s else s.frkEnter .drawer
    let s := if solo then s.forEach [TokKind.spin, TokKind.power] (fun k s => if s.frk.tok.get k == .local then s.tokDrop k else s) else s
    if !was then
      s.forEach [TokKind.spin, TokKind.power] (fun k s => if s.rdB (tokQ k) then s.frkSend .req 0 (tokPayload s.uid k) else s)
    else s
  else (s.frkEmit (frameHop f)).when (s.frkIs .linked = true) (State.logOpen 0x3E false)

/-- R495: an ENUM received: the cabinet's own brings the node count, a drawer takes its address. -/
def execFrameEnum (f : RingFrame) (s : State) : Out :=
  .next (s.frkTake .enum f (fun s =>
    let s := s.frkCount R.FRK_CNT_reenum
    if s.frkIs .cabinet then
      if f.src = s.frkAddr then
        let n := payLe f.payload 0 1
        let s := s.wr R.FRK_STAT_nodes n
        match s.frk.census with
        | some _ => if n ≤ 1 then s.censusEnd
            else s.updFrk (fun k => { k with census := some ((List.range (n - 1)).map (· + 1)) })
        | none => s
      else s
    else if (s.frkIs .linked && s.frk.joined) || s.frkIs .drawer || s.frkIs .solo then s.enumTaken f
    else s.frkEmit (frameHop f)))

/-- Whether this node ranks before the candidate of an ELECT: by strap, then higher prio, then lower UID (R494). -/
def State.ranksBefore (s : State) (p : List Byte) : Bool :=
  let r := payLe p 0 1
  let q := payLe p 1 1
  let mine := s.rd R.FRK_CFG_prio
  if s.frkRank ≠ r then decide (r < s.frkRank)
  else if mine ≠ q then decide (q < mine) else decide (s.uid < payLe p 8 8)

/-- The election is won: address 0, ENUM, and a census before anything is granted (R495, R499). -/
def State.frkWin (s : State) : State :=
  let s := (s.wr R.FRK_STAT_addr 0).frkEnter .cabinet
  (s.updFrk (fun k => { k with table := [], queue := [], census := some [], nextAddr := none })).frkEnumerate

/-- R494: an ELECT received: the node's own after passing every one of the loop's nodes wins; a worse candidate is replaced
by an eligible node; any other is forwarded. -/
def execFrameElect (f : RingFrame) (loop : BitVec 8) (s : State) : Out :=
  .next (s.frkTake .elect f (fun s =>
    if payLe f.payload 8 8 = s.uid then
      if s.frkIs .elect ∧ f.hops = loop.toNat then s.frkWin else s
    else if 0 < s.frkRank ∧ s.ranksBefore f.payload = true then s.frkEmit { frameHop f with payload := s.electPayload }
    else s.frkEmit (frameHop f)))

/-- R495: the cabinet enumerates again on a JOIN. -/
def execFrameJoin (f : RingFrame) (s : State) : Out :=
  .next (s.frkTake .join f (fun s => s.when (s.frkIs .cabinet = true) State.frkEnumerate))

/-- R495: the cabinet enumerates again on a LEAVE. -/
def execFrameLeave (f : RingFrame) (s : State) : Out :=
  .next (s.frkTake .leave f (fun s => s.when (s.frkIs .cabinet = true) State.frkEnumerate))

/-! ## Tokens (R496 to R500) -/

/-- The UID and kind of a token frame. -/
def frameTok (f : RingFrame) : Nat × Option TokKind := (payLe f.payload 0 8, tokOfCode (payLe f.payload 8 1))

/-- R496: a token request reaches the cabinet. -/
def execFrameReq (f : RingFrame) (s : State) : Out :=
  .next (s.frkTake .req f (fun s =>
    match frameTok f with
    | (u, some k) => if s.frkIs .cabinet then s.tokRequest { uid := u, kind := k, addr := f.src } else s
    | _ => s))

/-- R496, R497: a GRANT: the token is taken where it was asked for; the GRANT of a token held from the ring is one sent again, and
is acknowledged again; one that was not asked for, as after a cancel, is given back by REL; another node's UID is
answered with NAK reason 2 (R490). -/
def execFrameGrant (f : RingFrame) (s : State) : Out :=
  .next (s.frkTake .grant f (fun s =>
    match frameTok f with
    | (u, some k) =>
      if u ≠ s.uid then s.frkAnswer .nak 2 f
      else if s.rdB (tokQ k) then (s.tokTake k .ring).frkAnswer .ack 0 f
      else if s.frk.tok.get k == .ring then s.frkAnswer .ack 0 f
      else s.tokGiveBack k
    | _ => s))

/-- R496: a release reaches the cabinet. -/
def execFrameRel (f : RingFrame) (s : State) : Out :=
  .next (s.frkTake .rel f (fun s =>
    match frameTok f with
    | (u, some k) => if s.frkIs .cabinet then s.tokFree u k else s
    | _ => s))

/-- R497: a REVOKE: the token held here is cleared at once and released. -/
def execFrameRevoke (f : RingFrame) (s : State) : Out :=
  .next (s.frkTake .revoke f (fun s =>
    match frameTok f with
    | (u, some k) =>
      if u ≠ s.uid then s.frkAnswer .nak 2 f
      else if s.frk.tok.get k == .ring then (s.tokDrop k).tokGiveBack k else s
    | _ => s))

/-- R499: a census answer: the holders enter the table, and the last answer ends the census. -/
def execFrameTokrpt (f : RingFrame) (s : State) : Out :=
  .next (s.frkTake .tokrpt f (fun s =>
    if s.frkIs .cabinet then
      let u := payLe f.payload 0 8
      let held := payLe f.payload 8 1
      let s := s.forEach [(TokKind.spin, 0), (TokKind.power, 1)] (fun q s =>
        if bitAt held q.2 && s.frk.table.all (fun e => !(e.uid == u && e.kind == q.1)) then
          s.tableSet (s.frk.table ++ [{ uid := u, kind := q.1, addr := f.src }])
        else s)
      match s.frk.census with
      | some l =>
        let l := l.filter (· != f.src)
        let s := s.updFrk (fun k => { k with census := some l })
        if l.isEmpty then s.censusEnd else s
      | none => s
    else s))

/-- R499: 10 ms have passed without every answer. -/
def execCensusTimeout (s : State) : Out := .next (if s.frkIs .cabinet && s.frk.census.isSome then s.censusEnd else s)

/-! ## Events and mailboxes (R505, R506) -/

/-- R505: an EVT reaches the cabinet. -/
def execFrameEvt (f : RingFrame) (s : State) : Out :=
  .next (s.frkTake .evt f (fun s => if s.frkIs .cabinet then s.frkStore f else s))

/-- R505: an MBX addressed to this node. -/
def execFrameMbx (f : RingFrame) (s : State) : Out := .next (s.frkTake .mbx f (State.frkStore f))

/-- The frame that waits for an answer with a sequence number. -/
def State.awaiting (s : State) (seq : Nat) : Option AwaitAck := s.frk.await.find? (fun w => w.frame.seq == seq)

/-- A frame no longer waits. -/
def State.awaitEnd (seq : Nat) (s : State) : State := s.updFrk (fun k => { k with await := k.await.filter (fun w => w.frame.seq != seq) })

/-- The mailbox send ends with a status, raising source 246 (R506). -/
def State.mbxEnd (status : Nat) (s : State) : State :=
  ((s.wr R.FRK_TX_CTL_busy 0).wr R.FRK_TX_CTL_status status).raise 246

/-- R496, R506: an ACK confirms a grant, an event or a message. -/
def execFrameAck (f : RingFrame) (s : State) : Out :=
  .next (s.frkTake .ack f (fun s =>
    match s.awaiting (payLe f.payload 0 2) with
    | some w =>
      let s := s.awaitEnd w.frame.seq
      if w.frame.type = FrameType.mbx.code then s.mbxEnd 1 else s
    | none => s))

/-- A frame given up after three repeats: an event is dropped and counted, a message fails, a grant's token is freed and
the base firmware logs it. -/
def State.awaitFail (w : AwaitAck) (s : State) : State :=
  let s := s.awaitEnd w.frame.seq
  if w.frame.type = FrameType.evt.code then s.frkCount R.FRK_CNT_evt_drop
  else if w.frame.type = FrameType.mbx.code then s.mbxEnd 2
  else
    match frameTok w.frame with
    | (u, some k) => (s.tokFree u k).logOpen 0x3E false
    | _ => s

/-- A waiting frame is sent again, up to 3 times. -/
def State.awaitRepeat (w : AwaitAck) (s : State) : State :=
  if w.repeats < 3 then
    (s.frkEmit w.frame).updFrk (fun k => { k with await := k.await.map (fun v =>
      if v.frame.seq = w.frame.seq then { v with repeats := v.repeats + 1 } else v) })
  else s.awaitFail w

/-- R505: a NAK: the frame's repeat is due 1 ms later; a third NAK ends an EVT or MBX. -/
def execFrameNak (f : RingFrame) (s : State) : Out :=
  .next (s.frkTake .nak f (fun s =>
    match s.awaiting (payLe f.payload 0 2) with
    | some w =>
      if w.frame.type = FrameType.grant.code then s
      else if 2 ≤ w.naks then s.awaitFail w
      else s.updFrk (fun k => { k with await := k.await.map (fun v =>
        if v.frame.seq = w.frame.seq then { v with naks := v.naks + 1 } else v) })
    | none => s))

/-- R507: a BRK is forwarded and its sender recorded. -/
def execFrameBrk (f : RingFrame) (s : State) : Out :=
  .next (s.frkTake .brk f (fun s => ((s.wr R.FRK_STAT_brk_at (payLe f.payload 0 1)).raise 245).frkEmit (frameHop f)))

/-- R496: no ACK of a GRANT within 1 ms. -/
def execGrantAckTimeout (seq : BitVec 16) (s : State) : Out :=
  .next (match s.awaiting seq.toNat with
    | some w => if w.frame.type = FrameType.grant.code then s.awaitRepeat w else s
    | none => s)

/-- R505: 1 ms after a NAK or a missing ACK of an EVT or MBX. -/
def execFrameRetryTimer (seq : BitVec 16) (s : State) : Out :=
  .next (match s.awaiting seq.toNat with
    | some w => if w.frame.type = FrameType.grant.code then s else s.awaitRepeat w
    | none => s)

/-! ## Leases (R498) -/

/-- R498: the lease of a token held from the ring has passed without a renewal: the node releases it. -/
def execTokenLeaseExpire (k : TokKind) (s : State) : Out :=
  .next (if s.frkIs .drawer && s.frk.tok.get k == .ring then (s.tokDrop k).tokGiveBack k else s)

/-- A token freed at the cabinet by the passing of time; its own goes from its bit too. -/
def State.cabinetFree (uid : Nat) (k : TokKind) (s : State) : State :=
  if s.frkIs .cabinet then
    let s := if uid = s.uid ∧ s.frk.tok.get k = .ring then s.tokDrop k else s
    s.tokFree uid k
  else s

/-- R498: lease + 1 s after the last BCN that returned intact. -/
def execCabinetLeaseFree (uid : BitVec 64) (k : TokKind) (s : State) : Out := .next (s.cabinetFree uid.toNat k)

/-- R498: spin_lease seconds after a spin token was granted. -/
def execSpinLeaseExpire (uid : BitVec 64) (s : State) : Out := .next (s.cabinetFree uid.toNat .spin)

/-! ## Writes -/

/-- FRK_TOK_CTL.req_spin or req_pwr, at the block: refused while one is held or queued (R496). -/
def State.tokReqOp (who : Init) (f : Field) (k : TokKind) (s : State) : State :=
  if s.rdB (tokHeld k) || s.rdB (tokQ k) then s.refuse who f else s.tokAsk k

/-- R496, R500: FRK_TOK_CTL.req_spin. -/
def execTokReqSpin (who : Init) (s : State) : Out :=
  .next (s.accept who R.FRK_TOK_CTL_req_spin (State.tokReqOp who R.FRK_TOK_CTL_req_spin .spin))

/-- R496, R500: FRK_TOK_CTL.req_pwr. -/
def execTokReqPwr (who : Init) (s : State) : Out :=
  .next (s.accept who R.FRK_TOK_CTL_req_pwr (State.tokReqOp who R.FRK_TOK_CTL_req_pwr .power))

/-- FRK_TOK_CTL.rel_pwr, at the block. -/
def State.relPowerOp (s : State) : State :=
  match s.frk.tok.power with
  | .none => s
  | .ring => (s.tokDrop .power).tokGiveBack .power
  | .local => s.tokDrop .power

/-- R497: FRK_TOK_CTL.rel_pwr. -/
def execTokRelPwr (who : Init) (s : State) : Out := .next (s.accept who R.FRK_TOK_CTL_rel_pwr State.relPowerOp)

/-- A queued request withdrawn, at the block. -/
def State.tokCancelOp (k : TokKind) (s : State) : State :=
  if s.rdB (tokQ k) then
    let s := s.wr (tokQ k) 0
    if s.localBudget then s else s.tokGiveBack k
  else s

/-- R497: FRK_TOK_CTL.cancel_spin. -/
def execTokCancelSpin (who : Init) (s : State) : Out := .next (s.accept who R.FRK_TOK_CTL_cancel_spin (State.tokCancelOp .spin))

/-- R497: FRK_TOK_CTL.cancel_pwr. -/
def execTokCancelPwr (who : Init) (s : State) : Out := .next (s.accept who R.FRK_TOK_CTL_cancel_pwr (State.tokCancelOp .power))

/-- spin_max or pwr_max written, at the block: a lowered budget revokes the newest holders, a raised one grants (R498). -/
def State.budgetOp (k : TokKind) (v : Nat) (s : State) : State :=
  let s := s.wr (tokMax k) v
  if s.frkIs .cabinet then (s.revokeNewest k).grantAll else s

/-- R498: a write of spin_max or pwr_max. -/
def execBudgetLower (who : Init) (k : TokKind) (v : BitVec 8) (s : State) : Out :=
  .next (s.accept who (tokMax k) (State.budgetOp k v.toNat))

/-- FRK_TX_CTL.go, at the block: refused while busy. The message at FRK_TX_ADDR is sent; a broadcast is sent and done, and a
unicast waits for its ACK. A length outside 1 to 255 has no layout in R490 and leaves an open status. -/
def State.mbxSendOp (who : Init) (s : State) : State :=
  if s.rdB R.FRK_TX_CTL_busy then s.refuse who R.FRK_TX_CTL_go
  else
    let a := s.rd R.FRK_TX_ADDR_addr * 16
    let dst := s.dramLe a 1
    let n := s.dramLe (a + 2) 2
    let p := leBytes 1 (s.dramLe (a + 1) 1 % 2) ++ s.dramGet (a + 4) n
    if n = 0 ∨ 255 < n then (s.used).wr R.FRK_TX_CTL_status s.free.toNat
    else if dst = dstAll then (s.frkSend .mbx dst p).mbxEnd 3
    else (s.wr R.FRK_TX_CTL_busy 1).frkSendAcked .mbx dst p

/-- R506: FRK_TX_CTL.go. -/
def execMbxSend (who : Init) (s : State) : Out := .next (s.accept who R.FRK_TX_CTL_go (State.mbxSendOp who))

end Sys2Proof.Machine
end

