-- ==== Sys2Proof/Machine/ApplyHost.lean ====
section
/-! DEFINITION. What the fields of a posted write do when it reaches HQE, CLP, OBJ, BUF, DRC, FRK or HIF. -/
namespace Sys2Proof.Machine

/-! ## HQE and CLP -/

/-- Fields of HQE that do more than hold their value. -/
def ownHqe (f : Field) : Bool := f.isA R.HQE_CTL_en || f.isA R.HQE_CTL_fetch0 || f.isA R.HQE_CTL_fetch1

/-- Fields of CLP that do more than hold their value. -/
def ownClp (f : Field) : Bool := f.acc == .wo || f.isA R.CLP_ENT_SEL_entry

/-- The operation that the fields of CLP_OP name; an op of 0 names none. -/
def State.clpNamed (who : Init) (s : State) : State :=
  let sp := s.rd R.CLP_OP_space
  let ap := s.rdB R.CLP_OP_append
  let ow := s.rd R.CLP_OP_owner
  let cx := s.rd R.CLP_OP_ctx
  match s.rd R.CLP_OP_op with
  | 1 => s.clpGo (State.clpAddOp who sp ap ow cx)
  | 2 => s.clpGo (State.clpNarrowOp who sp ap ow cx)
  | 3 => s.clpGo (State.clpReleaseOp who sp ap ow cx)
  | _ => s

/-- A field of CLP that does more than hold its value. -/
def State.actClp (p : Posted) (a : FieldAct) (s : State) : State :=
  if a.field.isA R.CLP_OP_go then s.clpNamed p.init
  else if a.field.isA R.CLP_ENT_SEL_entry then (s.wr a.field a.value).clampShow
  else s

/-- CLP_CTL.srst: every entry is released, and with it what waited for it. -/
def State.clpReset (s : State) : State := (s.forEach s.host.clamps State.clampRelease).blockReset 32 R.CLP_CTL_srst

/-! ## OBJ and BUF -/

/-- Fields of OBJ that do more than hold their value. -/
def ownObj (f : Field) : Bool := f.acc == .wo || f.isA R.OBJ_CTL_en || f.isA R.OBJ_RING_TAIL_tail

/-- A field of OBJ that does more than hold its value. -/
def State.actObj (p : Posted) (a : FieldAct) (s : State) : State :=
  let f := a.field
  let c := (p.val R.OBJ_CTX_CMD_ctx).getD 0
  if f.isA R.OBJ_CTL_en then (if a.value = 0 then s.objDisableOp false else s.wr f a.value)
  else if f.isA R.OBJ_RING_TAIL_tail then s.objTailOp p.init a.value
  else if f.isA R.OBJ_CTX_CMD_op then
    (if a.value = 1 then s.objOpenOp c else if a.value = 2 ∧ s.objOn = true then s.objSet c 5 else s)
  else s

/-- Fields of BUF that do more than hold their value. -/
def ownBuf (f : Field) : Bool := f.acc == .wo || f.isA R.BUF_CTL_en || f.isA R.BUF_SPAD_ways

/-- The operation that the fields of BUF_MAINT name; another value of op is refused. -/
def State.maintNamed (who : Init) (s : State) : State :=
  let sw := s.rdB R.BUF_MAINT_sw
  let all := s.rdB R.BUF_MAINT_all
  let n := s.rd R.BUF_MAINT_count
  match s.rd R.BUF_MAINT_op with
  | 1 => s.maintOp who .zero sw all n
  | 2 => s.maintOp who .clean sw all n
  | 3 => s.maintOp who .inval sw all n
  | 4 => s.maintOp who .cleanInval sw all n
  | _ => s.refuse who R.BUF_MAINT_op

/-- A field of BUF that does more than hold its value. -/
def State.actBuf (p : Posted) (a : FieldAct) (s : State) : State :=
  let f := a.field
  if f.isA R.BUF_CTL_en then s.bufEnableOp p.init (a.value != 0)
  else if f.isA R.BUF_SPAD_ways then s.spadOp p.init a.value
  else if f.isA R.BUF_MAINT_go then s.maintNamed p.init
  else s

/-! ## DRC, FRK and HIF -/

/-- A field of DRC that does more than hold its value. -/
def State.actDrc (a : FieldAct) (s : State) : State := if a.field.isA R.DRC_CTL_retrain then s.retrainPass else s

/-- Fields of FRK that do more than hold their value. -/
def ownFrk (f : Field) : Bool := f.acc == .wo || f.isA R.FRK_CTL_en || f.isA R.FRK_TOK_CFG_spin_max || f.isA R.FRK_TOK_CFG_pwr_max

/-- A field of FRK that does more than hold its value. -/
def State.actFrk (p : Posted) (a : FieldAct) (s : State) : State :=
  let f := a.field
  if f.isA R.FRK_CTL_en then s.frkEnableOp p.init false (a.value != 0)
  else if f.isA R.FRK_TOK_CFG_spin_max then s.budgetOp .spin a.value
  else if f.isA R.FRK_TOK_CFG_pwr_max then s.budgetOp .power a.value
  else if f.isA R.FRK_TOK_CTL_req_spin then s.tokReqOp p.init f .spin
  else if f.isA R.FRK_TOK_CTL_req_pwr then s.tokReqOp p.init f .power
  else if f.isA R.FRK_TOK_CTL_rel_pwr then s.relPowerOp
  else if f.isA R.FRK_TOK_CTL_cancel_spin then s.tokCancelOp .spin
  else if f.isA R.FRK_TOK_CTL_cancel_pwr then s.tokCancelOp .power
  else if f.isA R.FRK_TX_CTL_go then s.mbxSendOp p.init
  else s

/-- Fields of HIF that do more than hold their value. -/
def ownHif (f : Field) : Bool := f.isA R.HIF_CTL_en || f.isA R.HIF_PORT_CFG_mode

/-- A field of HIF that does more than hold its value: HIF_STAT.mode shows the port mode. -/
def State.actHif (a : FieldAct) (s : State) : State :=
  if a.field.isA R.HIF_CTL_en then s.hifEnableOp (a.value != 0)
  else if a.field.isA R.HIF_PORT_CFG_mode then (s.wr a.field a.value).wr R.HIF_STAT_mode a.value
  else s

end Sys2Proof.Machine
end

