-- ==== Sys2Proof/Machine/Msq.lean ====
section
/-! DEFINITION. The commands of the media sequencers (spec/07_media_sequencer.md). -/
namespace Sys2Proof.Machine

/-! ## Work and words -/

/-- MSQ_RING_TAIL, at the block: a tail that would reach head − 1 modulo the size, or lies outside the ring, is refused. -/
def State.ringTailOp (who : Init) (x : Act) (v : BitVec 10) (s : State) : State :=
  let n := s.ringSize x
  let h := s.rd (msqF R.MSQ_RING_HEAD_head x)
  if n ≤ v.toNat ∨ n - 1 ≤ (v.toNat + n - h % n) % n then s.refuse who (msqF R.MSQ_RING_TAIL_tail x)
  else (s.wr (msqF R.MSQ_RING_TAIL_tail x) v.toNat).when (v.toNat ≠ h) State.idleEnd

/-- R211: the producer posts entries by advancing the tail. -/
def execRingTailWrite (who : Init) (x : Act) (v : BitVec 10) (s : State) : Out :=
  .next (s.accept who (msqF R.MSQ_RING_TAIL_tail x) (State.ringTailOp who x v))

/-- R223: DISPATCH, reached by a word's next or alt, or taken by an idle sequencer that has work. A break that was held when the operation
ended in a machine check acts first, and one that its end has made void is dropped (R229, R233). The operands are what upsets
changed in the two dispatch entries and in the first word fetched. -/
def execDispatch (x : Act) (flip flipFe : BitVec 14) (flipW : BitVec 128) (s : State) : Out :=
  .next (
    let m := s.msq.get x
    if s.msqIs x .run && m.dispatchDue && !m.heldBreaks.isEmpty then
      let s := s.heldAct x flip flipFe flipW
      if (s.msq.get x).dispatchDue then s.msqDispatch x flip flipFe flipW else s
    else if (s.msqIs x .run || s.msqIs x .commit) && m.dispatchDue || s.msqIs x .idle && s.workReady x then
      s.msqDispatch x flip flipFe flipW
    else s)

/-- R221: the wait of the word executing ends. Its operations have acted; a COND wait goes on at next where its condition
holds and at alt where its time has passed, every other one samples the condition. -/
def execWaitEnd (x : Act) (flip : BitVec 128) (s : State) : Out :=
  .next (match (s.msq.get x).word with
    | some w =>
      let s := s.opsFlush x w
      if (s.msq.get x).word = some w ∧ (s.msq.get x).todo = [] then
        let holds := s.msqCond x w.cond != w.inv
        s.wordEnd x w (if w.wait = 8 then !holds else holds) flip
      else s
    | none => s)

/-- R221: a wait of kinds 2 to 7 has lasted wait_lim ms: wto is set and counted, source offset 6, and the word goes on at
alt. -/
def execWaitTimeout (x : Act) (flip : BitVec 128) (s : State) : Out :=
  .next (match (s.msq.get x).word with
    | some w =>
      let s := s.opsFlush x w
      if 2 ≤ w.wait ∧ w.wait ≤ 7 ∧ (s.msq.get x).word = some w ∧ (s.msq.get x).todo = [] then
        let s := ((s.wr (msqF R.MSQ_STAT_wto x) 1).msqCount x R.MSQ_CNT_EVT_wto).raise (msqSrc x 6)
        s.wordEnd x w true flip
      else s
    | none => s)

/-- R228: the word executing opens a commit region. -/
def execCommitOpen (x : Act) (s : State) : Out := .next (s.microOp x .commit (fun w => w.commit))

/-- R228: an end word closes the commit region and held breaks are delivered (R229). -/
def execCommitClose (x : Act) (s : State) : Out :=
  .next (match (s.msq.get x).word with
    | some w =>
      let s := s.opsFlush x w
      if (s.msq.get x).word = some w ∧ (s.msq.get x).todo = [] then s.commitClose x w else s
    | none => s)

/-- R228: the commit region has stayed open past its bound: COMMIT_TO is captured, source offset 4, and the routine is
abandoned and restarted, unless a held break acts. -/
def execCommitBoundExceeded (x : Act) (flip : BitVec 128) (s : State) : Out :=
  .next (if s.msqIs x .commit then
      let pc := s.rd (msqF R.MSQ_STAT_pc x)
      let s := ((((s.mchkCapture x 4 0 pc).raise (msqSrc x 4)).msqAbandon x).msqSt x .run)
      s.heldOrRestart x flip
    else s)

/-! ## The operation fields of the word executing (R217) -/

/-- R217: chop SELECT. -/
def execChopSelect (x : Act) (s : State) : Out := .next (s.microOp x .chop (fun w => w.chop == 1))

/-- R217: chop READ_ON. -/
def execChopReadOn (x : Act) (s : State) : Out := .next (s.microOp x .chop (fun w => w.chop == 2))

/-- R217: chop READ_OFF. -/
def execChopReadOff (x : Act) (s : State) : Out := .next (s.microOp x .chop (fun w => w.chop == 3))

/-- R217: chop ARM. -/
def execChopArm (x : Act) (s : State) : Out := .next (s.microOp x .chop (fun w => w.chop == 4))

/-- R217: chop WRITE_ON. -/
def execChopWriteOn (x : Act) (s : State) : Out := .next (s.microOp x .chop (fun w => w.chop == 5))

/-- R217: chop WRITE_OFF. -/
def execChopWriteOff (x : Act) (s : State) : Out := .next (s.microOp x .chop (fun w => w.chop == 6))

/-- R217: chop RELEASE. -/
def execChopRelease (x : Act) (s : State) : Out := .next (s.microOp x .chop (fun w => w.chop == 7))

/-- R216: hmode sends PA_HCTL to the heads of the word's lanes. -/
def execHmodeFrame (x : Act) (s : State) : Out := .next (s.microOp x .hmode (fun w => w.hmode != 0))

/-- R222: the wg bits are the gate requests of the lanes. -/
def execWriteGateRequest (x : Act) (s : State) : Out := .next (s.microOp x .wg (fun _ => true))

/-- R226: fmt LOAD. -/
def execFmtLoad (x : Act) (s : State) : Out := .next (s.microOp x .fmt (fun w => w.fmt == 1))

/-- R217: fmt NEXT_TRACK. -/
def execFmtNextTrack (x : Act) (s : State) : Out := .next (s.microOp x .fmt (fun w => w.fmt == 2))

/-- R217: fmt HALT. -/
def execFmtHalt (x : Act) (s : State) : Out := .next (s.microOp x .fmt (fun w => w.fmt == 3))

/-- R217: fmt RCV_FIRST. -/
def execFmtRcvFirst (x : Act) (s : State) : Out := .next (s.microOp x .fmt (fun w => w.fmt == 4))

/-- R217: fmt RCV_NEXT. -/
def execFmtRcvNext (x : Act) (s : State) : Out := .next (s.microOp x .fmt (fun w => w.fmt == 5))

/-- R159: fmt OVF. -/
def execFmtOvf (x : Act) (s : State) : Out := .next (s.microOp x .fmt (fun w => w.fmt == 6))

/-- R281: pos SEEK. -/
def execPosSeek (x : Act) (s : State) : Out := .next (s.microOp x .pos (fun w => w.pos == 1))

/-- R217: pos TRACK_STEP. -/
def execPosTrackStep (x : Act) (s : State) : Out := .next (s.microOp x .pos (fun w => w.pos == 2))

/-- R283: pos OFFTRACK_SET. -/
def execPosOfftrackSet (x : Act) (s : State) : Out := .next (s.microOp x .pos (fun w => w.pos == 3))

/-- R283: pos OFFTRACK_CLR. -/
def execPosOfftrackClr (x : Act) (s : State) : Out := .next (s.microOp x .pos (fun w => w.pos == 4))

/-- R280: pos RETRACT. -/
def execPosRetract (x : Act) (s : State) : Out := .next (s.microOp x .pos (fun w => w.pos == 5))

/-- R312: par OPEN. -/
def execParOpOpen (x : Act) (s : State) : Out := .next (s.microOp x .par (fun w => w.par == 1))

/-- R312: par CLOSE. -/
def execParOpClose (x : Act) (s : State) : Out := .next (s.microOp x .par (fun w => w.par == 2))

/-- R315: par SOURCE. -/
def execParOpSource (x : Act) (s : State) : Out := .next (s.microOp x .par (fun w => w.par == 3))

/-- R321: par REBUILD. -/
def execParOpRebuild (x : Act) (s : State) : Out := .next (s.microOp x .par (fun w => w.par == 4))

/-- R213: bop LOAD. The buffer addresses of sector k are a function of k and the descriptor, so there is nothing further to
hold. -/
def execBopLoad (x : Act) (s : State) : Out := .next (s.microOp x .bop (fun w => w.bop == 1))

/-- R217: ctr LOAD. -/
def execCtrLoad (x : Act) (s : State) : Out := .next (s.microOp x .ctr (fun w => w.ctr == 1))

/-- R217: ctr DEC. -/
def execCtrDec (x : Act) (s : State) : Out := .next (s.microOp x .ctr (fun w => w.ctr == 2))

/-- R198: post WBACK. -/
def execPostWback (x : Act) (s : State) : Out := .next (s.microOp x .post (fun w => w.post == 1))

/-- R215: post STATUS. -/
def execPostStatus (x : Act) (s : State) : Out := .next (s.microOp x .post (fun w => w.post == 2))

/-- R215: post WBACK_STATUS. -/
def execPostWbackStatus (x : Act) (s : State) : Out := .next (s.microOp x .post (fun w => w.post == 3))

/-- R217: rop NEXT. -/
def execRopNext (x : Act) (s : State) : Out := .next (s.microOp x .rop (fun w => w.rop == 1))

/-- R217: rop APPLY. -/
def execRopApply (x : Act) (s : State) : Out := .next (s.microOp x .rop (fun w => w.rop == 2))

/-- R217: rop REPEAT. -/
def execRopRepeat (x : Act) (s : State) : Out := .next (s.microOp x .rop (fun w => w.rop == 3))

/-- R217: rop STORED. -/
def execRopStored (x : Act) (s : State) : Out := .next (s.microOp x .rop (fun w => w.rop == 4))

/-- R167: rop RESTORE. -/
def execRopRestore (x : Act) (s : State) : Out := .next (s.microOp x .rop (fun w => w.rop == 5))

/-- R171: rop CLOSE. -/
def execRopClose (x : Act) (s : State) : Out := .next (s.microOp x .rop (fun w => w.rop == 6))

/-! ## Control -/

/-- MSQ_CTL.abort or flush, at the block. -/
def State.msqAbortOp (x : Act) (flush : Bool) (s : State) : State :=
  let s := s.updMsq x (fun m => { m with flushHeld := m.flushHeld || flush })
  if s.msqRunning x then s.msqBreak x .abort else s.flushRing x

/-- R231: the current operation is aborted. -/
def execMsqAbort (who : Init) (x : Act) (s : State) : Out := .next (s.accept who (msqF R.MSQ_CTL_abort x) (State.msqAbortOp x false))

/-- R231: abort, and the ring is emptied. -/
def execMsqFlush (who : Init) (x : Act) (s : State) : Out := .next (s.accept who (msqF R.MSQ_CTL_flush x) (State.msqAbortOp x true))

/-- MSQ_CTL.run, at the block (R225). -/
def State.msqRunOp (x : Act) (v : Bool) (s : State) : State :=
  let s := s.wrB (msqF R.MSQ_CTL_run x) v
  if s.msqIs x .idle && !v then s.msqSt x .paused
  else if (s.msqIs x .paused || s.msqIs x .parked) && v then s.msqSt x .idle else s

/-- R225: a write of run. -/
def execMsqRunWrite (who : Init) (x : Act) (v : Bool) (s : State) : Out :=
  .next (s.accept who (msqF R.MSQ_CTL_run x) (State.msqRunOp x v))

/-- MSQ_CTL.en or srst, at the block (R225, R15, R234): the control store and the marks of failed and reloaded words stay. -/
def State.msqEnableOp (x : Act) (srst en : Bool) (s : State) : State :=
  if srst then ((if s.msqIs x .off then s else s.msqHalt x .off).blockReset (24 + x.idx) (msqF R.MSQ_CTL_srst x))
  else
    let s := s.wrB (msqF R.MSQ_CTL_en x) en
    if en then (if s.msqIs x .off then s.msqRest x else s)
    else
      let s := s.ownerFlush
      if s.msqIs x .off then s else s.msqHalt x .off

/-- R225: a write of en or srst. -/
def execMsqEnableWrite (_who : Init) (x : Act) (srst en : Bool) (s : State) : Out := .next (s.msqEnableOp x srst en)

/-- MSQ_URG_CTL.go, at the block: refused while busy (R232). -/
def State.urgentOp (who : Init) (x : Act) (s : State) : State :=
  if s.rdB (msqF R.MSQ_URG_CTL_busy x) then s.refuse who (msqF R.MSQ_URG_CTL_go x)
  else (s.wr (msqF R.MSQ_URG_CTL_busy x) 1).updMsq x (fun m => { m with urgentWait := true })

/-- R232: an urgent descriptor is posted. -/
def execUrgentGo (who : Init) (x : Act) (s : State) : Out := .next (s.accept who (msqF R.MSQ_URG_CTL_go x) (State.urgentOp who x))

/-- R232: the first abandonable instant for a pending urgent descriptor. Inside a commit region the break is held. -/
def execPreemption (x : Act) (flip flipFe : BitVec 14) (flipW : BitVec 128) (s : State) : Out :=
  .next (if s.preemptible x then
      if s.msqIs x .run then s.breakPreempt x flip flipFe flipW
      else if s.msqIs x .commit then s.msqBreak x .preempt else s
    else s)

/-- Whether the retract condition of R229 holds: a lane channel's count or the actuator's has reached inv_limit + 1. -/
def State.retractDue (s : State) (x : Act) : Bool :=
  let lim := s.rd (msqF R.MSQ_CFG_inv_limit x) + 1
  decide (lim ≤ s.rd (R.SRV_ACT_FLG_invcnt.at x.idx))
    || (s.opLanes x).any (fun l => decide (lim ≤ s.rd (R.SRV_CH_FLG_invcnt.at (laneCh x l).val)))

/-- R229: a count of invalid samples has reached inv_limit + 1: the retract break, held inside a commit region and in MCHECK;
an idle sequencer enters the retract routine at once (R225). -/
def execRetractCountReached (x : Act) (flip : BitVec 14) (flipW : BitVec 128) (s : State) : Out :=
  .next (if s.retractDue x && !(s.msq.get x).retracting then
      if s.msqIs x .commit || s.msqIs x .mcheck then s.msqBreak x .retract
      else if s.msqIs x .run || s.msqIs x .idle then s.breakRetract x flip flipW else s
    else s)

/-! ## Store port (R235) -/

/-- Whether firmware may write the store and the dispatch table: OFF, IDLE, PAUSED or PARKED. -/
def State.storeOpen (s : State) (x : Act) : Bool := s.msqIs x .off || s.msqIs x .idle || s.msqIs x .paused || s.msqIs x .parked

/-- MSQ_CS_CTL.wr, at the block: the DATA registers with parity regenerated; refused in the other states. -/
def State.csWriteOp (who : Init) (x : Act) (s : State) : State :=
  if s.storeOpen x then
    let d : Nat → Nat := fun i => s.rd (msqAt R.MSQ_CS_DATA_data x i) * 2 ^ (32 * i)
    let v := wordParity (d 0 + d 1 + d 2 + d 3)
    s.updMsq x (fun m => { m with store := storePut m.store (s.rd (msqF R.MSQ_CS_ADDR_addr x)) (BitVec.ofNat 128 v) })
  else s.refuse who (msqF R.MSQ_CS_CTL_wr x)

/-- R235: MSQ_CS_CTL.wr. -/
def execCsWrite (who : Init) (x : Act) (s : State) : Out := .next (s.accept who (msqF R.MSQ_CS_CTL_wr x) (State.csWriteOp who x))

/-- MSQ_CS_CTL.rd, at the block: the word copied into the DATA registers, parity included. -/
def State.csReadOp (x : Act) (s : State) : State :=
  let v := (storeFind (s.msq.get x).store (s.rd (msqF R.MSQ_CS_ADDR_addr x))).toNat
  s.forEach (List.range 4) (fun i s => s.wr (msqAt R.MSQ_CS_DATA_data x i) (bitField v (32 * i) 32))

/-- R235: MSQ_CS_CTL.rd. -/
def execCsRead (who : Init) (x : Act) (s : State) : Out := .next (s.accept who (msqF R.MSQ_CS_CTL_rd x) (State.csReadOp x))

end Sys2Proof.Machine
end

