-- ==== Sys2Proof/Machine/Wch.lean ====
section
/-! DEFINITION. The commands of the write channels and the Head Link (spec/06_write_laser.md). -/
namespace Sys2Proof.Machine

/-! ## Sectors and runs -/

/-- The information bytes of lane sector k (R181): the user bytes, the guard and the metadata of R92; or P or Q from the
accumulator where par SOURCE is in force. -/
def State.wchInfo (s : State) (ch : Fin 8) (r : LaneRec) (k : Nat) : List Byte :=
  match s.par.bind[ch] with
  | some x =>
    if x.source then s.accSource x (r.b0 + k)
    else
      let u := s.dramGet (r.dataAddr k) 4096
      u ++ leBytes 8 (Config.guard64 u).toNat ++ leBytes 2 r.tag ++ leBytes 2 (r.index k) ++ leBytes 2 r.len ++ leBytes 2 r.epoch
  | none =>
    let u := s.dramGet (r.dataAddr k) 4096
    u ++ leBytes 8 (Config.guard64 u).toNat ++ leBytes 2 r.tag ++ leBytes 2 (r.index k) ++ leBytes 2 r.len ++ leBytes 2 r.epoch

/-- Whether the data of lane sector k hold a poisoned word (R437). -/
def State.wchPoison (s : State) (ch : Fin 8) (r : LaneRec) (k : Nat) : Bool :=
  match s.par.bind[ch] with
  | some x => if x.source then s.accPoison x.acc x.role (r.b0 + k) else s.poisonIn (r.dataAddr k) 4096
  | none => s.poisonIn (r.dataAddr k) 4096

/-- A SOURCE lane that meets poison makes its accumulator DAMAGED (R437). -/
def State.sourcePoison (ch : Fin 8) (r : LaneRec) (k : Nat) (s : State) : State :=
  match s.par.bind[ch] with
  | some x => if x.source && s.accPoison x.acc x.role (r.b0 + k) then s.parDamage (s.accP x.acc (r.b0 + k)) else s
  | none => s

/-- The lane sector that a channel assembles next: the first presented one it has not assembled, on the lane's track. -/
def State.wchNext (s : State) (ch : Fin 8) : Option (LaneRec × Nat) :=
  let x := chAct ch
  let f := s.lane x (chLane ch)
  match s.chRec ch with
  | some r =>
    let k := f.k + s.wch[ch].asm.length
    if s.wch[ch].on && f.on && !s.wch[ch].failed && decide (k < r.count) && s.secTrack x r k == f.track then some (r, k)
    else none
  | none => none

/-- R182: the next sector is assembled with the write table in force (R18); not ready 64 cells before its first cell, or
holding a poisoned word (R437), it is not started and UNDERRUN is recorded. A SOURCE lane bound to no parity band writes nothing (R315), and parity sectors at
or beyond hw are never written (R309). -/
def execSectorAssemble (ch : Fin 8) (ready : Bool) (s : State) : Out :=
  .next (match s.wchNext ch with
    | some (r, k) =>
      let x := chAct ch
      if s.wch[ch].source && (match s.par.bind[ch] with
          | some y => !y.source || decide (s.accHw y.acc ≤ r.b0 + k)
          | none => true) then s
      else
        let s := s.applyShadows (fun f => f.blk == 16 + ch.val && f.shadowAt .sector)
        let s := s.wchCompose ch
        let p := s.secStart x r k
        if ready && !s.wchPoison ch r k then
          let a : AsmSector := ⟨k, s.secTrack x r k, s.secIdx x r k, p.1, s.wchInfo ch r k⟩
          s.updWch ch (fun w => { w with asm := w.asm ++ [a] })
        else ((s.sourcePoison ch r k).wchFault ch 8 p.1 (s.secName x r k)).wchIncomplete ch
    | none => s)

/-- The causes for which no run starts, lowest first: a condition of R190 that has a cause and does not hold, and a withheld
lane. The table and ready conditions have none (R199, R207). -/
def State.grantCauses (s : State) (ch : Fin 8) : List Nat :=
  let cs := s.wchConds ch
  (([(0, 1), (1, 2), (3, 3), (4, 4), (5, 5), (2, 6), (6, 7)] : List (Nat × Nat)).filter (fun p => cs[p.1]? == some false)).map (·.2)
    ++ (if s.wch[ch].withheld then [9] else [])

/-- R190: the instant a requested run's lane would become active. With every condition holding the lane goes active and
strobes run; otherwise no run starts, the causes that withhold it are recorded (R191, R197, R199, R207), and the sector
stays incomplete. A channel held idle under R127 gets no run. -/
def execWriteRunGrant (ch : Fin 8) (s : State) : Out :=
  .next (if s.rdB (R.WCH_STAT_gate_req.inst ch.val) && !s.wch[ch].failed && !s.rdBit R.GCK_CH_STAT_rate_err ch.val then
      match s.wch[ch].asm with
      | a :: _ =>
        if (s.wchConds ch).all id then
          ((s.wr (R.WCH_STAT_lane_active.inst ch.val) 1).wr (R.WCH_STAT_strobe.inst ch.val) 1).updWch ch
            (fun w => { w with inRun := true })
        else
          let name := match s.chRec ch with
            | some r => s.secName (chAct ch) r a.k
            | none => 0
          let s := s.forEach (s.grantCauses ch) (fun c s => s.wchFault ch c a.wedge name)
          s.wchIncomplete ch
      | [] => s
    else s)

/-- R194, R197, R313: strobes have covered the sector. The pointer advances, PAR adds the sector or counts it sourced, the
lane's progress and position advance, and the lane goes idle unless the next assembled sector abuts. -/
def execSectorComplete (ch : Fin 8) (s : State) : Out :=
  .next (if s.wch[ch].inRun then
      match s.wch[ch].asm, s.chRec ch with
      | a :: rest, some r =>
        let x := chAct ch
        let l := chLane ch
        let s := s.wchCount ch R.WCH_CNT_SECT_count
        let ptr := R.WCH_BWP_ptr.inst ch.val
        let s := s.when (s.rdB (R.WCH_BWP_valid.inst ch.val) = true) (fun s => s.wr ptr (s.rd ptr + 1))
        let s := match s.par.bind[ch] with
          | some y => if y.source then s.parSourced y else s.parWriteAdd ch (r.b0 + a.k) a.info
          | none => s
        let s := s.updLane x l (fun f => { f with k := a.k + 1 })
        let prog := (R.MSQ_LANE_PROG_progress.inst x.idx).at l.val
        let s := s.wr prog (if r.band && decide (r.ratio < 64) then s.rd ptr - r.b0 else s.rd prog + 1)
        let s := s.wr ((R.MSQ_LANE_SEC_remaining.inst x.idx).at l.val) (r.count - (a.k + 1))
        let s := s.when (a.k + 1 < r.count) (State.wr ((R.MSQ_LANE_SEC_sector.inst x.idx).at l.val) (s.secIdx x r (a.k + 1)))
        let s := s.updWch ch (fun w => { w with asm := rest, inRun := false })
        if s.wch[ch].stopAfter then s.wchEnd ch
        else if rest.isEmpty || !s.rdB (R.WCH_STAT_gate_req.inst ch.val) then s.wchIdle ch else s
      | _, _ => s
    else s)

/-! ## Preamp -/

/-- R193: HL_x_FAULT_N is asserted. The actuator's writes stop with cause PREAMP and a PA_STAT read is queued (R203). -/
def execPreampFaultLine (x : Act) (s : State) : Out :=
  .next ((((s.wr (hlField R.WCH_HL_STAT_fault_line x) 1).wchStopAll 5 (actChans x)).hlPush x hlStatRead))

/-- R190, R205: FAULT_N is released; the preamp condition holds again once a PA_STAT read has returned 0. -/
def execFaultLineDeasserted (x : Act) (s : State) : Out :=
  .next ((s.wr (hlField R.WCH_HL_STAT_fault_line x) 0))

/-- R192: the preheat interval of a channel's head has elapsed since its WRITE_READY frame. -/
def execPreheatDone (ch : Fin 8) (s : State) : Out :=
  .next (if s.wchHctl ch % 4 = 2 then (s.wr (R.WCH_STAT_preheat_done.inst ch.val) 1) else s)

/-- WCH_CTL.en set, at the block: in WCH0 and WCH4 the link engine starts its sequence (R208). -/
def State.wchEnableOp (ch : Fin 8) (s : State) : State :=
  if s.rdB (R.WCH_CTL_en.inst ch.val) then s
  else
    let s := s.wr (R.WCH_CTL_en.inst ch.val) 1
    s.when (ch.val % 4 = 0) (State.hlStart (chAct ch))

/-- R208: WCH_CTL.en is written 1. -/
def execWchEnable (who : Init) (ch : Fin 8) (s : State) : Out :=
  .next (s.accept who (R.WCH_CTL_en.inst ch.val) (State.wchEnableOp ch))

/-- The CRC-8 of R201, polynomial x^8 + x^2 + x + 1 with initial value 0, over bits from the most significant. -/
def hlCrc (bits : List Bool) : Nat :=
  bits.foldl (fun c b => let t := (c * 2) % 256; if bitAt c 7 != b then Nat.xor t 7 else t) 0

/-- The n bits of v, most significant first. -/
def msbBits (v n : Nat) : List Bool := (List.range n).map (fun i => bitAt v (n - 1 - i))

/-- Bits 39:8 of a frame (R201). -/
def HlFrame.command (f : HlFrame) : Nat :=
  (if f.read then 2 ^ 31 else 0) + f.target * 2 ^ 26 + f.reg * 2 ^ 18 + (if f.read then 0 else f.data)

/-- The CRC that must follow a read frame's data (R201). -/
def HlFrame.readCrc (f : HlFrame) (data : BitVec 16) : Nat := hlCrc (msbBits f.command 32 ++ msbBits data.toNat 16)

/-- link_err is set and, during the initialisation, the engine sends nothing more, which the base firmware
logs (R202, R208). -/
def State.hlError (x : Act) (dead : Bool) (s : State) : State :=
  let s := s.setStatusAmong (wchFaultCauses (4 * x.idx)) (hlField R.WCH_HL_STAT_link_err x) 1 (128 + 8 * x.idx + 1)
  if dead then ((s.updHl x (fun h => { h with dead := true, queue := [] })).hlRefresh x).logOpen 0x3E false else s

/-- A PA_STAT value has been read (R193, R190). -/
def State.hlPaStat (x : Act) (v : Nat) (s : State) : State :=
  let s := s.updHl x (fun h => { h with lastZero := v == 0 })
  if v = 0 then s
  else ((s.wr (hlField R.WCH_HL_STAT_pa_stat x) (v % 256)).setStatusAmong (wchFaultCauses (4 * x.idx)) (hlField R.WCH_HL_STAT_pa_fault x) 1
    (128 + 8 * x.idx + 1)).wchStopAll 5 (actChans x)

/-- A completed write frame acts at the preamp: PA_HCTL restarts the preheat of the head's channels (R192), and PA_LANE
settles its lane (R207). -/
def State.hlWritten (x : Act) (f : HlFrame) (s : State) : State :=
  let s := s.updHl x (fun h =>
    { h with pa := (f.target, f.reg, f.data) :: h.pa.filter (fun e => e.1 != f.target || e.2.1 != f.reg) })
  let s := s.when (f.reg = 0x10) (fun s => s.forEach ((actChans x).filter (fun c => s.headPos (s.chHead c) == f.target
      || f.target == 31)) (fun c s => s.wr (R.WCH_STAT_preheat_done.inst c.val) 0))
  s.when (f.target = 16 ∧ 2 ≤ f.reg ∧ f.reg ≤ 5 ∧ f.init = false) (fun s =>
    s.forEach ((actChans x).filter (fun c => c.val % 4 == f.reg - 2)) (fun c s => s.updWch c (fun w => { w with settled := true })))

/-- The frame on the wire leaves the queue; the last one of the initialisation sets init_done and the composed settings go
out (R208, R186). -/
def State.hlPop (x : Act) (f : HlFrame) (s : State) : State :=
  let s := s.updHl x (fun h => { h with queue := h.queue.drop 1, initLeft := h.initLeft - (if f.init then 1 else 0) })
  let s := s.hlRefresh x
  if f.init && (s.hl.get x).initLeft == 0 then (s.wr (hlField R.WCH_HL_STAT_init_done x) 1).wchComposeAll x else s

/-- R201, R202: the frame on the wire ends; a read brings 16 data bits and the CRC that followed them. A failed CRC is
retried, and after rd_retry further attempts it counts as a non-zero PA_STAT. -/
def execHlFrameDone (x : Act) (data : BitVec 16) (crc : BitVec 8) (s : State) : Out :=
  .next (match (s.hl.get x).queue with
    | [] => s
    | f :: _ =>
      if !f.read then ((s.hlWritten x f).hlPop x f)
      else if crc.toNat = f.readCrc data then
        let s := s.hlPop x f
        let s := if f.fw then ((s.wr (hlField R.WCH_HL_RDATA_data x) data.toNat).wr (hlField R.WCH_HL_RDATA_crc_err x) 0).wr
          (hlField R.WCH_HL_RDATA_valid x) 1 else s
        let s := if f.target = 16 ∧ f.reg = 1 then s.hlPaStat x data.toNat else s
        (if f.init && ((f.reg == 0 && data.toNat / 256 != 1) || (f.reg == 1 && data.toNat != 0)) then s.hlError x true
          else s)
      else
        let s := s.wchCount (laneCh x 0) R.WCH_HL_CNT_crc_err
        if f.tries < s.rd (hlField R.WCH_HL_CFG_rd_retry x) then
          s.updHl x (fun h => { h with queue := { f with tries := f.tries + 1 } :: h.queue.drop 1 })
        else
          let s := s.hlPop x f
          let s := if f.fw then (s.wr (hlField R.WCH_HL_RDATA_crc_err x) 1).wr (hlField R.WCH_HL_RDATA_valid x) 1 else s
          let s := s.hlError x f.init
          ((s.updHl x (fun h => { h with lastZero := false })).wchStopAll 5 (actChans x)))

/-- WCH_HL_CMD, at the block: refused while fw_busy is 1, and otherwise queued as the last class (R203). -/
def State.hlCmdOp (who : Init) (x : Act) (cmd : Word) (s : State) : State :=
  if s.rdB (hlField R.WCH_HL_STAT_fw_busy x) then s.refuse who (hlField R.WCH_HL_CMD_cmd x)
  else s.hlPush x ⟨7, bitAt cmd.toNat 31, bitField cmd.toNat 26 5, bitField cmd.toNat 18 8, bitField cmd.toNat 0 16, 0, false, true⟩

/-- R203: a firmware frame is queued with its CRC. -/
def execHlCmd (who : Init) (x : Act) (cmd : Word) (s : State) : Out :=
  .next (s.accept who (hlField R.WCH_HL_CMD_cmd x) (State.hlCmdOp who x cmd))

end Sys2Proof.Machine
end

