-- ==== Sys2Proof/Machine/ApplyMedia.lean ====
section
/-! DEFINITION. What the fields of a posted write do when it reaches GCK, RCH, WCH, MSQ or PAR. -/
namespace Sys2Proof.Machine

/-! ## GCK -/

/-- Whether a field is a channel's selection. -/
def Field.isSel (f : Field) : Bool := f.isA R.GCK_CH_SEL_head || f.isA R.GCK_CH_SEL_annulus || f.isA R.GCK_CH_SEL_self

/-- Fields of GCK that do more than hold their value. -/
def ownGck (f : Field) : Bool := f.acc == .wo || f.isA R.GCK_CTL_en || f.isSel

/-- A selection written by firmware: refused while the actuator's sequencer runs, pending until its boundary, and at once where GCK is
disabled (R126, R21). A head that firmware selects has no lane track (R249). -/
def State.selWrite (who : Init) (f : Field) (v : Nat) (s : State) : State :=
  let c := f.no R.GCK_CH_SEL_head
  if s.msqRunning (chanAct c) then s.refuse who f
  else
    let s := s.pend f v
    let s := if h : f.isA R.GCK_CH_SEL_head = true ∧ v < 32 then { s with act := { s.act with laneTrack := s.act.laneTrack.set v none h.2 } } else s
    if h : c < 8 then s.when (s.rdB R.GCK_CTL_en = false) (State.selApply ⟨c, h⟩) else s

/-- A field of GCK that does more than hold its value. -/
def State.actGck (p : Posted) (a : FieldAct) (s : State) : State :=
  let f := a.field
  if f.isA R.GCK_CTL_swap then s.gckSwapOp p.init
  else if f.isA R.GCK_CTL_relock then s.gckRelockOp p.init
  else if f.isA R.GCK_CTL_unload then s.gckUnloadIfLoaded
  else if f.isA R.GCK_CTL_load then s.gckLoadOp p.init
  else if f.isA R.GCK_CTL_en then (if a.value = 0 then s.gckDisableOp false else s.wr f a.value)
  else if f.isSel then s.selWrite p.init f a.value
  else s

/-! ## RCH and WCH -/

/-- The channel of a block of RCH or WCH. -/
def chanOf (f : Field) : Fin 8 := ⟨f.blk % 8, Nat.mod_lt _ (by decide)⟩

/-- RCH_CTL.en written. -/
def State.actRch (a : FieldAct) (s : State) : State :=
  if a.field.isA R.RCH_CTL_en then
    (if a.value = 0 then s.rchDisableOp (chanOf a.field) false else s.wr a.field a.value).demodShow
  else s

/-- Fields of WCH that do more than hold their value. -/
def ownWch (f : Field) : Bool :=
  f.acc == .wo || f.isA R.WCH_CTL_en || f.isA R.WCH_CTL_wt_valid || f.isA R.WCH_BWP_valid || f.isA R.WCH_BWP_ptr

/-- A field of WCH that does more than hold its value: the band-write pointer is refused while the sequencer runs. -/
def State.actWch (p : Posted) (a : FieldAct) (s : State) : State :=
  let f := a.field
  let ch := chanOf f
  if f.isA R.WCH_CTL_en then (if a.value = 0 then ((s.wr f 0).wchDisable ch).ownerFlush else s.wchEnableOp ch)
  else if f.isA R.WCH_CTL_wt_valid then (s.wr f a.value).wchCompose ch
  else if f.isA R.WCH_BWP_valid || f.isA R.WCH_BWP_ptr then
    (if s.msqRunning (chAct ch) then s.refuse p.init f else s.wr f a.value)
  else if f.isA R.WCH_HL_CMD_cmd then s.hlCmdOp p.init (chAct ch) (BitVec.ofNat 32 a.value)
  else s

/-! ## MSQ -/

/-- The actuator of a sequencer's block. -/
def msqOf (f : Field) : Act := if f.blk = 24 then .a else .b

/-- Fields of MSQ that do more than hold their value. -/
def ownMsq (f : Field) : Bool :=
  f.acc == .wo || f.isA R.MSQ_CTL_en || f.isA R.MSQ_CTL_run || f.isA R.MSQ_RING_TAIL_tail || f.isA R.MSQ_DT_valid || f.isA R.MSQ_DT_addr

/-- An entry of the dispatch table written: refused where the store is closed; its parity is generated (R235). -/
def State.dtWrite (who : Init) (f : Field) (v : Nat) (s : State) : State :=
  let x := msqOf f
  let i := f.no R.MSQ_DT_addr
  if s.storeOpen x then
    let s := s.wr f v
    let w := s.rd (msqAt R.MSQ_DT_addr x i) + 4096 * s.rd (msqAt R.MSQ_DT_valid x i)
    s.wrB (msqAt R.MSQ_DT_par x i) (!evenParity w 13)
  else s.refuse who f

/-- A field of MSQ that does more than hold its value. -/
def State.actMsq (p : Posted) (a : FieldAct) (s : State) : State :=
  let f := a.field
  let x := msqOf f
  if f.isA R.MSQ_CTL_flush then s.msqAbortOp x true
  else if f.isA R.MSQ_CTL_abort then s.msqAbortOp x false
  else if f.isA R.MSQ_CTL_run then s.msqRunOp x (a.value != 0)
  else if f.isA R.MSQ_CTL_en then s.msqEnableOp x false (a.value != 0)
  else if f.isA R.MSQ_RING_TAIL_tail then s.ringTailOp p.init x (BitVec.ofNat 10 a.value)
  else if f.isA R.MSQ_URG_CTL_go then s.urgentOp p.init x
  else if f.isA R.MSQ_CS_CTL_rd then s.csReadOp x
  else if f.isA R.MSQ_CS_CTL_wr then s.csWriteOp p.init x
  else if f.isA R.MSQ_DT_valid || f.isA R.MSQ_DT_addr then s.dtWrite p.init f a.value
  else s

/-! ## PAR -/

/-- Fields of PAR that do more than hold their value. -/
def ownPar (f : Field) : Bool :=
  f.acc == .wo || f.isA R.PAR_CTL_en || f.isA R.PAR_ACC_CTL_act || f.isA R.PAR_ACC_CTL_slot

/-- The command that a value of PAR_ACCk_CTL.cmd stands for; the others are refused (R311). -/
def accCmdOf : Nat → Option AccCmd
  | 1 => some .attach
  | 2 => some .rebuild
  | 3 => some .ready
  | 4 => some .seal
  | 5 => some .check
  | 6 => some .scan
  | 7 => some .release
  | _ => none

/-- A field of PAR that does more than hold its value; act and slot stand above and below cmd, and a command acts on what they then hold. -/
def State.actPar (p : Posted) (a : FieldAct) (s : State) : State :=
  let f := a.field
  let k : Fin 8 := ⟨f.no R.PAR_ACC_CTL_cmd % 8, Nat.mod_lt _ (by decide)⟩
  if f.isA R.PAR_CTL_en then (if a.value = 0 then s.parDisableOp false else s.wr f a.value)
  else if f.isA R.PAR_ACC_CTL_act || f.isA R.PAR_ACC_CTL_slot then (if s.accIs k .free then s.wr f a.value else s.refuse p.init f)
  else if f.isA R.PAR_ACC_CTL_cmd then
    match accCmdOf a.value with
    | some c => s.accCmdOp p.init k c
    | none => s.accRefuse p.init k
  else s

end Sys2Proof.Machine
end

