-- ==== Sys2Proof/Machine/Cle.lean ====
section
/-! DEFINITION. The loop laws of CLE and its commands (spec/09_control_engine.md). -/
namespace Sys2Proof.Machine

/-! ## Arithmetic (R263) -/

/-- 2^n as an integer. -/
def pow2 (n : Nat) : Int := ((2 ^ n : Nat) : Int)

/-- An accumulator value as Q1.31: plus 2^16, shifted right by 17, saturated. -/
def accQ31 (a : Int) : Int := satSigned 32 ((a + pow2 16) / pow2 17)

/-- An accumulator value as Q4.28: plus 2^19, shifted right by 20, saturated. -/
def accQ28 (a : Int) : Int := satSigned 32 ((a + pow2 19) / pow2 20)

/-- Word j of a slot's bank b, as a signed word (R269). -/
def State.bankWord (s : State) (k : SlotId) (b j : Nat) : Int := s.rdI (R.CLE_BANK_coef.at (128 * k.val + 64 * b + j))

/-- State word j of a slot. -/
def State.stateWord (s : State) (k : SlotId) (j : Nat) : Int := s.rdI (R.CLE_STATE_state.at (32 * k.val + j))

/-- State word j of a slot written. -/
def State.setStateWord (k : SlotId) (j : Nat) (z : Int) (s : State) : State := s.wrI (R.CLE_STATE_state.at (32 * k.val + j)) z

/-- The active bank of a slot. -/
def State.slotBank (s : State) (k : SlotId) : Nat := s.rd (R.CLE_SSTAT_bank.at k.val)

/-- The integral sum, Q16.48. -/
def State.slotSum (s : State) (k : SlotId) : Int := signedOf 64 (s.rd (R.CLE_S_LO_s.at k.val) + 2 ^ 32 * s.rd (R.CLE_S_HI_s.at k.val))

/-- The integral sum written. -/
def State.setSum (k : SlotId) (z : Int) (s : State) : State :=
  let n := twosOf 64 z
  (s.wr (R.CLE_S_LO_s.at k.val) (n % 2 ^ 32)).wr (R.CLE_S_HI_s.at k.val) (n / 2 ^ 32)

/-- s held where ki × s lies in [imin, imax] (R265); ki is Q8.24 and the limits Q1.31, so the bound on s is the quotient
limit × 2^41 / ki in Q16.48, rounded inward. -/
def clampSum (ki imin imax z : Int) : Int :=
  let z := clampInt (-(32767 * pow2 48)) (32767 * pow2 48) z
  if ki = 0 then z
  else if 0 < ki then clampInt (-((-(imin * pow2 41)) / ki)) (imax * pow2 41 / ki) z
  else clampInt (-((imax * pow2 41) / (-ki))) ((-(imin * pow2 41)) / (-ki)) z

/-- CLE_SSTAT.sat as a sign. -/
def State.slotSat (s : State) (k : SlotId) : Int :=
  match s.rd (R.CLE_SSTAT_sat.at k.val) with
  | 1 => 1
  | 2 => -1
  | _ => 0

/-- The saturation flag from the raw output against the limits, all in Q16.48; source offset 2 where sat_irq is 1 and the
flag leaves 0. -/
def State.setSat (k : SlotId) (raw umin umax : Int) (s : State) : State :=
  let v := if umax * pow2 17 < raw then 1 else if raw < umin * pow2 17 then 2 else 0
  let was := s.rd (R.CLE_SSTAT_sat.at k.val)
  let s := s.wr (R.CLE_SSTAT_sat.at k.val) v
  s.when (was = 0 ∧ v ≠ 0 ∧ s.rdB (R.CLE_CFG_sat_irq.at k.val) = true) (State.raise 178)

/-- The output: the raw value held between the limits, as Q1.31. -/
def limitOut (raw umin umax : Int) : Int := accQ31 (clampInt (umin * pow2 17) (umax * pow2 17) raw)

/-! ## The cascade law (R265) -/

/-- One biquad: its states move on and its output is answered. -/
def State.biquad (k : SlotId) (b i : Nat) (e : Int) (s : State) : State × Int :=
  let c := fun j => s.bankWord k b (5 * i + j)
  let x := fun j => s.stateWord k (4 * i + j)
  let p := fun (u v : Int) => u * v / pow2 13
  let v := accQ31 (p (c 0) e + p (c 1) (x 0) + p (c 2) (x 1) - p (c 3) (x 2) - p (c 4) (x 3))
  ((((s.setStateWord k (4 * i + 1) (x 0)).setStateWord k (4 * i) e).setStateWord k (4 * i + 3) (x 2)).setStateWord k (4 * i + 2) v, v)

/-- The biquads in order. -/
def State.biquads (k : SlotId) (b : Nat) (e : Int) (s : State) : List Nat → State × Int
  | [] => (s, e)
  | i :: r =>
    let p := s.biquad k b i e
    State.biquads k b p.2 p.1 r

/-- One sample of a cascade slot; its output is written to CLE_SLOTk_U. -/
def State.cascade (k : SlotId) (r y : Int) (s : State) : State :=
  let b := s.slotBank k
  let p := s.biquads k b (satSigned 32 (r - y)) (List.range (s.rd (R.CLE_CFG_nbq.at k.val)))
  let e := p.2
  let s := p.1
  let w := fun j => s.bankWord k b j
  let sat := s.slotSat k
  let z := if (sat = 1 ∧ 0 < e) ∨ (sat = -1 ∧ e < 0) then s.slotSum k else s.slotSum k + e * pow2 17
  let z := clampSum (w 41) (w 44) (w 45) z
  let raw := w 40 * e / pow2 7 + w 41 * z / pow2 24
  ((s.setSum k z).setSat k raw (w 42) (w 43)).slotOut k (limitOut raw (w 42) (w 43))

/-! ## The state-space law (R266) -/

/-- The sum of the products of two lists, each product shifted right by n. -/
def dotShift (n : Nat) : List Int → List Int → Int
  | a :: as, b :: bs => a * b / pow2 n + dotShift n as bs
  | _, _ => 0

/-- The estimator state. -/
def State.xhat (s : State) (k : SlotId) (n : Nat) : List Int := (List.range n).map (s.stateWord k)

/-- The estimator state written from accumulator values; a saturating element sets xsat (R266). -/
def State.setXhat (k : SlotId) (l : List Int) (s : State) : State :=
  let s := s.forEach (l.zip (List.range l.length)) (fun p s => s.setStateWord k p.2 (accQ28 p.1))
  s.when (l.any (fun a => decide (accQ28 a ≠ (a + pow2 19) / pow2 20))) (State.wr (R.CLE_SSTAT_xsat.at k.val) 1)

/-- One sample of a state-space slot. -/
def State.stateSpace (k : SlotId) (r y : Int) (valid : Bool) (s : State) : State :=
  let b := s.slotBank k
  let n := s.rd (R.CLE_CFG_order.at k.val)
  let row := fun (o : Nat) => (List.range n).map (fun j => s.bankWord k b (o + j))
  let x := s.xhat k n
  let inn := y * pow2 17 - dotShift 8 (row 42) x
  let s := if valid then s.setXhat k ((x.zip (row 48)).map (fun p => p.1 * pow2 20 + p.2 * inn / pow2 28)) else s
  let x := s.xhat k n
  let umin := s.bankWord k b 61
  let umax := s.bankWord k b 62
  let raw := s.bankWord k b 60 * r / pow2 11 - dotShift 8 (row 54) x
  let u := limitOut raw umin umax
  let s := (s.setSat k raw umin umax).slotOut k u
  s.setXhat k ((List.range n).map (fun i => dotShift 8 (row (6 * i)) x + s.bankWord k b (36 + i) * u / pow2 11))

/-! ## Banks (R270 to R272) -/

/-- A swap takes effect: the bank toggles, and a cascade slot rescales and clamps its sum (R272) unless the slot was
disabled. Swaps are counted and raise source offset 1. -/
def State.bankSwap (k : SlotId) (rescale : Bool) (s : State) : State :=
  let b := s.slotBank k
  let kiOld := s.bankWord k b 41
  let s := (s.wr (R.CLE_SSTAT_bank.at k.val) (1 - b)).wrBit R.CLE_SWAP_swap k.val false
  let w := fun j => s.bankWord k (1 - b) j
  let kiNew := w 41
  let s := if rescale && s.rd (R.CLE_CFG_law.at k.val) == 1 then
      let z := s.slotSum k
      let z := if kiOld = 0 ∨ kiNew = 0 then z
        else if 0 < kiNew then roundDiv (z * kiOld) kiNew else roundDiv (-(z * kiOld)) (-kiNew)
      s.setSum k (clampSum kiNew (w 44) (w 45) z)
    else s
  let t := (s.inc R.CLE_CNT_swaps 1).raise 177
  t.when (t.rd R.CLE_CNT_swaps = 65535 ∧ s.rd R.CLE_CNT_swaps ≠ 65535) (State.raise 180)

/-- CLE_SWAP bits, at the block: slot 14 is refused while auto_bank is 1, a disabled slot swaps at once, and an enabled
one at its next sample boundary (R270, R271). -/
def State.swapRequest (who : Init) (bits : Nat) (s : State) : State :=
  s.forEach ((bitsOf bits 24).map slotOf) (fun k s =>
    if k = 14 ∧ s.rdB (R.CLE_CFG_auto_bank.at 14) = true then s.refuse who R.CLE_SWAP_swap
    else if s.slotOn k then s.wrBit R.CLE_SWAP_swap k.val true
    else s.bankSwap k false)

/-- Whether a write to a bank of a slot is refused: from a request until the swap, and for the active bank of an enabled
slot (R270). -/
def State.bankLocked (s : State) (k : SlotId) (b : Nat) : Bool :=
  s.rdBit R.CLE_SWAP_swap k.val || (s.slotOn k && s.slotBank k == b)

/-! ## References (R273 to R275) -/

/-- The r of a slot that ramps: TGT in STEP, and in RAMP a step of at most RATE × Δt toward it, Δt in ms from Drive Time;
after an enable r is first the present y. -/
def State.rampRef (s : State) (k : SlotId) (y : Int) : Int :=
  let c := s.cle.slots[k]
  let tgt := s.rdI (R.CLE_TGT_tgt.at k.val)
  if s.rd (R.CLE_CFG_mode.at k.val) = 0 then tgt
  else if c.fromY then y
  else
    let dt : Int := ((s.driveTime - c.lastDt : Nat) : Int)
    let step := s.quot (s.rdI (R.CLE_RATE_rate.at k.val) * dt) 1000000
    if tgt < c.r then max tgt (c.r - step) else min tgt (c.r + step)

/-- The actuator of slots 0, 1, 12 and 13. -/
def slotAct (k : SlotId) : Act := if k.val = 0 ∨ k.val = 12 then .a else .b

/-- The r of a current loop in LOADING and RETRACT (R277): kv × (v_tgt − vest) / 256 within ±ilim, in 1/256 of full scale. -/
def State.loadRef (s : State) (x : Act) : Int :=
  let v := if s.actIs x .loading then s.rdI (actF R.ACT_LOAD_load_v x) else - s.rdI (actF R.ACT_RET_ret_v x)
  let lim : Int := ((s.rd (actF R.ACT_VLAW_ilim x) : Nat) : Int)
  clampInt (-lim) lim (s.quot (((s.rd (actF R.ACT_VLAW_kv x) : Nat) : Int) * (v - s.rdI (actF R.ACT_VEST_vest x))) 256) * 8388608

/-- The reference that a slot's sample uses, given its input y (R260). -/
def State.sampleRef (s : State) (k : SlotId) (y : Int) : Int :=
  let n := k.val
  let aux := s.rdI R.CLE_AUX_MEAS_code
  if s.cle.auxSlot = some n then
    if n < 2 then aux * 1048576
    else s.cle.auxR0 + s.quot (aux * ((s.rd R.CLE_REF_CFG_aux_span : Nat) : Int)) 8
  else if n < 2 then
    if s.actIs (slotAct k) .loading || s.actIs (slotAct k) .retract then s.loadRef (slotAct k) else s.cle.slots[k].r
  else if n = 2 then s.spm.idRef * 4096
  else if n < 4 then s.cle.slots[k].r
  else if n < 12 then 0
  else if n < 14 then s.cle.slots[k].r
  else if n = 14 ∧ s.cle.spdFollow = true then s.cle.spdRef
  else s.rampRef k y

/-! ## Destinations (R260, R261, R268) -/

/-- A slot's output goes to its destination. -/
def State.slotSend (k : SlotId) (s : State) : State :=
  let n := k.val
  let u := s.slotU n
  if n = 2 then s.wrI R.SPM_VDQ_v_d (u / 65536)
  else if n = 3 then s.wrI R.SPM_VDQ_v_q (u / 65536)
  else if h : 4 ≤ n ∧ n < 12 then s.maCommand (s.chHead ⟨n - 4, by omega⟩) u
  else if n = 12 ∨ n = 13 then
    if s.actTracks (slotAct k) then s.slotRef (slotOf (n - 12)) u else s
  else if n = 14 then
    if s.spmIs .run then s.slotRef (slotOf 3) u else s
  else if n = 15 ∨ n = 17 then s.wchComposeAll .a
  else if n = 16 ∨ n = 18 then s.wchComposeAll .b
  else s

/-- The destination of a disabled slot receives its off value (R261). -/
def State.slotOff (k : SlotId) (s : State) : State :=
  let s := s.slotOut k 0
  let s := if k.val = 12 ∨ k.val = 13 then s.slotRef (slotOf (k.val - 12)) 0
    else if k.val = 14 then s.slotRef (slotOf 3) 0 else s
  if h : 4 ≤ k.val ∧ k.val < 12 then s.maSet (s.chHead ⟨k.val - 4, by omega⟩) 0
  else if k.val < 4 ∨ 15 ≤ k.val then s.slotSend k else s

/-- CLE_VEL of an actuator from its position loop's sample (R268). -/
def State.velShow (k : SlotId) (y y1 : Int) (s : State) : State :=
  if k.val = 12 ∨ k.val = 13 then
    let v := if s.rd (R.CLE_CFG_law.at k.val) = 2 then s.stateWord k (s.rd (R.CLE_CFG_vel_idx.at k.val)) * 2048 else (y - y1) * 256
    s.wrI (R.CLE_VEL_vel.at (k.val - 12)) (satSigned 32 v)
  else s

/-! ## A sample -/

/-- Whether a field is in a slot's register block. -/
def inSlotBlock (k : SlotId) (f : Field) : Bool :=
  f.blk == 27 && decide (0x100 + 64 * k.val ≤ f.off) && decide (f.off < 0x140 + 64 * k.val)

/-- A pending sample computed (R262 to R268): shadowed values and swaps take effect at its start, the input or its
prediction and the reference enter the law, and the output goes to its destination. -/
def State.slotCompute (k : SlotId) (p : PendSample) (s : State) : State :=
  let s := s.updSlot k (fun c => { c with pend := none })
  let s := s.applyShadows (fun f => inSlotBlock k f && f.shadowAt .sample)
  let auto := k.val = 14 ∧ s.rdB (R.CLE_CFG_auto_bank.at 14) = true ∧ s.slotBank k ≠ (if p.wrap then 1 else 0)
  let s := if s.rdBit R.CLE_SWAP_swap k.val || decide auto then s.bankSwap k true else s
  let c := s.cle.slots[k]
  let law := s.rd (R.CLE_CFG_law.at k.val)
  let y := if p.valid then p.y else if law = 2 then c.y1 else satSigned 32 (2 * c.y1 - c.y2)
  let r := s.sampleRef k y
  let s := s.used
  let s := s.wr (R.CLE_SSTAT_invcnt.at k.val) (if p.valid then 0 else min 255 (s.rd (R.CLE_SSTAT_invcnt.at k.val) + 1))
  let s := if law = 1 then s.cascade k r y else if law = 2 then s.stateSpace k r y p.valid else s
  let s := s.velShow k y c.y1
  let now := s.driveTime
  let s := s.updSlot k (fun c => { c with y2 := c.y1, y1 := y, lastDt := now, fromY := false, r := if 14 ≤ k.val then r else c.r })
  let s := (s.wrI (R.CLE_REF_ref.at k.val) r).wrI (R.CLE_Y_y.at k.val) y
  let s := s.wrB (R.CLE_SSTAT_ramping.at k.val) (decide (14 ≤ k.val ∧ r ≠ s.rdI (R.CLE_TGT_tgt.at k.val)))
  s.slotSend k

/-- All slots in ascending number. -/
def allSlots : List SlotId := (List.range 24).map slotOf

/-! ## Commands -/

/-- R262: a slot's trigger with the input its feedback has now; for slot 14 the trigger is a Drive Phase wrap or a zero
crossing. -/
def execLoopTrigger (k : Fin 24) (wrap : Bool) (s : State) : Out := .next (s.slotTrigger k wrap)

/-- R265, R266: the pending sample of the lowest-numbered slot is computed. -/
def execLoopCompute (s : State) : Out :=
  .next (match allSlots.find? (fun k => s.cle.slots[k].pend.isSome) with
    | some k => match s.cle.slots[k].pend with
      | some p => s.slotCompute k p
      | none => s
    | none => s)

/-- R270: CLE_SWAP bits are written 1. -/
def execBankSwapRequest (who : Init) (bits : BitVec 24) (s : State) : Out :=
  .next (s.accept who R.CLE_SWAP_swap (State.swapRequest who bits.toNat))

/-- CLE_SLOTk_CFG.en written, at the block (R261). -/
def State.slotEnableOp (k : SlotId) (on : Bool) (s : State) : State :=
  let was := s.slotOn k
  let s := s.wrB (R.CLE_CFG_en.at k.val) on
  if on && !was && s.slotOn k then s.slotClear k
  else if !on && was then ((s.updSlot k (fun c => { c with pend := none })).slotOff k).ownerFlush
  else s

/-- CLE_CTL.en written, at the block: the slots whose own enable is set are enabled or disabled with it (R261). -/
def State.cleEnableOp (on : Bool) (s : State) : State :=
  let old := s
  let s := s.wrB R.CLE_CTL_en on
  s.ownerFlush.forEach allSlots (fun k s =>
    if s.slotOn k && !old.slotOn k then s.slotClear k
    else if old.slotOn k && !s.slotOn k then (s.updSlot k (fun c => { c with pend := none })).slotOff k
    else s)

/-- R261: a slot is enabled with cleared state or disabled to its off value. -/
def execSlotEnable (who : Init) (k : Fin 24) (on : Bool) (s : State) : Out :=
  .next (s.accept who (R.CLE_CFG_en.at k.val) (State.slotEnableOp k on))

/-- TGT written, at the block: r is first set to the slot's present y (R273). -/
def State.slotTargetOp (k : SlotId) (v : Word) (s : State) : State :=
  let s := s.wr (R.CLE_TGT_tgt.at k.val) v.toNat
  if 14 ≤ k.val then
    let y := s.rdI (R.CLE_Y_y.at k.val)
    (s.updSlot k (fun c => { c with r := y })).wrB (R.CLE_SSTAT_ramping.at k.val) (decide (y ≠ s.rdI (R.CLE_TGT_tgt.at k.val)))
  else s

/-- R273: a write of a slot's TGT. -/
def execSlotTargetWrite (who : Init) (k : Fin 24) (v : Word) (s : State) : Out :=
  .next (s.accept who (R.CLE_TGT_tgt.at k.val) (State.slotTargetOp k v))

/-- MEAS written, at the block: slots 15 to 23 with trig 1 are triggered by a write of their own MEAS (R260). -/
def State.measOp (k : SlotId) (v : Word) (s : State) : State :=
  let s := s.wr (R.CLE_MEAS_meas.at k.val) v.toNat
  if 15 ≤ k.val ∧ s.rd (R.CLE_CFG_trig.at k.val) = 1 then s.slotTrigger k false else s

/-- R260: a write of a slot's MEAS. -/
def execMeasWrite (who : Init) (k : Fin 24) (v : Word) (s : State) : Out :=
  .next (s.accept who (R.CLE_MEAS_meas.at k.val) (State.measOp k v))

/-- R260: CLE_TIMER expires; a period of 0 stops it. -/
def execCleTimerTick (s : State) : Out :=
  .next (if s.rdB R.CLE_CTL_en && s.rdB R.CLE_TIMER_period then s.slotTriggerBy 2 else s)

/-- R274: a rising edge on SPD_REF, ns after the one before it. -/
def execSpdRefEdge (ns : BitVec 32) (s : State) : Out :=
  .next (
    let d : Int := ((ns.toNat * s.rd R.CLE_REF_CFG_spd_ppr : Nat) : Int)
    if d = 0 then s
    else
      let s := (s.wr R.CLE_SPD_MEAS_rpm (min 65535 (s.quot 60000000000 d).toNat)).used
      let r := satSigned 32 (s.quot (60000000000 * 131072) d)
      { s.used with cle := { s.cle with spdRef := r } })

/-- Following of an external reference ends: r is set to the slot's present y (R273). -/
def State.followEnd (k : SlotId) (s : State) : State :=
  let y := s.rdI (R.CLE_Y_y.at k.val)
  s.updSlot k (fun c => { c with r := y })

/-- R274: no edge within twice the last period while slot 14 follows. -/
def execSpdRefLost (s : State) : Out :=
  .next (if s.cle.spdFollow then
      let s := ({ s with cle := { s.cle with spdFollow := false } } : State).followEnd 14
      (s.wr R.CLE_STAT_spd_lost 1).raise 179
    else s)

/-- aux_ext set with aux_slot, at the block (R275): only slots 0, 1, 12 and 13 may be named. -/
def State.auxStartOp (who : Init) (slot : Nat) (s : State) : State :=
  if slot = 0 ∨ slot = 1 ∨ slot = 12 ∨ slot = 13 then
    let s := ((s.wr R.CLE_REF_CFG_aux_slot slot).wr R.CLE_REF_CFG_aux_ext 1).wr R.CLE_STAT_aux_active 1
    let x : Act := if slot = 0 ∨ slot = 12 then .a else .b
    let p := s.rdI (R.SRV_ACT_POS_pos.at x.idx)
    let s : State := { s with cle := { s.cle with auxSlot := some slot, auxR0 := p } }
    s.when (s.actIs x .track = true) (State.actEnter x .settle)
  else s.refuse who R.CLE_REF_CFG_aux_slot

/-- R275: aux_ext is set; the fields are unlocked in MANUFACTURE and SERVICE only (R10). -/
def execAuxFollowStart (who : Init) (slot : BitVec 5) (s : State) : Out :=
  .next (if s.lc = .manufacture ∨ s.lc = .service then s.accept who R.CLE_REF_CFG_aux_ext (State.auxStartOp who slot.toNat)
    else s.cfgErr .locked true who R.CLE_REF_CFG_aux_ext.blk R.CLE_REF_CFG_aux_ext.off)

/-- The back-EMF velocity estimate of R277 from the bridge voltage in mV and the current in mA. -/
def State.vestUpdate (x : Act) (v i : Int) (s : State) : State :=
  let k : Int := ((s.rd (actF R.ACT_BEMF_kb_inv x) : Nat) : Int)
  let r : Int := ((s.rd (actF R.ACT_BEMF_r_coil x) : Nat) : Int)
  let z := satSigned 16 (s.quot (k * (1000 * v - r * i)) 65536000)
  let s := (s.wrI (actF R.ACT_VEST_vest x) z).used
  s.when (s.actIs x .retract = true ∧ 2 * z ≤ - s.rdI (actF R.ACT_RET_ret_v x)) (State.updAct x (fun a => { a with vestSeen := true }))

/-- CLE_VEL while the position loop is not computed: vest at the wedge period of the speed SPM reports (R268). -/
def State.velFromVest (x : Act) (s : State) : State :=
  if s.actIs x .off || s.actIs x .parked || s.actIs x .loading || s.actIs x .retract then
    let d : Int := ((s.rd R.SPM_SPEED_rpm * s.wedges x : Nat) : Int)
    let v := if d = 0 ∨ s.spmIs .run = false then 0 else satSigned 32 (s.quot (s.rdI (actF R.ACT_VEST_vest x) * 256 * 60000000) d)
    (s.wrI (R.CLE_VEL_vel.at x.idx) v).used
  else s

/-- What vibration input j is converted to: an unused slot's input reads as 0 (R547). -/
def State.vibCode (s : State) (codes : List (BitVec 12)) (j : Nat) : Nat := if s.slotUsed (83 + j) then (codes.getD j 0).toNat else 0

/-- The eight vibration inputs as converted together (R566). -/
def State.vibTake (codes : List (BitVec 12)) (s : State) : State :=
  s.forEach (List.range 4) (fun i s =>
    (s.wr (R.SYS_VIB_lo.at i) (s.vibCode codes (2 * i))).wr (R.SYS_VIB_hi.at i) (s.vibCode codes (2 * i + 1)))

/-- R276, R566: a VCM PWM period: the shunt is converted, AUX_REF sampled, the velocity estimate updated and the current loop
triggered; at one of actuator A the vibration inputs are converted. -/
def execVcmPwmPeriod (x : Act) (code : BitVec 12) (mV mA : BitVec 16) (aux : BitVec 12) (vib : List (BitVec 12)) (s : State) : Out :=
  .next (
    let s := s.when (x = .a) (State.vibTake vib)
    let s := (s.wr (actF R.ACT_IMEAS_code x) code.toNat).wr R.CLE_AUX_MEAS_code aux.toNat
    let s := (s.vestUpdate x mV.toInt mA.toInt).velFromVest x
    s.slotTrigger (slotOf x.idx) false)

end Sys2Proof.Machine
end

