-- ==== Sys2Proof/Machine/Srv.lean ====
section
/-! DEFINITION. The commands of SRV (spec/08_servo_demod.md). -/
namespace Sys2Proof.Machine

/-! ## Counters -/

/-- A counter of SRV raised by one; source offset 6 when it reaches saturation (R259). -/
def State.srvCount (f : Field) (s : State) : State :=
  let t := s.inc f 1
  t.when (t.rd f = 65535 ∧ s.rd f ≠ 65535) (State.raise 166)

/-! ## Demodulation (R247 to R249) -/

/-- An n-bit Gray code converted to binary: each bit is the exclusive or of the code's bits from it upward. -/
def grayToBin (g : Nat) : Nat → Nat
  | 0 => 0
  | n + 1 => Nat.xor (g / 2 ^ n) (grayToBin g n)

/-- Whether the parity bits of a wedge field match: w in bits 11:2, p1 in bit 1, p0 in bit 0 (R238). -/
def wedgeParityOk (c : Nat) : Bool :=
  let par := fun (l : List Nat) => l.foldl (fun b i => b != bitAt c (i + 2)) false
  par [9, 7, 5, 3, 1] == bitAt c 1 && par [8, 6, 4, 2, 0] == bitAt c 0

/-- The wedge number of a wedge field. -/
def wedgeNumber (c : Nat) : Nat := c / 4 % 1024

/-- The fine position φ in tracks as a fraction, from N and Q with M not 0 (R248). -/
def finePos (n q : Int) : Int × Int :=
  let m : Int := (n.natAbs : Int) + (q.natAbs : Int)
  if 0 ≤ q then (n, 2 * m)
  else if 0 < n then (2 * m - n, 2 * m) else (-(2 * m + n), 2 * m)

/-- a / b to the nearest integer, an exact half to either neighbour by the free bit (DESIGN CHOICE, assumption 9); b > 0. -/
def State.nearest (s : State) (a b : Int) : Int :=
  if (2 * a + b) % (2 * b) = 0 then (2 * a + b) / (2 * b) - s.freeBit else (2 * a + b) / (2 * b)

/-- The position p in 1/256 track: the value congruent to φ modulo 2 tracks that lies nearest T′ (R249). -/
def State.posOf (s : State) (t : Nat) (n q : Int) : Int :=
  let f := finePos n q
  let k := s.nearest ((t : Int) * f.2 - f.1) (2 * f.2)
  s.nearest ((f.1 + 2 * k * f.2) * 256) f.2

/-- The target of a head's position error, in 1/256 track; none while ACT holds no target and the head has no lane
track (R249). A head with a lane track adds the displacement in force, in 1/32 track. -/
def State.headTarget (s : State) (ch : Fin 8) (w : Nat) : Option Int :=
  let h := s.chHead ch
  let x := chAct ch
  if !s.actTracks x then none
  else
    let lane : Option Nat := if hh : h < 32 then s.act.laneTrack[h] else none
    match lane with
    | some t => some ((t * 256 : Nat) + 8 * s.act.dispNow[ch])
    | none =>
      let c := s.rdI (actF R.ACT_TGT_c x)
      some (c + s.roff h ((c + 128) / 256) w true)

/-! ## A sample (R251 to R255) -/

/-- The reasons of an invalid sample. -/
inductive SrvReason where
  | none | missing | wedge | amp | stale | range | switch
  deriving DecidableEq, Repr

/-- The codes of R251. -/
def SrvReason.code : SrvReason → Nat
  | .none => 0
  | .missing => 1
  | .wedge => 2
  | .amp => 3
  | .stale => 4
  | .range => 5
  | .switch => 6

/-- What a reason counts and raises (R251 to R253, R259). -/
def State.reasonCount (r : SrvReason) (s : State) : State :=
  match r with
  | .missing => s.srvCount R.SRV_CNT0_missing
  | .wedge => (s.srvCount R.SRV_CNT0_wedge).raise 167
  | .amp => s.srvCount R.SRV_CNT2_amp
  | .stale => (s.srvCount R.SRV_CNT1_stale).raise 162
  | .range => (s.srvCount R.SRV_CNT1_range).raise 163
  | _ => s

/-- The flags of a channel's sample with its invalid count; the count reaching warn raises source offset 8 + n (R255). -/
def State.sampleFlags (ch : Fin 8) (r : SrvReason) (quality w : Nat) (s : State) : State :=
  let was := s.rd (R.SRV_CH_FLG_invcnt.at ch.val)
  let n := if r = .none then 0 else if r = .switch then was else min 255 (was + 1)
  let s := ((((s.wrB (R.SRV_CH_FLG_valid.at ch.val) (r == .none)).wr (R.SRV_CH_FLG_reason.at ch.val) r.code).wr
    (R.SRV_CH_FLG_quality.at ch.val) quality).wr (R.SRV_CH_FLG_wedge.at ch.val) w).wr (R.SRV_CH_FLG_invcnt.at ch.val) n
  (s.when (n = s.srvCfg (chAct ch) R.SRV_CHK_CFG_warn ∧ was ≠ n) (State.raise (168 + ch.val))).reasonCount r

/-- The sample goes to CLE and the window closes. -/
def State.sampleEnd (ch : Fin 8) (w : Nat) (s : State) : State :=
  (s.updSrvChan ch (fun c => { c with windowOpen := false, switched := false, lastW := some w })).slotTrigger
    (slotOf (4 + ch.val)) false

/-- A sample that yields no demodulated values: it ends the run of equal samples (R252). -/
def State.sampleNone (ch : Fin 8) (r : SrvReason) (quality w : Nat) (s : State) : State :=
  let s := s.updSrvChan ch (fun c => { c with prev := none, run := 0, ranges := [] })
  (s.sampleFlags ch r quality w).sampleEnd ch w

/-- Whether |p − p_pred| exceeds jump, in 1/65,536 track (R253). -/
def State.rangeBad (s : State) (ch : Fin 8) (p : Int) : Bool :=
  let c := s.srv.chan[ch]
  let x := chAct ch
  let jump : Int := ((s.srvCfg x R.SRV_CHK_CFG_jump : Nat) : Int)
  let streak := match c.ranges with
    | [a, b, d] => decide ((minMax [a, b, d]).2 - (minMax [a, b, d]).1 ≤ jump * 256)
    | _ => false
  match c.lastP with
  | none => false
  | some q =>
    let pred := (q : Int) * 256 + s.rdI (R.CLE_VEL_vel.at x.idx) * ((c.since : Nat) : Int)
    !c.noCheck && !streak && decide (jump * 65536 < (p * 256 - pred).natAbs)

/-- The servo gain follows the preamble amplitude (R241). -/
def State.servoGain (ch : Fin 8) (pre : Nat) (s : State) : State :=
  let f := R.SRV_SFE_vga.at (s.chHead ch)
  let z := ((s.rd f : Nat) : Int) + (((s.srvCfg (chAct ch) R.SRV_Q_CFG_agc_s : Nat) : Int) - (pre : Int)) / 16
  s.wr f (sat255 z)

/-- A signed number held in 16 bits. -/
def sat16 (z : Int) : Int := satSigned 16 z

/-- A sample with demodulated values (R247 to R255). -/
def State.sampleFull (ch : Fin 8) (f : ServoField) (forced : Bool) (ofs : Bool) (w : Nat) (s : State) : State :=
  let x := chAct ch
  let c := s.srv.chan[ch]
  let t := grayToBin f.gray.toNat 24
  let n : Int := (f.a.toNat : Int) - (f.b.toNat : Int)
  let q : Int := (f.c.toNat : Int) - (f.d.toNat : Int)
  let sum := f.a.toNat + f.b.toNat + f.c.toNat + f.d.toNat
  let m := n.natAbs + q.natAbs
  let p := s.posOf t n q
  let tgt := s.headTarget ch w
  let z : Int := match tgt with
    | some g => p - g
    | none => 0
  let pes := clampInt (-32767) 32767 z
  let vals := [t, f.a.toNat, f.b.toNat, f.c.toNat, f.d.toNat]
  let run := if c.prev = some vals ∧ c.lastW.any (fun v => (v + 1) % s.wedges x == w) then c.run + 1 else 1
  let wedgeOk := wedgeParityOk f.wedge.toNat && wedgeNumber f.wedge.toNat == w
  let ampBad := m == 0 || decide (sum < s.srvCfg x R.SRV_Q_CFG_amp_min * 64)
  let stale := decide (4 ≤ run ∧ s.srvCfg x R.SRV_CHK_CFG_vmin ≤ (s.rdI (R.CLE_VEL_vel.at x.idx)).natAbs)
  let r : SrvReason := if !wedgeOk then .wedge else if ampBad then .amp else if stale then .stale
    else if s.rangeBad ch p then .range else .none
  let grayFix := m != 0 && decide ((p + 128) / 256 ≠ (t : Int))
  let quality := (if forced then 16 else 0) + (if ofs then 8 else 0)
    + (if sum < s.srvCfg x R.SRV_Q_CFG_amp_lo * 64 then 4 else 0) + (if grayFix then 2 else 0)
    + (if m ≠ 0 ∧ pes ≠ z then 1 else 0)
  let s := s.used
  let s := s.updSrvChan ch (fun c => { c with prev := some vals, run := run,
                                              ranges := if r = .range then (p :: c.ranges).take 3 else [] })
  let s := if r = .none then
      let s := ((((s.wrI (R.SRV_CH_POS_pos.at ch.val) p).wr (R.SRV_CH_PES_sum.at ch.val) (min 65535 sum)).wrI
        (R.SRV_CH_PES_pes.at ch.val) pes).wrI (R.SRV_CH_NQ_n.at ch.val) (sat16 n)).wrI (R.SRV_CH_NQ_q.at ch.val) (sat16 q)
      let s := s.updSrvChan ch (fun c => { c with lastP := some p.toNat, since := 0, noCheck := false })
      (s.when (forced = true) (State.srvCount R.SRV_CNT2_forced_ok)).servoGain ch f.preAmp.toNat
    else s
  let s := s.sampleFlags ch r quality w
  s.sampleEnd ch w

/-! ## The actuator sample (R257) -/

/-- The number of quality bits set. -/
def qualityBits (q : Nat) : Nat := (bitsOf q 5).length

/-- The channel whose valid sample has the fewest quality bits, the lowest number on a tie. -/
def State.bestChan (s : State) (l : List (Fin 8)) : Option (Fin 8) :=
  (l.filter (fun c => s.rdB (R.SRV_CH_FLG_valid.at c.val))).foldl (fun b c => match b with
    | none => some c
    | some d => if qualityBits (s.rd (R.SRV_CH_FLG_quality.at c.val)) < qualityBits (s.rd (R.SRV_CH_FLG_quality.at d.val))
        then some c else some d) none

/-- The actuator sample of a wedge, delivered to the position loop (R257, R255). Of an invalid sample the chosen channel
and the quality bits are values the spec leaves open. -/
def State.actuatorSample (x : Act) (w : Nat) (s : State) : State :=
  let l := s.demodChans x
  let f := fun (g : Field) => g.at x.idx
  let s := match s.bestChan l with
    | some ch =>
      let p := s.rdI (R.SRV_CH_POS_pos.at ch.val)
      let h := s.chHead ch
      let z := p - s.roff h ((p + 128) / 256) w true - s.maNow h
      ((((((s.wrI (f R.SRV_ACT_POS_pos) z).wr (f R.SRV_ACT_FLG_valid) 1).wr (f R.SRV_ACT_FLG_reason) 0).wr
        (f R.SRV_ACT_FLG_quality) (s.rd (R.SRV_CH_FLG_quality.at ch.val))).wr (f R.SRV_ACT_FLG_chan) ch.val).wr
        (f R.SRV_ACT_FLG_invcnt) 0)
    | none =>
      let r := match l with
        | c :: _ => s.rd (R.SRV_CH_FLG_reason.at c.val)
        | [] => SrvReason.missing.code
      let n := s.rd (f R.SRV_ACT_FLG_invcnt)
      let v := s.free.toNat
      (((((s.wr (f R.SRV_ACT_FLG_valid) 0).wr (f R.SRV_ACT_FLG_reason) r).wr (f R.SRV_ACT_FLG_quality) v).wr
        (f R.SRV_ACT_FLG_chan) (v / 32)).wr (f R.SRV_ACT_FLG_invcnt)
        (if r = SrvReason.switch.code then n else min 255 (n + 1))).used
  (s.wr (f R.SRV_ACT_FLG_wedge) w).actSample x

/-- What FOLLOW keeps at the end of a wedge: with a mark found, the period becomes the interval from the previous mark
found divided by the wedges between them; without one the miss count rises (R244, R245). -/
def State.followWedge (x : Act) (s : State) : State :=
  let a := s.srv.act.get x
  if !s.srvIs x .follow then s.updSrv x (fun a => { a with refOfs := none })
  else
    match a.refOfs with
    | some (_, d) =>
      let k : Int := ((a.sinceMark + 1 : Nat) : Int)
      let p := s.quot (((a.period : Nat) : Int) * k + d) k
      (s.updSrv x (fun a => { a with period := p.toNat, sinceMark := 0, refOfs := none, miss := 0 })).used
    | none => s.updSrv x (fun a => { a with sinceMark := a.sinceMark + 1, miss := a.miss + 1 })

/-- The wedge of an actuator ends once every demodulating channel has its sample. -/
def State.wedgeDone (x : Act) (w : Nat) (s : State) : State :=
  let got := (s.srv.act.get x).got
  if (s.demodChans x).all (fun c => got.contains c.val) then
    ((s.updSrv x (fun a => { a with got := [] })).actuatorSample x w).followWedge x
  else s

/-- The mark that FOLLOW takes as the reference: that of the lowest-numbered channel that found one. -/
def State.markFound (ch : Fin 8) (d : Int) (s : State) : State :=
  s.updSrv (chAct ch) (fun a => { a with refOfs := match a.refOfs with
    | some (c, e) => if ch.val < c then some (ch.val, d) else some (c, e)
    | none => some (ch.val, d) })

/-! ## Commands -/

/-- One wedge more since the last valid sample of each channel of a list (R253). -/
def State.wedgePassed (l : List (Fin 8)) (s : State) : State :=
  s.forEach l (fun c s => s.updSrvChan c (fun k => { k with since := k.since + 1 }))

/-- R246: head h's predicted field start of wedge w. Its own wedge values take effect, and its channels' servo windows
open; at the reference head's boundary FOLLOW goes to GAUGE under lock, the actuator's values and selections take effect,
the heads left ramp, ACT receives its targets, and an actuator with no demodulating channel has its sample. -/
def execWedgeBoundary (h : Fin 32) (w : Nat) (s : State) : Out :=
  .next (
    let x := s.headAct h.val
    if s.headFitted h.val && s.srvTimed x && decide (w < s.wedges x) then
      let s := { s with act := { s.act with wedgeOf := s.act.wedgeOf.set h.val w } }
      let ref := h.val == s.refHead x
      let s := s.when (ref = true ∧ s.srvIs x .follow = true ∧ s.rdB R.GCK_STAT_lock = true) (State.srvEnter x .gauge)
      let s := s.headApply h.val
      let s := s.forEach ((actChans x).filter (fun c => s.chHead c == h.val)) State.dispApply
      let s := if ref then
          let s := (s.actApply x).updSrv x (fun a => { a with wedge := w })
          let s := ((s.forEach (actChans x) State.selCheck).maRamp x).targetUpdate x w
          if (s.demodChans x).isEmpty then s.wedgeDone x w else s
        else s
      let s := s.wedgePassed ((actChans x).filter (fun c => s.chHead c == h.val))
      s.forEach ((s.demodChans x).filter (fun c => s.chHead c == h.val && s.srv.chan[c].lastW != some w))
        (fun c s => s.updSrvChan c (fun k => { k with windowOpen := true }))
    else s)

/-- R249: the servo field of a demodulating channel's open window yields its sample: sync in the window, forced, or
missing (R245), a changed selection (R243), or the demodulated values with their checks (R251). -/
def execServoFieldSample (ch : Fin 8) (f : ServoField) (s : State) : Out :=
  .next (
    let x := chAct ch
    let c := s.srv.chan[ch]
    if s.demodulates ch && s.srvTimed x && c.windowOpen then
      let w := if c.switched then (s.srv.act.get x).wedge else if hh : s.chHead ch < 32 then s.act.wedgeOf[s.chHead ch] else 0
      let win := s.srvCfg x (if s.srvIs x .gauge then R.SRV_WIN_CFG_sync_win else R.SRV_WIN_CFG_follow_win)
      let best := (candRank win (s.srvCfg x R.SRV_WIN_CFG_thr) f.cands).head?
      let forced := best.isNone && s.srvIs x .gauge && s.rdB R.SRV_CTL_force_en
      let ofs := best.any (fun b => b.ofs16 != 0)
      let quality := (if forced then 16 else 0) + (if ofs then 8 else 0)
      let s := match best with
        | some b => s.markFound ch b.ofs16
        | none => s
      let s := if best.isNone && !forced then s.sampleNone ch .missing quality w
        else if c.switched then s.sampleNone ch .switch quality w
        else s.sampleFull ch f forced ofs w
      let got := (s.srv.act.get x).got
      (s.updSrv x (fun a => { a with got := if got.contains ch.val then [ch.val] else ch.val :: got })).wedgeDone x w
    else s)

/-- R244: a servo sync found in HUNT on a demodulating channel, with its wedge field and its distance from the candidate
in 1/16 servo cell at the speed SPM reports. With parity correct it is the second sync of a pair, or the new candidate. -/
def execHuntSync (ch : Fin 8) (code : BitVec 12) (apart : BitVec 32) (s : State) : Out :=
  .next (
    let x := chAct ch
    if s.srvIs x .hunt && s.demodulates ch && wedgeParityOk code.toNat then
      let n := wedgeNumber code.toNat
      let ww := s.wedges x
      let d : Int := (((apart.toNat * ww : Nat) : Int) - ((16 * 65536 * s.rd R.SRV_FIELD_CFG_ratio : Nat) : Int))
      let near := decide (d.natAbs ≤ 16 * s.srvCfg x R.SRV_WIN_CFG_follow_win * ww)
      match (s.srv.act.get x).cand with
      | some c =>
        if near && decide (n = (c + 1) % ww) then
          (s.updSrv x (fun a => { a with cand := none, period := apart.toNat, sinceMark := 0, refOfs := none, miss := 0, wedge := n,
                                         got := [] })).srvEnter x .follow
        else s.updSrv x (fun a => { a with cand := some n })
      | none => s.updSrv x (fun a => { a with cand := some n })
    else s)

/-- R245: one wedge period in HUNT: a MISSING sample on every demodulating channel of the actuator, and the actuator
sample with it. The wedge number such samples carry is a value the spec leaves open. -/
def execHuntMissingTick (x : Act) (s : State) : Out :=
  .next (if s.srvIs x .hunt then
      let w := s.free.toNat % 1024
      (((s.used.wedgePassed (actChans x)).forEach (s.demodChans x) (fun c s => s.sampleNone c .missing 0 w)).updSrv x
        (fun a => { a with got := [] })).actuatorSample x w
    else s)

/-- R244: follow_miss consecutive wedges without sync on any demodulating channel. -/
def execFollowMiss (x : Act) (s : State) : Out :=
  .next (if s.srvIs x .follow && decide (s.srvCfg x R.SRV_WIN_CFG_follow_miss ≤ (s.srv.act.get x).miss) then
      (s.updSrv x (fun a => { a with cand := none, miss := 0, refOfs := none, got := [] })).srvEnter x .hunt
    else s)

/-- Counts and samples of an actuator cleared as it goes to OFF (R244). -/
def State.srvOff (x : Act) (s : State) : State :=
  if s.srvIs x .off then s
  else
    let s := s.forEach (actChans x) (fun c s =>
      let s := s.forEach [R.SRV_CH_POS_pos, R.SRV_CH_PES_sum, R.SRV_CH_PES_pes, R.SRV_CH_NQ_n, R.SRV_CH_NQ_q, R.SRV_CH_FLG_valid,
        R.SRV_CH_FLG_reason, R.SRV_CH_FLG_quality, R.SRV_CH_FLG_wedge, R.SRV_CH_FLG_invcnt] (fun f s => s.wr (f.at c.val) 0)
      s.updSrvChan c (fun k => { SrvChan.init with released := k.released }))
    let s := s.forEach [R.SRV_ACT_POS_pos, R.SRV_ACT_FLG_valid, R.SRV_ACT_FLG_reason, R.SRV_ACT_FLG_quality, R.SRV_ACT_FLG_chan,
      R.SRV_ACT_FLG_wedge, R.SRV_ACT_FLG_invcnt] (fun f s => s.wr (f.at x.idx) 0)
    (s.updSrv x (fun _ => SrvAct.init)).srvEnter x .off

/-- The enables have changed: an enabled actuator in OFF goes to GAUGE under lock and to HUNT otherwise (R244). -/
def State.srvEnables (x : Act) (s : State) : State :=
  if s.rdB R.SRV_CTL_en && s.rdB (srvActF x) then
    if s.srvIs x .off then s.srvEnter x (if s.rdB R.GCK_STAT_lock then .gauge else .hunt) else s
  else s.srvOff x

/-- SRV_CTL written, at the block: en, act_a and act_b, or srst (R244, R15). -/
def State.srvWriteOp (srst en a b : Bool) (s : State) : State :=
  if srst then
    let s := ((s.srvOff .a).srvOff .b).blockReset 26 R.SRV_CTL_srst
    { s with srv := SrvState.init }
  else
    ((((((s.wrB R.SRV_CTL_en en).wrB R.SRV_CTL_act_a a).wrB R.SRV_CTL_act_b b).ownerFlush).srvEnables .a).srvEnables .b).demodShow

/-- R244: a write of SRV_CTL.en, act_a, act_b or srst. -/
def execSrvActWrite (_who : Init) (srst en actA actB : Bool) (s : State) : Out := .next (s.srvWriteOp srst en actA actB)

end Sys2Proof.Machine
end

