-- ==== Sys2Proof/Machine/ApplyMotion.lean ====
section
/-! DEFINITION. What the fields of a posted write do when it reaches SRV, CLE, SPM or ACT. -/
namespace Sys2Proof.Machine

/-! ## SRV and ACT: the enables of one write act together -/

/-- Fields of SRV that do more than hold their value. -/
def ownSrv (f : Field) : Bool := f.isA R.SRV_CTL_en || f.isA R.SRV_CTL_act_a || f.isA R.SRV_CTL_act_b

/-- The enables of SRV as a write leaves them; they act once, at the lowest of the fields written. -/
def State.actSrv (p : Posted) (a : FieldAct) (s : State) : State :=
  let last := !p.acts.any (fun b => ownSrv b.field && decide (b.field.lo < a.field.lo))
  if ownSrv a.field && last then s.srvWriteOp false (p.now R.SRV_CTL_en s) (p.now R.SRV_CTL_act_a s) (p.now R.SRV_CTL_act_b s) else s

/-- Fields of ACT that do more than hold their value. -/
def ownAct (f : Field) : Bool := f.acc == .wo || f.isA R.ACT_CTL_en || f.isA R.ACT_CTL_act_a || f.isA R.ACT_CTL_act_b

/-- A field of ACT that does more than hold its value; the enables as for SRV. -/
def State.actAct (p : Posted) (a : FieldAct) (s : State) : State :=
  let f := a.field
  let x : Act := if f.off < 0x200 then .a else .b
  let last := !p.acts.any (fun b => ownAct b.field && decide (b.field.lo < f.lo))
  if f.isA R.ACT_CMD_retract then s.actRetract x
  else if f.isA R.ACT_CMD_load then s.actLoadOp p.init x
  else if f.off = 0 ∧ last = true then s.actEnableOp false (p.now R.ACT_CTL_en s) (p.now R.ACT_CTL_act_a s) (p.now R.ACT_CTL_act_b s)
  else s

/-! ## CLE -/

/-- Fields of CLE that do more than hold their value. -/
def ownCle (f : Field) : Bool :=
  f.isA R.CLE_CTL_en || f.isA R.CLE_SWAP_swap || f.isA R.CLE_REF_CFG_aux_ext || f.isA R.CLE_REF_CFG_aux_slot || f.isA R.CLE_REF_CFG_spd_ext
    || f.isA R.CLE_CFG_en || f.isA R.CLE_TGT_tgt || f.isA R.CLE_MEAS_meas || f.isA R.CLE_BANK_coef

/-- AUX_REF is followed no longer: r is first set to the slot's present y (R273, R275). -/
def State.auxStop (s : State) : State :=
  let k := (s.cle.auxSlot).getD 0
  let s := s.when (s.cle.auxSlot.isSome = true) (State.followEnd (slotOf k))
  { (s.wr R.CLE_STAT_aux_active 0) with cle := { s.cle with auxSlot := none } }

/-- aux_ext and aux_slot as a write leaves them (R275): following starts, stops, or goes on with another slot. -/
def State.auxWrite (p : Posted) (s : State) : State :=
  let was := s.rdB R.CLE_REF_CFG_aux_ext
  let on := p.now R.CLE_REF_CFG_aux_ext s
  let slot := (p.val R.CLE_REF_CFG_aux_slot).getD (s.rd R.CLE_REF_CFG_aux_slot)
  let s := (s.wr R.CLE_REF_CFG_aux_slot slot).wrB R.CLE_REF_CFG_aux_ext on
  if on && !was then s.auxStartOp p.init slot
  else if was && !on then s.auxStop
  else if on && decide (s.cle.auxSlot ≠ some slot) then
    let s := s.auxStop.wr R.CLE_STAT_aux_active 1
    { s with cle := { s.cle with auxSlot := some slot } }
  else s

/-- spd_ext written: following starts with 1, and resumes after a loss only by a 0 and then a 1 (R274). -/
def State.spdWrite (on : Bool) (s : State) : State :=
  let was := s.cle.spdFollow
  let s := s.wrB R.CLE_REF_CFG_spd_ext on
  let s : State := { s with cle := { s.cle with spdFollow := on } }
  s.when ((was && !on) = true) (State.followEnd 14)

/-- A bank word written: refused while the bank is locked (R270). -/
def State.bankWrite (who : Init) (f : Field) (v : Nat) (s : State) : State :=
  let i := f.no R.CLE_BANK_coef
  if s.bankLocked (slotOf (i / 128)) (i / 64 % 2) then s.refuse who f else s.wr f v

/-- A field of CLE that does more than hold its value. -/
def State.actCle (p : Posted) (a : FieldAct) (s : State) : State :=
  let f := a.field
  let w := BitVec.ofNat 32 a.value
  if f.isA R.CLE_CTL_en then s.cleEnableOp (a.value != 0)
  else if f.isA R.CLE_SWAP_swap then s.swapRequest p.init a.value
  else if f.isA R.CLE_REF_CFG_aux_ext then s.auxWrite p
  else if f.isA R.CLE_REF_CFG_aux_slot then (if p.has R.CLE_REF_CFG_aux_ext then s else s.auxWrite p)
  else if f.isA R.CLE_REF_CFG_spd_ext then s.spdWrite (a.value != 0)
  else if f.isA R.CLE_CFG_en then s.slotEnableOp (slotOf (f.no R.CLE_CFG_en)) (a.value != 0)
  else if f.isA R.CLE_TGT_tgt then s.slotTargetOp (slotOf (f.no R.CLE_TGT_tgt)) w
  else if f.isA R.CLE_MEAS_meas then s.measOp (slotOf (f.no R.CLE_MEAS_meas)) w
  else if f.isA R.CLE_BANK_coef then s.bankWrite p.init f a.value
  else s

/-! ## SPM -/

/-- Fields of SPM that do more than hold their value. -/
def ownSpm (f : Field) : Bool := f.acc == .wo || f.isA R.SPM_CTL_en

/-- A field of SPM that does more than hold its value. -/
def State.actSpm (p : Posted) (a : FieldAct) (s : State) : State :=
  let f := a.field
  if f.isA R.SPM_CTL_stop then s.spmStopOp p.init
  else if f.isA R.SPM_CTL_start then s.spmStartOp p.init
  else if f.isA R.SPM_CTL_en then s.spmEnableOp false (a.value != 0)
  else s

end Sys2Proof.Machine
end

