-- ==== Sys2Proof/Machine/Bridge.lean ====
section
/-! DEFINITION. A register bridge applies its oldest posted write (spec/01_architecture.md R34, R36, R37; spec/00_scope.md R15, R568). -/
namespace Sys2Proof.Machine

/-- Whether a block's clock is stopped, so that its bridge applies nothing: the block is off in Calm or Doldrums (R36, R454). -/
def State.clockStopped (s : State) (blk : Nat) : Bool :=
  (s.phaseIs .asleep || s.phaseIs .exit) && decide (1 ≤ s.pwr.target) && (decide (s.pwr.target = 2) || blk == 34 || s.calmOff.contains blk)

/-- Whether a field of its block does more than hold its value. -/
def Field.own (f : Field) : Bool :=
  if f.blk = 0 then ownSys f else if f.blk = 1 then ownJig f else if f.blk = 2 then ownPwr f else if f.blk = 3 then f.acc == .wo
  else if f.blk = 4 then ownEvr f else if f.blk = 5 then ownCal f else if f.blk = 6 then ownBst f else if f.blk = 7 then ownGck f
  else if f.blk < 16 then f.isA R.RCH_CTL_en else if f.blk < 24 then ownWch f else if f.blk < 26 then ownMsq f
  else if f.blk = 26 then ownSrv f else if f.blk = 27 then ownCle f else if f.blk = 28 then ownSpm f else if f.blk = 29 then ownAct f
  else if f.blk = 30 then ownPar f else if f.blk = 31 then ownHqe f else if f.blk = 32 then ownClp f else if f.blk = 33 then ownObj f
  else if f.blk = 34 then ownBuf f else if f.blk = 35 then f.acc == .wo else if f.blk = 36 then ownFrk f else ownHif f

/-- What one field of a write does beyond holding its value. -/
def State.ownAct (p : Posted) (a : FieldAct) (s : State) : State :=
  let b := a.field.blk
  if b = 0 then s.actSys p a else if b = 1 then s.actJig p a else if b = 2 then s.actPwr p a else if b = 3 then s.actThm p a
  else if b = 4 then s.actEvr p a else if b = 5 then s.actCal p a else if b = 6 then s.actBst p a else if b = 7 then s.actGck p a
  else if b < 16 then s.actRch a else if b < 24 then s.actWch p a else if b < 26 then s.actMsq p a
  else if b = 26 then s.actSrv p a else if b = 27 then s.actCle p a else if b = 28 then s.actSpm p a else if b = 29 then s.actAct p a
  else if b = 30 then s.actPar p a else if b = 31 then (s.wr a.field a.value).fetchShow else if b = 32 then s.actClp p a
  else if b = 33 then s.actObj p a else if b = 34 then s.actBuf p a else if b = 35 then s.actDrc a else if b = 36 then s.actFrk p a
  else s.actHif a

/-- The fields of a write in the order in which they act: from the highest down, but in JIG and PAR from the lowest up, where a command
stands above the fields that it uses. -/
def Posted.order (blk : Nat) (p : Posted) : List FieldAct := if blk = 1 ∨ blk = 30 then p.acts.reverse else p.acts

/-- The soft reset of a block asserted (R15). -/
def State.softReset (blk : Nat) (s : State) : State :=
  let plain := fun (f : Field) (s : State) => (s.blockReset blk f).innerFresh blk
  if blk = 4 then (s.blockReset 4 R.EVR_CTL_srst).evrRefresh
  else if blk = 5 then s.calDisableOp true
  else if blk = 6 then s.bstResetOp
  else if blk = 7 then s.gckDisableOp true
  else if h : 8 ≤ blk ∧ blk < 16 then (s.rchDisableOp ⟨blk - 8, by omega⟩ true).demodShow
  else if h : 16 ≤ blk ∧ blk < 24 then plain (R.WCH_CTL_srst.inst (blk - 16)) (s.wchDisable ⟨blk - 16, by omega⟩)
  else if blk = 24 then s.msqEnableOp .a true false
  else if blk = 25 then s.msqEnableOp .b true false
  else if blk = 26 then s.srvWriteOp true false false false
  else if blk = 27 then plain R.CLE_CTL_srst (s.cleEnableOp false)
  else if blk = 28 then s.spmEnableOp true false
  else if blk = 29 then s.actEnableOp true false false false
  else if blk = 30 then s.parDisableOp true
  else if blk = 31 then plain R.HQE_CTL_srst s
  else if blk = 32 then s.clpReset
  else if blk = 33 then s.objDisableOp true
  else if blk = 34 then s.bufReset
  else if blk = 35 then plain R.DRC_CTL_srst s
  else if blk = 36 then s.frkEnableOp .ac0 true false
  else if blk = 37 then (s.hifEnableOp false).blockReset 37 R.HIF_CTL_srst
  else s

/-- The value that a write gives a block's srst field. -/
def Posted.srst (blk : Nat) (p : Posted) : Option Nat := (srstOf blk).bind p.val

/-- The copies of the fields that queued writes will set, after a soft reset has reset the copies. -/
def State.requeue (blk : Fin 38) (s : State) : State :=
  s.forEach s.bridges[blk].fifo (fun p s => s.forEach p.acts (fun a s => s.copyTakes a.field a.value))

/-- The fields of a write act together (R568): those that hold their value are stored, and the others act. -/
def State.fieldsAct (blk : Nat) (p : Posted) (s : State) : State :=
  let s := s.forEach (p.acts.filter (fun a => !a.field.own)) (fun a s => s.storeField a.field a.value)
  let s := s.forEach ((p.order blk).filter (fun a => a.field.own)) (State.ownAct p)
  (s.when (p.acts.any (fun a => decide (a.field.eff = .shadowed .wedge)) = true) State.untimedApply).ownerFlush

/-- The copy of a field after its write has acted: it stays where a value waits, it follows the block where the value was stored or an action
changed it, and it takes back what it held before the write where the block refused it (R34). -/
def State.settleCopy (old : State) (a : FieldAct) (s : State) : State :=
  let k := a.field.key
  if s.queuedFor k || s.shadows.any (fun h => h.field.key == k) then s
  else if a.field.acc == .w1s || s.rd a.field == a.value || s.rd a.field != old.rd a.field then s.syncCopy k
  else { s with copy := match a.old with
    | some w => regPut s.copy k w
    | none => s.copy.filter (fun e => e.1 != k) }

/-- A write that reaches its block. A block that BST isolates is in soft reset to its bridge (R539). -/
def State.applyPosted (blk : Fin 38) (p : Posted) (s : State) : State :=
  let old := s
  let settle := fun (s : State) => s.forEach (p.acts.filter (fun a => a.field.acc != .wo && a.field.acc != .w1c)) (State.settleCopy old)
  if s.isolated.contains blk.val then settle (s.cfgErr .softrst true p.init blk.val p.off)
  else match p.srst blk.val with
    | some 0 => settle ((s.wr ((srstOf blk.val).getD R.EVR_CTL_srst) 0))
    | some _ => (s.softReset blk.val).requeue blk
    | none => settle (s.fieldsAct blk.val p)

/-- The oldest write stalled outside a bridge enters the entry that has become free (R37). -/
def State.stallEnter (blk : Fin 38) (s : State) : State :=
  match s.bridges[blk].stalled with
  | w :: r =>
    State.bridgeEnter w.init blk.val w.off w.data
      { s with bridges := updV s.bridges blk (fun (b : Bridge) => { b with stalled := r }) }
  | [] => s

/-- R36: a bridge applies its oldest write. -/
def execBridgeWriteApply (blk : Fin 38) (s : State) : Out :=
  .next (match s.bridges[blk].fifo with
    | p :: r =>
      if s.clockStopped blk.val then s
      else
        let s := { s with bridges := updV s.bridges blk (fun (b : Bridge) => { b with fifo := r }) }
        (s.applyPosted blk p).stallEnter blk
    | [] => s)

end Sys2Proof.Machine
end

