-- ==== Sys2Proof/Machine/Latch.lean ====
section
/-! DEFINITION. What follows the thermal shutdown latch (spec/17_thermal_squall.md R475, R477). -/
namespace Sys2Proof.Machine

/-- The blocks of the media island (R454): the channels, both sequencers, SRV, PAR and OBJ. -/
def mediaBlocks : List Nat := (List.range 19).map (· + 8) ++ [30, 33]

/-- While the latch is set the base firmware, once it runs, holds the media blocks in soft reset (R477). -/
def State.mediaHold (s : State) : State :=
  s.when (s.rdB R.THM_STAT_latched = true ∧ s.jig.boot = .running) (fun s => s.forEach mediaBlocks State.softReset)

/-- Whether a command is one to a media namespace. -/
def mediaCmd : HostCmd → Bool
  | .other admin nsid _ => !admin && decide (1 ≤ nsid.toNat ∧ nsid.toNat ≤ 3)
  | c => !adminCmd c

/-- The host commands to a media namespace that have been accepted and not decided end with Namespace Not Ready and Do Not Retry 1 (R477);
those accepted later are turned away so (R67). -/
def State.mediaTurned (s : State) : State :=
  s.forEach ((s.host.ctxs.filter (fun c => c.started && c.result.isNone && mediaCmd c.cmd)).map (·.no)) (fun n s => s.ends n .notReadyFinal)

/-- R475: both actuators are PARKED or OFF, and step 5 runs; the base firmware follows it (R477). -/
def execShutdownLatch (s : State) : Out :=
  .next (if s.rdB R.THM_STAT_sd_seq && s.thm.sdRetract && s.headsParked then
      State.mediaHold (State.mediaTurned (State.readyNote s s.sdLatchOp))
    else s)

end Sys2Proof.Machine
end

