-- ==== Sys2Proof/Machine/SysReset.lean ====
section
/-! DEFINITION. The reset domains POR, AON and WARM (spec/01_architecture.md R12 to R14, R572; spec/02_jig_boot_lifecycle.md R74, R577,
R578): what each leaves in every block, in the fuses and flash, and of what the base firmware keeps on the media. -/
namespace Sys2Proof.Machine

/-! ## Registers -/

/-- The GPIO registers, whose four lowest bits lie in the AON domain (R566). -/
def gpioFields : List Field := [R.SYS_GPIO_DIR_dir, R.SYS_GPIO_OUT_out, R.SYS_GPIO_PULL_up, R.SYS_GPIO_PULL_down]

/-- The holding register of a pair of the AON domain: PWR's from offset 0x100 (R5, R569). -/
def heldAon (k : Nat) : Bool := decide (keyBlk k = 2 ∧ 0x100 ≤ keyOff k)

/-- Every register field but those that keep picks out at its reset value, in its block and in its bridge; nothing pending, nothing
queued and nothing stalled (R12 to R14, R572). -/
def State.regsReset (keep : Nat → Bool) (s : State) : State :=
  let t := { s with
    regs := s.regs.filter (fun e => keep e.1)
    copy := []
    shadows := []
    holding := s.holding.filter (fun e => heldAon e.1)
    bridges := Vector.replicate 38 Bridge.init }
  t.forEach gpioFields (fun f t => t.wr f (t.rd f / 16 * 16 + s.rd f % 16))

/-! ## Fuses, flash and the log -/

/-- What an abandoned fuse program leaves (R577): no programmed or revocation fuse blown, the value of the key bits begun with, the
roll-back fuses blown so far, whose number is open, and the service-key bits blown so far on the way to RETIRED, which are open too. -/
def State.fuseAbandon (s : State) : State :=
  match s.jig.fuseOp with
  | some (.keySlot n v) => s.updKeySlot n (fun k => { k with hash := if k.begun then k.hash else v, begun := true })
  | some (.svcKey v) => s.updFuses (fun f => { f with svcKey := if f.svcBegun then f.svcKey else v, svcBegun := true })
  | some (.rollback v) => (s.updFuses (fun f => { f with floor := f.floor + s.free.toNat % (v - f.floor) })).used
  | some (.lifecycle n) => s.when (n = 4) State.svcKeyCut
  | _ => s

/-- A flash operation of the recorder cut short: whether the page's records stand in flash is open. -/
def State.flashCut (d : Nat) (s : State) : State :=
  match (s.evr.log d).job with
  | some (.program rs) =>
    let done := s.free.toNat % 2 = 1
    let off := s.rd (posF d)
    s.used.updLog d (fun l => ⟨if done then slotsPut l.area off rs else l.area, none, l.erased⟩)
  | some _ => s.updLog d (fun l => ⟨l.area, none, false⟩)
  | none => s

/-- The event recorder cut short: the ring stays with the AON supply, no operation runs and no clear is in progress (R524, R533). -/
def State.evrCut (s : State) : State := ((s.flashCut 0).flashCut 1).updEvr (fun e => { e with clearTo := none })

/-! ## The host side -/

/-- Staged data of a zone whose write had begun, put on the media and noted as torn: the tail scan finds which of them are complete
(R387, R390). -/
def State.cmdTear (c : MediaCmd) (s : State) : State :=
  if c.space = .conv then
    if c.unit.isNone && c.begun then
      s.forEach (c.data.mapIdx (fun i b => (i, b))) (fun p s =>
        (s.when (s.free.toNat % 2 = 1) (State.mediaPut .conv (c.first + p.1) [p.2])).used)
    else s
  else if c.begun then
    (s.mediaPut c.space c.base c.data).updHost (fun h => { h with torn := h.torn ++ [(c.zone, c.first, c.first + c.data.length)] })
  else s

/-- The first block of the staged data of a zone. -/
def State.stagedFrom (s : State) (z wp : Nat) : Nat :=
  (s.host.cmds.filter (fun c => decide (c.space ≠ .conv) && c.zone == z)).foldl (fun m c => min m c.first) wp

/-- A zone as the next power-up finds it (R388, R390): state, epoch and floor from the system area; where it is Active the media
holds what was written below the staged data. After a Reset whose entry was not written the pointer that the scan finds is open. -/
def State.zoneFound (s : State) (i z : Nat) (v : Zone) : Zone :=
  if v.st = .unscanned then
    let now := s.zone z
    let any := (Config.freeValue (s.freeCount + i)).toNat % 65537
    { v with wp := max v.floor (if now.epoch = v.epoch then s.stagedFrom z now.wp else any) }
  else v

/-- What the host side keeps over a loss of DRAM: the media, the system area's tables, the journal's slots with the entries being
written, the key index's persistent form, saved features and totals. Contexts, clamp entries, staging and every queue are gone, the
controllers are reset, and the recoveries of R319, R390, R394 and R406 are due. -/
def State.hostLost (s : State) : State :=
  let zones := s.host.table.mapIdx (fun i e => (e.1, s.zoneFound i e.1 e.2))
  let s := { s with freeCount := s.freeCount + zones.length }
  let s := s.forEach s.host.cmds State.cmdTear
  s.updHost (fun h => { HostState.init with
    media := h.media, zones := zones, table := h.table, torn := h.torn
    units := h.units.filter (fun u => !u.written), slots := h.slots, jSeq := h.jSeq, applied := h.applied
    kv := { h.kv with index := [], dirty := [], alloc := [] }
    digests := h.digests
    audit := { h.audit with recs := h.audit.recs.drop h.audit.buffered, buffered := 0, running := false }
    feats := h.saved, saved := h.saved
    c0 := { Ctrl.init with perst := h.c0.perst }, c1 := { Ctrl.init with perst := h.c1.perst }
    completions := h.completions, attached := h.attached, groups := h.attached, remapSaved := h.remapSaved
    nextId := h.nextId, order := h.order, mediaErrors := h.mediaErrors, heads := h.heads, damaged := h.damaged, throttled := h.throttled })

/-! ## The domains -/

/-- Every block's state beyond its registers as a reset of the core supplies leaves it. The frames sent stay on the ring. -/
def State.blocksInit (s : State) : State :=
  { s with
    warmPending := false, cores := Vector.replicate 6 .held, irq := IrqState.init
    sram := { SramState.init with aon := s.sram.aon }, uart := UartState.init, jig := JigState.init
    cal := CalState.init, gck := GckState.init, positions := ⟨0, 0⟩, presence := Presence.init, geom := Geometry.init
    rch := Vector.replicate 8 RchState.init, combine := [], wch := Vector.replicate 8 WchState.init
    hl := ⟨HlState.init, HlState.init⟩, msq := ⟨MsqState.init, MsqState.init⟩, par := ParState.init, srv := SrvState.init
    cle := CleState.init, act := ActAll.init, spm := SpmState.init, thm := ThmState.init
    frk := { FrkState.init with out := s.frk.out }, tap := TapState.init, isolated := [], bistFull := false, dram := []
    buf := BufState.init
    drc := DrcState.init }

/-- PWR beyond its registers after POR or WARM: what the AON domain holds stays. -/
def PwrState.kept (p : PwrState) : PwrState :=
  { PwrState.init with aon := p.aon, capDt := p.capDt, capCount := p.capCount, trim := p.trim, coreEn := p.coreEn, bridge := p.bridge }

/-- What POR and WARM have in common. A reset in SERVICE returns the part to DEPLOYED, which is logged (R74); the fuses give the
life-cycle state and the trims again (R14). -/
def State.coreReset (keep : Nat → Bool) (s : State) : State :=
  let service := s.lc = .service
  let s := (s.fuseAbandon.evrCut.hostLost).regsReset keep
  let s := s.blocksInit.fusesSense.updPwr PwrState.kept
  s.when service (State.logOpen 0x3E false)

/-- POR of the core supplies: everything but the fuses and the AON domain (R12). Where the part had run, Drive Time waits to be bridged at
the first AON edge after the release (R462). -/
def State.porReset (s : State) : State :=
  let ran := s.jig.boot != .reset
  State.levelBoot ((s.coreReset keptAtPor).updPwr (fun p => { p with bridge := p.bridge || ran }))

/-- R12, R14: POR of the core supplies. -/
def execPowerOnReset (s : State) : Out := .next s.porReset

/-- What WARM leaves latched: THM's latch with the level it holds, and SPM's (R306, R477). -/
def State.latchKept (s : State) : State :=
  if s.rdB R.THM_STAT_latched then (s.wr R.SPM_STAT_state SpmSt.latched.code).updPwr (fun p => { p with thmP3 := true }) else s

/-- WARM: everything but the AON domain, sticky fields and the fuses; accesses in flight are abandoned (R12, R13, R572). SYS_RST_CAUSE tells
its cause. The voltages written stay until P2's is confirmed (R578). -/
def State.warmReset (cause : Field) (s : State) : State :=
  let written := s.pwr.written
  let acked := s.pwr.acked
  let s := (s.coreReset keptAtWarm).updPwr (fun p => { p with written := written, acked := acked })
  (s.latchKept.wr cause 1).levelBoot

/-- R553: RESET_N low asserts WARM. -/
def execResetNLow (s : State) : Out := .next (s.warmReset R.SYS_RST_CAUSE_pin)

/-- R572: 64 core cycles after SYS_RST_CTL.warm, WARM is asserted. -/
def execWarmAssert (s : State) : Out := .next (if s.warmPending then s.warmReset R.SYS_RST_CAUSE_soft else s)

/-- R461, R555: the AON supply powers up. Drive Time is 0 with quality exact, PWR_CORE_EN is high, and the always-on SRAM with the event
ring and every field of the AON domain start afresh; the core supplies follow, held at POR. -/
def execAonPowerUp (s : State) : Out :=
  let t := s.porReset
  let s := { t with
    regs := [], holding := [], sram := SramState.init, pwr := PwrState.init
    evr := { t.evr with ring := [] } }
  .next s.fusesSense.levelBoot

end Sys2Proof.Machine
end

