-- ==== Sys2Proof/Machine/Boot.lean ====
section
/-! DEFINITION. The boot (spec/02_jig_boot_lifecycle.md R53, R61 to R64, R576; spec/15_buffer_memory.md R443, R444): straps and fuses,
DRAM training, the image's acceptance and the loads, and UART recovery. -/
namespace Sys2Proof.Machine

/-- Where the boot ROM stands. -/
def State.setBoot (b : BootPhase) (s : State) : State := s.updJig (fun j => { j with boot := b })

/-- The copy that the boot ROM tries first: the preferred one, or the other where the strap says so (R61, R63). -/
def State.firstCopy (s : State) : Nat := if s.rd R.JIG_STRAP_boot = 1 then 1 - s.preferred else s.preferred

/-- The copy in trying shown. -/
def State.tryCopy (copy : Nat) (other : Bool) (s : State) : State :=
  (s.updJig (fun j => { j with trying := copy, triedOther := other })).wr R.JIG_STAT_boot_copy copy

/-- R63, R64, R73: POR or WARM is released. The straps are latched, the fuses sensed and the copy to try first chosen; AC0 enters the boot
ROM once PWR has confirmed P2 (R578), and DRAM training follows. A store of the recorder that had failed is in service again (R530). -/
def execPorRelease (strapBoot strapRole : BitVec 2) (strapXtal : Bool) (s : State) : Out :=
  .next (if s.jig.boot ≠ .reset then s
    else
      let s := ((s.wr R.JIG_STRAP_boot strapBoot.toNat).wr R.JIG_STRAP_role strapRole.toNat).wrB R.JIG_STRAP_xtal strapXtal
      let s := s.fusesSense
      let s := State.bootGo ((s.tryCopy s.firstCopy false).setBoot .training)
      s.forEach [0, 1, 2] State.storeLag)

/-- AC0 runs in the boot ROM. -/
def State.inRom (s : State) : Bool := decide (s.cores[0] ≠ .held)

/-- Whether the boot strap asks for UART recovery: in BLANK and MANUFACTURE only (R62, R63). -/
def State.uartStrap (s : State) : Bool :=
  decide (s.rd R.JIG_STRAP_boot = 2 ∧ (s.lc = .blank ∨ s.lc = .manufacture))

/-- DRAM is in service at a rate: the image is streamed, or awaited on the UART. -/
def State.trained (rate : Nat) (s : State) : State :=
  let s := (((s.wr R.DRC_STAT_ready 15).wr R.DRC_STAT_rate rate).wr R.DRC_CFG_rate rate).wr R.DRC_CTL_en 1
  s.setBoot (if s.uartStrap then .uart else .stream)

/-- R443: DRAM training ends. fast and slow name the channels that failed at 6,400 and, where one did, at 3,200 MT/s; density and ranks are
MR8's. A channel that failed sets its trn_fail bit, with source offset 2 (R447). A failure at 6,400 MT/s is logged in always-on SRAM; after
one at both rates the boot ROM stays. -/
def execDramTrainingDone (fast slow : BitVec 4) (density : Fin 3) (ranks : Bool) (s : State) : Out :=
  .next (if s.jig.boot ≠ .training ∨ s.inRom = false then s
    else
      let s := (s.wr R.DRC_CFG_density density.val).wrB R.DRC_CFG_ranks ranks
      if fast = 0 then s.trained 0
      else
        let bad := (fast ||| slow).toNat
        let s := ((s.wr R.DRC_STAT_trn_fail bad).raise 242).logOpen 0x3E false
        if slow = 0 then s.trained 2
        else (s.wr R.DRC_STAT_ready (15 - slow.toNat)).setBoot .retry)

/-- R443: a second after it failed at both rates, the training is repeated. -/
def execDramTrainingRetry (s : State) : Out := .next (if s.jig.boot = .retry then s.setBoot .training else s)

/-- The golden region where the boot ROM places it: the last 64 MiB of usable DRAM, half 0 (R67, R68). -/
def State.goldPlace (s : State) : State :=
  (s.wr R.JIG_GOLD_BASE_base (s.usableBytes / 0x100000 - 64)).wr R.JIG_GOLD_BASE_half 0

/-- Whether a ratio keeps the channel rate of R85 at a spindle speed in rpm. -/
def rateOk (ratio rpm : Nat) : Bool := decide (ratio * 65536 * rpm ≤ 5200000000 * 60 * 2 ^ 22)

/-- The cells of a data span by R87, for a ratio in 10.22. -/
def spanOf (g : Geometry) (ratio : Nat) : Nat := (65536 * 16 - g.g * g.w) * ratio / (16 * g.w * 2 ^ 22) - 8

/-- An annulus record that keeps R85, R87, R88 and R97 to R99, its slots numbered on from those before it. -/
def annulusOk (g : Geometry) (rpm first : Nat) (a : AnnulusRec) : Bool :=
  rateOk a.ratio rpm && a.spanCells == spanOf g a.ratio && a.s == g.w * a.spanCells / 37040 && decide (0 < a.s)
    && a.q == (32767 + a.s) / a.s && a.positions == a.tracks / (a.q + 2) && decide (a.usable < a.positions) && a.firstSlot == first
    && decide (a.skew < g.w)

/-- The annulus records, each after those before it. -/
def annuliOk (g : Geometry) (rpm : Nat) : Nat → List AnnulusRec → Bool
  | first, [] => first == g.usable
  | first, a :: l => annulusOk g rpm first a && annuliOk g rpm (first + a.usable) l

/-- The surfaces whose outer strip is recorded: those without a gauge head (R107). -/
def State.stripSurfaces (s : State) : Nat := 2 * s.geom.n - ([s.gck.primFitted, s.gck.spareFitted].filter id).length

/-- The outer strip: it ends where A00 begins, its tracks are centred on every second servo track, and the conventional tracks hold
conv_sectors (R107, R108). -/
def State.stripOk (s : State) : Bool :=
  let g := s.geom
  (g.annuli.head?.map (·.firstTrack)) == some g.strip && decide (2 * (g.convTracks + g.sysTracks) ≤ g.strip)
    && decide (g.convSectors ≤ s.stripSurfaces * g.convTracks * (g.w * spanOf g g.rConv / 37040))

/-- The servo field, whose first cells cover the write-to-read recovery, fits the servo gap (R86, R238). -/
def State.fieldFits (s : State) : Bool :=
  decide (16 * (s.rd R.SRV_FIELD_CFG_pre + 160 + 4 * s.rd R.SRV_FIELD_CFG_burst) ≤ s.geom.g * s.rd R.SRV_FIELD_CFG_ratio)

/-- R112: whether GEOMETRY keeps the relations that R84 to R109 and R111 state over its own fields, the fitted heads and the servo field, at the
spindle speed that the image sets. -/
def State.geomOk (s : State) : Bool :=
  let g := s.geom
  let img := s.imgOfSlot 0
  let rpm := Config.jigRpm (img 0 (imgSize img))
  g.n % 2 == 0 && decide (4 ≤ g.n ∧ g.n ≤ 16) && s.headCount .a == g.n && s.headCount .b == g.n
    && decide (256 ≤ g.w ∧ g.w ≤ 1024) && decide (64 ≤ g.g ∧ g.g ≤ 256) && decide (g.kvBase ≤ g.usable)
    && rateOk g.rConv rpm && decide (10 * g.rSys ≤ 6 * g.rConv) && annuliOk g rpm 0 g.annuli && s.stripOk && s.fieldFits

/-- The base firmware's first acts: its power and spin limits, the comparison of R444 of the DRAM size that PRESENCE declares with MR8's, and the
check of R112, which keeps the media namespaces from becoming ready. Under the thermal latch it holds the media blocks (R477). -/
def State.fwStart (s : State) : State :=
  let s := s.limitsShow.when (s.presence.dram % 4 ≠ s.rd R.DRC_CFG_density) (State.logOpen 0x3E false)
  let bad := !s.geomOk
  State.mediaHold ((s.updHost (fun h => { h with geomBad := bad })).when (bad = true) (State.logOpen 0x3E false))

/-- An accepted image in golden slot 0: every section with a block is loaded, the base locked, and AC0 jumps to the BASEFW entry, whose place
in that section is open (R64, R576). -/
def State.bootRun (s : State) : State :=
  let s := ((s.wr R.JIG_STAT_gold_ok 1).imgInfo.bootLoad).setStatus R.JIG_LOAD_STAT_done 1 8
  let s := (s.wr R.JIG_GOLD_BASE_lock 1).setBoot .running
  State.fwStart (State.used { s with cores := s.cores.set 0 (.running s.free.toNat) })

/-- An image placed in golden slot 0 and checked (R53). -/
def State.imageCheck (bytes : List Byte) (s : State) : State × Bool :=
  let s := s.goldPlace.dramSet (s.goldPlace.goldSlot 0) bytes
  (s, s.imgOk (s.imgOfSlot 0))

/-- Both copies have failed: UART recovery, or in RETIRED a halt, with an event (R61). -/
def State.bothFailed (s : State) : State :=
  if s.lc = .retired then ((s.wr R.JIG_STAT_boot_copy 3).setBoot .halted).logOpen 0x3E false else s.setBoot .uart

/-- R53, R61, R64: the copy in trying has been streamed into golden slot 0 and checked. -/
def execImageStreamDone (s : State) : Out :=
  .next (if s.jig.boot ≠ .stream then s
    else
      let r := s.imageCheck (s.flashDev s.jig.trying).copy
      if r.2 then r.1.bootRun
      else if s.jig.triedOther then r.1.bothFailed
      else r.1.tryCopy (1 - s.jig.trying) true)

/-- The flash copies that fail R53 rewritten with an image, as the base firmware does after a UART boot (R62). -/
def State.copiesMend (bytes : List Byte) (s : State) : State :=
  s.forEach [0, 1] (fun d s => s.when (s.imgOk (imgOfList (s.flashDev d).copy) = false) (State.updFlash d (fun f => { f with copy := bytes })))

/-- R62: an image received on the debug UART is checked under R53 and run from DRAM. -/
def execUartRecoveryImage (bytes : List Byte) (s : State) : Out :=
  .next (if s.jig.boot ≠ .uart then s
    else
      let r := s.imageCheck (bytes.take goldSlotBytes)
      if r.2 then (r.1.wr R.JIG_STAT_boot_copy 2).bootRun.copiesMend bytes else r.1)

end Sys2Proof.Machine
end

