-- ==== Sys2Proof/Machine/Fw.lean ====
section
/-! DEFINITION. Firmware download, commit and activation (spec/02_jig_boot_lifecycle.md R68, R77 to R81). -/
namespace Sys2Proof.Machine

/-! ## Download (R68) -/

/-- Image data placed in golden slot 1 by HIF's DMA engine; what the protection forbids is dropped, each line counted. -/
def State.downloadPut (off : Nat) (bs : List Byte) (s : State) : State :=
  let at_ := s.goldSlot 1 + off
  if s.goldForbids .outside at_ bs.length then s.goldRefused (s.goldLines at_ bs.length) else s.dramSet at_ bs

/-- R68, R77: Firmware Image Download, the offset in bytes; data that would not fit a golden slot is refused (DEDUCED, assumption 28). -/
def execFirmwareImageDownload (ctx : Fin 16384) (s : State) : Out :=
  .next (match s.adminLive ctx.val with
    | some c => match c.cmd with
      | .download off bs =>
        if goldSlotBytes < off.toNat + bs.length then s.ends c.no .invalidField
        else (s.downloadPut off.toNat bs).ends c.no .ok
      | _ => s
    | none => s)

/-! ## Commit (R77, R78) -/

/-- The flash copy of a firmware slot: slot 1 is copy A, slot 2 copy B. -/
def copyOfSlot (slot : Nat) : Option Nat := if slot = 1 then some 0 else if slot = 2 then some 1 else none

/-- The bytes of an image with its trailer, as its header gives their number. -/
def imgAll (g : ImgSrc) : List Byte := g 0 (min goldSlotBytes (imgSize g + 4096))

/-- Golden slot 1 written to a flash copy (R78). -/
def State.copyWrite (copy : Nat) (s : State) : State :=
  let g := s.imgOfSlot 1
  s.updFlash copy (fun d => { d with copy := imgAll g })

/-- A commit completes without a swap: stage_lock is cleared (R68). -/
def State.commitEnd (n : Nat) (st : Status) (s : State) : State := (s.ends n st).wr R.JIG_GOLD_BASE_stage_lock 0

/-- The boot record that prefers a copy, effective at the next reset (R78). -/
def State.commitNext (n copy : Nat) (s : State) : State :=
  ((s.writeRecord copy).updHost (fun h => { h with pendingCommit := some copy })).commitEnd n .needsReset

/-- The bytes of a section. -/
def secContent (g : ImgSrc) (t : Nat) : Option (List Byte) := (imgFind g t).map (fun x => g x.off x.len)

/-- Whether the staged image needs a conventional reset: its PRESENCE or GEOMETRY or its layout_ver differs from the running
image's (R77). -/
def State.structural (s : State) : Bool :=
  let g := s.imgOfSlot 1
  let r := s.imgOfSlot 0
  secContent g 0x10 != secContent r 0x10 || secContent g 0x11 != secContent r 0x11 || imgLayout g != imgLayout r

/-- Immediate activation starts (R79 step 1): the event is posted, and fetching stops on both controllers. -/
def State.activate (ctx : Option Nat) (copy : Nat) (s : State) : State :=
  let fetch := s.rd R.HQE_CTL_fetch0 + 2 * s.rd R.HQE_CTL_fetch1
  let s := s.asyncAll .activation
  let s := State.fetchShow ((s.wr R.HQE_CTL_fetch0 0).wr R.HQE_CTL_fetch1 0)
  s.updHost (fun h => { h with activation := some ⟨ctx, copy, .drain, fetch, []⟩ })

/-- A Firmware Commit in the order of R77. While an activation quiesces, only actions 2 and 3 come this far. -/
def State.commitOp (n action : Nat) (slot : Nat) (s : State) : State :=
  let quiet := s.quiescing
  let done := fun (st : Status) (s : State) => if quiet then s.ends n st else s.commitEnd n st
  let s := s.wr R.JIG_GOLD_BASE_stage_lock 1
  match copyOfSlot slot with
  | none => done .invalidSlot s
  | some copy =>
    let g := if action = 2 then imgOfList (s.flashDev copy).copy else s.imgOfSlot 1
    if !s.imgOk g then done .invalidImage s
    else if action ≠ 2 ∧ s.rd R.JIG_STAT_boot_copy = copy then done .invalidSlot s
    else if quiet then done .prohibited s
    else if action = 0 then (s.copyWrite copy).commitEnd n .ok
    else if action = 1 then (s.copyWrite copy).commitNext n copy
    else if action = 2 then s.commitNext n copy
    else if s.structural then (s.copyWrite copy).commitNext n copy
    else (s.copyWrite copy).activate (some n) copy

/-- A Firmware Commit that may be processed: as any Admin command, and with action 2 or 3 also while an activation quiesces, when
it is turned away (R77; DEDUCED, assumption 29). -/
def State.commitLive (s : State) (n : Nat) (action : Nat) : Option Context :=
  if s.quiescing ∧ (action = 2 ∨ action = 3) then
    (s.live n).filter (fun c => (s.host.activation.map (·.ctx)) != some (some c.no))
  else s.adminLive n

/-- Firmware Commit with one of the actions. -/
def State.commit (n action : Nat) (s : State) : State :=
  match s.commitLive n action with
  | some c => match c.cmd with
    | .commit a slot => if a.toNat = action then s.commitOp c.no action slot.toNat else s
    | _ => s
  | none => s

/-- R78: action 0. -/
def execFwCommitReplace (ctx : Fin 16384) (s : State) : Out := .next (s.commit ctx.val 0)

/-- R78: action 1. -/
def execFwCommitReplaceActivate (ctx : Fin 16384) (s : State) : Out := .next (s.commit ctx.val 1)

/-- R78: action 2. -/
def execFwCommitActivate (ctx : Fin 16384) (s : State) : Out := .next (s.commit ctx.val 2)

/-- R78, R79: action 3. -/
def execFwCommitImmediate (ctx : Fin 16384) (s : State) : Out := .next (s.commit ctx.val 3)

/-- A conventional reset makes a commit that waits for it take effect through R79: the base firmware brings the image that the
boot record prefers from flash into golden slot 1 and locks it (R78). -/
def State.activatePending (s : State) : State :=
  match s.host.pendingCommit, s.host.activation with
  | some copy, none =>
    let s := (s.dramSet (s.goldSlot 1) (s.flashDev copy).copy).wr R.JIG_GOLD_BASE_stage_lock 1
    s.activate none copy
  | _, _ => s

/-! ## Immediate activation (R79, R80) -/

/-- Whether every I/O command has its result. -/
def State.ioDecided (s : State) : Bool := s.host.ctxs.all (fun c => adminCmd c.cmd || c.result.isSome)

/-- One command at the deadline of step 2 (R79, R80, R397): one not started follows the reset rules; one still running stops
at the end of the media command in progress and completes with Command Abort Requested. -/
def State.drainStop (c : Context) (s : State) : State :=
  if adminCmd c.cmd || c.result.isSome then s
  else if !c.started then (s.ctxFree c false).satCount R.HQE_CNT_DISC_count 213
  else (s.dropUnreleased c).ends c.no .abortRequested

/-- R79, step 2: the deadline. -/
def execActivationDrainDeadline (s : State) : Out :=
  .next (match s.host.activation with
    | some { ctx, copy, step := .drain, fetch, held } =>
      let s := s.forEach s.host.ctxs State.drainStop
      s.updHost (fun h => { h with activation := some ⟨ctx, copy, .flush, fetch, held⟩ })
    | _ => s)

/-- The quiesce is over: fetching resumes where a controller is still enabled and ready and not held for its reset, and what was
held is processed (R79 step 6, R80). -/
def State.actResume (a : Activation) (s : State) : State :=
  let s := s.updHost (fun h => { h with activation := none })
  let s := s.forEach [0, 1] (fun c s =>
    s.when (bitAt a.fetch c = true ∧ (s.ctrl c).en = true ∧ (s.ctrl c).rdy = true ∧ a.held.contains c = false) (State.wr (fetchF c) 1))
  let s := s.fetchShow.forEach a.held State.fwReset
  (s.rdyRise 0).rdyRise 1

/-- R79, steps 3 and 4: the flush ends, all in-flight commands complete, and the boot record is written. -/
def execActivationFlushDone (s : State) : Out :=
  .next (match s.host.activation with
    | some a =>
      if (a.step = .flush ∨ (a.step = .drain ∧ s.ioDecided = true)) ∧ s.host.cmds.all (fun m => !m.completed) = true then
        (s.writeRecord a.copy).updHost (fun h => { h with activation := some { a with step := .committed } })
      else s
    | none => s)

/-- R79: the deadline of step 3 passes and the activation is abandoned; stage_lock is cleared (R68). -/
def execActivationFlushDeadline (s : State) : Out :=
  .next (match s.host.activation with
    | some a =>
      if a.step = .flush ∨ (a.step = .drain ∧ s.ioDecided = true) then
        let s := s.wr R.JIG_GOLD_BASE_stage_lock 0
        let s := match a.ctx with
          | some n => s.ends n .maxTime
          | none => s
        s.actResume a
      else s
    | none => s)

/-- A section loaded from golden slot 1, where the loader takes it: none of its blocks is enabled (R575). -/
def State.loadStaged (t : Nat) (s : State) : State :=
  if s.loadRefused t true none then s else s.loadEnd ⟨t, none, true⟩

/-- The blocks that a section with the layout of the drive needs, disabled for a load: HIF, FRK, SRV and GCK. -/
def State.layoutOff (s : State) : State :=
  let s := (s.hifEnableOp false).when (s.rdB R.FRK_CTL_en = true) (State.frkEnableOp .ac0 false false)
  (s.srvWriteOp false false (s.rdB R.SRV_CTL_act_a) (s.rdB R.SRV_CTL_act_b)).gckDisableOp false

/-- The same blocks enabled as they were in old. -/
def State.layoutOn (old : State) (s : State) : State :=
  let s := (s.hifEnableOp (old.rdB R.HIF_CTL_en)).wr R.GCK_CTL_en (old.rd R.GCK_CTL_en)
  let s := s.srvWriteOp false (old.rdB R.SRV_CTL_en) (s.rdB R.SRV_CTL_act_a) (s.rdB R.SRV_CTL_act_b)
  s.when (old.rdB R.FRK_CTL_en = true) (State.frkEnableOp .ac0 false true)

/-- The blocks that hold sections of the image disabled, loaded and enabled as before: both sequencers, the channels and CLE, and where
the image brings another layout HIF, FRK, SRV and GCK too. A section one of whose blocks stays enabled is not taken
(DEDUCED, assumption 30). -/
def State.reload (layout : Bool) (s : State) : State :=
  let old := s
  let s := s.forEach [Act.a, Act.b] (fun x s => s.when (old.rdB (msqF R.MSQ_CTL_en x) = true) (State.msqEnableOp x false false))
  let s := s.forEach chans8 (fun ch s => s.when (old.rdB (rchF R.RCH_CTL_en ch) = true) (State.rchDisableOp ch false))
  let s := s.when (old.rdB R.CLE_CTL_en = true) (State.cleEnableOp false)
  let s := s.when (layout = true) State.layoutOff
  let s := s.forEach loadable State.loadStaged
  let s := s.when (layout = true) (State.layoutOn old)
  let s := s.when (old.rdB R.CLE_CTL_en = true) (State.cleEnableOp true)
  let s := s.forEach chans8 (fun ch s => s.when (old.rdB (rchF R.RCH_CTL_en ch) = true) (State.wr (rchF R.RCH_CTL_en ch) 1))
  (s.demodShow).forEach [Act.a, Act.b] (fun x s => s.when (old.rdB (msqF R.MSQ_CTL_en x) = true) (State.msqEnableOp x false true))

/-- The cores started at the new entries, which the new image gives (R79 step 5). -/
def State.coresRestart (s : State) : State :=
  let put : CoreState → Nat → CoreState := fun c e => match c with
    | .running _ => .running e
    | c => c
  let s := s.forEach (List.range 6) (fun i s =>
    if h : i < 6 then
      let e := s.free.toNat
      { s with cores := updV s.cores ⟨i, h⟩ (fun c => put c e) }.used
    else s)
  s

/-- R79, steps 5 and 6: the blocks are loaded from golden slot 1, the slots are swapped, the cores start at the new entries, and
fetching resumes. -/
def execActivationResume (s : State) : Out :=
  .next (match s.host.activation with
    | some a =>
      if a.step = .committed then
        let s := s.reload (a.ctx.isNone && s.structural)
        let a := s.host.activation.getD a
        let s := (s.swapTakes s.flash.dev0.record s.flash.dev1.record).coresRestart
        let s := s.updHost (fun h => { h with pendingCommit := none })
        let s := match a.ctx with
          | some n => s.ends n .ok
          | none => s
        s.limitsShow.actResume a
      else s
    | none => s)

end Sys2Proof.Machine
end

