-- ==== Sys2Proof/Machine/Ctrl.lean ====
section
/-! DEFINITION. The controllers as their hosts and ports act on them (spec/12_host_interface.md R335 to R338, R364 to R367): enable,
resets, shutdown, links, and the management endpoint. -/
namespace Sys2Proof.Machine

/-! ## CC.EN and CC.SHN -/

/-- R337: CC.EN is set with a value of CC.CRIME; CSTS.RDY rises with it, or with the media namespaces' readiness. -/
def execCcEnSet (ctrl : Fin 2) (crime : Bool) (s : State) : Out :=
  .next (
    let c := ctrl.val
    if s.ctrlThere c && !(s.ctrl c).en then (s.updCtrl c (fun k => { k with en := true, crime := crime })).rdyRise c else s)

/-- R366, R396: CC.EN is cleared: a controller reset. -/
def execCcEnClear (ctrl : Fin 2) (s : State) : Out :=
  .next (
    let c := ctrl.val
    if s.ctrlThere c && (s.ctrl c).en then s.ctrlReset c 4 else s)

/-- R338: CC.SHN of normal or abrupt type starts the shutdown sequence: fetching stops, and the rest follows as the commands in flight
complete and the data reach the media. -/
def execCcShnWrite (ctrl : Fin 2) (_abrupt : Bool) (s : State) : Out :=
  .next (
    let c := ctrl.val
    if s.ctrlThere c && (s.ctrl c).en then
      let s := s.rstEvent c 5
      let s := State.fetchShow (s.wr (fetchF c) 0)
      (s.updCtrl c (fun k => { k with shst := 1 })).shnCheck
    else s)

/-! ## PCIe -/

/-- R366, R396: a Function Level Reset of a port's function. -/
def execFunctionLevelReset (port : Fin 2) (s : State) : Out :=
  .next (if s.portThere port.val && s.rdB (upF port.val) then s.ctrlReset port.val 3 else s)

/-- The bit of HIF_RST_EVT of a conventional reset. -/
def resetBit : PcieReset → Nat
  | .perst => 0
  | .hot => 1
  | .linkDown => 2

/-- R366, R396, R78: a conventional reset of a port's function. PERST and link down take the link down; PERST holds the port until it
trains again. A Firmware Commit that waits for a reset takes effect. -/
def execPcieConventionalReset (port : Fin 2) (kind : PcieReset) (s : State) : Out :=
  .next (
    let p := port.val
    if s.portThere p then
      let s := s.ctrlReset p (resetBit kind)
      let s := match kind with
        | .perst => (s.linkOff p).updCtrl p (fun k => { k with perst := true })
        | .linkDown => s.linkOff p
        | .hot => s
      s.activatePending
    else s)

/-- R64, R65: HIF_CTL.cfg_ready is set; configuration requests are answered from then on. -/
def execHifCfgReady (who : Init) (s : State) : Out := .next (s.accept who R.HIF_CTL_cfg_ready (State.wr R.HIF_CTL_cfg_ready 1))

/-- Whether a link may have these parameters: the port exists, HIF is enabled, PRESENCE has identifiers (R333), the rate is not above
the cap (R332), and the width is one of the port mode's (R330). -/
def State.linkMay (s : State) (p speed width : Nat) : Bool :=
  s.portThere p && s.rdB R.HIF_CTL_en && !s.inSoftReset 37 && s.identified
    && decide (1 ≤ speed ∧ speed ≤ s.rd R.HIF_PORT_CFG_max_rate + 2)
    && (width == 1 || width == 2 || (width == 4 && !s.rdB R.HIF_STAT_mode))

/-- R367: a port's link has changed: it is up with a speed, a width and the power management, device and LTSSM states it shows, or down,
which is the conventional reset of R366. A link that comes up follows the release of PERST. -/
def execLinkChange (port : Fin 2) (up : Bool) (speed : BitVec 4) (width : BitVec 4) (pm dstate : BitVec 2) (ltssm : BitVec 6) (s : State) : Out :=
  .next (
    let p := port.val
    if up then
      if s.linkMay p speed.toNat width.toNat then
        (s.updCtrl p (fun k => { k with perst := false })).linkShow p true speed.toNat width.toNat pm.toNat dstate.toNat ltssm.toNat
      else s
    else if s.rdB (upF p) then ((s.ctrlReset p 2).linkOff p).activatePending
    else s)

/-! ## The management endpoint (R364) -/

/-- A message answered: what the endpoint returns is kept, and the message is counted; source 251 at saturation (R367). A disabled
endpoint answers nothing. -/
def State.miAnswer (r : State → Result) (op : State → State) (s : State) : State :=
  if s.rdB R.HIF_MI_CFG_en && !s.inSoftReset 37 then
    let v := r s
    let s := (op s).updHost (fun h => { h with mi := some v })
    s.satCount R.HIF_MI_CNT_msgs 251
  else s

/-- The fields of an answer. -/
def miFields (l : List (String × IdentVal)) : Result := ⟨.ok, 0, .fields l⟩

/-- R364: Read NVMe-MI Data Structure. What the structure holds is NVMe-MI's: its version, the ports with their kind, and the
controllers. -/
def State.miStructure (s : State) : Result :=
  let ports := if s.rdB R.HIF_STAT_mode then 2 else 1
  miFields [("version", .num 0x0102), ("pciePorts", .num ports), ("smbusPorts", .num 1), ("controllers", .num ports)]

/-- R364. -/
def execMiReadDataStructure (s : State) : Out := .next (s.miAnswer State.miStructure id)

/-- R364: the health of the subsystem: links, the Critical Warning and composite temperature of SMART, and whether a controller is
ready. -/
def State.miSubsystem (s : State) : Result :=
  miFields ([("link0", .num (s.rd R.HIF_STAT_up0)), ("link1", .num (s.rd R.HIF_STAT_up1)), ("criticalWarning", .num s.criticalWarning),
    ("ready0", .num (if (s.ctrl 0).rdy then 1 else 0)), ("ready1", .num (if (s.ctrl 1).rdy then 1 else 0))]
    ++ s.tempField "temperature" (s.hottest 0 16))

/-- R364. -/
def execMiSubsystemHealthPoll (s : State) : Out := .next (s.miAnswer State.miSubsystem id)

/-- R364: the health of a controller: CSTS, the Critical Warning and the composite temperature. -/
def State.miController (c : Nat) (s : State) : Result :=
  miFields ([("ready", .num (if (s.ctrl c).rdy then 1 else 0)), ("shutdown", .num (s.ctrl c).shst), ("criticalWarning", .num s.criticalWarning)]
    ++ s.tempField "temperature" (s.hottest 0 16))

/-- R364; a controller that is not there is no controller of the subsystem. -/
def execMiControllerHealthPoll (ctrl : Fin 2) (s : State) : Out :=
  .next (s.miAnswer (fun s => if s.portThere ctrl.val then s.miController ctrl.val else .of .invalidField) id)

/-- R364: Configuration Get of the SMBus frequency in kHz (true) or of the MCTP transmission unit size. -/
def execMiConfigurationGet (frequency : Bool) (s : State) : Out :=
  .next (s.miAnswer (fun s => ⟨.ok, if frequency then s.host.smbusKhz else s.host.mctpUnit, .none⟩) id)

/-- R364: Configuration Set: a frequency of 100 or 400 kHz, up to the 400 kHz that the endpoint supports, or a unit size of at least
MCTP's 64 bytes (PRESUMED, assumption 31). -/
def execMiConfigurationSet (frequency : Bool) (value : BitVec 16) (s : State) : Out :=
  .next (
    let v := value.toNat
    let ok := if frequency then v == 100 || v == 400 else decide (64 ≤ v)
    s.miAnswer (fun _ => .of (if ok then .ok else .invalidField))
      (fun s => if !ok then s else s.updHost (fun h => if frequency then { h with smbusKhz := v } else { h with mctpUnit := v })))

/-- R364: VPD Read of n bytes from an offset of PRESENCE's image; a range beyond it is refused. -/
def execMiVpdRead (offset count : BitVec 16) (s : State) : Out :=
  .next (s.miAnswer (fun s =>
    if s.presence.vpd.length < offset.toNat + count.toNat then .of .invalidField
    else ⟨.ok, 0, .bytes ((s.presence.vpd.drop offset.toNat).take count.toNat)⟩) id)

/-- R364: Identify, Get Log Page and Get Features tunnelled for a controller; every other command is answered with Invalid Command
Opcode. The power state stays. -/
def execMiTunnelledAdmin (ctrl : Fin 2) (cmd : HostCmd) (media : List (List Byte)) (s : State) : Out :=
  .next (
    let c := ctrl.val
    match cmd with
    | .identify sel => (s.miAnswer (fun s => s.identifyResult c sel []) id).used
    | .getLog lid nsid lsp offset index rae bytes =>
      let r := s.logResult c lid.toNat nsid.toNat lsp.toNat offset.toNat index.toNat bytes media
      let r := match unsupported cmd with
        | some e => .of e
        | none => r
      (s.miAnswer (fun _ => r) (fun s => s.when (r.status = .ok) (State.logEffect c lid.toNat lsp.toNat rae))).used
    | .getFeature fid nsid sel dw11 => s.miAnswer (fun s => s.getFeatureResult c fid.toNat nsid.toNat sel dw11.toNat) id
    | _ => s.miAnswer (fun _ => .of .invalidOpcode) id)

end Sys2Proof.Machine
end

