-- ==== Sys2Proof/Machine/Dispatch.lean ====
section
/-! DEFINITION. One arm per command: the call of its meaning. -/
namespace Sys2Proof.Machine

def exec (i : Instr) (s : State) : Host.Outcome State Fault Refusal :=
  match i with
  | .registerWrite who addr v => Sys2Proof.Machine.execRegisterWrite who addr v s
  | .bridgeWriteApply blk => Sys2Proof.Machine.execBridgeWriteApply blk s
  | .writeTimeout blk => Sys2Proof.Machine.execWriteTimeout blk s
  | .unmappedAccess who isWrite addr => Sys2Proof.Machine.execUnmappedAccess who isWrite addr s
  | .debugPortAccess isWrite addr v => Sys2Proof.Machine.execDebugPortAccess isWrite addr v s
  | .pairLowRead who addr => Sys2Proof.Machine.execPairLowRead who addr s
  | .rcFieldRead who addr => Sys2Proof.Machine.execRcFieldRead who addr s
  | .powerOnReset => Sys2Proof.Machine.execPowerOnReset s
  | .aonPowerUp => Sys2Proof.Machine.execAonPowerUp s
  | .resetNLow => Sys2Proof.Machine.execResetNLow s
  | .warmRequest who => Sys2Proof.Machine.execWarmRequest who s
  | .warmAssert => Sys2Proof.Machine.execWarmAssert s
  | .porRelease strapBoot strapRole strapXtal => Sys2Proof.Machine.execPorRelease strapBoot strapRole strapXtal s
  | .dramTrainingDone fast slow density ranks => Sys2Proof.Machine.execDramTrainingDone fast slow density ranks s
  | .dramTrainingRetry => Sys2Proof.Machine.execDramTrainingRetry s
  | .imageStreamDone => Sys2Proof.Machine.execImageStreamDone s
  | .uartRecoveryImage bytes => Sys2Proof.Machine.execUartRecoveryImage bytes s
  | .coreRunWrite who run => Sys2Proof.Machine.execCoreRunWrite who run s
  | .irqClaim core => Sys2Proof.Machine.execIrqClaim core s
  | .irqComplete who core source => Sys2Proof.Machine.execIrqComplete who core source s
  | .keyProgramSlot who slot => Sys2Proof.Machine.execKeyProgramSlot who slot s
  | .keyRevokeSlot who slot => Sys2Proof.Machine.execKeyRevokeSlot who slot s
  | .keyProgramService who slot => Sys2Proof.Machine.execKeyProgramService who slot s
  | .fuseProgramDone ok => Sys2Proof.Machine.execFuseProgramDone ok s
  | .rollbackRaise who target => Sys2Proof.Machine.execRollbackRaise who target s
  | .rollbackProgramDone => Sys2Proof.Machine.execRollbackProgramDone s
  | .loadSection who type src index => Sys2Proof.Machine.execLoadSection who type src index s
  | .loadWord who type src index => Sys2Proof.Machine.execLoadWord who type src index s
  | .loadDone => Sys2Proof.Machine.execLoadDone s
  | .goldLock who => Sys2Proof.Machine.execGoldLock who s
  | .goldSwap who => Sys2Proof.Machine.execGoldSwap who s
  | .goldSwapEffect => Sys2Proof.Machine.execGoldSwapEffect s
  | .goldRepairDone => Sys2Proof.Machine.execGoldRepairDone s
  | .lcRequest who req => Sys2Proof.Machine.execLcRequest who req s
  | .challenge who => Sys2Proof.Machine.execChallenge who s
  | .nonceExpire => Sys2Proof.Machine.execNonceExpire s
  | .lcTransitionDone ok => Sys2Proof.Machine.execLcTransitionDone ok s
  | .firmwareImageDownload ctx => Sys2Proof.Machine.execFirmwareImageDownload ctx s
  | .fwCommitReplace ctx => Sys2Proof.Machine.execFwCommitReplace ctx s
  | .fwCommitReplaceActivate ctx => Sys2Proof.Machine.execFwCommitReplaceActivate ctx s
  | .fwCommitActivate ctx => Sys2Proof.Machine.execFwCommitActivate ctx s
  | .fwCommitImmediate ctx => Sys2Proof.Machine.execFwCommitImmediate ctx s
  | .activationDrainDeadline => Sys2Proof.Machine.execActivationDrainDeadline s
  | .activationFlushDone => Sys2Proof.Machine.execActivationFlushDone s
  | .activationFlushDeadline => Sys2Proof.Machine.execActivationFlushDeadline s
  | .activationResume => Sys2Proof.Machine.execActivationResume s
  | .gaugeLoadSpeed => Sys2Proof.Machine.execGaugeLoadSpeed s
  | .gaugeUnloadSpeed => Sys2Proof.Machine.execGaugeUnloadSpeed s
  | .gckLoadCmd who => Sys2Proof.Machine.execGckLoadCmd who s
  | .gckUnloadCmd who => Sys2Proof.Machine.execGckUnloadCmd who s
  | .gckSwapCmd who => Sys2Proof.Machine.execGckSwapCmd who s
  | .gckRelockCmd who => Sys2Proof.Machine.execGckRelockCmd who s
  | .gckDisable who srst => Sys2Proof.Machine.execGckDisable who srst s
  | .gaugeHeadFlying head => Sys2Proof.Machine.execGaugeHeadFlying head s
  | .gaugeAmplitudeOk amp => Sys2Proof.Machine.execGaugeAmplitudeOk amp s
  | .gaugeLoadTimeout => Sys2Proof.Machine.execGaugeLoadTimeout s
  | .gaugePhaseLock => Sys2Proof.Machine.execGaugePhaseLock s
  | .gaugeAcqTimeout amp => Sys2Proof.Machine.execGaugeAcqTimeout amp s
  | .gaugeIndex count phase step ns => Sys2Proof.Machine.execGaugeIndex count phase step ns s
  | .gaugeIndexTimeout amp => Sys2Proof.Machine.execGaugeIndexTimeout amp s
  | .gaugeIndexMissing => Sys2Proof.Machine.execGaugeIndexMissing s
  | .gaugeLoss amp => Sys2Proof.Machine.execGaugeLoss amp s
  | .gaugeHoldEnd amp phaseOk => Sys2Proof.Machine.execGaugeHoldEnd amp phaseOk s
  | .switchPhaseLock step => Sys2Proof.Machine.execSwitchPhaseLock step s
  | .switchTimeout => Sys2Proof.Machine.execSwitchTimeout s
  | .gaugeUnloadDone => Sys2Proof.Machine.execGaugeUnloadDone s
  | .spareIndex phase apart => Sys2Proof.Machine.execSpareIndex phase apart s
  | .sectorRead ch cands samples slotEcc sumEcc => Sys2Proof.Machine.execSectorRead ch cands samples slotEcc sumEcc s
  | .sectorDecodeDone ch d m => Sys2Proof.Machine.execSectorDecodeDone ch d m s
  | .storedDecodeDone ch d ecc => Sys2Proof.Machine.execStoredDecodeDone ch d ecc s
  | .reportPop who ch => Sys2Proof.Machine.execReportPop who ch s
  | .rchDisable who ch srst => Sys2Proof.Machine.execRchDisable who ch srst s
  | .sectorAssemble ch ready => Sys2Proof.Machine.execSectorAssemble ch ready s
  | .writeRunGrant ch => Sys2Proof.Machine.execWriteRunGrant ch s
  | .sectorComplete ch => Sys2Proof.Machine.execSectorComplete ch s
  | .preampFaultLine x => Sys2Proof.Machine.execPreampFaultLine x s
  | .preheatDone ch => Sys2Proof.Machine.execPreheatDone ch s
  | .wchEnable who ch => Sys2Proof.Machine.execWchEnable who ch s
  | .hlFrameDone x data crc => Sys2Proof.Machine.execHlFrameDone x data crc s
  | .hlCmd who x cmd => Sys2Proof.Machine.execHlCmd who x cmd s
  | .ringTailWrite who x v => Sys2Proof.Machine.execRingTailWrite who x v s
  | .dispatch x flip flipFe flipW => Sys2Proof.Machine.execDispatch x flip flipFe flipW s
  | .waitEnd x flip => Sys2Proof.Machine.execWaitEnd x flip s
  | .waitTimeout x flip => Sys2Proof.Machine.execWaitTimeout x flip s
  | .commitOpen x => Sys2Proof.Machine.execCommitOpen x s
  | .commitClose x => Sys2Proof.Machine.execCommitClose x s
  | .commitBoundExceeded x flip => Sys2Proof.Machine.execCommitBoundExceeded x flip s
  | .chopSelect x => Sys2Proof.Machine.execChopSelect x s
  | .chopReadOn x => Sys2Proof.Machine.execChopReadOn x s
  | .chopReadOff x => Sys2Proof.Machine.execChopReadOff x s
  | .chopArm x => Sys2Proof.Machine.execChopArm x s
  | .chopWriteOn x => Sys2Proof.Machine.execChopWriteOn x s
  | .chopWriteOff x => Sys2Proof.Machine.execChopWriteOff x s
  | .chopRelease x => Sys2Proof.Machine.execChopRelease x s
  | .hmodeFrame x => Sys2Proof.Machine.execHmodeFrame x s
  | .writeGateRequest x => Sys2Proof.Machine.execWriteGateRequest x s
  | .fmtLoad x => Sys2Proof.Machine.execFmtLoad x s
  | .fmtNextTrack x => Sys2Proof.Machine.execFmtNextTrack x s
  | .fmtHalt x => Sys2Proof.Machine.execFmtHalt x s
  | .fmtRcvFirst x => Sys2Proof.Machine.execFmtRcvFirst x s
  | .fmtRcvNext x => Sys2Proof.Machine.execFmtRcvNext x s
  | .fmtOvf x => Sys2Proof.Machine.execFmtOvf x s
  | .posSeek x => Sys2Proof.Machine.execPosSeek x s
  | .posTrackStep x => Sys2Proof.Machine.execPosTrackStep x s
  | .posOfftrackSet x => Sys2Proof.Machine.execPosOfftrackSet x s
  | .posOfftrackClr x => Sys2Proof.Machine.execPosOfftrackClr x s
  | .posRetract x => Sys2Proof.Machine.execPosRetract x s
  | .parOpOpen x => Sys2Proof.Machine.execParOpOpen x s
  | .parOpClose x => Sys2Proof.Machine.execParOpClose x s
  | .parOpSource x => Sys2Proof.Machine.execParOpSource x s
  | .parOpRebuild x => Sys2Proof.Machine.execParOpRebuild x s
  | .bopLoad x => Sys2Proof.Machine.execBopLoad x s
  | .ctrLoad x => Sys2Proof.Machine.execCtrLoad x s
  | .ctrDec x => Sys2Proof.Machine.execCtrDec x s
  | .postWback x => Sys2Proof.Machine.execPostWback x s
  | .postStatus x => Sys2Proof.Machine.execPostStatus x s
  | .postWbackStatus x => Sys2Proof.Machine.execPostWbackStatus x s
  | .ropNext x => Sys2Proof.Machine.execRopNext x s
  | .ropApply x => Sys2Proof.Machine.execRopApply x s
  | .ropRepeat x => Sys2Proof.Machine.execRopRepeat x s
  | .ropStored x => Sys2Proof.Machine.execRopStored x s
  | .ropRestore x => Sys2Proof.Machine.execRopRestore x s
  | .ropClose x => Sys2Proof.Machine.execRopClose x s
  | .msqAbort who x => Sys2Proof.Machine.execMsqAbort who x s
  | .msqFlush who x => Sys2Proof.Machine.execMsqFlush who x s
  | .msqRunWrite who x v => Sys2Proof.Machine.execMsqRunWrite who x v s
  | .msqEnableWrite who x srst en => Sys2Proof.Machine.execMsqEnableWrite who x srst en s
  | .urgentGo who x => Sys2Proof.Machine.execUrgentGo who x s
  | .preemption x flip flipFe flipW => Sys2Proof.Machine.execPreemption x flip flipFe flipW s
  | .retractCountReached x flip flipW => Sys2Proof.Machine.execRetractCountReached x flip flipW s
  | .csWrite who x => Sys2Proof.Machine.execCsWrite who x s
  | .csRead who x => Sys2Proof.Machine.execCsRead who x s
  | .wedgeBoundary h w => Sys2Proof.Machine.execWedgeBoundary h w s
  | .servoFieldSample ch f => Sys2Proof.Machine.execServoFieldSample ch f s
  | .huntSync ch code apart => Sys2Proof.Machine.execHuntSync ch code apart s
  | .huntMissingTick x => Sys2Proof.Machine.execHuntMissingTick x s
  | .followMiss x => Sys2Proof.Machine.execFollowMiss x s
  | .srvActWrite who srst en actA actB => Sys2Proof.Machine.execSrvActWrite who srst en actA actB s
  | .loopTrigger k wrap => Sys2Proof.Machine.execLoopTrigger k wrap s
  | .loopCompute => Sys2Proof.Machine.execLoopCompute s
  | .bankSwapRequest who bits => Sys2Proof.Machine.execBankSwapRequest who bits s
  | .slotEnable who k on => Sys2Proof.Machine.execSlotEnable who k on s
  | .slotTargetWrite who k v => Sys2Proof.Machine.execSlotTargetWrite who k v s
  | .measWrite who k v => Sys2Proof.Machine.execMeasWrite who k v s
  | .cleTimerTick => Sys2Proof.Machine.execCleTimerTick s
  | .spdRefEdge ns => Sys2Proof.Machine.execSpdRefEdge ns s
  | .spdRefLost => Sys2Proof.Machine.execSpdRefLost s
  | .auxFollowStart who slot => Sys2Proof.Machine.execAuxFollowStart who slot s
  | .vcmPwmPeriod x code mV mA aux vib => Sys2Proof.Machine.execVcmPwmPeriod x code mV mA aux vib s
  | .actEnableWrite who srst en actA actB => Sys2Proof.Machine.execActEnableWrite who srst en actA actB s
  | .actLoadCmd who x => Sys2Proof.Machine.execActLoadCmd who x s
  | .actRetractCmd who x => Sys2Proof.Machine.execActRetractCmd who x s
  | .actLoadTimeout x => Sys2Proof.Machine.execActLoadTimeout x s
  | .retractParked x => Sys2Proof.Machine.execRetractParked x s
  | .retractTimeout x => Sys2Proof.Machine.execRetractTimeout x s
  | .spmPwmPeriod p => Sys2Proof.Machine.execSpmPwmPeriod p s
  | .observerConverged => Sys2Proof.Machine.execObserverConverged s
  | .observerLoss => Sys2Proof.Machine.execObserverLoss s
  | .observerMark => Sys2Proof.Machine.execObserverMark s
  | .spmStart who => Sys2Proof.Machine.execSpmStart who s
  | .spmStop who => Sys2Proof.Machine.execSpmStop who s
  | .spmStill => Sys2Proof.Machine.execSpmStill s
  | .measureOrderFound forward rpm theta => Sys2Proof.Machine.execMeasureOrderFound forward rpm theta s
  | .measureTimeout => Sys2Proof.Machine.execMeasureTimeout s
  | .reverseCheck rpm => Sys2Proof.Machine.execReverseCheck rpm s
  | .brakeTimeout => Sys2Proof.Machine.execBrakeTimeout s
  | .alignDone => Sys2Proof.Machine.execAlignDone s
  | .openTimeout => Sys2Proof.Machine.execOpenTimeout s
  | .coastEnd => Sys2Proof.Machine.execCoastEnd s
  | .gaugeAngleValid => Sys2Proof.Machine.execGaugeAngleValid s
  | .gaugeOffsetMeasured mean => Sys2Proof.Machine.execGaugeOffsetMeasured mean s
  | .gaugeAngleWithdrawn => Sys2Proof.Machine.execGaugeAngleWithdrawn s
  | .spmDisable who srst => Sys2Proof.Machine.execSpmDisable who srst s
  | .accAttach who k x slot => Sys2Proof.Machine.execAccAttach who k x slot s
  | .accRebuild who k x slot => Sys2Proof.Machine.execAccRebuild who k x slot s
  | .accReady who k => Sys2Proof.Machine.execAccReady who k s
  | .accSeal who k => Sys2Proof.Machine.execAccSeal who k s
  | .accCheck who k x slot => Sys2Proof.Machine.execAccCheck who k x slot s
  | .accScan who k => Sys2Proof.Machine.execAccScan who k s
  | .scanDone k => Sys2Proof.Machine.execScanDone k s
  | .accRelease who k => Sys2Proof.Machine.execAccRelease who k s
  | .walkerRound x reads => Sys2Proof.Machine.execWalkerRound x reads s
  | .parDisable who srst => Sys2Proof.Machine.execParDisable who srst s
  | .headRetire h => Sys2Proof.Machine.execHeadRetire h s
  | .bandRelocation index surface position => Sys2Proof.Machine.execBandRelocation index surface position s
  | .scrubGroup k x slot step => Sys2Proof.Machine.execScrubGroup k x slot step s
  | .accumulatorRecovery k x slot step => Sys2Proof.Machine.execAccumulatorRecovery k x slot step s
  | .commandFetch ctrl urgent cmd => Sys2Proof.Machine.execCommandFetch ctrl urgent cmd s
  | .clampInsert => Sys2Proof.Machine.execClampInsert s
  | .readyPop who => Sys2Proof.Machine.execReadyPop who s
  | .completionPost ctx => Sys2Proof.Machine.execCompletionPost ctx s
  | .clpAdd who space append owner ctx => Sys2Proof.Machine.execClpAdd who space append owner ctx s
  | .clpNarrow who space append owner ctx => Sys2Proof.Machine.execClpNarrow who space append owner ctx s
  | .clpRelease who space append owner ctx => Sys2Proof.Machine.execClpRelease who space append owner ctx s
  | .itemPost x => Sys2Proof.Machine.execItemPost x s
  | .appendAssign ctx items => Sys2Proof.Machine.execAppendAssign ctx items s
  | .nvmFlush ctx => Sys2Proof.Machine.execNvmFlush ctx s
  | .nvmWrite ctx items => Sys2Proof.Machine.execNvmWrite ctx items s
  | .nvmRead ctx items got => Sys2Proof.Machine.execNvmRead ctx items got s
  | .writeZeroes ctx items => Sys2Proof.Machine.execWriteZeroes ctx items s
  | .nvmVerify ctx items got => Sys2Proof.Machine.execNvmVerify ctx items got s
  | .zoneAppend ctx => Sys2Proof.Machine.execZoneAppend ctx s
  | .zoneOpen ctx => Sys2Proof.Machine.execZoneOpen ctx s
  | .zoneClose ctx => Sys2Proof.Machine.execZoneClose ctx s
  | .zoneFinish ctx => Sys2Proof.Machine.execZoneFinish ctx s
  | .zoneReset ctx => Sys2Proof.Machine.execZoneReset ctx s
  | .zoneOffline ctx => Sys2Proof.Machine.execZoneOffline ctx s
  | .reportZones ctx => Sys2Proof.Machine.execReportZones ctx s
  | .kvStore ctx zones items digestOk => Sys2Proof.Machine.execKvStore ctx zones items digestOk s
  | .kvRetrieve ctx items got => Sys2Proof.Machine.execKvRetrieve ctx items got s
  | .kvDelete ctx zones items => Sys2Proof.Machine.execKvDelete ctx zones items s
  | .kvExist ctx => Sys2Proof.Machine.execKvExist ctx s
  | .kvList ctx => Sys2Proof.Machine.execKvList ctx s
  | .identify ctx vendor => Sys2Proof.Machine.execIdentify ctx vendor s
  | .getLogErrorInfo ctx => Sys2Proof.Machine.execGetLogErrorInfo ctx s
  | .getLogSmart ctx => Sys2Proof.Machine.execGetLogSmart ctx s
  | .getLogFwSlot ctx => Sys2Proof.Machine.execGetLogFwSlot ctx s
  | .getLogChangedNs ctx => Sys2Proof.Machine.execGetLogChangedNs ctx s
  | .getLogEffects ctx => Sys2Proof.Machine.execGetLogEffects ctx s
  | .getLogTelemetry ctx => Sys2Proof.Machine.execGetLogTelemetry ctx s
  | .getLogChangedZones ctx => Sys2Proof.Machine.execGetLogChangedZones ctx s
  | .getLogEvents ctx media => Sys2Proof.Machine.execGetLogEvents ctx media s
  | .getLogMediaStatus ctx => Sys2Proof.Machine.execGetLogMediaStatus ctx s
  | .getLogAudit ctx => Sys2Proof.Machine.execGetLogAudit ctx s
  | .setArbitration ctx => Sys2Proof.Machine.execSetArbitration ctx s
  | .setPowerManagement ctx => Sys2Proof.Machine.execSetPowerManagement ctx s
  | .setTempThreshold ctx => Sys2Proof.Machine.execSetTempThreshold ctx s
  | .setErrorRecovery ctx => Sys2Proof.Machine.execSetErrorRecovery ctx s
  | .setVolatileWriteCache ctx => Sys2Proof.Machine.execSetVolatileWriteCache ctx s
  | .setNumberOfQueues ctx => Sys2Proof.Machine.execSetNumberOfQueues ctx s
  | .setInterruptCoalescing ctx => Sys2Proof.Machine.execSetInterruptCoalescing ctx s
  | .setInterruptVectorCfg ctx => Sys2Proof.Machine.execSetInterruptVectorCfg ctx s
  | .setAsyncEventConfig ctx => Sys2Proof.Machine.execSetAsyncEventConfig ctx s
  | .setApst ctx => Sys2Proof.Machine.execSetApst ctx s
  | .setTimestamp ctx => Sys2Proof.Machine.execSetTimestamp ctx s
  | .setKeepAliveTimer ctx => Sys2Proof.Machine.execSetKeepAliveTimer ctx s
  | .setIoCommandSetProfile ctx => Sys2Proof.Machine.execSetIoCommandSetProfile ctx s
  | .getFeatures ctx => Sys2Proof.Machine.execGetFeatures ctx s
  | .abortCommand ctx => Sys2Proof.Machine.execAbortCommand ctx s
  | .asyncEventRequest ctx => Sys2Proof.Machine.execAsyncEventRequest ctx s
  | .unsupportedCommand ctx => Sys2Proof.Machine.execUnsupportedCommand ctx s
  | .vendorCommand ctx handler => Sys2Proof.Machine.execVendorCommand ctx handler s
  | .ccEnSet ctrl crime => Sys2Proof.Machine.execCcEnSet ctrl crime s
  | .ccEnClear ctrl => Sys2Proof.Machine.execCcEnClear ctrl s
  | .functionLevelReset port => Sys2Proof.Machine.execFunctionLevelReset port s
  | .pcieConventionalReset port kind => Sys2Proof.Machine.execPcieConventionalReset port kind s
  | .ccShnWrite ctrl abrupt => Sys2Proof.Machine.execCcShnWrite ctrl abrupt s
  | .hifCfgReady who => Sys2Proof.Machine.execHifCfgReady who s
  | .linkChange port up speed width pm dstate ltssm => Sys2Proof.Machine.execLinkChange port up speed width pm dstate ltssm s
  | .miReadDataStructure => Sys2Proof.Machine.execMiReadDataStructure s
  | .miSubsystemHealthPoll => Sys2Proof.Machine.execMiSubsystemHealthPoll s
  | .miControllerHealthPoll ctrl => Sys2Proof.Machine.execMiControllerHealthPoll ctrl s
  | .miConfigurationGet frequency => Sys2Proof.Machine.execMiConfigurationGet frequency s
  | .miConfigurationSet frequency value => Sys2Proof.Machine.execMiConfigurationSet frequency value s
  | .miVpdRead offset count => Sys2Proof.Machine.execMiVpdRead offset count s
  | .miTunnelledAdmin ctrl cmd media => Sys2Proof.Machine.execMiTunnelledAdmin ctrl cmd media s
  | .tailScan z complete => Sys2Proof.Machine.execTailScan z complete s
  | .journalEntryComplete seq items => Sys2Proof.Machine.execJournalEntryComplete seq items s
  | .journalReplay found => Sys2Proof.Machine.execJournalReplay found s
  | .zoneStateFlush x => Sys2Proof.Machine.execZoneStateFlush x s
  | .indexJournalBatch => Sys2Proof.Machine.execIndexJournalBatch s
  | .indexCheckpoint => Sys2Proof.Machine.execIndexCheckpoint s
  | .indexRebuild => Sys2Proof.Machine.execIndexRebuild s
  | .compaction zones got => Sys2Proof.Machine.execCompaction zones got s
  | .auditZone got => Sys2Proof.Machine.execAuditZone got s
  | .zoneDigestReadback z got => Sys2Proof.Machine.execZoneDigestReadback z got s
  | .objFeedPost who v => Sys2Proof.Machine.execObjFeedPost who v s
  | .objFeed => Sys2Proof.Machine.execObjFeed s
  | .objCtxOpen who c => Sys2Proof.Machine.execObjCtxOpen who c s
  | .objCtxAbort who c => Sys2Proof.Machine.execObjCtxAbort who c s
  | .objDisable who srst => Sys2Proof.Machine.execObjDisable who srst s
  | .bufRequest who spad a op err => Sys2Proof.Machine.execBufRequest who spad a op err s
  | .victimWritebackIssue k => Sys2Proof.Machine.execVictimWritebackIssue k s
  | .victimWritebackAccept k => Sys2Proof.Machine.execVictimWritebackAccept k s
  | .maintZero who sw all count => Sys2Proof.Machine.execMaintZero who sw all count s
  | .maintClean who sw all count => Sys2Proof.Machine.execMaintClean who sw all count s
  | .maintInval who sw all count => Sys2Proof.Machine.execMaintInval who sw all count s
  | .maintCleanInval who sw all count => Sys2Proof.Machine.execMaintCleanInval who sw all count s
  | .maintDone => Sys2Proof.Machine.execMaintDone s
  | .scratchpadWrite who k => Sys2Proof.Machine.execScratchpadWrite who k s
  | .scratchpadDone => Sys2Proof.Machine.execScratchpadDone s
  | .bufDrainStart who => Sys2Proof.Machine.execBufDrainStart who s
  | .bufDrainDone => Sys2Proof.Machine.execBufDrainDone s
  | .bufSoftReset who => Sys2Proof.Machine.execBufSoftReset who s
  | .drcRequest l2 word op err => Sys2Proof.Machine.execDrcRequest l2 word op err s
  | .patrolScrubRead err => Sys2Proof.Machine.execPatrolScrubRead err s
  | .patrolPassDone => Sys2Proof.Machine.execPatrolPassDone s
  | .retrainPeriodic => Sys2Proof.Machine.execRetrainPeriodic s
  | .drcRetrainCmd who => Sys2Proof.Machine.execDrcRetrainCmd who s
  | .retrainDone ok => Sys2Proof.Machine.execRetrainDone ok s
  | .refreshRateRead mr4 => Sys2Proof.Machine.execRefreshRateRead mr4 s
  | .levelRequest who n => Sys2Proof.Machine.execLevelRequest who n s
  | .avsStatusPoll vdone mv => Sys2Proof.Machine.execAvsStatusPoll vdone mv s
  | .avsTimeout => Sys2Proof.Machine.execAvsTimeout s
  | .clockSwitchDone => Sys2Proof.Machine.execClockSwitchDone s
  | .sleepGo who target inL2 => Sys2Proof.Machine.execSleepGo who target inL2 s
  | .voteYes voter inL2 => Sys2Proof.Machine.execVoteYes voter inL2 s
  | .commitDone => Sys2Proof.Machine.execCommitDone s
  | .voteWithdrawal voter inL2 => Sys2Proof.Machine.execVoteWithdrawal voter inL2 s
  | .prepareTimeout => Sys2Proof.Machine.execPrepareTimeout s
  | .voterRelease => Sys2Proof.Machine.execVoterRelease s
  | .backoffEnd => Sys2Proof.Machine.execBackoffEnd s
  | .wakeEvent src => Sys2Proof.Machine.execWakeEvent src s
  | .sleepExitDone => Sys2Proof.Machine.execSleepExitDone s
  | .aonEdge ns => Sys2Proof.Machine.execAonEdge ns s
  | .aonAlarm => Sys2Proof.Machine.execAonAlarm s
  | .idleThreshold k => Sys2Proof.Machine.execIdleThreshold k s
  | .arbRequest who rail ma => Sys2Proof.Machine.execArbRequest who rail ma s
  | .arbiterAdmit => Sys2Proof.Machine.execArbiterAdmit s
  | .powerEstimate => Sys2Proof.Machine.execPowerEstimate s
  | .pmbusCommand who read addr cmd => Sys2Proof.Machine.execPmbusCommand who read addr cmd s
  | .pmbusDone nack data => Sys2Proof.Machine.execPmbusDone nack data s
  | .thmConversion conv => Sys2Proof.Machine.execThmConversion conv s
  | .thmShutdownRequest who => Sys2Proof.Machine.execThmShutdownRequest who s
  | .sensorTimeout => Sys2Proof.Machine.execSensorTimeout s
  | .shutdownRetract => Sys2Proof.Machine.execShutdownRetract s
  | .shutdownLatch => Sys2Proof.Machine.execShutdownLatch s
  | .flashOpEnd d ok suspended => Sys2Proof.Machine.execFlashOpEnd d ok suspended s
  | .flashOpAbandon d => Sys2Proof.Machine.execFlashOpAbandon d s
  | .squallDetect => Sys2Proof.Machine.execSquallDetect s
  | .squallRetracted => Sys2Proof.Machine.execSquallRetracted s
  | .squallRestored => Sys2Proof.Machine.execSquallRestored s
  | .frkEnableWrite who srst en => Sys2Proof.Machine.execFrkEnableWrite who srst en s
  | .ringLock => Sys2Proof.Machine.execRingLock s
  | .listenTimeout => Sys2Proof.Machine.execListenTimeout s
  | .beaconLost => Sys2Proof.Machine.execBeaconLost s
  | .soloTimeout => Sys2Proof.Machine.execSoloTimeout s
  | .ringLockLost => Sys2Proof.Machine.execRingLockLost s
  | .brkTick => Sys2Proof.Machine.execBrkTick s
  | .beaconSend => Sys2Proof.Machine.execBeaconSend s
  | .frameForward f crcOk residence => Sys2Proof.Machine.execFrameForward f crcOk residence s
  | .frameBcn f ns loopNs outranks => Sys2Proof.Machine.execFrameBcn f ns loopNs outranks s
  | .beaconSyncTimeout => Sys2Proof.Machine.execBeaconSyncTimeout s
  | .frameEnum f => Sys2Proof.Machine.execFrameEnum f s
  | .frameElect f loop => Sys2Proof.Machine.execFrameElect f loop s
  | .frameJoin f => Sys2Proof.Machine.execFrameJoin f s
  | .frameLeave f => Sys2Proof.Machine.execFrameLeave f s
  | .frameReq f => Sys2Proof.Machine.execFrameReq f s
  | .frameGrant f => Sys2Proof.Machine.execFrameGrant f s
  | .frameRel f => Sys2Proof.Machine.execFrameRel f s
  | .frameRevoke f => Sys2Proof.Machine.execFrameRevoke f s
  | .frameTokrpt f => Sys2Proof.Machine.execFrameTokrpt f s
  | .frameEvt f => Sys2Proof.Machine.execFrameEvt f s
  | .frameMbx f => Sys2Proof.Machine.execFrameMbx f s
  | .frameAck f => Sys2Proof.Machine.execFrameAck f s
  | .frameNak f => Sys2Proof.Machine.execFrameNak f s
  | .frameBrk f => Sys2Proof.Machine.execFrameBrk f s
  | .grantAckTimeout seq => Sys2Proof.Machine.execGrantAckTimeout seq s
  | .frameRetryTimer seq => Sys2Proof.Machine.execFrameRetryTimer seq s
  | .tokenLeaseExpire k => Sys2Proof.Machine.execTokenLeaseExpire k s
  | .cabinetLeaseFree uid k => Sys2Proof.Machine.execCabinetLeaseFree uid k s
  | .spinLeaseExpire uid => Sys2Proof.Machine.execSpinLeaseExpire uid s
  | .censusTimeout => Sys2Proof.Machine.execCensusTimeout s
  | .tokReqSpin who => Sys2Proof.Machine.execTokReqSpin who s
  | .tokReqPwr who => Sys2Proof.Machine.execTokReqPwr who s
  | .tokRelPwr who => Sys2Proof.Machine.execTokRelPwr who s
  | .tokCancelSpin who => Sys2Proof.Machine.execTokCancelSpin who s
  | .tokCancelPwr who => Sys2Proof.Machine.execTokCancelPwr who s
  | .budgetLower who k v => Sys2Proof.Machine.execBudgetLower who k v s
  | .mbxSend who => Sys2Proof.Machine.execMbxSend who s
  | .calRunGo who inst => Sys2Proof.Machine.execCalRunGo who inst s
  | .calRunAbort who us value => Sys2Proof.Machine.execCalRunAbort who us value s
  | .calMeasureDone us vals => Sys2Proof.Machine.execCalMeasureDone us vals s
  | .calPrecondFail quiet us value => Sys2Proof.Machine.execCalPrecondFail quiet us value s
  | .calStrobeRequest who inst => Sys2Proof.Machine.execCalStrobeRequest who inst s
  | .trimStrobe inst => Sys2Proof.Machine.execTrimStrobe inst s
  | .calDisable who srst => Sys2Proof.Machine.execCalDisable who srst s
  | .vmonConversion m raw => Sys2Proof.Machine.execVmonConversion m raw s
  | .pmonCount mhz => Sys2Proof.Machine.execPmonCount mhz s
  | .eventPost who c code sev source => Sys2Proof.Machine.execEventPost who c code sev source s
  | .aonRingWriteDrop => Sys2Proof.Machine.execAonRingWriteDrop s
  | .flashPageProgram d => Sys2Proof.Machine.execFlashPageProgram d s
  | .flashFlushTimer d => Sys2Proof.Machine.execFlashFlushTimer d s
  | .flashProgramDone d ok => Sys2Proof.Machine.execFlashProgramDone d ok s
  | .flashProgramTimeout d => Sys2Proof.Machine.execFlashProgramTimeout d s
  | .mediaStoreAge => Sys2Proof.Machine.execMediaStoreAge s
  | .evrMediaFail who => Sys2Proof.Machine.execEvrMediaFail who s
  | .evrStoreRetry who bits => Sys2Proof.Machine.execEvrStoreRetry who bits s
  | .evrEnable who => Sys2Proof.Machine.execEvrEnable who s
  | .logClear who media => Sys2Proof.Machine.execLogClear who media s
  | .logClearDone => Sys2Proof.Machine.execLogClearDone s
  | .bistRunGo who mode target => Sys2Proof.Machine.execBistRunGo who mode target s
  | .bistAbort who => Sys2Proof.Machine.execBistAbort who s
  | .bistPrecondFail => Sys2Proof.Machine.execBistPrecondFail s
  | .bistSoftReset who => Sys2Proof.Machine.execBistSoftReset who s
  | .bistDone misr => Sys2Proof.Machine.execBistDone misr s
  | .bscanGrant who groups => Sys2Proof.Machine.execBscanGrant who groups s
  | .bscanPrecondRelease => Sys2Proof.Machine.execBscanPrecondRelease s
  | .tapBypass => Sys2Proof.Machine.execTapBypass s
  | .tapIdcode => Sys2Proof.Machine.execTapIdcode s
  | .tapSamplePreload pads load => Sys2Proof.Machine.execTapSamplePreload pads load s
  | .tapExtest pads load => Sys2Proof.Machine.execTapExtest pads load s
  | .tapExtestPulse pads load => Sys2Proof.Machine.execTapExtestPulse pads load s
  | .tapExtestTrain pads load => Sys2Proof.Machine.execTapExtestTrain pads load s
  | .uartTxWrite who v => Sys2Proof.Machine.execUartTxWrite who v s
  | .uartRxByte v => Sys2Proof.Machine.execUartRxByte v s
  | .uartRxPop who => Sys2Proof.Machine.execUartRxPop who s
  | .gpioWake => Sys2Proof.Machine.execGpioWake s
  | .spareGaugeLoss amp => Sys2Proof.Machine.execSpareGaugeLoss amp s
  | .faultLineDeasserted x => Sys2Proof.Machine.execFaultLineDeasserted x s
  | .uartTxByteSent => Sys2Proof.Machine.execUartTxByteSent s

end Sys2Proof.Machine
end

