-- ==== Sys2Proof/Safety.lean ====
section
/-! DEFINITION. What counts as a safe run, and the words that claims use: the invariant of the part's stores, and what a command leaves
unchanged. -/
namespace Sys2Proof.Machine

/-- A command completes with a next state. -/
def Completes (c : Instr) (s t : State) : Prop := exec c s = .next t

/-- Slots or keys that rise strictly. -/
def rising {α : Type} : List (Nat × α) → Bool
  | [] => true
  | [_] => true
  | (k, _) :: (k', v') :: r => decide (k < k') && rising ((k', v') :: r)

/-- The stores of a state are in their canonical form: the register store, the bridges' copies and holding registers with keys rising,
the control stores with addresses rising, and DRAM, the scratchpad and the cores' memories with addresses rising and no blank byte
listed. -/
def State.storesWf (s : State) : Prop :=
  regWf s.regs = true ∧ regWf s.copy = true ∧ regWf s.holding = true ∧ Memory.wf s.dram = true ∧ Memory.wf s.buf.spad = true
    ∧ Memory.wf s.sram.aon = true ∧ Memory.wf s.sram.rt0 = true ∧ Memory.wf s.sram.rt1 = true
    ∧ rising s.msq.a.store = true ∧ rising s.msq.b.store = true

/-- A write command reaches its block: the block is not an absent instance, and it is not in soft reset (R15, R33). -/
abbrev State.reaches (s : State) (blk : Nat) : Prop := s.absent blk = false ∧ s.inSoftReset blk = false

/-- Every register field but those listed holds in t what it holds in s. -/
def State.fieldsKept (l : List Field) (s t : State) : Prop :=
  ∀ k, k ∉ l.map Field.key → regFind t.regs k = regFind s.regs k

/-- The registers of every block but those listed hold in t what they hold in s. -/
def State.blocksKept (l : List Nat) (s t : State) : Prop :=
  ∀ k, keyBlk k ∉ l → regFind t.regs k = regFind s.regs k

/-! ## What a command stores to -/

/-- Every byte of DRAM outside the listed areas (address, length) is in t what it is in s. -/
def State.bytesKept (l : List (Nat × Nat)) (s t : State) : Prop :=
  ∀ a, (∀ r ∈ l, a < r.1 ∨ r.1 + r.2 ≤ a) → memRead t.dram a = memRead s.dram a

/-- The status word and lane progress of the descriptor that a sequencer serves (R215). -/
def State.statusAreas (s : State) (x : Act) : List (Nat × Nat) :=
  match (s.msq.get x).desc with
  | some d => [(d.addr + 48, 16)]
  | none => []

/-- The pointer entries of the lanes that the descriptor names (R198). -/
def State.pointerAreas (s : State) (x : Act) : List (Nat × Nat) := (s.opRecs x).map (fun p => (s.bptAddr x p.2, 4))

/-- The entries of bands in the table of band pointers (R92). -/
def State.bandAreas (s : State) (l : List Nat) : List (Nat × Nat) := l.map (fun i => (s.bandEntry i, 4))

/-- The entries of bands in the remap table (R326). -/
def State.remapAreas (s : State) (l : List Nat) : List (Nat × Nat) := l.map (fun i => (s.rd R.PAR_REMAP_BASE_base * 4096 + 4 * i, 4))

/-- The bands of zones. -/
def State.bandsOfZones (s : State) (l : List Nat) : List Nat := l.flatMap (fun z => [(s.zoneBands z).1, (s.zoneBands z).2])

/-- The band pointers that a Write Fault on a zone with a media command in progress sets back (R384). -/
def State.faultAreas (s : State) : List (Nat × Nat) := s.bandAreas (s.bandsOfZones (s.host.cmds.map (·.zone)))

/-- Band sector b of every accumulator, with the sectors from the high-water mark up to it (R309, R313). -/
def State.accAreas (s : State) (b : Nat) : List (Nat × Nat) :=
  chans8.flatMap (fun k =>
    let h := min (s.accHw k) b
    let n := b + 1 - h
    [(s.accP k h, 4096 * n), (s.accQ k h, 4096 * n), (s.accPm k h, 16 * n), (s.accQm k h, 16 * n)])

/-- Lane sector k of a channel: its buffer addresses, and its band sector in the accumulators (R150, R213, R314). -/
def State.sectorAreas (s : State) (ch : Fin 8) (k : Nat) : List (Nat × Nat) :=
  match s.chRec ch with
  | some r => [(r.dataAddr k, 4096), (r.metaAddr k, 16)] ++ s.accAreas (r.b0 + k)
  | none => []

/-- Every lane sector of an operation, in its range and in its recovery entries. -/
def State.rangeAreas (s : State) (x : Act) : List (Nat × Nat) :=
  (s.opRecs x).flatMap (fun p =>
    (List.range p.2.count ++ (List.range 16).map (s.entryLaneK (laneCh x p.1))).flatMap (s.sectorAreas (laneCh x p.1)))

/-- The targets of the walker's request (R321). -/
def State.walkAreas (s : State) (x : Act) : List (Nat × Nat) :=
  match s.par.walk.get x with
  | some w => w.targets.flatMap (fun t => s.sectorAreas (laneCh x t.lane) t.k)
  | none => []

/-- Where a sequencer posts by itself: the descriptor that it serves, the saved and the urgent one, and those at the ring's head (R215,
R223, R232); with the pointers of the lanes and what a failed item sets back. -/
def State.postAreas (s : State) (x : Act) : List (Nat × Nat) :=
  let ring := s.rd (msqF R.MSQ_RING_BASE_base x) * 256
  let head := s.rd (msqF R.MSQ_RING_HEAD_head x)
  s.statusAreas x ++ s.pointerAreas x ++ s.faultAreas ++ (s.msq.get x).saved.toList.map (fun v => (v.desc.addr + 48, 16))
    ++ [(s.rd (msqF R.MSQ_URG_ADDR_addr x) * 256 + 48, 16), (ring + 256 * head + 48, 16), (ring + 256 * ((head + 1) % s.ringSize x) + 48, 16)]

/-- The context of an OBJ context number. -/
def State.objAreas (s : State) (c : Nat) : List (Nat × Nat) := [(s.objCtx c, 256)]

/-- Receive slot of FRK for a frame (R506). -/
def State.frameAreas (s : State) (f : RingFrame) : List (Nat × Nat) :=
  [(s.rd R.FRK_RX_BASE_base * 4096 + 512 * s.rd R.FRK_RX_TAIL_tail, 12 + f.payload.length)]

/-- The lines that BUF holds, in the cache and in the victim buffer. -/
def State.heldAreas (s : State) : List (Nat × Nat) :=
  s.buf.lines.map (fun e => (128 * e.addr, max 128 e.behind.length)) ++ s.buf.victims.map (fun v => (128 * v.line, max 128 v.behind.length))

/-- The bytes that a request to BUF changes. -/
def reqAreas (a : Nat) : LineOp → List (Nat × Nat)
  | .read _ => []
  | .write bs => [(a, bs.length)]
  | .zero => [(a / 128 * 128, 128)]

/-- The golden slot that a pending image is loaded into (R68). -/
def State.imageAreas (s : State) : List (Nat × Nat) := [(s.goldSlot 1, max s.flash.dev0.copy.length s.flash.dev1.copy.length)]

/-! ## What a command touches -/

/-- The parts of the state beside the register store and the queue. -/
inductive Part where
  | copy | bridges | shadows | holding | warmPending | cores | irq | sram | uart | fuses | jig | flash | evr | cal | gck | positions | presence | geom |
  rch | combine | wch | hl | msq | par | srv | cle | act | spm | pwr | thm | frk | tap | isolated | bistFull | dram | buf | drc | hostCtxs | hostClamps |
  hostReady | hostPend | hostPosted | hostCmds | hostMedia | hostZones | hostTable | hostUnsaved | hostTorn | hostUnits | hostSlots | hostJSeq |
  hostApplied | hostKv | hostDigests | hostAudit | hostErrors | hostChangedNs | hostChangedZones | hostFeats | hostSaved | hostC0 | hostC1 |
  hostCompletions | hostAttached | hostGroups | hostReplayed | hostIndexed | hostRemapSaved | hostRelocate | hostActivation | hostPendingCommit |
  hostSmbusKhz | hostMctpUnit | hostNextId | hostOrder | hostMediaErrors | hostObjUe | hostHeads | hostGeomBad | hostDamaged | hostThrottled | hostMi |
  freeCount | reply
  deriving DecidableEq, Repr

/-- A part is the same in two states. -/
def Part.same (s t : State) : Part → Prop
  | .copy => t.copy = s.copy
  | .bridges => t.bridges = s.bridges
  | .shadows => t.shadows = s.shadows
  | .holding => t.holding = s.holding
  | .warmPending => t.warmPending = s.warmPending
  | .cores => t.cores = s.cores
  | .irq => t.irq = s.irq
  | .sram => t.sram = s.sram
  | .uart => t.uart = s.uart
  | .fuses => t.fuses = s.fuses
  | .jig => t.jig = s.jig
  | .flash => t.flash = s.flash
  | .evr => t.evr = s.evr
  | .cal => t.cal = s.cal
  | .gck => t.gck = s.gck
  | .positions => t.positions = s.positions
  | .presence => t.presence = s.presence
  | .geom => t.geom = s.geom
  | .rch => t.rch = s.rch
  | .combine => t.combine = s.combine
  | .wch => t.wch = s.wch
  | .hl => t.hl = s.hl
  | .msq => t.msq = s.msq
  | .par => t.par = s.par
  | .srv => t.srv = s.srv
  | .cle => t.cle = s.cle
  | .act => t.act = s.act
  | .spm => t.spm = s.spm
  | .pwr => t.pwr = s.pwr
  | .thm => t.thm = s.thm
  | .frk => t.frk = s.frk
  | .tap => t.tap = s.tap
  | .isolated => t.isolated = s.isolated
  | .bistFull => t.bistFull = s.bistFull
  | .dram => t.dram = s.dram
  | .buf => t.buf = s.buf
  | .drc => t.drc = s.drc
  | .hostCtxs => t.host.ctxs = s.host.ctxs
  | .hostClamps => t.host.clamps = s.host.clamps
  | .hostReady => t.host.ready = s.host.ready
  | .hostPend => t.host.pend = s.host.pend
  | .hostPosted => t.host.posted = s.host.posted
  | .hostCmds => t.host.cmds = s.host.cmds
  | .hostMedia => t.host.media = s.host.media
  | .hostZones => t.host.zones = s.host.zones
  | .hostTable => t.host.table = s.host.table
  | .hostUnsaved => t.host.unsaved = s.host.unsaved
  | .hostTorn => t.host.torn = s.host.torn
  | .hostUnits => t.host.units = s.host.units
  | .hostSlots => t.host.slots = s.host.slots
  | .hostJSeq => t.host.jSeq = s.host.jSeq
  | .hostApplied => t.host.applied = s.host.applied
  | .hostKv => t.host.kv = s.host.kv
  | .hostDigests => t.host.digests = s.host.digests
  | .hostAudit => t.host.audit = s.host.audit
  | .hostErrors => t.host.errors = s.host.errors
  | .hostChangedNs => t.host.changedNs = s.host.changedNs
  | .hostChangedZones => t.host.changedZones = s.host.changedZones
  | .hostFeats => t.host.feats = s.host.feats
  | .hostSaved => t.host.saved = s.host.saved
  | .hostC0 => t.host.c0 = s.host.c0
  | .hostC1 => t.host.c1 = s.host.c1
  | .hostCompletions => t.host.completions = s.host.completions
  | .hostAttached => t.host.attached = s.host.attached
  | .hostGroups => t.host.groups = s.host.groups
  | .hostReplayed => t.host.replayed = s.host.replayed
  | .hostIndexed => t.host.indexed = s.host.indexed
  | .hostRemapSaved => t.host.remapSaved = s.host.remapSaved
  | .hostRelocate => t.host.relocate = s.host.relocate
  | .hostActivation => t.host.activation = s.host.activation
  | .hostPendingCommit => t.host.pendingCommit = s.host.pendingCommit
  | .hostSmbusKhz => t.host.smbusKhz = s.host.smbusKhz
  | .hostMctpUnit => t.host.mctpUnit = s.host.mctpUnit
  | .hostNextId => t.host.nextId = s.host.nextId
  | .hostOrder => t.host.order = s.host.order
  | .hostMediaErrors => t.host.mediaErrors = s.host.mediaErrors
  | .hostObjUe => t.host.objUe = s.host.objUe
  | .hostHeads => t.host.heads = s.host.heads
  | .hostGeomBad => t.host.geomBad = s.host.geomBad
  | .hostDamaged => t.host.damaged = s.host.damaged
  | .hostThrottled => t.host.throttled = s.host.throttled
  | .hostMi => t.host.mi = s.host.mi
  | .freeCount => t.freeCount = s.freeCount
  | .reply => t.reply = s.reply

/-- How many instances of a block's register map follow from its index on (R6, R31). -/
def instancesFrom (blk : Nat) : Nat :=
  if 8 ≤ blk ∧ blk < 16 then 16 - blk else if 16 ≤ blk ∧ blk < 24 then 24 - blk else if blk = 24 then 2 else 1

/-- A key belongs to a field: to any register of its array, in any instance of its block. -/
def Field.owns (f : Field) (k : Nat) : Prop := ∃ i < instancesFrom f.blk, ∃ j < f.n, ((f.inst i).at j).key = k

/-- What a command may touch: parts of the state, register fields in every instance and array place, whole blocks, and single keys. -/
structure Touch where
  parts : List Part := []
  fields : List Field := []
  blocks : List Nat := []
  keys : List Nat := []

/-- The keys of the values that wait for their boundary. -/
def State.shadowKeys (s : State) : List Nat := s.shadows.map (fun h => h.field.key)

/-- Everything but what w names is in t what it is in s, the queue included. -/
def State.onlyTouches (s : State) (w : Touch) (t : State) : Prop :=
  t.pending = s.pending ∧ (∀ p : Part, p ∉ w.parts → p.same s t)
    ∧ ∀ k, (∀ f ∈ w.fields, ¬ f.owns k) → keyBlk k ∉ w.blocks → k ∉ w.keys → regFind t.regs k = regFind s.regs k

/-- What the UART shows: register fields. -/
def Touch.uart : List Field :=
  [R.SYS_UART_RX_data, R.SYS_UART_RX_ovr, R.SYS_UART_RX_valid, R.SYS_UART_STAT_rx_cnt, R.SYS_UART_STAT_tx_free]

/-- What a reset of a controller shows in HQE and HIF: register fields. -/
def Touch.retry : List Field :=
  [R.HIF_RST_EVT_port0, R.HIF_RST_EVT_port1, R.HQE_CTL_fetch0, R.HQE_CTL_fetch1, R.HQE_STAT_fetching]

/-- What one posted event record touches: register fields. -/
def Touch.record : List Field :=
  [R.EVR_CLR_FLOOR_floor, R.EVR_CNT_lost, R.EVR_SEQ_seq, R.EVR_STORE2_NEXT_next, R.EVR_STORE_NEXT01_next, R.FRK_CNT_evt_drop]

/-- The configuration error record (R33): register fields. -/
def Touch.cfgErr : List Field :=
  [R.SYS_CFG_ERR_CNT_count, R.SYS_CFG_ERR_block, R.SYS_CFG_ERR_cause, R.SYS_CFG_ERR_initiator, R.SYS_CFG_ERR_offset, R.SYS_CFG_ERR_overflow,
    R.SYS_CFG_ERR_valid, R.SYS_CFG_ERR_write]

/-- What one step of an actuator touches: register fields. -/
def Touch.actuator : List Field :=
  [R.ACT_CNT_seeks, R.ACT_CNT_settles, R.ACT_MA_CMD_dac, R.ACT_MA_CMD_m, R.ACT_OFT_disp, R.ACT_STAT_count, R.ACT_STAT_settle, R.ACT_STAT_state]

/-- What lost data may touch in PAR: register fields. -/
def Touch.damage : List Field :=
  [R.PAR_ACC_STAT_scan_busy, R.PAR_ACC_STAT_state, R.PAR_CNT_MISC_dram_ue, R.PAR_ERR_acc, R.PAR_ERR_cause, R.PAR_ERR_index, R.PAR_ERR_overflow,
    R.PAR_ERR_valid]

/-- What the end of a write run touches: register fields. -/
def Touch.writeRun : List Field :=
  [R.WCH_CNT_INC_count, R.WCH_FLT_CNT_count, R.WCH_FLT_cause, R.WCH_FLT_overflow, R.WCH_FLT_sector, R.WCH_FLT_valid, R.WCH_FLT_wedge,
    R.WCH_STAT_lane_active, R.WCH_STAT_strobe, R.WCH_STAT_writing]

/-- What a token or a level handed on may touch: register fields. -/
def Touch.token : List Field :=
  [R.FRK_TOK_STAT_pwr, R.FRK_TOK_STAT_pwr_held, R.FRK_TOK_STAT_pwr_q, R.FRK_TOK_STAT_spin_held, R.FRK_TOK_STAT_spin_q, R.HQE_SCHED_CFG_max_lanes,
    R.PWR_ARB_STAT_queued, R.PWR_AVS_STAT_vdone, R.PWR_CAP_cap, R.PWR_PLVL_STAT_busy, R.PWR_PLVL_req, R.SPM_TOK_held]

/-- What a clamp entry given up touches: register fields. -/
def Touch.clamp : List Field :=
  [R.CLP_ENT_D0_append, R.CLP_ENT_D0_owner, R.CLP_ENT_D0_space, R.CLP_ENT_D0_valid, R.CLP_ENT_D0_waiters, R.CLP_ENT_D1_ctx, R.CLP_ENT_D25_addr,
    R.CLP_STAT_full, R.CLP_STAT_used, R.CLP_STAT_waiting, R.HQE_READY_ctx, R.HQE_READY_valid]

/-- What the end of a calibration touches: register fields. -/
def Touch.calEnd : List Field :=
  Touch.record ++ [R.CAL_CNT_EVT_aborts, R.CAL_PEND_pend, R.CAL_STAT_busy, R.CAL_STAT_code, R.CAL_STAT_fail, R.CAL_TRIM_shadow]

/-- What an accumulator command touches: register fields. -/
def Touch.acc : List Field :=
  Touch.cfgErr ++ [R.PAR_ACC_CTL_cmd, R.PAR_ACC_STAT_hw, R.PAR_ACC_STAT_scan_busy, R.PAR_ACC_STAT_state]

/-- What a maintenance request touches: register fields. -/
def Touch.maint : List Field :=
  Touch.cfgErr ++ [R.BUF_CNT_EVT_merges, R.BUF_CNT_EVT_tw, R.BUF_CNT_EVT_waits, R.BUF_CNT_HIT_count, R.BUF_CNT_MISS_count, R.BUF_MAINT_all,
    R.BUF_MAINT_count, R.BUF_MAINT_go, R.BUF_MAINT_op, R.BUF_MAINT_sw, R.BUF_STAT_maint_busy, R.BUF_STAT_victims, R.JIG_GOLD_STAT_refused]

/-- What a servo tick with no sample touches: register fields. -/
def Touch.servoTick : List Field :=
  [R.ACT_CNT_seeks, R.ACT_CNT_settles, R.ACT_REF_r, R.ACT_STAT_count, R.ACT_STAT_settle, R.ACT_STAT_state, R.ACT_TGT_c, R.CLE_CNT_ovr, R.CLE_OVR_ovr,
    R.CLE_SSTAT_invcnt, R.CLE_SSTAT_sat, R.CLE_SSTAT_xsat, R.CLE_STATE_state, R.CLE_S_HI_s, R.CLE_S_LO_s, R.SRV_ACT_FLG_chan, R.SRV_ACT_FLG_invcnt,
    R.SRV_ACT_FLG_quality, R.SRV_ACT_FLG_reason, R.SRV_ACT_FLG_valid, R.SRV_ACT_FLG_wedge, R.SRV_ACT_POS_pos]

/-- What an actuator may touch when the head selection or its pending values come into force: register fields. -/
def Touch.selected : List Field :=
  [R.ACT_MA_CLAMP_clamp, R.ACT_MA_CMD_dac, R.ACT_MA_CMD_m, R.CLE_SSTAT_invcnt, R.CLE_SSTAT_sat, R.CLE_SSTAT_xsat, R.CLE_STATE_state, R.CLE_S_HI_s,
    R.CLE_S_LO_s, R.GCK_CH_STAT_rate_err, R.GCK_CH_STAT_self, R.GCK_CH_STAT_synth_lock, R.SRV_CH_FLG_invcnt, R.WCH_FLT_CNT_count, R.WCH_FLT_cause,
    R.WCH_FLT_overflow, R.WCH_FLT_sector, R.WCH_FLT_valid, R.WCH_FLT_wedge, R.WCH_HL_CNT_merged, R.WCH_HL_STAT_depth, R.WCH_HL_STAT_fw_busy,
    R.WCH_STAT_preheat_done]

/-- What a finished recovery entry touches: register fields. -/
def Touch.recovery : List Field :=
  Touch.record ++ [R.RCH_CMB_STAT_used, R.RCH_CNT_MISC_rpt_drop, R.RCH_CNT_RUNG_count, R.RCH_CNT_UNREC_count, R.RCH_RCV_STAT_open,
    R.RCH_RPT_HI_captures, R.RCH_RPT_HI_head, R.RCH_RPT_HI_iter, R.RCH_RPT_HI_outcome, R.RCH_RPT_HI_rung, R.RCH_RPT_HI_valid, R.RCH_RPT_LO_sector,
    R.RCH_RPT_LO_track, R.RCH_RSET_A_rung, R.RCH_RSET_A_samples, R.RCH_RSET_A_status, R.RCH_STAT_rcv_open, R.RCH_STAT_sb_frozen, R.RCH_STAT_stored_dec]

/-- What a change of the spindle may touch: register fields. -/
def Touch.spindle : List Field :=
  Touch.token ++ Touch.writeRun ++ [R.HQE_CTL_fetch0, R.HQE_CTL_fetch1, R.HQE_STAT_fetching, R.SPM_SPEED_rpm, R.SPM_STAT_ang_src, R.SPM_STAT_fw,
    R.SPM_STAT_lock, R.SPM_STAT_obs_conv, R.SPM_STAT_state]

/-- What a change of the gauge timebase may touch: register fields. -/
def Touch.gauge : List Field :=
  Touch.selected ++ Touch.writeRun ++ [R.GCK_DP_STEP_step, R.GCK_STAT_dp_src, R.GCK_STAT_lock, R.GCK_STAT_state, R.HQE_CTL_fetch0, R.HQE_CTL_fetch1,
    R.HQE_STAT_fetching, R.SRV_STAT_state_a, R.SRV_STAT_state_b]

/-- What a sequencer may touch when it stops: register fields. -/
def Touch.seqStop : List Field :=
  Touch.selected ++ Touch.writeRun ++ [R.GCK_CH_SEL_annulus, R.GCK_CH_SEL_head, R.GCK_CH_SEL_self, R.MSQ_STAT_held, R.MSQ_STAT_state,
    R.MSQ_STAT_urgent, R.MSQ_URG_CTL_busy, R.PAR_ACC_STAT_lanes, R.PAR_STAT_bound, R.PAR_STAT_wlk_a, R.PAR_STAT_wlk_b, R.PAR_WLK_STAT_busy,
    R.PAR_WLK_STAT_erasures, R.PAR_WLK_STAT_range, R.PAR_WLK_STAT_remaining, R.PAR_WLK_STAT_survivors, R.PWR_IDLE_STAT_count, R.RCH_RCV_STAT_open,
    R.RCH_RSET_A_samples, R.RCH_STAT_rcv_open, R.RCH_STAT_reading, R.RCH_STAT_sb_frozen, R.RCH_STAT_stored_dec, R.SRV_STAT_demod, R.WCH_STAT_gate_req]

/-- What a sequencer may touch when it takes its next item: register fields. -/
def Touch.seqRun : List Field :=
  Touch.selected ++ Touch.record ++ Touch.actuator ++ Touch.writeRun ++ [R.GCK_CH_SEL_annulus, R.GCK_CH_SEL_head, R.GCK_CH_SEL_self,
    R.JIG_GOLD_STAT_refused, R.MSQ_CNT_EVT_mchk, R.MSQ_CNT_EVT_restarts, R.MSQ_CNT_OPS_count, R.MSQ_FAIL_bits, R.MSQ_LANE_PROG_progress, R.MSQ_MCHK_addr,
    R.MSQ_MCHK_half, R.MSQ_MCHK_kind, R.MSQ_MCHK_opcode, R.MSQ_MCHK_overflow, R.MSQ_MCHK_valid, R.MSQ_RING_HEAD_head, R.MSQ_STAT_entry, R.MSQ_STAT_pc,
    R.MSQ_STAT_state, R.MSQ_STAT_urgent, R.MSQ_URG_CTL_busy, R.PAR_ACC_STAT_lanes, R.PAR_STAT_bound, R.PAR_STAT_wlk_a, R.PAR_STAT_wlk_b,
    R.PAR_WLK_STAT_busy, R.PAR_WLK_STAT_erasures, R.PAR_WLK_STAT_range, R.PAR_WLK_STAT_remaining, R.PAR_WLK_STAT_survivors, R.PWR_IDLE_STAT_count,
    R.RCH_RCV_STAT_open, R.RCH_RSET_A_samples, R.RCH_STAT_rcv_open, R.RCH_STAT_reading, R.RCH_STAT_sb_frozen, R.RCH_STAT_stored_dec, R.WCH_STAT_gate_req]

/-- What a microword may touch while it runs and ends: its channels, its lanes, its data on the way, and what the next item brings: register fields. -/
def Touch.word : List Field :=
  Touch.recovery ++ Touch.selected ++ Touch.damage ++ Touch.actuator ++ [R.ACT_TGT_c, R.GCK_CH_SEL_annulus, R.GCK_CH_SEL_head, R.GCK_CH_SEL_self,
    R.JIG_GOLD_STAT_refused, R.MSQ_CNT_OPS_count, R.MSQ_LANE_PROG_progress, R.MSQ_LANE_SEC_remaining, R.MSQ_LANE_SEC_sector, R.MSQ_LANE_TRK_track,
    R.MSQ_RING_HEAD_head, R.MSQ_STAT_state, R.MSQ_STAT_urgent, R.MSQ_URG_CTL_busy, R.PAR_ACC_STAT_hw, R.PAR_ACC_STAT_lanes, R.PAR_CNT_ADD_count,
    R.PAR_CNT_MISC_nobind, R.PAR_CNT_RBLD_fail, R.PAR_CNT_RBLD_ok, R.PAR_STAT_bound, R.PAR_STAT_wlk_a, R.PAR_STAT_wlk_b, R.PAR_WLK_STAT_busy,
    R.PAR_WLK_STAT_erasures, R.PAR_WLK_STAT_range, R.PAR_WLK_STAT_remaining, R.PAR_WLK_STAT_survivors, R.PWR_IDLE_STAT_count, R.RCH_RCV_STAT_repeat,
    R.RCH_RCV_STAT_rung, R.RCH_RCV_STAT_skipped, R.RCH_STAT_reading, R.RCH_STAT_rset_ovf, R.SRV_STAT_demod, R.SRV_WIN_STAT_over_a, R.SRV_WIN_STAT_over_b,
    R.SRV_WIN_STAT_span, R.WCH_BWP_ptr, R.WCH_BWP_valid, R.WCH_STAT_gate_req, R.WCH_STAT_lane_active, R.WCH_STAT_strobe, R.WCH_STAT_writing]

/-- What one step of an actuator touches: parts. -/
def Touch.actuatorParts : List Part :=
  [.act, .freeCount, .hostAttached, .hostC0, .hostC1, .irq]

/-- What a maintenance request touches: parts. -/
def Touch.maintParts : List Part :=
  [.buf, .dram, .drc, .freeCount, .irq, .reply]

/-- What one posted event record touches: parts. -/
def Touch.recordParts : List Part :=
  [.evr, .freeCount, .frk, .hostC0, .hostC1, .hostCtxs, .irq]

/-- What the end of a calibration touches: parts. -/
def Touch.calEndParts : List Part :=
  [.evr, .freeCount, .frk, .hostC0, .hostC1, .hostCtxs, .irq]

/-- What an actuator may touch when the head selection or its pending values come into force: parts. -/
def Touch.selectedParts : List Part :=
  [.act, .cle, .copy, .freeCount, .hl, .irq, .msq, .shadows, .srv, .wch]

/-- What a finished recovery entry touches: parts. -/
def Touch.recoveryParts : List Part :=
  Touch.recordParts ++ [.combine, .hostHeads, .rch]

/-- What a change of the spindle may touch: parts. -/
def Touch.spindleParts : List Part :=
  [.freeCount, .frk, .hostC0, .hostC1, .hostChangedNs, .hostCtxs, .irq, .msq, .pwr, .spm, .wch]

/-- What a sequencer may touch when it stops: parts. -/
def Touch.seqStopParts : List Part :=
  Touch.selectedParts ++ [.par, .rch]

/-- What a change of the gauge timebase may touch: parts. -/
def Touch.gaugeParts : List Part :=
  Touch.selectedParts ++ [.hostC0, .hostC1, .hostChangedNs, .hostCtxs]

/-- What a sequencer may touch when it takes its next item: parts. -/
def Touch.seqRunParts : List Part :=
  Touch.seqStopParts ++ Touch.recordParts ++ [.dram, .drc, .hostApplied, .hostAttached, .hostCmds, .hostDigests, .hostMedia, .hostPend, .hostPosted,
    .hostUnits, .hostUnsaved, .hostZones]

/-- What a microword may touch while it runs and ends: its channels, its lanes, its data on the way, and what the next item brings: parts. -/
def Touch.wordParts : List Part :=
  Touch.seqRunParts ++ [.combine, .hostDamaged, .hostHeads]

/-- The fields that a read clears (R7). -/
def Touch.readCleared : List Field :=
  [0, 1, 2, 3, 4, 5, 6, 7, 8, 16, 24, 26, 27, 28, 29, 30, 31, 32, 33, 34, 35, 36, 37].flatMap (fun b => (tableOf b).1.filter (fun f => f.acc == .rc))


end Sys2Proof.Machine
end

