-- ==== Sys2Proof/Certificates/Slice0/Obligations.lean ====
section
/-! DEFINITION. The statements about the model: what each command does in each family, what it leaves alone, and what every step keeps. -/
open Sys2Proof Sys2Proof.Machine

/-- Register writes are judged, posted or stalled, reads capture and clear, the debug port is gated (parts of R5, R7, R10, R16, R34 to R37,
R574). In every state and for all operands that meet the conditions of a clause, the command answers the next state that the clause
describes. Commands: REGISTER_WRITE, BRIDGE_WRITE_APPLY, WRITE_TIMEOUT, DEBUG_PORT_ACCESS, PAIR_LOW_READ, RC_FIELD_READ. Where the spec
leaves a point open, the clauses follow the model's choices (assumptions 36, 39, 42, 43, 47 and 49). -/
def Obligations.RegisterAndDebugAccesses : Prop :=
  (∀ (s : State) (who : Init) (addr : Nat) (v : Word) (blk : Fin 38) (off : Nat) (f : Field),
      placeOf addr = some (blk.val, off) →
      s.absent blk.val = false →
      s.copyView.inSoftReset blk.val = false →
      s.bridges[blk].fifo.length < 16 →
      s.bridges[blk].stalled = [] →
      fieldsAt blk.val off = [f] →
      f.acc = .rw →
      f.eff ≠ .stat →
      f.of v ≠ s.copyView.rd f →
      s.copyView.valueRefused who f v = false →
      f.isGo = false →
      ∃ t, exec (.registerWrite who addr v) s = .next t
        ∧ t.bridges[blk].fifo = s.bridges[blk].fifo ++ [⟨who, off, [⟨f, f.of v, regFind s.copy f.key⟩]⟩]
        ∧ t.rdCopy f = f.of v
        ∧ t.regs = s.regs
        ∧ (∀ b : Fin 38, b ≠ blk → t.bridges[b] = s.bridges[b]))
  ∧ (∀ (s : State) (who : Init) (addr : Nat) (v : Word) (blk : Fin 38) (off : Nat),
      placeOf addr = some (blk.val, off) →
      16 ≤ s.bridges[blk].fifo.length ∨ s.bridges[blk].stalled ≠ [] →
      ∃ t, exec (.registerWrite who addr v) s = .next t
        ∧ t.bridges[blk].stalled = s.bridges[blk].stalled ++ [⟨who, off, v⟩]
        ∧ t.bridges[blk].fifo = s.bridges[blk].fifo
        ∧ t.regs = s.regs
        ∧ t.copy = s.copy)
  ∧ (∀ (s : State) (who : Init) (addr : Nat) (v : Word) (blk : Fin 38) (off : Nat) (f : Field),
      placeOf addr = some (blk.val, off) →
      s.absent blk.val = false →
      s.copyView.inSoftReset blk.val = false →
      s.bridges[blk].fifo.length < 16 →
      s.bridges[blk].stalled = [] →
      fieldsAt blk.val off = [f] →
      f.acc = .rw →
      f.eff = .stat →
      s.copyView.ownerOn f = true →
      f.of v ≠ s.copyView.rd f →
      s.rdB R.SYS_CFG_ERR_valid = false →
      ∃ t, exec (.registerWrite who addr v) s = .next t
        ∧ t.bridges = s.bridges
        ∧ t.copy = s.copy
        ∧ t.rd R.SYS_CFG_ERR_valid = 1
        ∧ t.rd R.SYS_CFG_ERR_cause = 0
        ∧ t.rd R.SYS_CFG_ERR_block = blk.val
        ∧ t.rd R.SYS_CFG_ERR_offset = off
        ∧ s.blocksKept [0] t)
  ∧ (∀ (s : State) (who : Init) (addr : Nat) (v : Word) (blk : Fin 38) (off : Nat) (f : Field),
      placeOf addr = some (blk.val, off) →
      s.absent blk.val = false →
      s.copyView.inSoftReset blk.val = false →
      s.bridges[blk].fifo.length < 16 →
      s.bridges[blk].stalled = [] →
      fieldsAt blk.val off = [f] →
      f.acc = .rwl →
      f.unlock.contains s.copyView.lc.code = false →
      f.of v ≠ s.copyView.rd f →
      s.rdB R.SYS_CFG_ERR_valid = false →
      ∃ t, exec (.registerWrite who addr v) s = .next t
        ∧ t.bridges = s.bridges
        ∧ t.copy = s.copy
        ∧ t.rd R.SYS_CFG_ERR_cause = 1
        ∧ t.rd R.SYS_CFG_ERR_block = blk.val
        ∧ s.blocksKept [0] t)
  ∧ (∀ (s : State) (who : Init) (addr : Nat) (v : Word),
      placeOf addr = none →
      s.rdB R.SYS_CFG_ERR_valid = false →
      ∃ t, exec (.registerWrite who addr v) s = .next t
        ∧ t.bridges = s.bridges
        ∧ t.rd R.SYS_CFG_ERR_valid = 1
        ∧ t.rd R.SYS_CFG_ERR_cause = 3
        ∧ t.rd R.SYS_CFG_ERR_write = 1
        ∧ t.rd R.SYS_CFG_ERR_initiator = who.code
        ∧ t.rd R.SYS_CFG_ERR_block = 63
        ∧ t.rd R.SYS_CFG_ERR_offset = addr % 65536
        ∧ s.blocksKept [0] t)
  ∧ (∀ (s : State) (blk : Fin 38) (p : Stalled) (r : List Stalled),
      s.bridges[blk].stalled = p :: r →
      ∃ t, exec (.writeTimeout blk) s = .next t
        ∧ t.bridges[blk].stalled = r
        ∧ t.bridges[blk].fifo = s.bridges[blk].fifo
        ∧ t.rd R.SYS_CFG_ERR_CNT_count = satAdd (2 ^ R.SYS_CFG_ERR_CNT_count.w - 1) (s.rd R.SYS_CFG_ERR_CNT_count) 1
        ∧ (s.rdB R.SYS_CFG_ERR_valid = false → t.rd R.SYS_CFG_ERR_cause = 4 ∧ t.rd R.SYS_CFG_ERR_valid = 1 ∧ t.rd R.SYS_CFG_ERR_initiator = p.init.code)
        ∧ (s.rdB R.SYS_CFG_ERR_valid = true → t.rd R.SYS_CFG_ERR_overflow = 1 ∧ t.rd R.SYS_CFG_ERR_cause = s.rd R.SYS_CFG_ERR_cause)
        ∧ s.blocksKept [0] t)
  ∧ (∀ (s : State) (blk : Fin 38) (p : Posted) (f : Field) (v : Nat) (o : Option Word),
      s.bridges[blk].fifo = [p] →
      s.bridges[blk].stalled = [] →
      s.clockStopped blk.val = false →
      s.isolated.contains blk.val = false →
      p.acts = [⟨f, v, o⟩] →
      f ∈ fieldsAt blk.val p.off →
      f.acc = .rw →
      f.eff = .live →
      f.own = false →
      p.srst blk.val = none →
      v < 2 ^ f.w →
      s.shadows = [] →
      ∃ t, exec (.bridgeWriteApply blk) s = .next t
        ∧ t.bridges[blk].fifo = []
        ∧ t.rd f = v
        ∧ s.fieldsKept [f] t)
  ∧ (∀ (s : State) (blk : Fin 38) (p : Posted) (r : List Posted),
      s.bridges[blk].fifo = p :: r →
      s.clockStopped blk.val = true →
      ∃ t, exec (.bridgeWriteApply blk) s = .next t
        ∧ t = s)
  ∧ (∀ (s : State) (who : Init) (addr : Nat) (blk off : Nat),
      s.registerAt addr = some (blk, off) →
      isPairLow blk off = true →
      s.inSoftReset blk = false →
      ∃ t, exec (.pairLowRead who addr) s = .next t
        ∧ t.heldHigh blk off = BitVec.ofNat 32 (s.wordReads blk (off + 4))
        ∧ t.reply = BitVec.ofNat 32 (s.wordReads blk off)
        ∧ t.regs = s.regs
        ∧ (∀ k, k ≠ fieldKey blk off 0 → regFind t.holding k = regFind s.holding k))
  ∧ (∀ (s : State) (who : Init) (addr : Nat) (blk off : Nat) (f : Field),
      s.registerAt addr = some (blk, off) →
      s.inSoftReset blk = false →
      fieldsAt blk off = [f] →
      f.acc = .rc →
      isPairLow blk off = false →
      (4 ≤ off → isPairLow blk (off - 4) = false) →
      ¬ (blk = 0 ∧ 0x140 ≤ off ∧ off < 0x158) →
      ¬ (blk = 0 ∧ off = 0x103C) →
      ¬ (blk = 0 ∧ 0x20 ≤ off ∧ off < 0x120) →
      ¬ (blk = 31 ∧ off = 0x18) →
      ¬ (8 ≤ blk ∧ blk < 16 ∧ off = 0x54) →
      ∃ t, exec (.rcFieldRead who addr) s = .next t
        ∧ t.rd f = 0
        ∧ t.reply = BitVec.ofNat 32 (s.rd f % 2 ^ f.w * 2 ^ f.lo)
        ∧ s.fieldsKept [f] t)
  ∧ (∀ (s : State) (wr : Bool) (addr : Nat) (v : Word),
      s.lc = .deployed ∨ s.lc = .retired →
      ∃ t, exec (.debugPortAccess wr addr v) s = .next t
        ∧ t = s)
  ∧ (∀ (s : State) (addr : Nat) (v : Word),
      s.lc = .service →
      s.rdB R.SYS_CFG_ERR_valid = false →
      ∃ t, exec (.debugPortAccess true addr v) s = .next t
        ∧ t.rd R.SYS_CFG_ERR_valid = 1
        ∧ t.rd R.SYS_CFG_ERR_cause = 5
        ∧ t.bridges = s.bridges
        ∧ t.dram = s.dram
        ∧ t.buf = s.buf
        ∧ s.blocksKept [0] t)
  ∧ (∀ (s : State) (addr : Nat) (v : Word),
      s.lc = .blank ∨ s.lc = .manufacture →
      0x8000000 ≤ addr ∧ addr < 0x8030000 →
      addr % 4 = 0 →
      Memory.wf s.sram.aon = true →
      ∃ t, exec (.debugPortAccess true addr v) s = .next t
        ∧ memReadLe t.sram.aon (addr - 0x8000000) 4 = v.toNat
        ∧ t.regs = s.regs
        ∧ t.dram = s.dram)
  ∧ (∀ (s : State) (addr : Nat) (v : Word),
      s.lc = .blank ∨ s.lc = .manufacture ∨ s.lc = .service →
      0x8000000 ≤ addr ∧ addr < 0x8030000 →
      addr % 4 = 0 →
      ∃ t, exec (.debugPortAccess false addr v) s = .next t
        ∧ t.reply = BitVec.ofNat 32 (memReadLe s.sram.aon (addr - 0x8000000) 4)
        ∧ t.sram = s.sram
        ∧ t.regs = s.regs)

/-- R33: an address of the control space that no block occupies, that its block does not implement, or of an instance that the Jig marks
absent, reads 0; a write there changes nothing; both are recorded in SYS_CFG_ERR. Where the spec leaves a point open, the clauses follow
the model's choice (assumption 35). -/
def Obligations.UnmappedAccesses : Prop :=
  (∀ (s : State) (who : Init) (addr : Nat) (wr : Bool),
      addr / 0x10000000 = 4 →
      placeOf addr = none ∨ ((placeOf addr).any (fun p => (fieldsAt p.1 p.2).isEmpty || s.absent p.1)) = true →
      ∃ t, exec (.unmappedAccess who wr addr) s = .next t
        ∧ t.rd R.SYS_CFG_ERR_CNT_count = satAdd (2 ^ R.SYS_CFG_ERR_CNT_count.w - 1) (s.rd R.SYS_CFG_ERR_CNT_count) 1
        ∧ (s.rdB R.SYS_CFG_ERR_valid = false → t.rd R.SYS_CFG_ERR_valid = 1 ∧ t.rd R.SYS_CFG_ERR_cause = 3 ∧ t.rd R.SYS_CFG_ERR_initiator = who.code ∧ t.rd R.SYS_CFG_ERR_offset = addr % 65536)
        ∧ (s.rdB R.SYS_CFG_ERR_valid = false → t.rdB R.SYS_CFG_ERR_write = wr)
        ∧ (wr = false → t.reply = 0)
        ∧ (wr = true → t.reply = s.reply)
        ∧ t = { s with regs := t.regs, irq := t.irq, reply := t.reply }
        ∧ s.fieldsKept [R.SYS_CFG_ERR_CNT_count, R.SYS_CFG_ERR_valid, R.SYS_CFG_ERR_cause, R.SYS_CFG_ERR_initiator, R.SYS_CFG_ERR_offset, R.SYS_CFG_ERR_block, R.SYS_CFG_ERR_write, R.SYS_CFG_ERR_overflow] t)
  ∧ (∀ (s : State) (who : Init) (addr : Nat),
      addr / 0x10000000 = 4 →
      (placeOf addr).any (fun p => (fieldsAt p.1 p.2).isEmpty) = true →
      ∃ t, exec (.unmappedAccess who false addr) s = .next t
        ∧ t.reply = 0
        ∧ t.bridges = s.bridges ∧ t.copy = s.copy)

/-- Cores start and stop by core_run, sources are completed, and the debug UART keeps its bytes in order (parts of R46, R66, R566). In every
state and for all operands that meet the conditions of a clause, the command answers the next state that the clause describes. Commands:
CORE_RUN_WRITE, IRQ_COMPLETE, UART_TX_WRITE, UART_RX_BYTE, UART_RX_POP, UART_TX_BYTE_SENT. Where the spec leaves a point open, the clauses
follow the model's choices (assumptions 32 and 33). -/
def Obligations.CoresAndPorts : Prop :=
  (∀ (s : State) (who : Init) (run : BitVec 6),
      s.reaches 0 →
      run ≠ 0 →
      ∃ t, exec (.coreRunWrite who run) s = .next t
        ∧ t.rd R.SYS_RST_CTL_core_run = run.toNat
        ∧ (∀ c : Fin 6, bitAt run.toNat c.val = false → t.cores[c] = .held)
        ∧ (∀ c : Fin 6, bitAt run.toNat c.val = true → s.rdBit R.SYS_RST_CTL_core_run c.val = true → t.cores[c] = s.cores[c])
        ∧ t.dram = s.dram
        ∧ s.blocksKept [0] t)
  ∧ (∀ (s : State) (who : Init),
      s.reaches 0 →
      s.rdB R.SYS_CFG_ERR_valid = false →
      ∃ t, exec (.coreRunWrite who 0) s = .next t
        ∧ t.cores = s.cores
        ∧ t.rd R.SYS_RST_CTL_core_run = s.rd R.SYS_RST_CTL_core_run
        ∧ t.rd R.SYS_CFG_ERR_cause = 5)
  ∧ (∀ (s : State) (who : Init) (core : Fin 6) (source : BitVec 8),
      (source.toNat, core.val) ∈ s.irq.service →
      ∃ t, exec (.irqComplete who core source) s = .next t
        ∧ (source.toNat, core.val) ∉ t.irq.service
        ∧ t.irq.latch = s.irq.latch
        ∧ (∀ e, e ∈ t.irq.service → e ∈ s.irq.service)
        ∧ s.fieldsKept [R.SYS_IRQ_CLAIM_valid.at core.val] t)
  ∧ (∀ (s : State) (who : Init) (core : Fin 6) (source : BitVec 8),
      (source.toNat, core.val) ∉ s.irq.service →
      s.rdB R.SYS_CFG_ERR_valid = false →
      ∃ t, exec (.irqComplete who core source) s = .next t
        ∧ t.rd R.SYS_CFG_ERR_cause = 5
        ∧ t.irq.service = s.irq.service)
  ∧ (∀ (s : State) (who : Init) (v : Byte),
      s.uart.tx.length < 16 →
      ∃ t, exec (.uartTxWrite who v) s = .next t
        ∧ t.uart.tx = s.uart.tx ++ [v]
        ∧ t.uart.rx = s.uart.rx
        ∧ t.rd R.SYS_UART_STAT_tx_free = 15 - s.uart.tx.length)
  ∧ (∀ (s : State) (who : Init) (v : Byte),
      16 ≤ s.uart.tx.length →
      s.rdB R.SYS_CFG_ERR_valid = false →
      ∃ t, exec (.uartTxWrite who v) s = .next t
        ∧ t.uart = s.uart
        ∧ t.rd R.SYS_CFG_ERR_cause = 5)
  ∧ (∀ (s : State) (v : Byte),
      s.slotUsed 107 = true →
      s.uart.rx.length < 16 →
      ∃ t, exec (.uartRxByte v) s = .next t
        ∧ t.uart.rx = s.uart.rx ++ [(v, s.uart.lost)]
        ∧ t.uart.lost = false
        ∧ t.uart.tx = s.uart.tx
        ∧ t.rd R.SYS_UART_STAT_rx_cnt = s.uart.rx.length + 1
        ∧ t.rd R.SYS_UART_RX_valid = 1)
  ∧ (∀ (s : State) (v : Byte),
      s.slotUsed 107 = true →
      16 ≤ s.uart.rx.length →
      ∃ t, exec (.uartRxByte v) s = .next t
        ∧ t.uart.rx = s.uart.rx
        ∧ t.uart.lost = true)
  ∧ (∀ (s : State) (v : Byte),
      s.slotUsed 107 = false →
      ∃ t, exec (.uartRxByte v) s = .next t
        ∧ t = s)
  ∧ (∀ (s : State) (who : Init) (v : Byte) (o : Bool) (l : List (Byte × Bool)),
      s.uart.rx = (v, o) :: l →
      l.length < 16 →
      s.rd R.SYS_UART_RX_valid = 1 →
      s.rd R.SYS_UART_RX_data = v.toNat →
      s.rdB R.SYS_UART_RX_ovr = o →
      ∃ t, exec (.uartRxPop who) s = .next t
        ∧ t.uart.rx = l
        ∧ t.reply.toNat % 256 = v.toNat
        ∧ bitAt t.reply.toNat 31 = true
        ∧ t.rd R.SYS_UART_STAT_rx_cnt = l.length)
  ∧ (∀ (s : State) (v : Byte) (l : List Byte),
      s.uart.tx = v :: l →
      l.length < 16 →
      ∃ t, exec .uartTxByteSent s = .next t
        ∧ t.uart.tx = l
        ∧ t.uart.rx = s.uart.rx
        ∧ t.rd R.SYS_UART_STAT_tx_free = 16 - l.length)

/-- R44: a claim read returns the pending source of highest priority that names the core, the lowest number among equals, marks it in service
so that it is pending no more, and returns valid 0 where no source is pending for the core. Where the spec leaves a point open, the
clauses follow the model's choice (assumption 51). -/
def Obligations.InterruptClaims : Prop :=
  (∀ (s : State) (core : Fin 6) (n : Nat),
      s.irqPending n = true →
      s.irqFor n core.val = true →
      n < 256 →
      (∀ m ∈ List.range 256, s.irqPending m = true → s.irqFor m core.val = true → s.rd (R.SYS_IRQ_CFG_prio.at m) < s.rd (R.SYS_IRQ_CFG_prio.at n) ∨ (s.rd (R.SYS_IRQ_CFG_prio.at m) = s.rd (R.SYS_IRQ_CFG_prio.at n) ∧ n ≤ m)) →
      ∃ t, exec (.irqClaim core) s = .next t
        ∧ t.reply = BitVec.ofNat 32 (2 ^ 31 + n)
        ∧ t.irq.service = (n, core.val) :: s.irq.service ∧ t.irqPending n = false
        ∧ t.irq.latch = s.irq.latch.filter (· != n)
        ∧ t.rd (R.SYS_IRQ_CLAIM_valid.at core.val) = 1
        ∧ t.rd (R.SYS_IRQ_CLAIM_source.at core.val) = n
        ∧ s.fieldsKept [R.SYS_IRQ_CLAIM_valid.at core.val, R.SYS_IRQ_CLAIM_source.at core.val] t)
  ∧ (∀ (s : State) (core : Fin 6),
      (∀ m ∈ List.range 256, s.irqPending m = true → s.irqFor m core.val = false) →
      ∃ t, exec (.irqClaim core) s = .next t
        ∧ t.reply = 0
        ∧ t.irq = s.irq
        ∧ t.rd (R.SYS_IRQ_CLAIM_valid.at core.val) = 0)

/-- What POR, the AON supply, RESET_N and WARM reset (parts of R12 to R14, R461, R572). In every state and for all operands that meet the
conditions of a clause, the command answers the next state that the clause describes. Commands: POWER_ON_RESET, AON_POWER_UP, RESET_N_LOW,
WARM_REQUEST, WARM_ASSERT. Where the spec leaves a point open, the clauses follow the model's choices (assumptions 81, 82, 83, 85 and 86). -/
def Obligations.ResetDomains : Prop :=
  (∀ (s : State),
      ∃ t, exec .powerOnReset s = .next t
        ∧ t.rd R.SYS_RST_CAUSE_por = 1
        ∧ t.rd R.SYS_RST_CAUSE_pin = 0
        ∧ t.rd R.JIG_STAT_boot_copy = 0
        ∧ t.rd R.THM_STAT_latched = 0
        ∧ t.driveTime = s.driveTime
        ∧ (s.lc ≠ .service → t.rd R.EVR_SEQ_seq = s.rd R.EVR_SEQ_seq)
        ∧ t.cores = Vector.replicate 6 .held
        ∧ t.dram = []
        ∧ t.pending = s.pending
        ∧ (s.jig.fuseOp = none → t.fuses = s.fuses)
        ∧ t.pwr.bridge = (s.pwr.bridge || decide (s.jig.boot ≠ .reset)))
  ∧ (∀ (s : State),
      ∃ t, exec .aonPowerUp s = .next t
        ∧ t.driveTime = 0
        ∧ t.timeQuality = 0
        ∧ t.evr.ring = []
        ∧ t.rd R.EVR_SEQ_seq = 0
        ∧ t.pwr.coreEn = true
        ∧ t.pwr.aon = 0
        ∧ t.cores = Vector.replicate 6 .held
        ∧ (s.jig.fuseOp = none → t.fuses = s.fuses))
  ∧ (∀ (s : State),
      ∃ t, exec .resetNLow s = .next t
        ∧ t.rd R.SYS_RST_CAUSE_pin = 1
        ∧ t.rd R.SYS_RST_CAUSE_por = s.rd R.SYS_RST_CAUSE_por
        ∧ t.rd R.SYS_RST_CAUSE_soft = s.rd R.SYS_RST_CAUSE_soft
        ∧ t.rd R.THM_STAT_latched = s.rd R.THM_STAT_latched
        ∧ t.rd R.JIG_LC_STAT_fail_cnt = s.rd R.JIG_LC_STAT_fail_cnt
        ∧ t.driveTime = s.driveTime
        ∧ t.bridges = Vector.replicate 38 Bridge.init
        ∧ t.cores = Vector.replicate 6 .held
        ∧ t.dram = []
        ∧ (s.lc = .service → s.jig.fuseOp = none → s.fuses.lifecycle = 2 → t.lc = .deployed))
  ∧ (∀ (s : State) (who : Init),
      s.reaches 0 →
      ∃ t, exec (.warmRequest who) s = .next t
        ∧ t = { s with warmPending := true })
  ∧ (∀ (s : State),
      s.warmPending = true →
      ∃ t, exec .warmAssert s = .next t
        ∧ t.warmPending = false
        ∧ t.rd R.SYS_RST_CAUSE_soft = 1
        ∧ t.rd R.SYS_RST_CAUSE_pin = s.rd R.SYS_RST_CAUSE_pin
        ∧ t.rd R.SYS_RST_CTL_core_run = 1
        ∧ t.rd R.JIG_STAT_lockout = s.rd R.JIG_STAT_lockout
        ∧ t.bridges = Vector.replicate 38 Bridge.init
        ∧ t.copy = []
        ∧ t.dram = []
        ∧ t.driveTime = s.driveTime)

/-- The boot ROM latches straps, trains DRAM, checks the image and runs it or tries the other copy (parts of R53, R61 to R64, R443). In every
state and for all operands that meet the conditions of a clause, the command answers the next state that the clause describes. Commands:
POR_RELEASE, DRAM_TRAINING_DONE, DRAM_TRAINING_RETRY, IMAGE_STREAM_DONE, UART_RECOVERY_IMAGE. Where the spec leaves a point open, the
clauses follow the model's choices (assumptions 2, 15, 54, 82 and 88). -/
def Obligations.BootSequence : Prop :=
  (∀ (s : State) (strapBoot strapRole : BitVec 2) (strapXtal : Bool),
      s.jig.boot = .reset →
      ∃ t, exec (.porRelease strapBoot strapRole strapXtal) s = .next t
        ∧ t.rd R.JIG_STRAP_boot = strapBoot.toNat
        ∧ t.rd R.JIG_STRAP_role = strapRole.toNat
        ∧ t.rdB R.JIG_STRAP_xtal = strapXtal
        ∧ t.lc = s.fuses.state
        ∧ t.rd R.JIG_RBK_STAT_floor = s.fuses.floor % 128
        ∧ t.jig.boot = .training
        ∧ t.jig.trying = (if strapBoot = 1 then 1 - s.preferred else s.preferred)
        ∧ (s.pwr.change = none → s.cores[0] = .held → t.cores[0] = .running 0))
  ∧ (∀ (s : State) (density : Fin 3) (ranks : Bool),
      s.jig.boot = .training →
      s.cores[0] ≠ .held →
      ∃ t, exec (.dramTrainingDone 0 0 density ranks) s = .next t
        ∧ t.rd R.DRC_STAT_ready = 15
        ∧ t.rd R.DRC_STAT_rate = 0
        ∧ t.rd R.DRC_CFG_density = density.val
        ∧ t.jig.boot = (if s.rd R.JIG_STRAP_boot = 2 ∧ (s.lc = .blank ∨ s.lc = .manufacture) then .uart else .stream))
  ∧ (∀ (s : State) (fast slow : BitVec 4) (density : Fin 3) (ranks : Bool),
      s.jig.boot = .training →
      s.cores[0] ≠ .held →
      fast ≠ 0 →
      ∃ t, exec (.dramTrainingDone fast slow density ranks) s = .next t
        ∧ t.rd R.DRC_STAT_trn_fail = (fast ||| slow).toNat
        ∧ t.jig.boot = (if slow = 0 then (if s.rd R.JIG_STRAP_boot = 2 ∧ (s.lc = .blank ∨ s.lc = .manufacture) then .uart else .stream) else .retry)
        ∧ (slow = 0 → t.rd R.DRC_STAT_rate = 2)
        ∧ (slow ≠ 0 → t.rd R.DRC_STAT_ready = 15 - slow.toNat))
  ∧ (∀ (s : State),
      s.jig.boot = .retry →
      ∃ t, exec .dramTrainingRetry s = .next t
        ∧ t = { s with jig := { s.jig with boot := .training } })
  ∧ (∀ (s : State),
      s.jig.boot = .stream →
      ∃ t, exec .imageStreamDone s = .next t
        ∧ ((s.imageCheck (s.flashDev s.jig.trying).copy).2 = true → t.jig.boot = .running ∧ t.rd R.JIG_GOLD_BASE_lock = 1 ∧ t.rd R.JIG_STAT_gold_ok = 1)
        ∧ ((s.imageCheck (s.flashDev s.jig.trying).copy).2 = false → s.jig.triedOther = false → t.jig.boot = .stream ∧ t.jig.trying = 1 - s.jig.trying ∧ t.jig.triedOther = true)
        ∧ ((s.imageCheck (s.flashDev s.jig.trying).copy).2 = false → s.jig.triedOther = true → t.jig.boot = (if s.lc = .retired then .halted else .uart)))
  ∧ (∀ (s : State) (bytes : List Byte),
      s.jig.boot = .uart →
      ∃ t, exec (.uartRecoveryImage bytes) s = .next t
        ∧ ((s.imageCheck (bytes.take goldSlotBytes)).2 = true → t.jig.boot = .running ∧ t.rd R.JIG_STAT_boot_copy = 2)
        ∧ ((s.imageCheck (bytes.take goldSlotBytes)).2 = false → t.jig.boot = .uart ∧ t.flash = s.flash))

/-- R73: at the release of POR or WARM the fuses are sensed, and a life-cycle pattern that stands for none of BLANK, MANUFACTURE, DEPLOYED and
RETIRED reads as RETIRED. Where the spec leaves a point open, the clauses follow the model's choice (assumption 52). -/
def Obligations.FusePatterns : Prop :=
  ∀ (s : State) (strapBoot strapRole : BitVec 2) (strapXtal : Bool),
      s.jig.boot = .reset →
      s.fuses.lifecycle ≠ 0 →
      s.fuses.lifecycle ≠ 1 →
      s.fuses.lifecycle ≠ 2 →
      ∃ t, exec (.porRelease strapBoot strapRole strapXtal) s = .next t
        ∧ t.lc = .retired
        ∧ t.fuses = s.fuses

/-- Key slots, the service key, revocation and the roll-back floor change (parts of R54 to R56, R577). In every state and for all operands
that meet the conditions of a clause, the command answers the next state that the clause describes. Commands: KEY_PROGRAM_SLOT,
KEY_REVOKE_SLOT, KEY_PROGRAM_SERVICE, FUSE_PROGRAM_DONE, ROLLBACK_RAISE, ROLLBACK_PROGRAM_DONE. Where the spec leaves a point open, the
clauses follow the model's choices (assumptions 11, 65 and 66). -/
def Obligations.KeysAndRollback : Prop :=
  (∀ (s : State) (who : Init) (slot : Fin 4),
      s.reaches 1 →
      s.lc = .manufacture →
      s.rdB R.JIG_STAT_busy = false →
      (s.keySlot slot).programmed = false →
      ∃ t, exec (.keyProgramSlot who slot) s = .next t
        ∧ t.jig.fuseOp = some (.keySlot slot (BitVec.ofNat 384 (s.keyWords 12)))
        ∧ t.rd R.JIG_STAT_busy = 1
        ∧ t.fuses = s.fuses)
  ∧ (∀ (s : State) (who : Init) (slot : Fin 4),
      s.reaches 1 →
      s.lc = .manufacture ∨ s.lc = .service →
      s.rdB R.JIG_STAT_busy = false →
      s.rd R.JIG_IMG_INFO_key_slot ≠ slot.val →
      ∃ t, exec (.keyRevokeSlot who slot) s = .next t
        ∧ t.jig.fuseOp = some (.revoke slot)
        ∧ t.rd R.JIG_STAT_busy = 1
        ∧ t.fuses = s.fuses)
  ∧ (∀ (s : State) (who : Init) (slot : Fin 4),
      s.reaches 1 →
      s.lc = .manufacture →
      s.rdB R.JIG_STAT_busy = false →
      s.fuses.svcProgrammed = false →
      ∃ t, exec (.keyProgramService who slot) s = .next t
        ∧ t.jig.fuseOp = some (.svcKey (BitVec.ofNat 256 (s.keyWords 8)))
        ∧ t.rd R.JIG_STAT_busy = 1
        ∧ t.fuses = s.fuses)
  ∧ (∀ (s : State) (n : Fin 4) (v : BitVec 384),
      s.jig.fuseOp = some (.keySlot n v) →
      (s.keySlot n).begun = false →
      ∃ t, exec (.fuseProgramDone true) s = .next t
        ∧ (t.keySlot n).hash = v
        ∧ (t.keySlot n).programmed = true
        ∧ (t.keySlot n).revoked = (s.keySlot n).revoked
        ∧ t.jig.fuseOp = none
        ∧ t.rdBit R.JIG_KEY_STAT_programmed n.val = true)
  ∧ (∀ (s : State) (n : Fin 4),
      s.jig.fuseOp = some (.revoke n) →
      ∃ t, exec (.fuseProgramDone true) s = .next t
        ∧ (t.keySlot n).revoked = true
        ∧ (t.keySlot n).programmed = (s.keySlot n).programmed
        ∧ t.jig.fuseOp = none)
  ∧ (∀ (s : State) (who : Init) (target : BitVec 7),
      s.reaches 1 →
      s.fuses.floor < target.toNat →
      target.toNat ≤ s.rd R.JIG_IMG_INFO_sec_ver →
      target.toNat ≤ 64 →
      s.lc ≠ .blank →
      s.lc ≠ .retired →
      s.rdB R.JIG_STAT_busy = false →
      ∃ t, exec (.rollbackRaise who target) s = .next t
        ∧ t.jig.fuseOp = some (.rollback target.toNat)
        ∧ t.rd R.JIG_STAT_busy = 1
        ∧ t.fuses = s.fuses)
  ∧ (∀ (s : State) (v : Nat),
      s.jig.fuseOp = some (.rollback v) →
      v ≤ 64 →
      ∃ t, exec .rollbackProgramDone s = .next t
        ∧ t.fuses = { s.fuses with floor := v }
        ∧ t.rd R.JIG_RBK_STAT_floor = v
        ∧ t.jig.fuseOp = none)

/-- The JIG loader and the golden copy: loads start and end, the base locks, slots are swapped and repaired (parts of R68 to R71, R575). In
every state and for all operands that meet the conditions of a clause, the command answers the next state that the clause describes.
Commands: LOAD_SECTION, LOAD_WORD, LOAD_DONE, GOLD_LOCK, GOLD_SWAP, GOLD_SWAP_EFFECT, GOLD_REPAIR_DONE. Where the spec leaves a point
open, the clauses follow the model's choices (assumptions 2 and 64). -/
def Obligations.GoldenCopyAndLoader : Prop :=
  (∀ (s : State) (who : Init) (type : BitVec 16) (src : Bool) (index : BitVec 12),
      s.reaches 1 →
      s.loadRefused type.toNat src none = false →
      ∃ t, exec (.loadSection who type src index) s = .next t
        ∧ t.jig.load = some ⟨type.toNat, none, src⟩
        ∧ t.rd R.JIG_STAT_busy = 1
        ∧ t.rd R.JIG_LOAD_CTL_type = type.toNat
        ∧ State.fieldsKept [R.JIG_STAT_busy, R.JIG_LOAD_CTL_type, R.JIG_LOAD_CTL_src, R.JIG_LOAD_CTL_word, R.JIG_LOAD_CTL_index] s t)
  ∧ (∀ (s : State) (who : Init) (type : BitVec 16) (src : Bool) (index : BitVec 12),
      s.reaches 1 →
      s.loadRefused type.toNat src (some index.toNat) = false →
      ∃ t, exec (.loadWord who type src index) s = .next t
        ∧ t.jig.load = some ⟨type.toNat, some index.toNat, src⟩
        ∧ t.rd R.JIG_STAT_busy = 1
        ∧ t.rd R.JIG_LOAD_CTL_index = index.toNat)
  ∧ (∀ (s : State) (l : LoadOp),
      s.jig.load = some l →
      ∃ t, exec .loadDone s = .next t
        ∧ t.jig.load = none
        ∧ (((State.jigBusy (s.updJig (fun j => { j with load := none }))).loadFound l).isSome = true → t.rd R.JIG_LOAD_STAT_done = 1)
        ∧ (((State.jigBusy (s.updJig (fun j => { j with load := none }))).loadFound l).isNone = true → t.rd R.JIG_LOAD_STAT_err = 1))
  ∧ (∀ (s : State) (who : Init),
      s.reaches 1 →
      ∃ t, exec (.goldLock who) s = .next t
        ∧ t = s.wr R.JIG_GOLD_BASE_lock 1)
  ∧ (∀ (s : State) (who : Init),
      s.reaches 1 →
      s.rdB R.JIG_STAT_busy = false →
      s.rdB R.JIG_GOLD_BASE_stage_lock = true →
      imgPart (s.imgOfSlot 1) = true →
      ∃ t, exec (.goldSwap who) s = .next t
        ∧ t.jig.swap = some (s.flash.dev0.record, s.flash.dev1.record)
        ∧ t.rd R.JIG_STAT_busy = 1
        ∧ t.rd R.JIG_GOLD_BASE_half = s.rd R.JIG_GOLD_BASE_half)
  ∧ (∀ (s : State) (m n : Option BootRecord),
      s.jig.swap = some (m, n) →
      ∃ t, exec .goldSwapEffect s = .next t
        ∧ t.rd R.JIG_GOLD_BASE_half = (1 - s.rd R.JIG_GOLD_BASE_half) % 2
        ∧ t.rd R.JIG_GOLD_BASE_stage_lock = 0
        ∧ t.rd R.JIG_STAT_boot_copy = preferredOf m n % 16
        ∧ t.jig.swap = none
        ∧ t.dram = s.dram)
  ∧ (∀ (s : State) (half type : Nat),
      s.jig.repair = [(half, type)] →
      2 ≤ s.rd R.JIG_STAT_boot_copy →
      ∃ t, exec .goldRepairDone s = .next t
        ∧ t.jig.repair = []
        ∧ t.jig.badSections = (half, type) :: s.jig.badSections
        ∧ t.dram = s.dram)

/-- Life-cycle requests, challenges and fuse transitions (parts of R74 to R76). In every state and for all operands that meet the conditions
of a clause, the command answers the next state that the clause describes. Commands: LC_REQUEST, CHALLENGE, NONCE_EXPIRE,
LC_TRANSITION_DONE. Where the spec leaves a point open, the clauses follow the model's choices (assumptions 2, 52 and 87). -/
def Obligations.LifeCycle : Prop :=
  (∀ (s : State) (who : Init),
      s.reaches 1 →
      s.lc = .manufacture →
      s.quiescing = false →
      s.rdB R.JIG_STAT_busy = false →
      ∃ t, exec (.lcRequest who 4) s = .next t
        ∧ t.jig.fuseOp = some (.lifecycle 4)
        ∧ t.rd R.JIG_STAT_busy = 1
        ∧ t.lc = .manufacture)
  ∧ (∀ (s : State) (who : Init),
      s.reaches 1 →
      s.lc = .service →
      s.quiescing = false →
      s.rdB R.JIG_STAT_busy = false →
      ∃ t, exec (.lcRequest who 2) s = .next t
        ∧ t.lc = .deployed
        ∧ t.rd R.JIG_LC_STAT_result = LcResult.ok.code
        ∧ t.fuses = s.fuses)
  ∧ (∀ (s : State) (who : Init),
      s.reaches 1 →
      s.lc = .deployed →
      s.quiescing = false →
      s.rdB R.JIG_STAT_busy = false →
      s.rdB R.JIG_STAT_lockout = false →
      s.responseOk = false →
      ∃ t, exec (.lcRequest who 3) s = .next t
        ∧ t.lc = .deployed
        ∧ t.rd R.JIG_LC_STAT_fail_cnt = min 8 (s.rd R.JIG_LC_STAT_fail_cnt + 1)
        ∧ t.jig.nonce = .spent
        ∧ t.rd R.JIG_LC_STAT_result = LcResult.mismatch.code)
  ∧ (∀ (s : State) (who : Init),
      s.reaches 1 →
      ∃ t, exec (.challenge who) s = .next t
        ∧ t.jig.nonce = .fresh
        ∧ t.fuses = s.fuses
        ∧ State.fieldsKept ((List.range 8).map R.JIG_CHAL_nonce.at) s t)
  ∧ (∀ (s : State),
      s.jig.nonce = .fresh →
      ∃ t, exec .nonceExpire s = .next t
        ∧ t = { s with jig := { s.jig with nonce := .expired } })
  ∧ (∀ (s : State),
      s.jig.fuseOp = some (.lifecycle 2) →
      ∃ t, exec (.lcTransitionDone true) s = .next t
        ∧ t.lc = .deployed
        ∧ t.fuses = { s.fuses with lifecycle := 2 }
        ∧ t.jig.fuseOp = none
        ∧ t.rd R.JIG_LC_STAT_result = LcResult.ok.code)
  ∧ (∀ (s : State),
      s.jig.fuseOp = some (.lifecycle 4) →
      ∃ t, exec (.lcTransitionDone true) s = .next t
        ∧ t.lc = .retired
        ∧ t.fuses = { s.fuses with lifecycle := 4, svcKey := BitVec.allOnes 256 })

/-- Firmware Image Download fills golden slot 1, and the actions of Firmware Commit answer in order (parts of R68, R77 to R79). In every state
and for all operands that meet the conditions of a clause, the command answers the next state that the clause describes. Commands:
FIRMWARE_IMAGE_DOWNLOAD, FW_COMMIT_REPLACE, FW_COMMIT_REPLACE_ACTIVATE, FW_COMMIT_ACTIVATE, FW_COMMIT_IMMEDIATE. Where the spec leaves a
point open, the clauses follow the model's choices (assumptions 28 and 29). -/
def Obligations.FirmwareCommits : Prop :=
  (∀ (s : State) (ctx : Fin 16384) (c : Context) (off : BitVec 32) (bs : List Byte),
      s.adminLive ctx.val = some c →
      c.cmd = .download off bs →
      off.toNat + bs.length ≤ goldSlotBytes →
      s.goldForbids .outside (s.goldSlot 1 + off.toNat) bs.length = false →
      ∃ t, exec (.firmwareImageDownload ctx) s = .next t
        ∧ t.dram = memWriteBytes s.dram (s.goldSlot 1 + off.toNat) bs
        ∧ (t.ctx ctx.val).bind (·.result) = some ⟨.ok, 0, .none⟩
        ∧ t.flash = s.flash
        ∧ t.regs = s.regs)
  ∧ (∀ (s : State) (ctx : Fin 16384) (c : Context) (off : BitVec 32) (bs : List Byte),
      s.adminLive ctx.val = some c →
      c.cmd = .download off bs →
      off.toNat + bs.length ≤ goldSlotBytes →
      s.goldForbids .outside (s.goldSlot 1 + off.toNat) bs.length = true →
      ∃ t, exec (.firmwareImageDownload ctx) s = .next t
        ∧ t.dram = s.dram
        ∧ (t.ctx ctx.val).bind (·.result) = some ⟨.ok, 0, .none⟩
        ∧ t.rd R.JIG_GOLD_STAT_refused = satAdd (2 ^ R.JIG_GOLD_STAT_refused.w - 1) (s.rd R.JIG_GOLD_STAT_refused) (s.goldLines (s.goldSlot 1 + off.toNat) bs.length))
  ∧ (∀ (s : State) (ctx : Fin 16384) (c : Context) (slot : BitVec 3) (copy : Nat),
      s.adminLive ctx.val = some c →
      c.cmd = .commit 0 slot →
      copyOfSlot slot.toNat = some copy →
      ∃ t, exec (.fwCommitReplace ctx) s = .next t
        ∧ (s.imgOk (s.imgOfSlot 1) = false → (t.ctx ctx.val).bind (·.result) = some ⟨.invalidImage, 0, .none⟩ ∧ t.flash = s.flash)
        ∧ (s.imgOk (s.imgOfSlot 1) = true → s.rd R.JIG_STAT_boot_copy = copy → (t.ctx ctx.val).bind (·.result) = some ⟨.invalidSlot, 0, .none⟩ ∧ t.flash = s.flash)
        ∧ (s.imgOk (s.imgOfSlot 1) = true → s.rd R.JIG_STAT_boot_copy ≠ copy → (t.ctx ctx.val).bind (·.result) = some ⟨.ok, 0, .none⟩ ∧ (t.flashDev copy).copy = imgAll (s.imgOfSlot 1) ∧ (t.flashDev copy).record = (s.flashDev copy).record ∧ t.flashDev (1 - copy) = s.flashDev (1 - copy))
        ∧ t.rd R.JIG_GOLD_BASE_stage_lock = 0
        ∧ t.dram = s.dram)
  ∧ (∀ (s : State) (ctx : Fin 16384) (c : Context) (slot : BitVec 3),
      s.adminLive ctx.val = some c →
      c.cmd = .commit 0 slot →
      copyOfSlot slot.toNat = none →
      ∃ t, exec (.fwCommitReplace ctx) s = .next t
        ∧ (t.ctx ctx.val).bind (·.result) = some ⟨.invalidSlot, 0, .none⟩
        ∧ t.flash = s.flash
        ∧ t.dram = s.dram)
  ∧ (∀ (s : State) (ctx : Fin 16384) (c : Context) (slot : BitVec 3) (copy : Nat),
      s.adminLive ctx.val = some c →
      c.cmd = .commit 1 slot →
      copyOfSlot slot.toNat = some copy →
      ∃ t, exec (.fwCommitReplaceActivate ctx) s = .next t
        ∧ (s.imgOk (s.imgOfSlot 1) = true → s.rd R.JIG_STAT_boot_copy ≠ copy → (t.ctx ctx.val).bind (·.result) = some ⟨.needsReset, 0, .none⟩ ∧ (t.flashDev copy).copy = imgAll (s.imgOfSlot 1) ∧ preferredOf t.flash.dev0.record t.flash.dev1.record = copy ∧ t.host.pendingCommit = some copy)
        ∧ (s.imgOk (s.imgOfSlot 1) = false → (t.ctx ctx.val).bind (·.result) = some ⟨.invalidImage, 0, .none⟩ ∧ t.flash = s.flash)
        ∧ t.rd R.JIG_GOLD_BASE_stage_lock = 0)
  ∧ (∀ (s : State) (ctx : Fin 16384) (c : Context) (slot : BitVec 3) (copy : Nat),
      s.adminLive ctx.val = some c →
      c.cmd = .commit 2 slot →
      copyOfSlot slot.toNat = some copy →
      ∃ t, exec (.fwCommitActivate ctx) s = .next t
        ∧ (s.imgOk (imgOfList (s.flashDev copy).copy) = true → (t.ctx ctx.val).bind (·.result) = some ⟨.needsReset, 0, .none⟩ ∧ (t.flashDev copy).copy = (s.flashDev copy).copy ∧ preferredOf t.flash.dev0.record t.flash.dev1.record = copy ∧ t.host.pendingCommit = some copy)
        ∧ (s.imgOk (imgOfList (s.flashDev copy).copy) = false → (t.ctx ctx.val).bind (·.result) = some ⟨.invalidImage, 0, .none⟩ ∧ t.flash = s.flash)
        ∧ t.rd R.JIG_GOLD_BASE_stage_lock = 0)
  ∧ (∀ (s : State) (ctx : Fin 16384) (c : Context) (slot : BitVec 3) (copy : Nat),
      s.adminLive ctx.val = some c →
      c.cmd = .commit 3 slot →
      copyOfSlot slot.toNat = some copy →
      s.rd R.JIG_STAT_boot_copy ≠ copy →
      ∃ t, exec (.fwCommitImmediate ctx) s = .next t
        ∧ (s.imgOk (s.imgOfSlot 1) = false → (t.ctx ctx.val).bind (·.result) = some ⟨.invalidImage, 0, .none⟩ ∧ t.host.activation = none)
        ∧ (s.imgOk (s.imgOfSlot 1) = true → s.structural = true → (t.ctx ctx.val).bind (·.result) = some ⟨.needsReset, 0, .none⟩ ∧ t.host.activation = none ∧ t.host.pendingCommit = some copy)
        ∧ (s.imgOk (s.imgOfSlot 1) = true → s.structural = false → t.host.activation = some ⟨some ctx.val, copy, .drain, s.rd R.HQE_CTL_fetch0 + 2 * s.rd R.HQE_CTL_fetch1, []⟩ ∧ t.rd R.HQE_CTL_fetch0 = 0 ∧ t.rd R.HQE_CTL_fetch1 = 0 ∧ t.rd R.JIG_GOLD_BASE_stage_lock = 1))

/-- An immediate activation: the drain deadline, the commit point, abandonment, the swap and the restart (parts of R79, R80). In every state
and for all operands that meet the conditions of a clause, the command answers the next state that the clause describes. Commands:
ACTIVATION_DRAIN_DEADLINE, ACTIVATION_FLUSH_DONE, ACTIVATION_FLUSH_DEADLINE, ACTIVATION_RESUME. Where the spec leaves a point open, the
clauses follow the model's choices (assumptions 29 and 30). -/
def Obligations.ImmediateActivation : Prop :=
  (∀ (s : State) (a : Activation),
      s.host.activation = some a →
      a.step = .drain →
      s.host.ctxs = [] →
      ∃ t, exec .activationDrainDeadline s = .next t
        ∧ t.host.activation = some { a with step := .flush }
        ∧ t.regs = s.regs
        ∧ t.host.completions = s.host.completions)
  ∧ (∀ (s : State) (a : Activation) (c : Context),
      s.host.activation = some a →
      a.step = .drain →
      s.host.ctxs = [c] →
      adminCmd c.cmd = false →
      c.result = none →
      c.started = true →
      s.host.cmds = [] →
      ∃ t, exec .activationDrainDeadline s = .next t
        ∧ t.host.activation = some { a with step := .flush }
        ∧ (t.ctx c.no).bind (·.result) = some ⟨.abortRequested, 0, .none⟩)
  ∧ (∀ (s : State) (a : Activation),
      s.host.activation = some a →
      a.step = .flush →
      s.host.cmds.all (fun m => !m.completed) = true →
      ∃ t, exec .activationFlushDone s = .next t
        ∧ t.host.activation = some { a with step := .committed }
        ∧ (a.copy ≤ 1 → preferredOf t.flash.dev0.record t.flash.dev1.record = a.copy)
        ∧ t.flash.dev0.copy = s.flash.dev0.copy ∧ t.flash.dev1.copy = s.flash.dev1.copy
        ∧ t.regs = s.regs)
  ∧ (∀ (s : State) (a : Activation) (n : Nat) (c : Context),
      s.host.activation = some a →
      a.step = .flush →
      a.ctx = some n →
      a.held = [] →
      s.ctx n = some c →
      c.result = none →
      ∃ t, exec .activationFlushDeadline s = .next t
        ∧ t.host.activation = none
        ∧ (t.ctx n).bind (·.result) = some ⟨.maxTime, 0, .none⟩
        ∧ t.rd R.JIG_GOLD_BASE_stage_lock = 0
        ∧ t.flash = s.flash
        ∧ (∀ c : Fin 2, bitAt a.fetch c.val = true → (s.ctrl c.val).en = true → (s.ctrl c.val).rdy = true → t.rd (fetchF c.val) = 1))
  ∧ (∀ (s : State) (a : Activation),
      s.host.activation = some a →
      a.step = .committed →
      ∃ t, exec .activationResume s = .next t
        ∧ t.rd R.JIG_GOLD_BASE_half = 1 - s.rd R.JIG_GOLD_BASE_half
        ∧ t.rd R.JIG_GOLD_BASE_stage_lock = 0
        ∧ t.host.activation = none
        ∧ t.host.pendingCommit = none
        ∧ (∀ c : Fin 6, s.cores[c] = .held → t.cores[c] = .held)
        ∧ t.flash = s.flash)

/-- Level changes run voltage and clock in R450's order, the arbiter admits in request order, and the estimate and idle time are told. In
every state and for all operands that meet the conditions of a clause, the command answers the next state that the clause describes.
Commands: LEVEL_REQUEST, AVS_STATUS_POLL, AVS_TIMEOUT, CLOCK_SWITCH_DONE, AON_EDGE, IDLE_THRESHOLD, ARB_REQUEST, ARBITER_ADMIT,
POWER_ESTIMATE, PMBUS_COMMAND, PMBUS_DONE. Where the spec leaves a point open, the clauses follow the model's choices (assumptions 9, 11,
17 and 92). -/
def Obligations.PowerLevelsAndRails : Prop :=
  (∀ (s : State) (who : Init) (n : BitVec 2),
      s.reaches 2 →
      s.levelFinal = n.toNat →
      ∃ t, exec (.levelRequest who n) s = .next t
        ∧ t = s.wr R.PWR_PLVL_req n.toNat)
  ∧ (∀ (s : State) (who : Init) (n : BitVec 2),
      s.reaches 2 →
      s.levelFinal ≠ n.toNat →
      s.pwr.change = none →
      s.pwr.held = false →
      s.inSleep = false →
      s.pwr.thmP3 = false →
      s.level < n.toNat →
      ∃ t, exec (.levelRequest who n) s = .next t
        ∧ t.rd R.PWR_PLVL_req = n.toNat
        ∧ t.pwr.change = some ⟨s.level, n.toNat, .clock, false, false⟩
        ∧ t.rd R.PWR_PLVL_STAT_cur = s.level
        ∧ t.pwr.written = s.pwr.written
        ∧ s.fieldsKept [R.PWR_PLVL_req, R.PWR_PLVL_STAT_busy] t
        ∧ t.rd R.PWR_PLVL_STAT_busy = 1)
  ∧ (∀ (s : State) (who : Init) (n : BitVec 2),
      s.reaches 2 →
      s.levelFinal ≠ n.toNat →
      s.pwr.change = none →
      s.inSleep = false →
      s.pwr.thmP3 = false →
      n.toNat < s.level →
      s.arbOpen 0 = true →
      ∃ t, exec (.levelRequest who n) s = .next t
        ∧ t.pwr.change = some ⟨s.level, n.toNat, .vdone, false, false⟩
        ∧ t.pwr.written = (s.levelMv n.toNat)
        ∧ t.rd R.PWR_PLVL_STAT_cur = s.level
        ∧ t.rd R.PWR_AVS_STAT_vdone = 0)
  ∧ (∀ (s : State) (who : Init) (n : BitVec 2),
      s.reaches 2 →
      s.levelFinal ≠ n.toNat →
      s.pwr.change.isSome = true ∨ s.inSleep = true ∨ s.pwr.thmP3 = true →
      ∃ t, exec (.levelRequest who n) s = .next t
        ∧ t = (s.wr R.PWR_PLVL_req n.toNat).updPwr (fun p => { p with held := true }))
  ∧ (∀ (s : State) (c : LevelChange) (mv : BitVec 12),
      s.pwr.change = some c →
      c.wait = .vdone →
      c.dst < c.src →
      ∃ t, exec (.avsStatusPoll true mv) s = .next t
        ∧ t.pwr.change = some { c with wait := .clock }
        ∧ t.pwr.acked = s.pwr.written
        ∧ t.rd R.PWR_PLVL_STAT_cur = s.rd R.PWR_PLVL_STAT_cur
        ∧ t.rd R.PWR_AVS_STAT_vdone = 1 ∧ t.rd R.PWR_AVS_STAT_mv = mv.toNat
        ∧ s.blocksKept [2] t)
  ∧ (∀ (s : State) (c : LevelChange) (mv : BitVec 12),
      s.pwr.change = some c →
      c.wait = .vdone →
      ∃ t, exec (.avsStatusPoll false mv) s = .next t
        ∧ t.pwr = s.pwr
        ∧ t.rd R.PWR_AVS_STAT_vdone = 0 ∧ t.rd R.PWR_AVS_STAT_mv = mv.toNat
        ∧ s.fieldsKept [R.PWR_AVS_STAT_vdone, R.PWR_AVS_STAT_mv] t)
  ∧ (∀ (s : State) (c : LevelChange),
      s.pwr.change = some c →
      c.wait = .vdone →
      c.repeated = false →
      ∃ t, exec .avsTimeout s = .next t
        ∧ t.pwr.change = some { c with repeated := true }
        ∧ t.pwr.written = s.pwr.written ∧ t.rd R.PWR_AVS_STAT_vdone = 0
        ∧ t.rd R.PWR_PLVL_STAT_cur = s.rd R.PWR_PLVL_STAT_cur)
  ∧ (∀ (s : State) (c : LevelChange),
      s.pwr.change = some c →
      c.wait = .vdone →
      c.repeated = true →
      s.pwr.held = false →
      s.wantP3 = false →
      ∃ t, exec .avsTimeout s = .next t
        ∧ t.rd R.PWR_PLVL_STAT_fail = 1
        ∧ t.pwr.change = none
        ∧ t.rd R.PWR_PLVL_STAT_cur = s.rd R.PWR_PLVL_STAT_cur
        ∧ (c.dst < c.src → t.pwr.written = (s.levelMv c.src))
        ∧ (c.src ≤ c.dst → t.pwr.written = s.pwr.written)
        ∧ s.blocksKept [2, 4, 36] t)
  ∧ (∀ (s : State) (c : LevelChange),
      s.pwr.change = some c →
      c.wait = .clock →
      c.src ≤ c.dst →
      c.dst < 4 →
      ∃ t, exec .clockSwitchDone s = .next t
        ∧ t.rd R.PWR_PLVL_STAT_cur = c.dst
        ∧ t.pwr.change = some { c with wait := .vdone }
        ∧ t.pwr.written = (s.levelMv c.dst)
        ∧ t.cores = s.cores
        ∧ t.irq = s.irq)
  ∧ (∀ (s : State) (c : LevelChange),
      s.pwr.change = some c →
      c.wait = .clock →
      c.dst < c.src →
      c.dst < 4 →
      s.pwr.held = false →
      s.wantP3 = false →
      ∃ t, exec .clockSwitchDone s = .next t
        ∧ t.rd R.PWR_PLVL_STAT_cur = c.dst
        ∧ t.pwr.change = none
        ∧ t.pwr.written = s.pwr.written
        ∧ (c.confirm = false ∧ s.rdB (R.SYS_IRQ_CFG_nmi.at 16) = false ∧ s.rdB (R.SYS_IRQ_CFG_prio.at 16) = true → 16 ∈ t.irq.latch))
  ∧ (∀ (s : State) (who : Init) (rail : BitVec 2) (ma : BitVec 16),
      s.reaches 2 →
      rail.toNat ≤ 2 →
      s.rd R.PWR_ARB_REQ_granted = 1 →
      s.arbOpen rail.toNat = true →
      ∃ t, exec (.arbRequest who rail ma) s = .next t
        ∧ t.pwr.admitted = (rail.toNat, ma.toNat, s.driveTime) :: s.pwr.admitted
        ∧ t.pwr.queue = s.pwr.queue
        ∧ t.rd R.PWR_ARB_REQ_granted = 1
        ∧ s.fieldsKept [R.PWR_ARB_REQ_rail, R.PWR_ARB_REQ_ma] t)
  ∧ (∀ (s : State) (who : Init) (rail : BitVec 2) (ma : BitVec 16),
      s.reaches 2 →
      rail.toNat ≤ 2 →
      s.rd R.PWR_ARB_REQ_granted = 1 →
      s.arbOpen rail.toNat = false →
      ∃ t, exec (.arbRequest who rail ma) s = .next t
        ∧ t.pwr.queue = s.pwr.queue ++ [{ who := .firmware, rail := rail.toNat, ma := ma.toNat }]
        ∧ t.pwr.admitted = s.pwr.admitted
        ∧ t.rd R.PWR_ARB_REQ_granted = 0
        ∧ s.fieldsKept [R.PWR_ARB_REQ_rail, R.PWR_ARB_REQ_ma, R.PWR_ARB_REQ_granted, R.PWR_ARB_STAT_queued] t)
  ∧ (∀ (s : State) (who : Init) (rail : BitVec 2) (ma : BitVec 16),
      s.reaches 2 →
      s.rdB R.PWR_ARB_REQ_granted = false →
      s.rdB R.SYS_CFG_ERR_valid = false →
      ∃ t, exec (.arbRequest who rail ma) s = .next t
        ∧ t.pwr = s.pwr
        ∧ t.rd R.SYS_CFG_ERR_cause = 5)
  ∧ (∀ (s : State) (q : ArbReq) (l : List ArbReq),
      s.pwr.queue = q :: l →
      q.who = .firmware →
      (s.arbCan q).1 = true →
      ∃ t, exec .arbiterAdmit s = .next t
        ∧ t.pwr.queue = l
        ∧ t.pwr.admitted = (q.rail, q.ma, s.driveTime) :: s.pwr.admitted
        ∧ t.rd R.PWR_ARB_REQ_granted = 1
        ∧ t.rd R.PWR_ARB_STAT_queued = min 255 l.length
        ∧ ((s.arbCan q).2 = true → t.rd R.PWR_ARB_STAT_over = satAdd (2 ^ R.PWR_ARB_STAT_over.w - 1) (s.rd R.PWR_ARB_STAT_over) 1)
        ∧ s.fieldsKept [R.PWR_ARB_REQ_granted, R.PWR_ARB_STAT_queued, R.PWR_ARB_STAT_over] t)
  ∧ (∀ (s : State) (q : ArbReq) (l : List ArbReq),
      s.pwr.queue = q :: l →
      (s.arbCan q).1 = false →
      ∃ t, exec .arbiterAdmit s = .next t
        ∧ t = s)
  ∧ (∀ (s : State) (who : Init) (read : Bool) (addr : BitVec 7) (cmd : BitVec 8),
      s.reaches 2 →
      s.rdB R.PWR_PMB_CMD_busy = false →
      ∃ t, exec (.pmbusCommand who read addr cmd) s = .next t
        ∧ t.rd R.PWR_PMB_CMD_busy = 1 ∧ t.rdB R.PWR_PMB_CMD_read = read
        ∧ t.rd R.PWR_PMB_CMD_addr = addr.toNat ∧ t.rd R.PWR_PMB_CMD_cmd = cmd.toNat
        ∧ t.irq = s.irq
        ∧ s.fieldsKept [R.PWR_PMB_CMD_busy, R.PWR_PMB_CMD_read, R.PWR_PMB_CMD_addr, R.PWR_PMB_CMD_cmd] t)
  ∧ (∀ (s : State) (nack : Bool) (data : BitVec 16),
      s.rdB R.PWR_PMB_CMD_busy = true →
      ∃ t, exec (.pmbusDone nack data) s = .next t
        ∧ t.rd R.PWR_PMB_CMD_busy = 0 ∧ t.rdB R.PWR_PMB_DATA_nack = nack
        ∧ (s.rdB R.PWR_PMB_CMD_read = true ∧ nack = false → t.rd R.PWR_PMB_DATA_data = data.toNat)
        ∧ (s.rdB R.PWR_PMB_CMD_read = false ∨ nack = true → t.rd R.PWR_PMB_DATA_data = s.rd R.PWR_PMB_DATA_data)
        ∧ (s.rdB (R.SYS_IRQ_CFG_nmi.at 22) = false ∧ s.rdB (R.SYS_IRQ_CFG_prio.at 22) = true → 22 ∈ t.irq.latch)
        ∧ s.fieldsKept [R.PWR_PMB_CMD_busy, R.PWR_PMB_DATA_nack, R.PWR_PMB_DATA_data] t)
  ∧ (∀ (s : State) (ns : BitVec 32),
      s.shadows = [] →
      s.timeRuns = true →
      ∃ t, exec (.aonEdge ns) s = .next t
        ∧ t.driveTime = (s.driveTime + ns.toNat) % 2 ^ 64
        ∧ t.pwr = { s.pwr with aon := (s.pwr.aon + 1) % 2 ^ 48, capDt := t.driveTime, capCount := (s.pwr.aon + 1) % 2 ^ 48 }
        ∧ s.fieldsKept [R.PWR_DT_dt.at 0, R.PWR_DT_dt.at 1] t)
  ∧ (∀ (s : State) (ns : BitVec 32),
      s.shadows = [] →
      s.pwr.bridge = true →
      ∃ t, exec (.aonEdge ns) s = .next t
        ∧ t.driveTime = (s.pwr.capDt + (s.rd R.PWR_DT_Q_frac + ((s.pwr.aon + 1) % 2 ^ 48 + 2 ^ 48 - s.pwr.capCount) % 2 ^ 48 * 1953125) / 64) % 2 ^ 64
        ∧ t.rd R.PWR_DT_Q_frac = (s.rd R.PWR_DT_Q_frac + ((s.pwr.aon + 1) % 2 ^ 48 + 2 ^ 48 - s.pwr.capCount) % 2 ^ 48 * 1953125) % 64
        ∧ t.pwr.bridge = false
        ∧ t.timeQuality = (if s.rdB R.JIG_STRAP_xtal = true ∧ s.timeQuality ≠ 2 then 1 else 2))
  ∧ (∀ (s : State) (ns : BitVec 32),
      s.shadows = [] →
      s.pwr.bridge = false →
      s.timeRuns = false →
      ∃ t, exec (.aonEdge ns) s = .next t
        ∧ t = s.updPwr (fun p => { p with aon := (p.aon + 1) % 2 ^ 48 }))
  ∧ (∀ (s : State) (k : Fin 3),
      s.deviceIdle = true →
      s.rd (R.PWR_IDLE_ms.at k.val) ≠ 0 →
      ∃ t, exec (.idleThreshold k) s = .next t
        ∧ t.rd R.PWR_IDLE_STAT_count = s.rd (R.PWR_IDLE_ms.at k.val)
        ∧ t.rdBit R.PWR_IDLE_STAT_reached k.val = true
        ∧ (s.rdB (R.SYS_IRQ_CFG_nmi.at 20) = false ∧ s.rdB (R.SYS_IRQ_CFG_prio.at 20) = true → 20 ∈ t.irq.latch)
        ∧ s.fieldsKept [R.PWR_IDLE_STAT_count, R.PWR_IDLE_STAT_reached] t)
  ∧ (∀ (s : State) (k : Fin 3),
      s.deviceIdle = false ∨ s.rd (R.PWR_IDLE_ms.at k.val) = 0 →
      ∃ t, exec (.idleThreshold k) s = .next t
        ∧ t = s)
  ∧ (∀ (s : State),
      s.powerMw ≤ s.rd R.PWR_CAP_cap * 10 →
      ∃ t, exec .powerEstimate s = .next t
        ∧ t.rd R.PWR_EST_over = 0 ∧ t.pwr.overRun = 0
        ∧ t.irq = s.irq
        ∧ (s.powerMw % 10 = 0 → t.rd R.PWR_EST_mw = s.powerMw / 10 % 2 ^ R.PWR_EST_mw.w)
        ∧ s.fieldsKept [R.PWR_EST_mw, R.PWR_EST_over] t)
  ∧ (∀ (s : State),
      s.rd R.PWR_CAP_cap * 10 < s.powerMw →
      ∃ t, exec .powerEstimate s = .next t
        ∧ t.pwr.overRun = s.pwr.overRun + 1
        ∧ (1 ≤ s.pwr.overRun → t.rd R.PWR_EST_over = 1)
        ∧ (s.pwr.overRun = 0 → t.rd R.PWR_EST_over = s.rd R.PWR_EST_over)
        ∧ s.fieldsKept [R.PWR_EST_mw, R.PWR_EST_over] t)

/-- Sleep runs Prepare, votes, Commit and exit: who may enter, who aborts, what Calm and Doldrums turn off, and what a wake does. In every
state and for all operands that meet the conditions of a clause, the command answers the next state that the clause describes. Commands:
SLEEP_GO, VOTE_YES, COMMIT_DONE, VOTE_WITHDRAWAL, PREPARE_TIMEOUT, VOTER_RELEASE, BACKOFF_END, WAKE_EVENT, SLEEP_EXIT_DONE, AON_ALARM,
GPIO_WAKE. Where the spec leaves a point open, the clauses follow the model's choices (assumptions 34, 46 and 92). -/
def Obligations.SleepAndWake : Prop :=
  (∀ (s : State) (who : Init) (target : BitVec 2) (inL2 : BitVec 2),
      s.reaches 2 →
      target.toNat ≠ 3 →
      s.phaseIs .run = true →
      s.sleepMay target.toNat inL2.toNat = true →
      ∃ t, exec (.sleepGo who target inL2) s = .next t
        ∧ t.rd R.PWR_SLEEP_STAT_phase = 1 ∧ t.rd R.PWR_SLEEP_STAT_votes = 0
        ∧ t.pwr.target = target.toNat ∧ t.pwr.doorbell = false
        ∧ s.fieldsKept [R.PWR_SLEEP_CTL_target, R.PWR_SLEEP_STAT_phase, R.PWR_SLEEP_STAT_votes] t)
  ∧ (∀ (s : State) (who : Init) (target : BitVec 2) (inL2 : BitVec 2),
      s.reaches 2 →
      target.toNat ≠ 3 →
      s.phaseIs .run = false ∨ s.sleepMay target.toNat inL2.toNat = false →
      s.rdB R.SYS_CFG_ERR_valid = false →
      ∃ t, exec (.sleepGo who target inL2) s = .next t
        ∧ t.pwr = s.pwr
        ∧ t.rd R.PWR_SLEEP_STAT_phase = s.rd R.PWR_SLEEP_STAT_phase
        ∧ t.rd R.SYS_CFG_ERR_cause = 5)
  ∧ (∀ (s : State) (voter : Fin 11) (inL2 : BitVec 2),
      s.phaseIs .prepare = true →
      s.withdrawn inL2.toNat = none →
      (List.range voter.val).all (fun i => s.voted i) = true →
      s.voted voter.val = false →
      s.voteHolds inL2.toNat voter.val = true →
      voter.val < 10 →
      s.rd R.PWR_SLEEP_STAT_votes < 2 ^ (voter.val + 1) →
      ∃ t, exec (.voteYes voter inL2) s = .next t
        ∧ t.voted voter.val = true
        ∧ t.rd R.PWR_SLEEP_STAT_votes = s.rd R.PWR_SLEEP_STAT_votes + 2 ^ voter.val
        ∧ t.rd R.PWR_SLEEP_STAT_phase = 1
        ∧ (voter.val = 7 ∧ 1 ≤ s.pwr.target → t.rd R.BUF_STAT_draining = 1 ∧ t.pwr.draining = true)
        ∧ (voter.val ≠ 7 → t.pwr = s.pwr)
        ∧ s.fieldsKept [R.PWR_SLEEP_STAT_votes, R.BUF_STAT_draining] t)
  ∧ (∀ (s : State) (voter : Fin 11) (inL2 : BitVec 2),
      s.phaseIs .prepare = true →
      s.withdrawn inL2.toNat = none →
      s.rd R.PWR_SLEEP_STAT_votes = 0x3FF →
      voter.val = 10 →
      s.voteHolds inL2.toNat 10 = true →
      ∃ t, exec (.voteYes voter inL2) s = .next t
        ∧ t.rd R.PWR_SLEEP_STAT_votes = 0x7FF
        ∧ t.rd R.PWR_SLEEP_STAT_phase = 2
        ∧ (s.pwr.target ≤ 1 ∧ s.pwr.change = none ∧ s.level < 3 → t.pwr.change = some ⟨s.level, 3, .clock, false, false⟩))
  ∧ (∀ (s : State) (voter : Fin 11) (inL2 : BitVec 2),
      s.phaseIs .prepare = true →
      s.voted voter.val = true →
      s.voteHolds inL2.toNat voter.val = false →
      s.pwr.draining = false →
      ∃ t, exec (.voteWithdrawal voter inL2) s = .next t
        ∧ t.rd R.PWR_SLEEP_STAT_phase = 5
        ∧ t.rd R.PWR_SLEEP_STAT_abort_by = voter.val
        ∧ t.rd R.PWR_SLEEP_STAT_votes = 0
        ∧ t.rd R.PWR_CNT_aborts = satAdd (2 ^ R.PWR_CNT_aborts.w - 1) (s.rd R.PWR_CNT_aborts) 1
        ∧ t.pwr.aborts = s.pwr.aborts + 1 ∧ t.pwr.backoffMs = s.rd R.PWR_SLEEP_CFG_backoff * 2 ^ min (s.pwr.aborts + 1) 4
        ∧ t.pwr.releasing = [])
  ∧ (∀ (s : State) (voter : Fin 11) (inL2 : BitVec 2),
      s.phaseIs .prepare = false ∨ s.voted voter.val = false →
      ∃ t, exec (.voteWithdrawal voter inL2) s = .next t
        ∧ t = s)
  ∧ (∀ (s : State),
      s.phaseIs .prepare = true →
      s.pwr.draining = true →
      ∃ t, exec .prepareTimeout s = .next t
        ∧ t.rd R.PWR_SLEEP_STAT_phase = 5 ∧ t.rd R.PWR_SLEEP_STAT_abort_by = 15
        ∧ t.rd R.PWR_SLEEP_STAT_votes = s.rd R.PWR_SLEEP_STAT_votes
        ∧ t.pwr.aborts = s.pwr.aborts + 1
        ∧ t.pwr.draining = true
        ∧ s.fieldsKept [R.PWR_SLEEP_STAT_phase, R.PWR_SLEEP_STAT_abort_by, R.PWR_CNT_aborts] t)
  ∧ (∀ (s : State),
      s.phaseIs .backoff = true →
      s.rdB R.BUF_STAT_draining = false →
      s.pwr.releasing ≠ [] →
      ∃ t, exec .voterRelease s = .next t
        ∧ t.pwr.draining = false ∧ t.pwr.releasing = []
        ∧ t.rd R.PWR_SLEEP_STAT_votes = 0
        ∧ t.rd R.PWR_SLEEP_STAT_phase = 5)
  ∧ (∀ (s : State),
      s.phaseIs .backoff = false ∨ s.rdB R.BUF_STAT_draining = true →
      ∃ t, exec .voterRelease s = .next t
        ∧ t = s)
  ∧ (∀ (s : State),
      s.phaseIs .backoff = true →
      ∃ t, exec .backoffEnd s = .next t
        ∧ t = s.wr R.PWR_SLEEP_STAT_phase 0)
  ∧ (∀ (s : State),
      s.phaseIs .backoff = false →
      ∃ t, exec .backoffEnd s = .next t
        ∧ t = s)
  ∧ (∀ (s : State),
      s.phaseIs .commit = true →
      s.pwr.target = 2 →
      s.pwr.wakeKept = none →
      ∃ t, exec .commitDone s = .next t
        ∧ t.rd R.PWR_SLEEP_STAT_phase = 3
        ∧ t.pwr.coreEn = false ∧ t.pwr.aborts = 0
        ∧ t.rd R.PWR_CNT_entries = satAdd (2 ^ R.PWR_CNT_entries.w - 1) (s.rd R.PWR_CNT_entries) 1
        ∧ t.dram = s.dram ∧ t.cores = s.cores
        ∧ s.fieldsKept [R.PWR_SLEEP_STAT_phase, R.PWR_CNT_entries] t)
  ∧ (∀ (s : State),
      s.phaseIs .commit = true →
      s.pwr.target = 1 →
      s.level = 3 →
      s.pwr.change = none →
      s.pwr.wakeKept = none →
      ∃ t, exec .commitDone s = .next t
        ∧ t.rd R.PWR_SLEEP_STAT_phase = 3
        ∧ (∀ c : Fin 6, t.cores[c] = .held)
        ∧ t.dram = s.dram ∧ t.pwr.coreEn = s.pwr.coreEn
        ∧ t.sram.rt0 = (if s.rdB R.PWR_RET_rt0 then s.sram.rt0 else []) ∧ t.sram.aon = s.sram.aon
        ∧ t.rd R.RCH_STAT_reading = R.RCH_STAT_reading.rst ∧ t.rd (msqF R.MSQ_RING_BASE_base .a) = R.MSQ_RING_BASE_base.rst
        ∧ s.blocksKept ([2, 34] ++ s.calmOff) t)
  ∧ (∀ (s : State),
      s.phaseIs .commit = true →
      s.pwr.target = 0 →
      s.level = 3 →
      s.pwr.change = none →
      s.pwr.wakeKept = none →
      ∃ t, exec .commitDone s = .next t
        ∧ t.rd R.PWR_SLEEP_STAT_phase = 3
        ∧ t = { s with regs := t.regs, irq := t.irq, pwr := { s.pwr with aborts := 0 } }
        ∧ s.fieldsKept [R.PWR_SLEEP_STAT_phase, R.PWR_CNT_entries] t)
  ∧ (∀ (s : State) (g : Fin 8),
      s.wakeActs (some g.val) = true →
      s.phaseIs .asleep = true →
      s.pwr.target = 2 →
      ∃ t, exec (.wakeEvent (some g)) s = .next t
        ∧ t.rd R.PWR_SLEEP_STAT_phase = 4
        ∧ t.pwr.coreEn = true ∧ t.rd R.PWR_AON_STAT_dol_exit = 1
        ∧ (s.rdB R.PWR_WAKE_SRC_src = false → t.rd R.PWR_WAKE_SRC_src = 2 ^ g.val)
        ∧ (s.rdB R.PWR_WAKE_SRC_src = true → t.rd R.PWR_WAKE_SRC_src = s.rd R.PWR_WAKE_SRC_src)
        ∧ s.fieldsKept [R.PWR_SLEEP_STAT_phase, R.PWR_AON_STAT_dol_exit, R.PWR_WAKE_SRC_src] t)
  ∧ (∀ (s : State) (g : Fin 8),
      s.wakeActs (some g.val) = true →
      s.phaseIs .commit = true →
      ∃ t, exec (.wakeEvent (some g)) s = .next t
        ∧ t.pwr = { s.pwr with wakeKept := some (s.pwr.wakeKept.getD g.val) }
        ∧ t.regs = s.regs)
  ∧ (∀ (s : State) (g : Fin 8),
      s.wakeActs (some g.val) = false →
      ∃ t, exec (.wakeEvent (some g)) s = .next t
        ∧ t.regs = s.regs ∧ t.pwr = s.pwr)
  ∧ (∀ (s : State),
      s.phaseIs .exit = true →
      s.pwr.target = 0 →
      s.pwr.queue = [] →
      s.pwr.bridge = false →
      ∃ t, exec .sleepExitDone s = .next t
        ∧ t.rd R.PWR_SLEEP_STAT_phase = 0 ∧ t.rd R.PWR_SLEEP_STAT_votes = 0
        ∧ t.cores = s.cores ∧ t.drc = s.drc
        ∧ (s.pwr.change = none ∧ s.pwr.thmP3 = false ∧ s.rd R.PWR_PLVL_req = s.level → t.pwr.change = none)
        ∧ (s.rdB (R.SYS_IRQ_CFG_nmi.at 19) = false ∧ s.rdB (R.SYS_IRQ_CFG_prio.at 19) = true → 19 ∈ t.irq.latch))
  ∧ (∀ (s : State),
      s.phaseIs .exit = true →
      s.pwr.target = 1 →
      s.pwr.queue = [] →
      ∃ t, exec .sleepExitDone s = .next t
        ∧ t.rd R.PWR_SLEEP_STAT_phase = 0 ∧ t.rd R.PWR_AON_STAT_calm_exit = 1
        ∧ t.drc.retrain = [0, 1, 2, 3]
        ∧ (∀ c : Fin 6, s.rdBit R.SYS_RST_CTL_core_run c.val = true → s.rd (R.JIG_ENTRY_addr.at (2 * c.val)) = 0 ∧ s.rd (R.JIG_ENTRY_addr.at (2 * c.val + 1)) = 0 → t.cores[c] = .waiting)
        ∧ (∀ c : Fin 6, s.rdBit R.SYS_RST_CTL_core_run c.val = false → t.cores[c] = s.cores[c])
        ∧ t.pwr.bridge = false)
  ∧ (∀ (s : State),
      s.rd64 R.PWR_ALARM_cnt ≠ 0 →
      s.rd64 R.PWR_ALARM_cnt % 2 ^ 48 = s.pwr.aon →
      s.pwr.target = 2 →
      s.rdBit R.PWR_WAKE_EN_en 3 = true →
      s.phaseIs .asleep = true →
      ∃ t, exec .aonAlarm s = .next t
        ∧ t.rd R.PWR_SLEEP_STAT_phase = 4 ∧ t.pwr.coreEn = true)
  ∧ (∀ (s : State),
      s.rd64 R.PWR_ALARM_cnt = 0 →
      ∃ t, exec .aonAlarm s = .next t
        ∧ t = s)
  ∧ (∀ (s : State) (g : Nat),
      s.presence.wakeGpio = some g →
      g < 16 →
      s.slotUsed (108 + g) = true →
      s.pwr.target = 2 →
      s.rdBit R.PWR_WAKE_EN_en 6 = true →
      s.phaseIs .asleep = true →
      ∃ t, exec .gpioWake s = .next t
        ∧ t.rd R.PWR_SLEEP_STAT_phase = 4 ∧ t.pwr.coreEn = true
        ∧ t.rdBit R.SYS_GPIO_IN_in g = true
        ∧ (s.rdB R.PWR_WAKE_SRC_src = false → t.rd R.PWR_WAKE_SRC_src = 64))
  ∧ (∀ (s : State),
      s.presence.wakeGpio = none →
      ∃ t, exec .gpioWake s = .next t
        ∧ t = s)

/-- Conversions, throttling, the shutdown and squall sequences (parts of R468 to R482). In every state and for all operands that meet the
conditions of a clause, the command answers the next state that the clause describes. Commands: THM_CONVERSION, THM_SHUTDOWN_REQUEST,
SENSOR_TIMEOUT, SHUTDOWN_RETRACT, SHUTDOWN_LATCH, FLASH_OP_END, FLASH_OP_ABANDON, SQUALL_DETECT, SQUALL_RETRACTED, SQUALL_RESTORED. Where
the spec leaves a point open, the clauses follow the model's choices (assumptions 9 and 11). -/
def Obligations.ThermalAndSquall : Prop :=
  (∀ (s : State) (conv : List (Option Int)) (j : Fin 16) (v : Int),
      s.islandOff .system = false →
      conv.getD j.val none = some v →
      -640 ≤ v ∧ v ≤ 2400 →
      (s.thm.inputs[j.val]).conv = [] →
      (s.thm.inputs[j.val]).good = 7 →
      ∃ t, exec (.thmConversion conv) s = .next t
        ∧ (t.thm.inputs[j.val]).conv = [v] ∧ (t.thm.inputs[j.val]).good = 8
        ∧ t.rdI (R.THM_SENS_value.at j.val) = v
        ∧ t.rd (R.THM_SENS_valid.at j.val) = 1
        ∧ t.dram = s.dram)
  ∧ (∀ (s : State) (conv : List (Option Int)) (j : Fin 16),
      s.islandOff .system = false →
      conv.getD j.val none = none →
      s.rdB (R.THM_SENS_valid.at j.val) = true →
      ∃ t, exec (.thmConversion conv) s = .next t
        ∧ t.rd (R.THM_SENS_valid.at j.val) = 0
        ∧ (t.thm.inputs[j.val]).good = 0)
  ∧ (∀ (s : State) (conv : List (Option Int)),
      s.islandOff .system = false →
      ∃ t, exec (.thmConversion conv) s = .next t
        ∧ (∀ p, t.tmax = some p → t.rd R.THM_MAX_sensor = p.1 ∧ t.rdI R.THM_MAX_tmax = signedOf R.THM_MAX_tmax.w (twosOf R.THM_MAX_tmax.w p.2))
        ∧ (∀ p, t.tmax = some p → t.limit R.THM_LIMITS_warn ≤ p.2 → t.rd R.THM_STAT_warn = 1 ∨ s.rdB R.THM_STAT_warn = true))
  ∧ (∀ (s : State) (conv : List (Option Int)),
      s.islandOff .system = false →
      s.thm.inputs = Vector.replicate 20 ⟨[], 7⟩ →
      s.thm.hist = [] →
      (List.range 4).all (fun d => !s.rdB (R.THM_DIODE_valid.at d) && !s.rdB (R.THM_DIODE_CFG_en.at d)) = true →
      s.rdB R.THM_STAT_sd_seq = false →
      s.rdB R.THM_STAT_latched = false →
      conv = List.replicate 16 (some (s.limit R.THM_LIMITS_shutdown)) →
      s.rd R.THM_LIMITS_shutdown ≤ 150 →
      s.rd R.THM_LIMITS_throttle ≤ s.rd R.THM_LIMITS_shutdown →
      s.rd R.THM_LIMITS_warn ≤ s.rd R.THM_LIMITS_shutdown →
      ∃ t, exec (.thmConversion conv) s = .next t
        ∧ t.rd R.THM_STAT_sd_seq = 1 ∧ t.rd R.THM_STAT_sd_cause = 1 ∧ t.rd R.THM_STAT_sd_sensor = 0
        ∧ t.rd R.THM_STAT_warn = 1 ∧ t.thm.demand = true
        ∧ (s.thm.sinceStep = none ∧ s.rd R.THM_THR_STAT_level < s.rd R.THM_THR_CFG_max → t.rd R.THM_THR_STAT_level = s.rd R.THM_THR_STAT_level + 1)
        ∧ (s.rdB R.MSQ_STAT_state = true → t.msqIs .a .stopped = true))
  ∧ (∀ (s : State) (conv : List (Option Int)),
      s.islandOff .system = true →
      ∃ t, exec (.thmConversion conv) s = .next t
        ∧ t = s)
  ∧ (∀ (s : State) (who : Init),
      s.reaches 3 →
      s.lc = .manufacture ∨ s.lc = .service →
      s.rdB R.THM_STAT_sd_seq = false →
      s.rdB R.THM_STAT_latched = false →
      ∃ t, exec (.thmShutdownRequest who) s = .next t
        ∧ t.rd R.THM_STAT_sd_seq = 1 ∧ t.rd R.THM_STAT_sd_cause = 5 ∧ t.rd R.THM_AON_STAT_sd_cause = 5
        ∧ t.thm.sdRetract = false
        ∧ (s.rdB R.MSQ_STAT_state = true → t.msqIs .a .stopped = true)
        ∧ t.dram = s.dram)
  ∧ (∀ (s : State) (who : Init),
      s.reaches 3 →
      s.lc ≠ .manufacture →
      s.lc ≠ .service →
      s.rdB R.SYS_CFG_ERR_valid = false →
      ∃ t, exec (.thmShutdownRequest who) s = .next t
        ∧ t.rd R.THM_STAT_sd_seq = s.rd R.THM_STAT_sd_seq
        ∧ t.rd R.SYS_CFG_ERR_cause = 5
        ∧ s.blocksKept [0] t)
  ∧ (∀ (s : State),
      (List.range 16).all (fun j => !s.rdB (inputValid j)) = true →
      s.rdB R.THM_STAT_sd_seq = false →
      s.rdB R.THM_STAT_latched = false →
      ∃ t, exec .sensorTimeout s = .next t
        ∧ t.rd R.THM_STAT_sd_seq = 1 ∧ t.rd R.THM_STAT_sd_cause = 4
        ∧ t.dram = s.dram)
  ∧ (∀ (s : State),
      (List.range 16).any (fun j => s.rdB (inputValid j)) = true ∨ s.rdB R.THM_STAT_latched = true →
      ∃ t, exec .sensorTimeout s = .next t
        ∧ t.rd R.THM_STAT_sd_seq = s.rd R.THM_STAT_sd_seq ∧ t.rd R.THM_STAT_sd_cause = s.rd R.THM_STAT_sd_cause)
  ∧ (∀ (s : State),
      s.rdB R.THM_STAT_sd_seq = true →
      s.thm.sdRetract = false →
      s.flashBusy = false →
      s.lanesBusy = false →
      ∃ t, exec .shutdownRetract s = .next t
        ∧ t.thm.sdRetract = true
        ∧ t.rd R.THM_STAT_sd_seq = s.rd R.THM_STAT_sd_seq
        ∧ (∀ x : Act, s.actTracks x = true → t.actIs x .retract = true)
        ∧ t.dram = s.dram)
  ∧ (∀ (s : State),
      s.flashBusy = true ∨ s.lanesBusy = true →
      ∃ t, exec .shutdownRetract s = .next t
        ∧ t = s)
  ∧ (∀ (s : State),
      s.rdB R.THM_STAT_sd_seq = true →
      s.thm.sdRetract = true →
      s.headsParked = true →
      ∃ t, exec .shutdownLatch s = .next t
        ∧ t.rd R.THM_STAT_latched = 1 ∧ t.rd R.THM_STAT_sd_seq = 0 ∧ t.rd R.THM_STAT_retracted = 1
        ∧ t.rd R.THM_AON_STAT_sd = 1 ∧ t.rd R.THM_AON_STAT_sd_cause = s.rd R.THM_STAT_sd_cause
        ∧ t.pwr.thmP3 = true
        ∧ (s.spmIs .off = false → t.spmIs .latched = true)
        ∧ (s.inSoftReset 4 = false → seqBefore s.evrSeq t.evrSeq = true))
  ∧ (∀ (s : State),
      s.headsParked = false →
      ∃ t, exec .shutdownLatch s = .next t
        ∧ t = s)
  ∧ (∀ (s : State) (d : Fin 2) (l : List EventRecord),
      s.flashWatched = true →
      (s.evr.log d.val).job = some (.program l) →
      ∃ t, exec (.flashOpEnd d true false) s = .next t
        ∧ (t.evr.log d.val).job = none
        ∧ (t.evr.log d.val).area = slotsPut (s.evr.log d.val).area (s.rd (posF d.val)) l
        ∧ t.rd (evrNextF d.val) = (s.rd (evrNextF d.val) + l.length) % 2 ^ 32
        ∧ t.rd R.THM_STAT_flash = 1
        ∧ s.fieldsKept [R.THM_STAT_flash, posF d.val, evrNextF d.val] t)
  ∧ (∀ (s : State) (d : Fin 2),
      s.flashWatched = true →
      (s.evr.log d.val).job = some .erase →
      ∃ t, exec (.flashOpEnd d true true) s = .next t
        ∧ (t.evr.log d.val).job = none ∧ (t.evr.log d.val).erased = false
        ∧ t.rd R.THM_STAT_flash = 1
        ∧ s.fieldsKept [R.THM_STAT_flash] t)
  ∧ (∀ (s : State) (d : Fin 2),
      s.flashWatched = true →
      (s.evr.log d.val).job.isSome = true →
      ∃ t, exec (.flashOpAbandon d) s = .next t
        ∧ (t.evr.log d.val).job = none
        ∧ t.rd R.THM_STAT_flash = 2
        ∧ s.fieldsKept [R.THM_STAT_flash] t)
  ∧ (∀ (s : State) (d : Fin 2),
      s.flashWatched = false ∨ (s.evr.log d.val).job = none →
      ∃ t, exec (.flashOpAbandon d) s = .next t
        ∧ t = s)
  ∧ (∀ (s : State),
      s.rdB R.THM_STAT_squall = false →
      s.islandOff .system = false →
      ∃ t, exec .squallDetect s = .next t
        ∧ t.rd R.THM_STAT_squall = 1 ∧ t.rd R.THM_AON_STAT_sq = 1
        ∧ t.thm.sqSeq = true ∧ t.pwr.thmP3 = true
        ∧ t.rd R.THM_CNT_squalls = satAdd (2 ^ R.THM_CNT_squalls.w - 1) (s.rd R.THM_CNT_squalls) 1
        ∧ (∀ x : Act, s.actTracks x = true → t.actIs x .retract = true)
        ∧ (s.rdB R.MSQ_STAT_state = true → t.msqIs .a .stopped = true)
        ∧ (s.spmIs .run = true → t.spmIs .squall = true)
        ∧ t.dram = s.dram)
  ∧ (∀ (s : State),
      s.rdB R.THM_STAT_squall = true →
      ∃ t, exec .squallDetect s = .next t
        ∧ t = s)
  ∧ (∀ (s : State),
      s.rdB R.THM_STAT_squall = true →
      s.thm.sqSeq = true →
      s.headsParked = true →
      ∃ t, exec .squallRetracted s = .next t
        ∧ t.rd R.THM_STAT_retracted = 1 ∧ t.thm.sqSeq = false
        ∧ (s.spmIs .squall = true → t.spm.braking = true)
        ∧ s.fieldsKept [R.THM_STAT_retracted] t)
  ∧ (∀ (s : State),
      s.rdB R.THM_STAT_squall = true →
      s.thm.sqSeq = false →
      11400 ≤ s.rd (R.CAL_VMON_mv.at 7) →
      4750 ≤ s.rd (R.CAL_VMON_mv.at 8) →
      ∃ t, exec .squallRestored s = .next t
        ∧ t.rd R.THM_STAT_restored = 1 ∧ t.rd R.THM_STAT_squall = s.rd R.THM_STAT_squall
        ∧ s.fieldsKept [R.THM_STAT_restored] t)
  ∧ (∀ (s : State),
      s.rdB R.THM_STAT_squall = false ∨ s.thm.sqSeq = true ∨ s.rd (R.CAL_VMON_mv.at 7) < 11400 ∨ s.rd (R.CAL_VMON_mv.at 8) < 4750 →
      ∃ t, exec .squallRestored s = .next t
        ∧ t = s)

/-- Runs, strobes and monitors: what a run needs, how it ends, when a shadow latch becomes active, and what a conversion sets. In every state
and for all operands that meet the conditions of a clause, the command answers the next state that the clause describes. Commands:
CAL_RUN_GO, CAL_RUN_ABORT, CAL_MEASURE_DONE, CAL_PRECOND_FAIL, CAL_STROBE_REQUEST, TRIM_STROBE, CAL_DISABLE, VMON_CONVERSION, PMON_COUNT.
Where the spec leaves a point open, the clauses follow the model's choices (assumptions 1 and 11). -/
def Obligations.CalibrationAndMonitors : Prop :=
  (∀ (s : State) (who : Init) (inst : BitVec 5),
      s.reaches 5 →
      s.rdB R.CAL_STAT_busy = false →
      s.rdBit R.CAL_PEND_pend inst.toNat = false →
      inst.toNat ≠ 26 →
      inst.toNat ≠ 27 →
      s.rdB R.CAL_CTL_en = true →
      s.rdBit R.PWR_SLEEP_STAT_votes 6 = false →
      s.preFails inst.toNat true = 0 →
      ∃ t, exec (.calRunGo who inst) s = .next t
        ∧ t.rd R.CAL_STAT_busy = 1 ∧ t.rd R.CAL_STAT_code = 1 ∧ t.rd R.CAL_STAT_inst = inst.toNat ∧ t.rd R.CAL_STAT_fail = 0
        ∧ t = { s with regs := t.regs }
        ∧ s.fieldsKept [R.CAL_RUN_inst, R.CAL_STAT_inst, R.CAL_STAT_code, R.CAL_STAT_fail, R.CAL_STAT_busy] t)
  ∧ (∀ (s : State) (who : Init) (inst : BitVec 5),
      s.reaches 5 →
      s.rdB R.CAL_STAT_busy = false →
      s.rdBit R.CAL_PEND_pend inst.toNat = false →
      inst.toNat ≠ 26 →
      inst.toNat ≠ 27 →
      s.rdB R.CAL_CTL_en = true →
      s.rdBit R.PWR_SLEEP_STAT_votes 6 = false →
      s.preFails inst.toNat true ≠ 0 →
      s.preFails inst.toNat true < 2 ^ R.CAL_STAT_fail.w →
      ∃ t, exec (.calRunGo who inst) s = .next t
        ∧ t.rd R.CAL_STAT_busy = 0 ∧ t.rd R.CAL_STAT_code = 3 ∧ t.rd R.CAL_STAT_fail = s.preFails inst.toNat true
        ∧ t.rd R.CAL_CNT_EVT_aborts = satAdd (2 ^ R.CAL_CNT_EVT_aborts.w - 1) (s.rd R.CAL_CNT_EVT_aborts) 1)
  ∧ (∀ (s : State) (who : Init) (inst : BitVec 5),
      s.reaches 5 →
      s.rdB R.CAL_CTL_en = false ∨ inst.toNat = 26 ∨ s.rdB R.CAL_STAT_busy = true →
      s.rdB R.SYS_CFG_ERR_valid = false →
      ∃ t, exec (.calRunGo who inst) s = .next t
        ∧ t.rd R.CAL_STAT_busy = s.rd R.CAL_STAT_busy ∧ t.rd R.CAL_STAT_code = s.rd R.CAL_STAT_code
        ∧ t.rd R.SYS_CFG_ERR_cause = 5)
  ∧ (∀ (s : State) (who : Init) (us : BitVec 32) (value : BitVec 64),
      s.reaches 5 →
      s.rdB R.CAL_STAT_busy = true →
      ∃ t, exec (.calRunAbort who us value) s = .next t
        ∧ t.rd R.CAL_STAT_busy = 0 ∧ t.rd R.CAL_STAT_code = 5
        ∧ (s.rd R.CAL_STAT_inst < 31 → t.rd (R.CAL_TRIM_shadow.at (s.rd R.CAL_STAT_inst)) = s.rd (R.CAL_TRIM_active.at (s.rd R.CAL_STAT_inst)))
        ∧ t.rdBit R.CAL_PEND_pend (s.rd R.CAL_STAT_inst) = false
        ∧ (s.rd R.CAL_STAT_inst < 31 → t.rd (R.CAL_TRIM_active.at (s.rd R.CAL_STAT_inst)) = s.rd (R.CAL_TRIM_active.at (s.rd R.CAL_STAT_inst))))
  ∧ (∀ (s : State) (who : Init) (us : BitVec 32) (value : BitVec 64),
      s.reaches 5 →
      s.rdB R.CAL_STAT_busy = false →
      ∃ t, exec (.calRunAbort who us value) s = .next t
        ∧ t = s)
  ∧ (∀ (s : State) (us : BitVec 32) (v : BitVec 16),
      s.rdB R.CAL_STAT_busy = true →
      s.rd R.CAL_STAT_inst < 31 →
      s.rdBit R.CAL_PEND_pend (s.rd R.CAL_STAT_inst) = false →
      s.preFails (s.rd R.CAL_STAT_inst) true = 0 →
      trimOk (s.rd R.CAL_STAT_inst) (trimValue (s.rd R.CAL_STAT_inst) v.toNat) = true →
      s.strobeNow (s.rd R.CAL_STAT_inst) = true →
      ∃ t, exec (.calMeasureDone us [v]) s = .next t
        ∧ t.rd (R.CAL_TRIM_active.at (s.rd R.CAL_STAT_inst)) = v.toNat ∧ t.rd (R.CAL_TRIM_shadow.at (s.rd R.CAL_STAT_inst)) = v.toNat
        ∧ t.rd R.CAL_STAT_busy = 0 ∧ t.rd R.CAL_STAT_code = 2
        ∧ t.rd (R.CAL_CNT_count.at (s.rd R.CAL_STAT_inst)) = satAdd (2 ^ R.CAL_CNT_count.w - 1) (s.rd (R.CAL_CNT_count.at (s.rd R.CAL_STAT_inst))) 1
        ∧ t.rd (R.CAL_LAST_LO_dt.at (s.rd R.CAL_STAT_inst)) + 2 ^ 32 * t.rd (R.CAL_LAST_HI_dt.at (s.rd R.CAL_STAT_inst)) = s.driveTime)
  ∧ (∀ (s : State) (us : BitVec 32) (v : BitVec 16),
      s.rdB R.CAL_STAT_busy = true →
      s.rd R.CAL_STAT_inst < 31 →
      s.rdBit R.CAL_PEND_pend (s.rd R.CAL_STAT_inst) = false →
      s.preFails (s.rd R.CAL_STAT_inst) true = 0 →
      trimOk (s.rd R.CAL_STAT_inst) (trimValue (s.rd R.CAL_STAT_inst) v.toNat) = false →
      ∃ t, exec (.calMeasureDone us [v]) s = .next t
        ∧ t.rd R.CAL_STAT_busy = 0 ∧ t.rd R.CAL_STAT_code = 4
        ∧ t.rd (R.CAL_TRIM_active.at (s.rd R.CAL_STAT_inst)) = s.rd (R.CAL_TRIM_active.at (s.rd R.CAL_STAT_inst)))
  ∧ (∀ (s : State) (quiet : Bool) (us : BitVec 32) (value : BitVec 64),
      s.rdB R.CAL_STAT_busy = true →
      s.preFails (s.rd R.CAL_STAT_inst) quiet ≠ 0 →
      s.preFails (s.rd R.CAL_STAT_inst) quiet < 2 ^ R.CAL_STAT_fail.w →
      ∃ t, exec (.calPrecondFail quiet us value) s = .next t
        ∧ t.rd R.CAL_STAT_busy = 0 ∧ t.rd R.CAL_STAT_code = 3 ∧ t.rd R.CAL_STAT_fail = s.preFails (s.rd R.CAL_STAT_inst) quiet)
  ∧ (∀ (s : State) (quiet : Bool) (us : BitVec 32) (value : BitVec 64),
      s.rdB R.CAL_STAT_busy = false ∨ s.preFails (s.rd R.CAL_STAT_inst) quiet = 0 →
      ∃ t, exec (.calPrecondFail quiet us value) s = .next t
        ∧ t = s)
  ∧ (∀ (s : State) (who : Init) (inst : BitVec 5),
      s.reaches 5 →
      s.instBusy inst.toNat = false →
      inst.toNat < 31 →
      s.rdB R.CAL_STAT_busy = false →
      s.strobeNow inst.toNat = true →
      ∃ t, exec (.calStrobeRequest who inst) s = .next t
        ∧ t.rd (R.CAL_TRIM_active.at inst.toNat) = s.rd (R.CAL_TRIM_shadow.at inst.toNat)
        ∧ t.rdBit R.CAL_PEND_pend inst.toNat = false
        ∧ t.rd R.CAL_STAT_code = s.rd R.CAL_STAT_code)
  ∧ (∀ (s : State) (who : Init) (inst : BitVec 5),
      s.reaches 5 →
      s.instBusy inst.toNat = false →
      s.strobeNow inst.toNat = false →
      ∃ t, exec (.calStrobeRequest who inst) s = .next t
        ∧ t.rdBit R.CAL_PEND_pend inst.toNat = true
        ∧ s.fieldsKept [R.CAL_PEND_pend, R.CAL_STROBE_inst] t)
  ∧ (∀ (s : State) (who : Init) (inst : BitVec 5),
      s.reaches 5 →
      s.instBusy inst.toNat = true →
      s.rdB R.SYS_CFG_ERR_valid = false →
      ∃ t, exec (.calStrobeRequest who inst) s = .next t
        ∧ t.rd R.CAL_PEND_pend = s.rd R.CAL_PEND_pend
        ∧ t.rd R.SYS_CFG_ERR_cause = 5)
  ∧ (∀ (s : State) (inst : BitVec 5),
      s.rdBit R.CAL_PEND_pend inst.toNat = true →
      s.rdB R.CAL_STAT_busy = false →
      inst.toNat < 31 →
      ∃ t, exec (.trimStrobe inst) s = .next t
        ∧ t.rd (R.CAL_TRIM_active.at inst.toNat) = s.rd (R.CAL_TRIM_shadow.at inst.toNat)
        ∧ t.rd (R.CAL_TRIM_shadow.at inst.toNat) = s.rd (R.CAL_TRIM_shadow.at inst.toNat)
        ∧ t.rdBit R.CAL_PEND_pend inst.toNat = false)
  ∧ (∀ (s : State) (inst : BitVec 5),
      s.rdBit R.CAL_PEND_pend inst.toNat = false →
      ∃ t, exec (.trimStrobe inst) s = .next t
        ∧ t = s)
  ∧ (∀ (s : State) (who : Init),
      s.rdB R.CAL_STAT_busy = false →
      s.rd R.CAL_PEND_pend = 0 →
      ∃ t, exec (.calDisable who false) s = .next t
        ∧ t = s.wr R.CAL_CTL_en 0)
  ∧ (∀ (s : State) (who : Init),
      s.rdB R.CAL_STAT_busy = true →
      ∃ t, exec (.calDisable who false) s = .next t
        ∧ t.rd R.CAL_STAT_busy = 0 ∧ t.rd R.CAL_STAT_code = 6 ∧ t.rd R.CAL_CTL_en = 0)
  ∧ (∀ (s : State) (m : Fin 9) (raw : BitVec 16),
      m.val < 7 →
      s.rd (R.CAL_VMON_LIM_lo.at m.val) ≤ raw.toNat →
      raw.toNat ≤ s.rd (R.CAL_VMON_LIM_hi.at m.val) →
      ∃ t, exec (.vmonConversion m raw) s = .next t
        ∧ t.rd (R.CAL_VMON_mv.at m.val) = raw.toNat
        ∧ t.cal.outRun[m.val] = 0
        ∧ t.irq = s.irq
        ∧ t.rdB R.CAL_VMON_STAT_in3 = (List.range 9).all t.railNear
        ∧ s.fieldsKept [R.CAL_VMON_mv.at m.val, R.CAL_VMON_STAT_in3] t)
  ∧ (∀ (s : State) (m : Fin 9) (raw : BitVec 16),
      m.val < 7 →
      raw.toNat < s.rd (R.CAL_VMON_LIM_lo.at m.val) ∨ s.rd (R.CAL_VMON_LIM_hi.at m.val) < raw.toNat →
      s.cal.outRun[m.val] = 1 →
      ∃ t, exec (.vmonConversion m raw) s = .next t
        ∧ t.rd (R.CAL_VMON_mv.at m.val) = raw.toNat
        ∧ t.rdBit R.CAL_VMON_STAT_out m.val = true
        ∧ t.rd R.CAL_CNT_EVT_vmon = satAdd (2 ^ R.CAL_CNT_EVT_vmon.w - 1) (s.rd R.CAL_CNT_EVT_vmon) 1
        ∧ t.cal.outRun[m.val] = 2)
  ∧ (∀ (s : State) (mhz : List (BitVec 16)),
      s.phaseIs .asleep = false →
      mhz.length = 7 →
      ∃ t, exec (.pmonCount mhz) s = .next t
        ∧ (List.range 7).all (fun p => t.rd (R.CAL_PMON_mhz.at p) == (mhz.getD p 0).toNat % 2 ^ R.CAL_PMON_mhz.w) = true
        ∧ t = { s with regs := t.regs })

/-- Records are numbered and kept in order, stores written, failed and retried, and the log cleared. In every state and for all operands that
meet the conditions of a clause, the command answers the next state that the clause describes. Commands: EVENT_POST, AON_RING_WRITE_DROP,
FLASH_PAGE_PROGRAM, FLASH_FLUSH_TIMER, FLASH_PROGRAM_DONE, FLASH_PROGRAM_TIMEOUT, MEDIA_STORE_AGE, EVR_MEDIA_FAIL, EVR_STORE_RETRY,
EVR_ENABLE, LOG_CLEAR, LOG_CLEAR_DONE. Where the spec leaves a point open, the clauses follow the model's choices (assumptions 11, 16 and
55). -/
def Obligations.EventRecorder : Prop :=
  (∀ (s : State) (who : Init) (c : Fin 6) (code : BitVec 16) (sev : BitVec 3) (source : BitVec 8),
      s.reaches 4 →
      who.code = c.val →
      sev.toNat ≠ 7 →
      (List.range 3).all (fun k => s.storeFailed k || decide (s.evrPending k < 1023)) = true →
      ∃ t, exec (.eventPost who c code sev source) s = .next t
        ∧ t.rd R.EVR_SEQ_seq = (s.evrSeq + 1) % 2 ^ 32
        ∧ t.evr = { s.evr with ring := slotPut s.evr.ring (s.evrSeq % 1024) ⟨code.toNat, sev.toNat, source.toNat, s.evrSeq, s.driveTime, s.timeQuality, false, (List.range 5).map (fun k => s.rd ((R.EVR_POST_P_param.at c.val).plus (8 * k)) + 2 ^ 32 * s.rd ((R.EVR_POST_P_param.at c.val).plus (8 * k + 4)))⟩ }
        ∧ t.dram = s.dram)
  ∧ (∀ (s : State) (who : Init) (c : Fin 6) (code : BitVec 16) (sev : BitVec 3) (source : BitVec 8),
      s.reaches 4 →
      who.code ≠ c.val →
      s.rdB R.SYS_CFG_ERR_valid = false →
      ∃ t, exec (.eventPost who c code sev source) s = .next t
        ∧ t.evr = s.evr ∧ t.rd R.EVR_SEQ_seq = s.rd R.EVR_SEQ_seq
        ∧ t.rd R.SYS_CFG_ERR_cause = 5)
  ∧ (∀ (s : State),
      ∃ t, exec .aonRingWriteDrop s = .next t
        ∧ t.rd R.EVR_CNT_dropped = satAdd (2 ^ R.EVR_CNT_dropped.w - 1) (s.rd R.EVR_CNT_dropped) 1
        ∧ t.evr = s.evr
        ∧ s.fieldsKept [R.EVR_CNT_dropped] t)
  ∧ (∀ (s : State) (d : Fin 2),
      s.storeReady d.val = true →
      4 ≤ s.evrPending d.val →
      s.rd (posF d.val) % 0x10000 ≠ 0 ∨ (s.evr.log d.val).erased = true →
      ∃ t, exec (.flashPageProgram d) s = .next t
        ∧ t = s.setJob d.val (some (.program (s.pageRecords d.val))))
  ∧ (∀ (s : State) (d : Fin 2),
      s.storeReady d.val = true →
      4 ≤ s.evrPending d.val →
      s.rd (posF d.val) % 0x10000 = 0 →
      (s.evr.log d.val).erased = false →
      ∃ t, exec (.flashPageProgram d) s = .next t
        ∧ t = s.setJob d.val (some .erase))
  ∧ (∀ (s : State) (d : Fin 2),
      s.storeReady d.val = false ∨ s.evrPending d.val < 4 →
      ∃ t, exec (.flashPageProgram d) s = .next t
        ∧ t = s)
  ∧ (∀ (s : State) (d : Fin 2),
      s.storeReady d.val = true →
      1 ≤ s.evrPending d.val →
      s.rd (posF d.val) % 0x10000 ≠ 0 ∨ (s.evr.log d.val).erased = true →
      ∃ t, exec (.flashFlushTimer d) s = .next t
        ∧ t = s.setJob d.val (some (.program (s.pageRecords d.val))))
  ∧ (∀ (s : State) (d : Fin 2),
      s.evrHeldOff = true →
      ∃ t, exec (.flashFlushTimer d) s = .next t
        ∧ t = s)
  ∧ (∀ (s : State) (d : Fin 2) (l : List EventRecord),
      (s.evr.log d.val).job = some (.program l) →
      s.evr.clearTo = none →
      ∃ t, exec (.flashProgramDone d true) s = .next t
        ∧ (t.evr.log d.val).area = slotsPut (s.evr.log d.val).area (s.rd (posF d.val)) l ∧ (t.evr.log d.val).job = none
        ∧ t.rd (posF d.val) = pageAfter (s.rd (posF d.val)) % 2 ^ R.EVR_FLASH_POS_pos.w
        ∧ t.rd (evrNextF d.val) = (s.rd (evrNextF d.val) + l.length) % 2 ^ 32
        ∧ s.fieldsKept [posF d.val, evrNextF d.val] t)
  ∧ (∀ (s : State) (d : Fin 2) (l : List EventRecord),
      (s.evr.log d.val).job = some (.program l) →
      s.evr.clearTo = none →
      (List.range 3).all (fun k => s.storeFailed k || decide (s.evrPending k < 1000)) = true →
      ∃ t, exec (.flashProgramDone d false) s = .next t
        ∧ t.storeFailed d.val = true ∧ (t.evr.log d.val).job = none
        ∧ (t.evr.log d.val).area = (s.evr.log d.val).area
        ∧ (s.inSoftReset 4 = false → t.rd R.EVR_SEQ_seq = (s.evrSeq + 1) % 2 ^ 32))
  ∧ (∀ (s : State) (d : Fin 2),
      (s.evr.log d.val).job.isSome = true →
      s.evr.clearTo = none →
      ∃ t, exec (.flashProgramTimeout d) s = .next t
        ∧ t.storeFailed d.val = true ∧ (t.evr.log d.val).job = none
        ∧ t.rd R.EVR_CNT_fail = satAdd (2 ^ R.EVR_CNT_fail.w - 1) (s.rd R.EVR_CNT_fail) 1)
  ∧ (∀ (s : State) (d : Fin 2),
      (s.evr.log d.val).job = none →
      ∃ t, exec (.flashProgramTimeout d) s = .next t
        ∧ t = s)
  ∧ (∀ (s : State),
      ∃ t, exec .mediaStoreAge s = .next t
        ∧ t.regs = s.regs ∧ t.evr = s.evr
        ∧ (1 ≤ s.evrPending 2 ∧ s.storeFailed 2 = false ∧ s.rdB (R.SYS_IRQ_CFG_nmi.at 36) = false ∧ s.rdB (R.SYS_IRQ_CFG_prio.at 36) = true → 36 ∈ t.irq.latch)
        ∧ (s.evrPending 2 = 0 ∨ s.storeFailed 2 = true → t = s))
  ∧ (∀ (s : State) (who : Init),
      s.reaches 4 →
      s.storeFailed 2 = false →
      ∃ t, exec (.evrMediaFail who) s = .next t
        ∧ t.storeFailed 2 = true
        ∧ t.rd R.EVR_CNT_fail = satAdd (2 ^ R.EVR_CNT_fail.w - 1) (s.rd R.EVR_CNT_fail) 1)
  ∧ (∀ (s : State) (who : Init),
      s.reaches 4 →
      s.storeFailed 2 = true →
      ∃ t, exec (.evrMediaFail who) s = .next t
        ∧ t = s)
  ∧ (∀ (s : State) (who : Init) (bits : BitVec 3),
      s.reaches 4 →
      (List.range 3).all (fun k => decide (s.evrPending k < 1024)) = true →
      ∃ t, exec (.evrStoreRetry who bits) s = .next t
        ∧ (List.range 3).all (fun k => t.storeFailed k == (s.storeFailed k && !bitAt bits.toNat k)) = true
        ∧ t.rd R.EVR_SEQ_seq = s.rd R.EVR_SEQ_seq
        ∧ s.fieldsKept [R.EVR_STAT_store_fail, R.EVR_STAT_in_use] t)
  ∧ (∀ (s : State) (who : Init),
      s.reaches 4 →
      ∃ t, exec (.evrEnable who) s = .next t
        ∧ t.rd R.EVR_CTL_en = 1
        ∧ t.rd R.EVR_STAT_in_use = (if s.storeFailed 0 = false then 1 else if s.storeFailed 1 = false then 2 else if s.storeFailed 2 = false then 3 else 0)
        ∧ s.fieldsKept [R.EVR_CTL_en, R.EVR_STAT_in_use] t)
  ∧ (∀ (s : State) (who : Init) (media : Option Word),
      s.reaches 4 →
      s.lc = .service →
      s.rdB R.EVR_STAT_clearing = false →
      s.evrHeldOff = false →
      s.storeFailed 0 = false →
      s.storeFailed 1 = false →
      s.evr.log0.job = none →
      s.evr.log1.job = none →
      (List.range 3).all (fun k => s.storeFailed k || decide (s.evrPending k < 1000)) = true →
      ∃ t, exec (.logClear who media) s = .next t
        ∧ t.rd R.EVR_STAT_clearing = 1
        ∧ t.rd R.EVR_CLR_FLOOR_floor = (s.evrSeq + 2 ^ 32 - 1) % 2 ^ 32
        ∧ t.rd R.EVR_SEQ_seq = (s.evrSeq + 1) % 2 ^ 32
        ∧ t.evr.log0.job = some .clear ∧ t.evr.log1.job = some .clear
        ∧ t.evr.clearTo = some ((s.evrSeq + 2 ^ 32 - 1) % 2 ^ 32))
  ∧ (∀ (s : State) (who : Init) (media : Option Word),
      s.reaches 4 →
      s.lc ≠ .service →
      s.rdB R.SYS_CFG_ERR_valid = false →
      ∃ t, exec (.logClear who media) s = .next t
        ∧ t.evr = s.evr ∧ t.rd R.EVR_STAT_clearing = s.rd R.EVR_STAT_clearing
        ∧ t.rd R.SYS_CFG_ERR_cause = 1)
  ∧ (∀ (s : State),
      s.evr.clearTo.isSome = true →
      s.evr.log0.job = some .clear →
      s.evr.log1.job = some .clear →
      s.evrHeldOff = false →
      s.storeFailed 0 = false →
      s.storeFailed 1 = false →
      ∃ t, exec .logClearDone s = .next t
        ∧ t.rd R.EVR_STAT_clearing = 0
        ∧ t.evr.log0 = ⟨[], none, true⟩ ∧ t.evr.log1 = ⟨[], none, true⟩ ∧ t.evr.clearTo = none
        ∧ t.evr.ring = s.evr.ring
        ∧ s.fieldsKept [R.EVR_STAT_clearing] t)
  ∧ (∀ (s : State),
      s.evr.clearTo = none →
      ∃ t, exec .logClearDone s = .next t
        ∧ t = s)

/-- Self-test runs and their endings, boundary-scan groups and the TAP (parts of R536 to R545). In every state and for all operands that meet
the conditions of a clause, the command answers the next state that the clause describes. Commands: BIST_RUN_GO, BIST_ABORT,
BIST_PRECOND_FAIL, BIST_SOFT_RESET, BIST_DONE, BSCAN_GRANT, BSCAN_PRECOND_RELEASE, TAP_BYPASS, TAP_IDCODE, TAP_SAMPLE_PRELOAD, TAP_EXTEST,
TAP_EXTEST_PULSE, TAP_EXTEST_TRAIN. Where the spec leaves a point open, the clauses follow the model's choices (assumptions 11, 20 and
50). -/
def Obligations.SelfTestAndBoundaryScan : Prop :=
  (∀ (s : State) (who : Init) (mode : Bool) (target : BitVec 5),
      s.reaches 6 →
      R.BST_RUN_go.unlock.contains s.lc.code = true →
      s.rdB R.BST_CTL_en = true →
      s.rdB R.BST_STAT_busy = false →
      s.bstMay = true →
      s.bstTargetOk target.toNat = true →
      ∃ t, exec (.bistRunGo who mode target) s = .next t
        ∧ t.rd R.BST_STAT_busy = 1 ∧ t.rd R.BST_STAT_code = 1 ∧ t.rd R.BST_STAT_target = target.toNat
        ∧ t.isolated = bstBlocks target.toNat ∧ t.bistFull = mode
        ∧ s.blocksKept ([6, 8] ++ bstBlocks target.toNat) t
        ∧ t.dram = s.dram)
  ∧ (∀ (s : State) (who : Init) (mode : Bool) (target : BitVec 5),
      s.reaches 6 →
      R.BST_RUN_go.unlock.contains s.lc.code = true →
      s.rdB R.BST_CTL_en = true →
      s.rdB R.BST_STAT_busy = false →
      s.bstMay = false →
      s.rdB R.SYS_CFG_ERR_valid = false →
      ∃ t, exec (.bistRunGo who mode target) s = .next t
        ∧ t.rd R.BST_STAT_busy = 0 ∧ t.rd R.BST_STAT_code = 4 ∧ t.rd R.SYS_CFG_ERR_cause = 5
        ∧ t.isolated = s.isolated)
  ∧ (∀ (s : State) (who : Init) (mode : Bool) (target : BitVec 5),
      s.reaches 6 →
      R.BST_RUN_go.unlock.contains s.lc.code = false →
      s.rdB R.SYS_CFG_ERR_valid = false →
      ∃ t, exec (.bistRunGo who mode target) s = .next t
        ∧ t.rd R.BST_STAT_busy = s.rd R.BST_STAT_busy ∧ t.rd R.SYS_CFG_ERR_cause = 1
        ∧ t.isolated = s.isolated)
  ∧ (∀ (s : State) (who : Init),
      s.reaches 6 →
      s.rdB R.BST_STAT_busy = true →
      ∃ t, exec (.bistAbort who) s = .next t
        ∧ t.rd R.BST_STAT_busy = 0 ∧ t.rd R.BST_STAT_code = 5 ∧ t.isolated = []
        ∧ t.rd R.BST_CNT_runs = satAdd (2 ^ R.BST_CNT_runs.w - 1) (s.rd R.BST_CNT_runs) 1
        ∧ t.rd R.BST_PASS_pass = s.rd R.BST_PASS_pass ∧ t.rd R.BST_FAIL_fail = s.rd R.BST_FAIL_fail
        ∧ s.blocksKept ([6, 8] ++ bstBlocks (s.rd R.BST_STAT_target)) t)
  ∧ (∀ (s : State) (who : Init),
      s.reaches 6 →
      s.rdB R.BST_STAT_busy = false →
      ∃ t, exec (.bistAbort who) s = .next t
        ∧ t = s)
  ∧ (∀ (s : State),
      s.bstMay = false →
      s.rdB R.BST_STAT_busy = true →
      ∃ t, exec .bistPrecondFail s = .next t
        ∧ t.rd R.BST_STAT_busy = 0 ∧ t.rd R.BST_STAT_code = 4 ∧ t.isolated = []
        ∧ t.rd R.BST_PASS_pass = s.rd R.BST_PASS_pass ∧ t.rd R.BST_FAIL_fail = s.rd R.BST_FAIL_fail)
  ∧ (∀ (s : State),
      s.bstMay = true ∨ s.rdB R.BST_STAT_busy = false →
      ∃ t, exec .bistPrecondFail s = .next t
        ∧ t = s)
  ∧ (∀ (s : State) (who : Init),
      s.rdB R.BST_STAT_busy = true →
      s.rdB R.BST_BSCAN_groups = false →
      ∃ t, exec (.bistSoftReset who) s = .next t
        ∧ t.rd R.BST_STAT_busy = 0 ∧ t.rd R.BST_CTL_srst = 1 ∧ t.isolated = []
        ∧ t.rd R.BST_BSCAN_groups = 0)
  ∧ (∀ (s : State) (misr : BitVec 64),
      s.rdB R.BST_STAT_busy = true →
      s.bstMay = true →
      s.rd R.BST_STAT_target < 19 →
      ∃ t, exec (.bistDone misr) s = .next t
        ∧ t.rd R.BST_STAT_busy = 0 ∧ t.isolated = []
        ∧ (misr = Config.goldenSig (s.rd R.BST_STAT_target) (if s.bistFull then 1 else 0) → t.rd R.BST_STAT_code = 2 ∧ t.rdBit R.BST_PASS_pass (s.rd R.BST_STAT_target) = true ∧ t.rdBit R.BST_FAIL_fail (s.rd R.BST_STAT_target) = false)
        ∧ (misr ≠ Config.goldenSig (s.rd R.BST_STAT_target) (if s.bistFull then 1 else 0) → t.rd R.BST_STAT_code = 3 ∧ t.rdBit R.BST_PASS_pass (s.rd R.BST_STAT_target) = false ∧ t.rdBit R.BST_FAIL_fail (s.rd R.BST_STAT_target) = true)
        ∧ t.rd64 R.BST_MISR_misr = misr.toNat)
  ∧ (∀ (s : State) (misr : BitVec 64),
      s.rdB R.BST_STAT_busy = false →
      ∃ t, exec (.bistDone misr) s = .next t
        ∧ t = s)
  ∧ (∀ (s : State) (who : Init) (groups : BitVec 5),
      s.reaches 6 →
      R.BST_BSCAN_groups.unlock.contains s.lc.code = true →
      s.rdB R.BST_CTL_en = true →
      s.bstMay = true →
      ([8, 9, 10, 11, 12, 13, 14, 15, 16, 17, 18, 19, 20, 21, 22, 23, 29, 35, 36].any s.blockOn) = false →
      ∃ t, exec (.bscanGrant who groups) s = .next t
        ∧ t.rd R.BST_BSCAN_groups = groups.toNat
        ∧ (bitAt groups.toNat 3 = true ∧ bitAt (s.rd R.BST_BSCAN_groups) 3 = false → t.dram = [])
        ∧ (bitAt groups.toNat 3 = false → t.dram = s.dram))
  ∧ (∀ (s : State),
      s.rdB R.BST_BSCAN_groups = true →
      s.bstMay = false →
      ∃ t, exec .bscanPrecondRelease s = .next t
        ∧ t.rd R.BST_BSCAN_groups = 0 ∧ t.rd R.BST_BSCAN_active = 0 ∧ t.rd R.BST_STAT_code = 4
        ∧ t.dram = s.dram)
  ∧ (∀ (s : State),
      s.rdB R.BST_BSCAN_groups = false ∨ s.bstMay = true →
      ∃ t, exec .bscanPrecondRelease s = .next t
        ∧ t = s)
  ∧ (∀ (s : State),
      ∃ t, exec .tapBypass s = .next t
        ∧ t.tap = { s.tap with instr := .bypass } ∧ t.rd R.BST_BSCAN_active = 0
        ∧ s.fieldsKept [R.BST_BSCAN_active] t)
  ∧ (∀ (s : State),
      ∃ t, exec .tapIdcode s = .next t
        ∧ t.tap = { s.tap with instr := .idcode } ∧ t.reply = 0x14410B47
        ∧ s.fieldsKept [R.BST_BSCAN_active] t)
  ∧ (∀ (s : State) (pads load : List Bool),
      ∃ t, exec (.tapSamplePreload pads load) s = .next t
        ∧ t.tap = ⟨.samplePreload, pads, load⟩ ∧ t.rd R.BST_BSCAN_active = 0
        ∧ s.fieldsKept [R.BST_BSCAN_active] t)
  ∧ (∀ (s : State) (pads load : List Bool),
      s.rdB R.BST_BSCAN_groups = true →
      ∃ t, exec (.tapExtest pads load) s = .next t
        ∧ t.tap = ⟨.extest, pads, load⟩ ∧ t.rd R.BST_BSCAN_active = 1
        ∧ s.fieldsKept [R.BST_BSCAN_active] t)
  ∧ (∀ (s : State) (pads load : List Bool),
      s.rdB R.BST_BSCAN_groups = false →
      ∃ t, exec (.tapExtest pads load) s = .next t
        ∧ t.tap = { s.tap with instr := .extest } ∧ t.rd R.BST_BSCAN_active = 0)
  ∧ (∀ (s : State) (pads load : List Bool),
      s.rdB R.BST_BSCAN_groups = true →
      ∃ t, exec (.tapExtestPulse pads load) s = .next t
        ∧ t.tap = ⟨.extestPulse, pads, load⟩ ∧ t.rd R.BST_BSCAN_active = 1
        ∧ s.fieldsKept [R.BST_BSCAN_active] t)
  ∧ (∀ (s : State) (pads load : List Bool),
      s.rdB R.BST_BSCAN_groups = true →
      ∃ t, exec (.tapExtestTrain pads load) s = .next t
        ∧ t.tap = ⟨.extestTrain, pads, load⟩ ∧ t.rd R.BST_BSCAN_active = 1
        ∧ s.fieldsKept [R.BST_BSCAN_active] t)

/-- OBJ takes ring entries in order, digests feeds of open contexts, and opens, aborts and ends contexts (parts of R411, R412). In every state
and for all operands that meet the conditions of a clause, the command answers the next state that the clause describes. Commands:
OBJ_FEED_POST, OBJ_FEED, OBJ_CTX_OPEN, OBJ_CTX_ABORT, OBJ_DISABLE. Where the spec leaves a point open, the clauses follow the model's
choices (assumptions 2 and 24). -/
def Obligations.DigestEngine : Prop :=
  (∀ (s : State) (who : Init) (v : BitVec 12),
      s.reaches 33 →
      v.toNat < s.objSize →
      (v.toNat + s.objSize - s.rd R.OBJ_RING_HEAD_head % s.objSize) % s.objSize < s.objSize - 1 →
      ∃ t, exec (.objFeedPost who v) s = .next t
        ∧ t.rd R.OBJ_RING_TAIL_tail = v.toNat
        ∧ t = { s with regs := t.regs }
        ∧ s.fieldsKept [R.OBJ_RING_TAIL_tail] t)
  ∧ (∀ (s : State) (who : Init) (v : BitVec 12),
      s.reaches 33 →
      s.objSize ≤ v.toNat ∨ s.objSize - 1 ≤ (v.toNat + s.objSize - s.rd R.OBJ_RING_HEAD_head % s.objSize) % s.objSize →
      s.rdB R.SYS_CFG_ERR_valid = false →
      ∃ t, exec (.objFeedPost who v) s = .next t
        ∧ t.rd R.OBJ_RING_TAIL_tail = s.rd R.OBJ_RING_TAIL_tail
        ∧ t.rd R.SYS_CFG_ERR_cause = 5
        ∧ s.blocksKept [0] t)
  ∧ (∀ (s : State) (addr len c : Nat),
      s.objOn = true →
      s.rd R.OBJ_RING_HEAD_head ≠ s.rd R.OBJ_RING_TAIL_tail →
      s.rdBit R.PWR_SLEEP_STAT_votes 5 = false →
      s.dramLe (s.rd R.OBJ_RING_BASE_base * 4096 + 16 * s.rd R.OBJ_RING_HEAD_head) 8 = addr →
      s.dramLe (s.rd R.OBJ_RING_BASE_base * 4096 + 16 * s.rd R.OBJ_RING_HEAD_head + 8) 4 = len →
      s.dramLe (s.rd R.OBJ_RING_BASE_base * 4096 + 16 * s.rd R.OBJ_RING_HEAD_head + 12) 1 = c →
      bitAt (s.dramLe (s.rd R.OBJ_RING_BASE_base * 4096 + 16 * s.rd R.OBJ_RING_HEAD_head + 13) 1) 0 = false →
      len ≤ 0x1000000 →
      c < 64 →
      c ∉ s.host.objUe →
      s.objStatus c = 1 →
      s.poisonIn addr len = false →
      s.poisonIn (s.objCtx c) 256 = false →
      s.rdB R.JIG_GOLD_BASE_lock = false →
      Memory.wf s.dram = true →
      ∃ t, exec .objFeed s = .next t
        ∧ t.rd R.OBJ_RING_HEAD_head = (s.rd R.OBJ_RING_HEAD_head + 1) % s.objSize % 2 ^ R.OBJ_RING_HEAD_head.w
        ∧ t.rd64 R.OBJ_CNT_BYTES_bytes = (s.rd64 R.OBJ_CNT_BYTES_bytes + len) % 2 ^ 64
        ∧ t.dramLe (s.objCtx c + 32) 8 = (s.dramLe (s.objCtx c + 32) 8 + len) % 2 ^ 64
        ∧ t.dramLe (s.objCtx c) 32 = (shaBlocks ((s.dramLe (s.objCtx c + 32) 8 % 64 + len) / 64) (BitVec.ofNat 256 (s.dramLe (s.objCtx c) 32)) (s.dramGet (s.objCtx c + 40) (s.dramLe (s.objCtx c + 32) 8 % 64) ++ s.dramGet addr len)).1.toNat
        ∧ t.objStatus c = 1
        ∧ s.fieldsKept [R.OBJ_RING_HEAD_head, R.OBJ_CNT_BYTES_bytes.at 0, R.OBJ_CNT_BYTES_bytes.at 1] t)
  ∧ (∀ (s : State),
      s.objOn = true →
      s.rd R.OBJ_RING_HEAD_head ≠ s.rd R.OBJ_RING_TAIL_tail →
      s.rdBit R.PWR_SLEEP_STAT_votes 5 = false →
      0x1000000 < s.dramLe (s.rd R.OBJ_RING_BASE_base * 4096 + 16 * s.rd R.OBJ_RING_HEAD_head + 8) 4 →
      s.rdB R.OBJ_ERR_valid = false →
      ∃ t, exec .objFeed s = .next t
        ∧ t.rd R.OBJ_ERR_valid = 1 ∧ t.rd R.OBJ_ERR_cause = 3 ∧ t.rd R.OBJ_ERR_entry = s.rd R.OBJ_RING_HEAD_head % 2 ^ R.OBJ_ERR_entry.w
        ∧ t.rd R.OBJ_RING_HEAD_head = (s.rd R.OBJ_RING_HEAD_head + 1) % s.objSize % 2 ^ R.OBJ_RING_HEAD_head.w
        ∧ t.dram = s.dram)
  ∧ (∀ (s : State),
      s.objOn = false ∨ s.rd R.OBJ_RING_HEAD_head = s.rd R.OBJ_RING_TAIL_tail ∨ s.rdBit R.PWR_SLEEP_STAT_votes 5 = true →
      ∃ t, exec .objFeed s = .next t
        ∧ t = s)
  ∧ (∀ (s : State) (who : Init) (c : Fin 64),
      s.reaches 33 →
      s.objOn = true →
      s.objStatus c.val ≠ 1 →
      s.rdB R.JIG_GOLD_BASE_lock = false →
      Memory.wf s.dram = true →
      ∃ t, exec (.objCtxOpen who c) s = .next t
        ∧ t.objStatus c.val = 1
        ∧ t.dramGet (s.objCtx c.val) 32 = leBytes 32 Config.sha256Init.toNat
        ∧ t.dramGet (s.objCtx c.val + 32) 72 = List.replicate 72 0
        ∧ c.val ∉ t.host.objUe
        ∧ s.fieldsKept [R.OBJ_STAT_open] t)
  ∧ (∀ (s : State) (who : Init) (c : Fin 64),
      s.reaches 33 →
      s.objOn = true →
      s.objStatus c.val = 1 →
      s.rdB R.OBJ_ERR_valid = false →
      ∃ t, exec (.objCtxOpen who c) s = .next t
        ∧ t.rd R.OBJ_ERR_valid = 1 ∧ t.rd R.OBJ_ERR_cause = 4 ∧ t.rd R.OBJ_ERR_ctx = c.val
        ∧ t.dram = s.dram)
  ∧ (∀ (s : State) (who : Init) (c : Fin 64),
      s.reaches 33 →
      s.objOn = true →
      s.rdB R.JIG_GOLD_BASE_lock = false →
      Memory.wf s.dram = true →
      ∃ t, exec (.objCtxAbort who c) s = .next t
        ∧ t.objStatus c.val = 5
        ∧ t.dram = memWriteBytes s.dram (s.objCtx c.val + 168) (leBytes 1 5)
        ∧ s.fieldsKept [R.OBJ_STAT_open] t)
  ∧ (∀ (s : State) (who : Init) (srst : Bool),
      s.rdB R.JIG_GOLD_BASE_lock = false →
      Memory.wf s.dram = true →
      ∃ t, exec (.objDisable who srst) s = .next t
        ∧ (∀ c : Fin 64, s.objStatus c.val = 1 → t.dramLe (s.objCtx c.val + 168) 1 = 5)
        ∧ (srst = false → t.rd R.OBJ_CTL_en = 0 ∧ t.rd R.OBJ_RING_HEAD_head = s.rd R.OBJ_RING_TAIL_tail)
        ∧ (srst = true → t.rd R.OBJ_CTL_srst = 1))

/-- BUF serves requests from lines, victims, scratchpad or DRAM, maintains, drains and resets them (parts of R425 to R433, R436). In every
state and for all operands that meet the conditions of a clause, the command answers the next state that the clause describes. Commands:
BUF_REQUEST, VICTIM_WRITEBACK_ISSUE, VICTIM_WRITEBACK_ACCEPT, MAINT_ZERO, MAINT_CLEAN, MAINT_INVAL, MAINT_CLEAN_INVAL, MAINT_DONE,
SCRATCHPAD_WRITE, SCRATCHPAD_DONE, BUF_DRAIN_START, BUF_DRAIN_DONE, BUF_SOFT_RESET. Where the spec leaves a point open, the clauses follow
the model's choices (assumptions 5, 18 and 57). -/
def Obligations.BufferCache : Prop :=
  (∀ (s : State) (who : BufSrc) (a : BitVec 34) (op : LineOp) (err : SramErr),
      s.usableBytes ≤ a.toNat →
      ∃ t, exec (.bufRequest who false a op err) s = .next t
        ∧ t = { s with reply := 0 })
  ∧ (∀ (s : State) (who : BufSrc) (a : BitVec 34) (n : Nat),
      a.toNat < s.buf.spadReady * 0x100000 →
      ∃ t, exec (.bufRequest who true a (.read n) .none) s = .next t
        ∧ t = { s with reply := BitVec.ofNat 32 (leValue (memReadBytes s.buf.spad a.toNat (min n 4))) })
  ∧ (∀ (s : State) (who : BufSrc) (a : BitVec 34) (bs : List Byte),
      a.toNat < s.buf.spadReady * 0x100000 →
      ∃ t, exec (.bufRequest who true a (.write bs) .none) s = .next t
        ∧ t.buf.spad = memWriteBytes s.buf.spad a.toNat bs
        ∧ t.dram = s.dram ∧ t.regs = s.regs)
  ∧ (∀ (s : State) (who : BufSrc) (a : BitVec 34) (bs : List Byte),
      a.toNat < s.usableBytes →
      s.rdB R.BUF_CTL_en = false →
      s.rdB R.BUF_STAT_draining = false →
      s.rdB R.JIG_GOLD_BASE_lock = false →
      ∃ t, exec (.bufRequest who false a (.write bs) .none) s = .next t
        ∧ t.dram = memWriteBytes s.dram a.toNat bs
        ∧ t.regs = s.regs ∧ t.buf = s.buf)
  ∧ (∀ (s : State) (who : BufSrc) (a : BitVec 34) (n : Nat) (x : BufLine),
      a.toNat < s.usableBytes →
      s.bufOn = true →
      s.cached (a.toNat / 128) = some x →
      ∃ t, exec (.bufRequest who false a (.read n) .none) s = .next t
        ∧ t.reply = BitVec.ofNat 32 (leValue (memReadBytes s.dram a.toNat (min n 4)))
        ∧ t.rd R.BUF_CNT_HIT_count = satAdd (2 ^ R.BUF_CNT_HIT_count.w - 1) (s.rd R.BUF_CNT_HIT_count) 1
        ∧ t.buf = s.buf ∧ t.dram = s.dram)
  ∧ (∀ (s : State) (who : BufSrc) (a : BitVec 34) (bs : List Byte) (x : BufLine),
      a.toNat < s.usableBytes →
      s.bufOn = true →
      s.cached (a.toNat / 128) = some x →
      s.rdB R.JIG_GOLD_BASE_lock = false →
      ∃ t, exec (.bufRequest who false a (.write bs) .none) s = .next t
        ∧ (t.cached (a.toNat / 128)).map (fun y => (y.set, y.way, y.tag, y.dirty, y.by_)) = some (x.set, x.way, x.tag, true, who)
        ∧ t.dram = memWriteBytes s.dram a.toNat bs
        ∧ t.rd R.BUF_CNT_HIT_count = satAdd (2 ^ R.BUF_CNT_HIT_count.w - 1) (s.rd R.BUF_CNT_HIT_count) 1)
  ∧ (∀ (s : State) (who : BufSrc) (a : BitVec 34) (n : Nat),
      a.toNat < s.usableBytes →
      s.bufOn = true →
      s.cached (a.toNat / 128) = none →
      s.victim (a.toNat / 128) = none →
      ∃ t, exec (.bufRequest who false a (.read n) .none) s = .next t
        ∧ (t.cached (a.toNat / 128)).map (fun y => (y.way, y.dirty)) = some (s.pickWay, false)
        ∧ t.rd R.BUF_CNT_MISS_count = satAdd (2 ^ R.BUF_CNT_MISS_count.w - 1) (s.rd R.BUF_CNT_MISS_count) 1
        ∧ (s.buf.lines.find? (fun x => x.set == lineSet (a.toNat / 128) && x.way == s.pickWay) = none → t.dram = s.dram ∧ t.reply = BitVec.ofNat 32 (leValue (memReadBytes s.dram a.toNat (min n 4)))))
  ∧ (∀ (s : State) (k : Fin 16),
      ∃ t, exec (.victimWritebackIssue k) s = .next t
        ∧ (t.buf.victims[k.val]?).map (fun v => (v.line, v.started)) = (s.buf.victims[k.val]?).map (fun v => (v.line, true))
        ∧ t.buf.victims.length = s.buf.victims.length
        ∧ t.dram = s.dram
        ∧ s.fieldsKept [R.BUF_STAT_victims] t)
  ∧ (∀ (s : State) (k : Fin 16) (v : Victim),
      s.buf.victims[k.val]? = some v →
      v.started = true →
      s.rdB R.JIG_GOLD_BASE_lock = false →
      ∃ t, exec (.victimWritebackAccept k) s = .next t
        ∧ t.buf.victims = s.buf.victims.eraseIdx k.val
        ∧ t.dram = s.dram
        ∧ s.fieldsKept [R.BUF_STAT_victims] t)
  ∧ (∀ (s : State) (who : Init) (all : Bool) (count : BitVec 16),
      s.reaches 34 →
      s.maintRefused .zero false all count.toNat = false →
      s.rdB R.JIG_GOLD_BASE_lock = false →
      Memory.wf s.dram = true →
      ∃ t, exec (.maintZero who false all count) s = .next t
        ∧ t.rd R.BUF_STAT_maint_busy = 1
        ∧ (List.range (128 * (count.toNat + 1))).all (fun j => memRead t.dram (s.maintBase + j) == 0) = true)
  ∧ (∀ (s : State) (who : Init) (all : Bool) (count : BitVec 16),
      s.reaches 34 →
      s.rdB R.SYS_CFG_ERR_valid = false →
      ∃ t, exec (.maintZero who true all count) s = .next t
        ∧ t.rd R.SYS_CFG_ERR_cause = 5
        ∧ t.rd R.BUF_STAT_maint_busy = s.rd R.BUF_STAT_maint_busy
        ∧ t.buf = s.buf ∧ t.dram = s.dram)
  ∧ (∀ (s : State) (who : Init) (all : Bool) (count : BitVec 16),
      s.reaches 34 →
      s.maintRefused .clean false all count.toNat = false →
      s.rdB R.BUF_CTL_en = true →
      s.rdB R.JIG_GOLD_BASE_lock = false →
      ∃ t, exec (.maintClean who false all count) s = .next t
        ∧ t.rd R.BUF_STAT_maint_busy = 1
        ∧ t.dram = s.dram
        ∧ (List.range (count.toNat + 1)).all (fun j => (t.cached (s.maintBase / 128 + j)).all (fun y => !y.dirty)) = true
        ∧ t.buf.lines.length = s.buf.lines.length)
  ∧ (∀ (s : State) (who : Init) (all : Bool) (x : BufLine),
      s.reaches 34 →
      s.maintRefused .inval false all 0 = false →
      s.rdB R.BUF_CTL_en = true →
      s.cached (s.maintBase / 128) = some x →
      ∃ t, exec (.maintInval who false all 0) s = .next t
        ∧ t.rd R.BUF_STAT_maint_busy = 1
        ∧ x ∉ t.buf.lines
        ∧ t.dram = (if x.behind = [] then s.dram else memWriteBytes s.dram (128 * (s.maintBase / 128)) x.behind))
  ∧ (∀ (s : State) (who : Init) (all : Bool) (x : BufLine),
      s.reaches 34 →
      s.maintRefused .cleanInval false all 0 = false →
      s.rdB R.BUF_CTL_en = true →
      s.cached (s.maintBase / 128) = some x →
      x.dirty = true →
      s.rdB R.JIG_GOLD_BASE_lock = false →
      ∃ t, exec (.maintCleanInval who false all 0) s = .next t
        ∧ t.rd R.BUF_STAT_maint_busy = 1
        ∧ x ∉ t.buf.lines
        ∧ t.dram = s.dram)
  ∧ (∀ (s : State),
      s.rdB R.BUF_STAT_maint_busy = true →
      ∃ t, exec .maintDone s = .next t
        ∧ t.rd R.BUF_STAT_maint_busy = 0
        ∧ s.fieldsKept [R.BUF_STAT_maint_busy] t
        ∧ t.buf = s.buf ∧ t.dram = s.dram)
  ∧ (∀ (s : State) (who : Init) (k : BitVec 4),
      s.reaches 34 →
      k.toNat ≤ 8 →
      k.toNat ≠ s.rd R.BUF_SPAD_ways →
      s.rdB R.BUF_STAT_spad_busy = false →
      s.rdB R.BUF_STAT_maint_busy = false →
      s.rdB R.BUF_STAT_draining = false →
      ∃ t, exec (.scratchpadWrite who k) s = .next t
        ∧ t.rd R.BUF_SPAD_ways = k.toNat ∧ t.rd R.BUF_STAT_spad_busy = 1
        ∧ (∀ e ∈ t.buf.lines, e.way < 16 - k.toNat)
        ∧ t.buf.spadReady = min s.buf.spadReady (min k.toNat (s.rd R.BUF_SPAD_ways))
        ∧ t.buf.spad = s.buf.spad.filter (fun c => decide (c.1 < min k.toNat (s.rd R.BUF_SPAD_ways) * 0x100000)))
  ∧ (∀ (s : State) (who : Init) (k : BitVec 4),
      s.reaches 34 →
      8 < k.toNat →
      k.toNat ≠ s.rd R.BUF_SPAD_ways →
      s.rdB R.SYS_CFG_ERR_valid = false →
      ∃ t, exec (.scratchpadWrite who k) s = .next t
        ∧ t.rd R.SYS_CFG_ERR_cause = 5
        ∧ t.buf = s.buf
        ∧ s.blocksKept [0] t)
  ∧ (∀ (s : State),
      s.rdB R.BUF_STAT_spad_busy = true →
      ∃ t, exec .scratchpadDone s = .next t
        ∧ t.rd R.BUF_STAT_spad_busy = 0
        ∧ t.buf = { s.buf with spadReady := s.rd R.BUF_SPAD_ways }
        ∧ s.fieldsKept [R.BUF_STAT_spad_busy] t)
  ∧ (∀ (s : State) (who : Init),
      s.reaches 34 →
      s.rdB R.BUF_CTL_en = true →
      ∃ t, exec (.bufDrainStart who) s = .next t
        ∧ t.rd R.BUF_CTL_en = 0 ∧ t.rd R.BUF_STAT_draining = 1
        ∧ t.buf = s.buf ∧ t.dram = s.dram
        ∧ s.fieldsKept [R.BUF_CTL_en, R.BUF_STAT_draining] t)
  ∧ (∀ (s : State),
      s.rdB R.BUF_STAT_draining = true →
      ∃ t, exec .bufDrainDone s = .next t
        ∧ t.rd R.BUF_STAT_draining = 0
        ∧ t.buf.lines = [] ∧ t.buf.victims = []
        ∧ (s.rdB R.JIG_GOLD_BASE_lock = false → (∀ e ∈ s.buf.lines, e.dirty = true) → t.dram = s.dram))
  ∧ (∀ (s : State) (who : Init),
      ∃ t, exec (.bufSoftReset who) s = .next t
        ∧ t.rd R.BUF_CTL_srst = 1
        ∧ t.buf = BufState.init)

/-- DRC serves words, counts and reports their errors, scrubs and retrains (parts of R424, R435, R437, R441, R442, R445). In every state and
for all operands that meet the conditions of a clause, the command answers the next state that the clause describes. Commands:
DRC_REQUEST, PATROL_SCRUB_READ, PATROL_PASS_DONE, RETRAIN_PERIODIC, DRC_RETRAIN_CMD, RETRAIN_DONE, REFRESH_RATE_READ. Where the spec
leaves a point open, the clauses follow the model's choices (assumptions 5 and 11). -/
def Obligations.DramController : Prop :=
  (∀ (s : State) (l2 : Bool) (word : BitVec 29) (op : WordOp) (err : DramErr),
      s.usableBytes ≤ 32 * word.toNat →
      ∃ t, exec (.drcRequest l2 word op err) s = .next t
        ∧ t = { s with reply := 0 })
  ∧ (∀ (s : State) (l2 : Bool) (word : BitVec 29) (op : WordOp) (err : DramErr),
      32 * word.toNat < s.usableBytes →
      s.drcServes (drcChannel (32 * word.toNat)) = false →
      ∃ t, exec (.drcRequest l2 word op err) s = .next t
        ∧ t = s)
  ∧ (∀ (s : State) (l2 : Bool) (word : BitVec 29),
      32 * word.toNat < s.usableBytes →
      s.drcServes (drcChannel (32 * word.toNat)) = true →
      word.toNat ∉ s.drc.poison →
      s.flipsOf word.toNat = 0 →
      ∃ t, exec (.drcRequest l2 word .read .none) s = .next t
        ∧ t = { s with reply := BitVec.ofNat 32 (leValue ((s.rawWord word.toNat).take 4)) })
  ∧ (∀ (s : State) (l2 : Bool) (word : BitVec 29),
      32 * word.toNat < s.usableBytes →
      s.drcServes (drcChannel (32 * word.toNat)) = true →
      word.toNat ∉ s.drc.poison →
      s.rdB R.DRC_ERR_valid = false →
      ∃ t, exec (.drcRequest l2 word .read .uncorrectable) s = .next t
        ∧ word.toNat ∈ t.drc.poison
        ∧ t.rd R.DRC_ERR_valid = 1 ∧ t.rd R.DRC_ERR_cause = 1 ∧ t.rd R.DRC_ERR_source = (if l2 then 1 else 0) ∧ t.rd64 R.DRC_ERR_ADDR_addr = 32 * word.toNat
        ∧ t.rd R.DRC_CNT_UE_ue = satAdd (2 ^ R.DRC_CNT_UE_ue.w - 1) (s.rd R.DRC_CNT_UE_ue) 1)
  ∧ (∀ (s : State) (l2 : Bool) (word : BitVec 29) (bytes : List Byte) (err : DramErr),
      32 * word.toNat < s.usableBytes →
      s.drcServes (drcChannel (32 * word.toNat)) = true →
      l2 = false ∨ s.rdB R.JIG_GOLD_BASE_lock = false →
      s.cached (word.toNat / 4) = none →
      s.victim (word.toNat / 4) = none →
      bytes.length = 32 →
      s.rdB R.DRC_INJ_arm = false →
      ∃ t, exec (.drcRequest l2 word (.write (BitVec.allOnes 32) bytes) err) s = .next t
        ∧ t.dram = memWriteBytes s.dram (32 * word.toNat) bytes
        ∧ word.toNat ∉ t.drc.poison ∧ t.flipsOf word.toNat = 0
        ∧ t.regs = s.regs)
  ∧ (∀ (s : State) (err : DramErr),
      s.rdB R.DRC_SCRUB_CFG_en = true →
      s.drcServes (drcChannel (32 * s.drc.scrubAt)) = true →
      32 * s.drc.scrubAt < s.usableBytes →
      ∃ t, exec (.patrolScrubRead err) s = .next t
        ∧ t.drc.scrubAt = s.drc.scrubAt + 1
        ∧ t.drc.poison = s.drc.poison
        ∧ (err = .corrected → s.drc.scrubAt ∉ s.drc.poison → t.rd R.DRC_CNT_CE_count = satAdd (2 ^ R.DRC_CNT_CE_count.w - 1) (s.rd R.DRC_CNT_CE_count) 1)
        ∧ t.dram = s.dram)
  ∧ (∀ (s : State),
      s.usableBytes ≤ 32 * s.drc.scrubAt →
      ∃ t, exec .patrolPassDone s = .next t
        ∧ t.drc = { s.drc with scrubAt := 0 }
        ∧ t.regs = s.regs)
  ∧ (∀ (s : State),
      s.rdB R.DRC_CTL_en = true →
      s.rdB R.DRC_TRN_CFG_period = true →
      ∃ t, exec .retrainPeriodic s = .next t
        ∧ t = s.updDrc (fun d => { d with retrain := if d.retrain = [] then bitsOf (s.rd R.DRC_STAT_ready) 4 else d.retrain }))
  ∧ (∀ (s : State) (who : Init),
      s.reaches 35 →
      ∃ t, exec (.drcRetrainCmd who) s = .next t
        ∧ t = s.updDrc (fun d => { d with retrain := if d.retrain = [] then bitsOf (s.rd R.DRC_STAT_ready) 4 else d.retrain }))
  ∧ (∀ (s : State) (ok : Bool) (c : Nat) (r : List Nat),
      s.drc.retrain = c :: r →
      c < 4 →
      ∃ t, exec (.retrainDone ok) s = .next t
        ∧ t.drc = { s.drc with retrain := r }
        ∧ t.rdBit R.DRC_STAT_trn_fail c = (if ok then s.rdBit R.DRC_STAT_trn_fail c else true)
        ∧ t.rd R.DRC_STAT_ready = s.rd R.DRC_STAT_ready
        ∧ s.fieldsKept [R.DRC_STAT_trn_fail] t)
  ∧ (∀ (s : State) (mr4 : BitVec 8),
      s.rdB R.DRC_CTL_en = true →
      ∃ t, exec (.refreshRateRead mr4) s = .next t
        ∧ t = s.updDrc (fun d => { d with mr4 := mr4 }))

/-- Controllers are enabled, reset and shut down, and links change (parts of R64, R65, R337, R338, R366, R367, R396). In every state and for
all operands that meet the conditions of a clause, the command answers the next state that the clause describes. Commands: CC_EN_SET,
CC_EN_CLEAR, FUNCTION_LEVEL_RESET, PCIE_CONVENTIONAL_RESET, CC_SHN_WRITE, HIF_CFG_READY, LINK_CHANGE. Where the spec leaves a point open,
the clauses follow the model's choices (assumptions 11 and 81). -/
def Obligations.ControllersAndLinks : Prop :=
  (∀ (s : State) (ctrl : Fin 2) (crime : Bool),
      s.ctrlThere ctrl.val = true →
      (s.ctrl ctrl.val).en = false →
      (s.ctrl ctrl.val).rdy = false →
      ∃ t, exec (.ccEnSet ctrl crime) s = .next t
        ∧ (t.ctrl ctrl.val).en = true ∧ (t.ctrl ctrl.val).crime = crime
        ∧ (crime = true → s.host.activation = none → (t.ctrl ctrl.val).rdy = true ∧ t.rd (fetchF ctrl.val) = 1)
        ∧ (crime = false → s.mediaReady = false → (t.ctrl ctrl.val).rdy = false ∧ t.regs = s.regs)
        ∧ s.fieldsKept [R.HQE_CTL_fetch0, R.HQE_CTL_fetch1, R.HQE_STAT_fetching] t)
  ∧ (∀ (s : State) (ctrl : Fin 2),
      s.ctrlThere ctrl.val = true →
      (s.ctrl ctrl.val).en = true →
      ∃ t, exec (.ccEnClear ctrl) s = .next t
        ∧ (t.ctrl ctrl.val).en = false ∧ (t.ctrl ctrl.val).rdy = false ∧ (t.ctrl ctrl.val).aers = [] ∧ (t.ctrl ctrl.val).capture = false
        ∧ t.rd (fetchF ctrl.val) = 0
        ∧ t.rdBit (rstEvtF ctrl.val) 4 = true
        ∧ (s.host.activation = none → ∀ x ∈ t.host.ctxs, x.ctrl ≠ ctrl.val)
        ∧ t.dram = s.dram)
  ∧ (∀ (s : State) (port : Fin 2),
      s.portThere port.val = true →
      s.rdB (upF port.val) = true →
      ∃ t, exec (.functionLevelReset port) s = .next t
        ∧ (t.ctrl port.val).en = false ∧ (t.ctrl port.val).rdy = false
        ∧ t.rd (fetchF port.val) = 0
        ∧ t.rdBit (rstEvtF port.val) 3 = true
        ∧ (s.host.activation = none → ∀ x ∈ t.host.ctxs, x.ctrl ≠ port.val)
        ∧ t.rd (upF port.val) = s.rd (upF port.val))
  ∧ (∀ (s : State) (port : Fin 2) (kind : PcieReset),
      s.portThere port.val = true →
      s.host.pendingCommit = none →
      ∃ t, exec (.pcieConventionalReset port kind) s = .next t
        ∧ (t.ctrl port.val).en = false ∧ (t.ctrl port.val).rdy = false
        ∧ t.rdBit (rstEvtF port.val) (resetBit kind) = true
        ∧ (kind = .perst → (t.ctrl port.val).perst = true)
        ∧ (kind ≠ .hot → t.rd (upF port.val) = 0)
        ∧ (kind = .hot → t.rd (upF port.val) = s.rd (upF port.val))
        ∧ (s.host.activation = none → ∀ x ∈ t.host.ctxs, x.ctrl ≠ port.val))
  ∧ (∀ (s : State) (ctrl : Fin 2) (abrupt : Bool),
      s.ctrlThere ctrl.val = true →
      (s.ctrl ctrl.val).en = true →
      ∃ t, exec (.ccShnWrite ctrl abrupt) s = .next t
        ∧ t.rd (fetchF ctrl.val) = 0
        ∧ t.rdBit (rstEvtF ctrl.val) 5 = true
        ∧ (t.ctrl ctrl.val).shst = 1 ∨ (t.ctrl ctrl.val).shst = 2
        ∧ ((t.ctrl ctrl.val).shst = 2 → t.actDown .a = true ∧ t.actDown .b = true)
        ∧ (t.ctrl ctrl.val).en = true)
  ∧ (∀ (s : State) (who : Init),
      s.reaches 37 →
      ∃ t, exec (.hifCfgReady who) s = .next t
        ∧ t.rd R.HIF_CTL_cfg_ready = 1
        ∧ t = { s with regs := t.regs }
        ∧ s.fieldsKept [R.HIF_CTL_cfg_ready] t)
  ∧ (∀ (s : State) (port : Fin 2) (speed : BitVec 4) (width : BitVec 4) (pm dstate : BitVec 2) (ltssm : BitVec 6),
      s.linkMay port.val speed.toNat width.toNat = true →
      ∃ t, exec (.linkChange port true speed width pm dstate ltssm) s = .next t
        ∧ t.rd (upF port.val) = 1
        ∧ t.rd (R.HIF_LINK_speed.at port.val) = speed.toNat % 2 ^ R.HIF_LINK_speed.w ∧ t.rd (R.HIF_LINK_width.at port.val) = width.toNat % 2 ^ R.HIF_LINK_width.w
        ∧ t.rd (R.HIF_LINK_ltssm.at port.val) = ltssm.toNat
        ∧ (t.ctrl port.val).perst = false
        ∧ s.fieldsKept [upF port.val, R.HIF_LINK_speed.at port.val, R.HIF_LINK_width.at port.val, R.HIF_LINK_pm.at port.val, R.HIF_LINK_dstate.at port.val, R.HIF_LINK_ltssm.at port.val] t)
  ∧ (∀ (s : State) (port : Fin 2) (speed : BitVec 4) (width : BitVec 4) (pm dstate : BitVec 2) (ltssm : BitVec 6),
      s.rdB (upF port.val) = true →
      s.host.pendingCommit = none →
      ∃ t, exec (.linkChange port false speed width pm dstate ltssm) s = .next t
        ∧ t.rd (upF port.val) = 0 ∧ t.rd (R.HIF_LINK_speed.at port.val) = 0
        ∧ t.rdBit (rstEvtF port.val) 2 = true
        ∧ (t.ctrl port.val).en = false
        ∧ (s.host.activation = none → ∀ x ∈ t.host.ctxs, x.ctrl ≠ port.val))

/-- The management endpoint answers messages and counts them; disabled, it answers nothing (parts of R364). In every state and for all
operands that meet the conditions of a clause, the command answers the next state that the clause describes. Commands:
MI_READ_DATA_STRUCTURE, MI_SUBSYSTEM_HEALTH_POLL, MI_CONTROLLER_HEALTH_POLL, MI_CONFIGURATION_GET, MI_CONFIGURATION_SET, MI_VPD_READ,
MI_TUNNELLED_ADMIN. Where the spec leaves a point open, the clauses follow the model's choices (assumptions 4 and 31). -/
def Obligations.ManagementEndpoint : Prop :=
  (∀ (s : State),
      s.rdB R.HIF_MI_CFG_en = true →
      s.inSoftReset 37 = false →
      ∃ t, exec .miReadDataStructure s = .next t
        ∧ t.host.mi = some s.miStructure
        ∧ t.rd R.HIF_MI_CNT_msgs = satAdd (2 ^ R.HIF_MI_CNT_msgs.w - 1) (s.rd R.HIF_MI_CNT_msgs) 1
        ∧ s.fieldsKept [R.HIF_MI_CNT_msgs] t)
  ∧ (∀ (s : State),
      s.rdB R.HIF_MI_CFG_en = false ∨ s.inSoftReset 37 = true →
      ∃ t, exec .miReadDataStructure s = .next t
        ∧ t = s)
  ∧ (∀ (s : State),
      s.rdB R.HIF_MI_CFG_en = true →
      s.inSoftReset 37 = false →
      ∃ t, exec .miSubsystemHealthPoll s = .next t
        ∧ t.host.mi = some s.miSubsystem
        ∧ t.rd R.HIF_MI_CNT_msgs = satAdd (2 ^ R.HIF_MI_CNT_msgs.w - 1) (s.rd R.HIF_MI_CNT_msgs) 1)
  ∧ (∀ (s : State) (ctrl : Fin 2),
      s.rdB R.HIF_MI_CFG_en = true →
      s.inSoftReset 37 = false →
      ∃ t, exec (.miControllerHealthPoll ctrl) s = .next t
        ∧ t.host.mi = some (if s.portThere ctrl.val then s.miController ctrl.val else .of .invalidField))
  ∧ (∀ (s : State) (frequency : Bool),
      s.rdB R.HIF_MI_CFG_en = true →
      s.inSoftReset 37 = false →
      ∃ t, exec (.miConfigurationGet frequency) s = .next t
        ∧ t.host.mi = some ⟨.ok, if frequency then s.host.smbusKhz else s.host.mctpUnit, .none⟩
        ∧ t.host.smbusKhz = s.host.smbusKhz ∧ t.host.mctpUnit = s.host.mctpUnit)
  ∧ (∀ (s : State) (frequency : Bool) (value : BitVec 16),
      s.rdB R.HIF_MI_CFG_en = true →
      s.inSoftReset 37 = false →
      ∃ t, exec (.miConfigurationSet frequency value) s = .next t
        ∧ (frequency = true ∧ (value.toNat = 100 ∨ value.toNat = 400) → t.host.mi = some (.of .ok) ∧ t.host.smbusKhz = value.toNat ∧ t.host.mctpUnit = s.host.mctpUnit)
        ∧ (frequency = true ∧ value.toNat ≠ 100 ∧ value.toNat ≠ 400 → t.host.mi = some (.of .invalidField) ∧ t.host.smbusKhz = s.host.smbusKhz)
        ∧ (frequency = false ∧ 64 ≤ value.toNat → t.host.mi = some (.of .ok) ∧ t.host.mctpUnit = value.toNat ∧ t.host.smbusKhz = s.host.smbusKhz)
        ∧ (frequency = false ∧ value.toNat < 64 → t.host.mi = some (.of .invalidField) ∧ t.host.mctpUnit = s.host.mctpUnit))
  ∧ (∀ (s : State) (offset count : BitVec 16),
      s.rdB R.HIF_MI_CFG_en = true →
      s.inSoftReset 37 = false →
      ∃ t, exec (.miVpdRead offset count) s = .next t
        ∧ t.host.mi = some (if s.presence.vpd.length < offset.toNat + count.toNat then .of .invalidField else ⟨.ok, 0, .bytes ((s.presence.vpd.drop offset.toNat).take count.toNat)⟩))
  ∧ (∀ (s : State) (ctrl : Fin 2) (sel : IdentSel) (media : List (List Byte)),
      s.rdB R.HIF_MI_CFG_en = true →
      s.inSoftReset 37 = false →
      ∃ t, exec (.miTunnelledAdmin ctrl (.identify sel) media) s = .next t
        ∧ t.host.mi = some (s.identifyResult ctrl.val sel [])
        ∧ (t.ctrl ctrl.val).ps = (s.ctrl ctrl.val).ps)
  ∧ (∀ (s : State) (ctrl : Fin 2) (n : BitVec 14) (media : List (List Byte)),
      s.rdB R.HIF_MI_CFG_en = true →
      s.inSoftReset 37 = false →
      ∃ t, exec (.miTunnelledAdmin ctrl (.abort n) media) s = .next t
        ∧ t.host.mi = some (.of .invalidOpcode)
        ∧ t.host.ctxs = s.host.ctxs)

/-- The base firmware scans, replays the journal, saves zone states, keeps the key index, compacts and audits (parts of R387 to R394, R405 to
R416). In every state and for all operands that meet the conditions of a clause, the command answers the next state that the clause
describes. Commands: TAIL_SCAN, JOURNAL_ENTRY_COMPLETE, JOURNAL_REPLAY, ZONE_STATE_FLUSH, INDEX_JOURNAL_BATCH, INDEX_CHECKPOINT,
INDEX_REBUILD, COMPACTION, AUDIT_ZONE, ZONE_DIGEST_READBACK. Where the spec leaves a point open, the clauses follow the model's choices
(assumptions 2, 11, 23, 74, 75 and 76). -/
def Obligations.BaseFirmwareRecovery : Prop :=
  (∀ (s : State) (z : BitVec 20) (complete : Nat),
      (s.zone z.toNat).st = .unscanned →
      s.rdB R.GCK_STAT_lock = true →
      ∃ t, exec (.tailScan z complete) s = .next t
        ∧ (t.zone z.toNat).st = (if 0 < (t.zone z.toNat).wp then .closed else .empty)
        ∧ (t.zone z.toNat).wp = max (s.zone z.toNat).floor (((s.host.torn.filter (fun e => e.1 == z.toNat)).take complete).foldl (fun _ e => e.2.2) (s.zone z.toNat).wp)
        ∧ (∀ e ∈ t.host.torn, e.1 ≠ z.toNat)
        ∧ (s.rdB R.JIG_GOLD_BASE_lock = false → Memory.wf s.dram = true → t.bandPtr (s.zoneBands z.toNat).2 = (bandPtrs (t.zone z.toNat).wp).2 % 131072)
        ∧ (s.rdB R.JIG_GOLD_BASE_lock = false → Memory.wf s.dram = true → (s.zoneBands z.toNat).1 ≠ (s.zoneBands z.toNat).2 → t.bandPtr (s.zoneBands z.toNat).1 = (bandPtrs (t.zone z.toNat).wp).1 % 131072))
  ∧ (∀ (s : State) (seq : BitVec 64) (items : List ItemSpec) (u : JUnit),
      s.host.units.find? (fun u => u.seq == seq.toNat && !u.written) = some u →
      (s.host.units.filter (·.written)).length < 32 →
      ∀ w ∈ s.host.units, w.written = true → jSlotOf w.seq ≠ jSlotOf u.seq →
      ∃ t, exec (.journalEntryComplete seq items) s = .next t
        ∧ t.host.slots.head? = some ⟨u.seq, s.host.applied, u.lba, u.data⟩
        ∧ (∀ x ∈ t.host.units, x.seq = u.seq → x.written = true)
        ∧ (∀ e ∈ t.host.slots.tail, jSlotOf e.seq ≠ jSlotOf u.seq)
        ∧ t.host.pend.a.length + t.host.pend.b.length = s.host.pend.a.length + s.host.pend.b.length + items.length
        ∧ t.dram = s.dram ∧ t.regs = s.regs)
  ∧ (∀ (s : State) (found : List Nat),
      s.host.replayed = false →
      s.rdB R.GCK_STAT_lock = true →
      ∃ t, exec (.journalReplay found) s = .next t
        ∧ t.host.replayed = true
        ∧ t.host.units = []
        ∧ (∀ e ∈ t.host.slots, e.seq ≤ t.host.applied ∧ e.seq < t.host.jSeq))
  ∧ (∀ (s : State) (x : Act),
      ∃ t, exec (.zoneStateFlush x) s = .next t
        ∧ (∀ z ∈ s.host.unsaved, s.zoneActOf z = x → z ∉ t.host.unsaved ∧ zoneFind t.host.table z = (s.zone z).saved)
        ∧ (∀ z ∈ s.host.unsaved, s.zoneActOf z ≠ x → z ∈ t.host.unsaved)
        ∧ t.host.audit.buffered = 0
        ∧ t.host.zones = s.host.zones)
  ∧ (∀ (s : State),
      ∃ t, exec .indexJournalBatch s = .next t
        ∧ t.host.kv.journal = s.host.kv.journal ++ s.host.kv.dirty
        ∧ t.host.kv.dirty = [] ∧ t.host.kv.allocSaved = s.host.kv.alloc
        ∧ t.host.kv.index = s.host.kv.index ∧ t.host.kv.recs = s.host.kv.recs
        ∧ t.regs = s.regs ∧ t.dram = s.dram)
  ∧ (∀ (s : State),
      2 ^ 30 < s.host.kv.journalLen →
      ∃ t, exec .indexCheckpoint s = .next t
        ∧ t.host.kv.journal = [] ∧ t.host.kv.journalLen = 0
        ∧ (s.host.kv.newer = 0 → t.host.kv.newer = 1 ∧ t.host.kv.copy1 = s.host.kv.index ∧ t.host.kv.copy0 = s.host.kv.copy0)
        ∧ (s.host.kv.newer ≠ 0 → t.host.kv.newer = 0 ∧ t.host.kv.copy0 = s.host.kv.index ∧ t.host.kv.copy1 = s.host.kv.copy1)
        ∧ t.regs = s.regs ∧ t.dram = s.dram)
  ∧ (∀ (s : State),
      s.host.indexed = false →
      s.scanned = true →
      ∃ t, exec .indexRebuild s = .next t
        ∧ t.host.indexed = true
        ∧ (∀ r ∈ t.host.kv.recs, s.kvPresent r = true ∧ r.seq < t.host.kv.seq)
        ∧ (∀ e ∈ t.host.kv.index, e.tomb = false)
        ∧ t.host.kv.dirty = []
        ∧ t.dram = s.dram)
  ∧ (∀ (s : State) (zones : List Nat) (got : List (Nat × Option Block)),
      s.kvEmpty.length < 64 →
      s.nsReady 2 = true →
      s.kvVictim = none →
      ∃ t, exec (.compaction zones got) s = .next t
        ∧ t = s)
  ∧ (∀ (s : State) (zones : List Nat) (got : List (Nat × Option Block)) (z : Nat),
      s.kvEmpty.length < 64 →
      s.nsReady 2 = true →
      s.kvVictim = some z →
      s.kvLiveIn z = [] →
      ∀ c ∈ s.host.cmds, c.space ≠ .kv →
      s.bandsQuiet (s.zoneActOf z) (s.resetBands z) = true →
      ∃ t, exec (.compaction zones got) s = .next t
        ∧ (t.zone z).st = .empty ∧ (t.zone z).wp = 0 ∧ (t.zone z).epoch = ((s.zone z).epoch + 1) % 65536
        ∧ (∀ r ∈ t.host.kv.recs, ∀ e ∈ r.extents, e.zone ≠ z)
        ∧ t.host.kv.index = s.host.kv.index)
  ∧ (∀ (s : State) (got : List (Nat × Option Block)),
      s.mediaReady = false →
      ∃ t, exec (.auditZone got) s = .next t
        ∧ t = s)
  ∧ (∀ (s : State) (got : List (Nat × Option Block)),
      s.mediaReady = true →
      s.auditNext = none →
      s.host.audit.running = true →
      ∃ t, exec (.auditZone got) s = .next t
        ∧ t.host.audit.running = false ∧ t.host.audit.lastEnd = s.driveTime
        ∧ t.host.audit.pass = s.host.audit.pass
        ∧ t.regs = s.regs ∧ t.dram = s.dram)
  ∧ (∀ (s : State) (got : List (Nat × Option Block)) (z : Nat),
      s.mediaReady = true →
      s.auditNext = some z →
      s.host.audit.running = true →
      s.zoneClamped z = false →
      ∃ t, exec (.auditZone got) s = .next t
        ∧ t.host.audit.cursor = z + 1 ∧ t.host.audit.running = true
        ∧ t.host.audit.zones = s.host.audit.zones + (if (s.zone z).st = .full then 1 else 0)
        ∧ t.host.audit.values = s.host.audit.values + (s.host.kv.recs.filter (fun r => r.head.1 == z && s.kvLive r)).length
        ∧ t.host.zones = s.host.zones ∧ t.host.media = s.host.media ∧ t.dram = s.dram)
  ∧ (∀ (s : State) (z : BitVec 20) (got : List (Nat × Option Block)) (d : ZoneDigest),
      s.digestOf z.toNat = some d →
      (s.zone z.toNat).st = .full →
      d.digest = none →
      s.mediaReady = true →
      ∀ b ∈ List.range (s.zone z.toNat).wp, s.blockGot (s.zoneSpace z.toNat) got (blockAt z.toNat b) ≠ none →
      ∃ t, exec (.zoneDigestReadback z got) s = .next t
        ∧ t.digestOf z.toNat = some ⟨z.toNat, some (Config.sha256 (((List.range (s.zone z.toNat).wp).map (fun b => (s.blockGot (s.zoneSpace z.toNat) got (blockAt z.toNat b)).getD [])).flatten)), true⟩
        ∧ t.host.zones = s.host.zones)

/-- Identify, Set Features and Get Features answer and keep their values (parts of R339, R347, R351, R353, R354, R465). In every state and for
all operands that meet the conditions of a clause, the command answers the next state that the clause describes. Commands: IDENTIFY,
SET_ARBITRATION, SET_POWER_MANAGEMENT, SET_TEMP_THRESHOLD, SET_ERROR_RECOVERY, SET_VOLATILE_WRITE_CACHE, SET_NUMBER_OF_QUEUES,
SET_INTERRUPT_COALESCING, SET_INTERRUPT_VECTOR_CFG, SET_ASYNC_EVENT_CONFIG, SET_APST, SET_TIMESTAMP, SET_KEEP_ALIVE_TIMER,
SET_IO_COMMAND_SET_PROFILE, GET_FEATURES. Where the spec leaves a point open, the clauses follow the model's choices (assumptions 1, 21,
25, 26, 58 and 60). -/
def Obligations.AdminFeatures : Prop :=
  (∀ (s : State) (ctx : Fin 16384) (vendor : List Byte) (c : Context) (sel : IdentSel),
      s.adminLive ctx.val = some c →
      c.cmd = .identify sel →
      ∃ t, exec (.identify ctx vendor) s = .next t
        ∧ (t.ctx ctx.val).bind (·.result) = some (s.identifyResult c.ctrl sel vendor)
        ∧ t.regs = s.regs ∧ t.dram = s.dram)
  ∧ (∀ (s : State) (ctx : Fin 16384) (vendor : List Byte) (c : Context),
      s.adminLive ctx.val = some c →
      c.cmd = .identify (.zonedController) →
      ∃ t, exec (.identify ctx vendor) s = .next t
        ∧ (t.ctx ctx.val).bind (·.result) = some ⟨.ok, 0, .fields [("ZASL", .num 8)]⟩)
  ∧ (∀ (s : State) (ctx : Fin 16384) (c : Context) (fid : BitVec 8) (nsid : BitVec 32) (save : Bool) (value : Word) (data : List Nat),
      s.adminLive ctx.val = some c →
      c.cmd = .setFeature fid nsid save value data →
      fid.toNat = 0x01 →
      ∃ t, exec (.setArbitration ctx) s = .next t
        ∧ (t.ctx ctx.val).bind (·.result) = some ⟨.ok, 0, .none⟩
        ∧ featGet t.host.feats 0x01 (featKey 0x01 nsid.toNat value.toNat) = some ⟨0x01, featKey 0x01 nsid.toNat value.toNat, value, data⟩
        ∧ (save = true → featGet t.host.saved 0x01 (featKey 0x01 nsid.toNat value.toNat) = some ⟨0x01, featKey 0x01 nsid.toNat value.toNat, value, data⟩)
        ∧ (save = false → t.host.saved = s.host.saved)
        ∧ t.regs = s.regs ∧ t.dram = s.dram)
  ∧ (∀ (s : State) (ctx : Fin 16384) (c : Context) (fid : BitVec 8) (nsid : BitVec 32) (save : Bool) (value : Word) (data : List Nat),
      s.adminLive ctx.val = some c →
      c.cmd = .setFeature fid nsid save value data →
      fid.toNat = 0x02 →
      value.toNat % 32 ≤ 4 →
      ∃ t, exec (.setPowerManagement ctx) s = .next t
        ∧ (t.ctx ctx.val).bind (·.result) = some ⟨.ok, 0, .none⟩
        ∧ (t.ctrl c.ctrl).ps = value.toNat % 32
        ∧ (value.toNat % 32 ≤ 1 → (t.ctrl c.ctrl).psOp = value.toNat % 32)
        ∧ t.dram = s.dram)
  ∧ (∀ (s : State) (ctx : Fin 16384) (c : Context) (fid : BitVec 8) (nsid : BitVec 32) (save : Bool) (value : Word) (data : List Nat),
      s.adminLive ctx.val = some c →
      c.cmd = .setFeature fid nsid save value data →
      fid.toNat = 0x02 →
      4 < value.toNat % 32 →
      ∃ t, exec (.setPowerManagement ctx) s = .next t
        ∧ (t.ctx ctx.val).bind (·.result) = some (.of .invalidField)
        ∧ t.host.feats = s.host.feats
        ∧ t.regs = s.regs ∧ t.dram = s.dram)
  ∧ (∀ (s : State) (ctx : Fin 16384) (c : Context) (fid : BitVec 8) (nsid : BitVec 32) (save : Bool) (value : Word) (data : List Nat),
      s.adminLive ctx.val = some c →
      c.cmd = .setFeature fid nsid save value data →
      fid.toNat = 0x04 →
      value.toNat / 2 ^ 16 % 16 ≤ 8 →
      ∃ t, exec (.setTempThreshold ctx) s = .next t
        ∧ (t.ctx ctx.val).bind (·.result) = some ⟨.ok, 0, .none⟩
        ∧ featGet t.host.feats 0x04 (featKey 0x04 nsid.toNat value.toNat) = some ⟨0x04, featKey 0x04 nsid.toNat value.toNat, value, data⟩
        ∧ (save = true → featGet t.host.saved 0x04 (featKey 0x04 nsid.toNat value.toNat) = some ⟨0x04, featKey 0x04 nsid.toNat value.toNat, value, data⟩)
        ∧ (save = false → t.host.saved = s.host.saved)
        ∧ t.regs = s.regs ∧ t.dram = s.dram)
  ∧ (∀ (s : State) (ctx : Fin 16384) (c : Context) (fid : BitVec 8) (nsid : BitVec 32) (save : Bool) (value : Word) (data : List Nat),
      s.adminLive ctx.val = some c →
      c.cmd = .setFeature fid nsid save value data →
      fid.toNat = 0x05 →
      nsid.toNat = 1 ∨ nsid.toNat = 2 ∨ nsid.toNat = 3 →
      bitAt value.toNat 16 = false →
      ∃ t, exec (.setErrorRecovery ctx) s = .next t
        ∧ (t.ctx ctx.val).bind (·.result) = some ⟨.ok, 0, .none⟩
        ∧ t.tler nsid.toNat = value.toNat % 65536
        ∧ t.regs = s.regs ∧ t.dram = s.dram)
  ∧ (∀ (s : State) (ctx : Fin 16384) (c : Context) (fid : BitVec 8) (nsid : BitVec 32) (save : Bool) (value : Word) (data : List Nat),
      s.adminLive ctx.val = some c →
      c.cmd = .setFeature fid nsid save value data →
      fid.toNat = 0x05 →
      nsid.toNat = 0xFFFFFFFF →
      bitAt value.toNat 16 = false →
      ∃ t, exec (.setErrorRecovery ctx) s = .next t
        ∧ (t.ctx ctx.val).bind (·.result) = some ⟨.ok, 0, .none⟩
        ∧ t.tler 1 = value.toNat % 65536 ∧ t.tler 2 = value.toNat % 65536 ∧ t.tler 3 = value.toNat % 65536
        ∧ t.regs = s.regs ∧ t.dram = s.dram)
  ∧ (∀ (s : State) (ctx : Fin 16384) (c : Context) (fid : BitVec 8) (nsid : BitVec 32) (save : Bool) (value : Word) (data : List Nat),
      s.adminLive ctx.val = some c →
      c.cmd = .setFeature fid nsid save value data →
      fid.toNat = 0x06 →
      ∃ t, exec (.setVolatileWriteCache ctx) s = .next t
        ∧ (t.ctx ctx.val).bind (·.result) = some ⟨.ok, 0, .none⟩
        ∧ (t.host.feats.find? (fun f => f.fid == 6)).map (·.value) = some value
        ∧ t.cacheOn = decide (value.toNat % 2 = 1)
        ∧ t.regs = s.regs ∧ t.dram = s.dram)
  ∧ (∀ (s : State) (ctx : Fin 16384) (c : Context) (fid : BitVec 8) (nsid : BitVec 32) (save : Bool) (value : Word) (data : List Nat),
      s.adminLive ctx.val = some c →
      c.cmd = .setFeature fid nsid save value data →
      fid.toNat = 0x07 →
      ∃ t, exec (.setNumberOfQueues ctx) s = .next t
        ∧ (t.ctx ctx.val).bind (·.result) = some ⟨.ok, min (s.queuePairs - 1) (value.toNat / 2 ^ 16) * 2 ^ 16 + min (s.queuePairs - 1) (value.toNat % 2 ^ 16), .none⟩
        ∧ t.regs = s.regs ∧ t.dram = s.dram)
  ∧ (∀ (s : State) (ctx : Fin 16384) (c : Context) (fid : BitVec 8) (nsid : BitVec 32) (save : Bool) (value : Word) (data : List Nat),
      s.adminLive ctx.val = some c →
      c.cmd = .setFeature fid nsid save value data →
      fid.toNat = 0x08 →
      ∃ t, exec (.setInterruptCoalescing ctx) s = .next t
        ∧ (t.ctx ctx.val).bind (·.result) = some ⟨.ok, 0, .none⟩
        ∧ featGet t.host.feats 0x08 (featKey 0x08 nsid.toNat value.toNat) = some ⟨0x08, featKey 0x08 nsid.toNat value.toNat, value, data⟩
        ∧ (save = true → featGet t.host.saved 0x08 (featKey 0x08 nsid.toNat value.toNat) = some ⟨0x08, featKey 0x08 nsid.toNat value.toNat, value, data⟩)
        ∧ (save = false → t.host.saved = s.host.saved)
        ∧ t.regs = s.regs ∧ t.dram = s.dram)
  ∧ (∀ (s : State) (ctx : Fin 16384) (c : Context) (fid : BitVec 8) (nsid : BitVec 32) (save : Bool) (value : Word) (data : List Nat),
      s.adminLive ctx.val = some c →
      c.cmd = .setFeature fid nsid save value data →
      fid.toNat = 0x09 →
      ∃ t, exec (.setInterruptVectorCfg ctx) s = .next t
        ∧ (t.ctx ctx.val).bind (·.result) = some ⟨.ok, 0, .none⟩
        ∧ featGet t.host.feats 0x09 (featKey 0x09 nsid.toNat value.toNat) = some ⟨0x09, featKey 0x09 nsid.toNat value.toNat, value, data⟩
        ∧ (save = true → featGet t.host.saved 0x09 (featKey 0x09 nsid.toNat value.toNat) = some ⟨0x09, featKey 0x09 nsid.toNat value.toNat, value, data⟩)
        ∧ (save = false → t.host.saved = s.host.saved)
        ∧ t.regs = s.regs ∧ t.dram = s.dram)
  ∧ (∀ (s : State) (ctx : Fin 16384) (c : Context) (fid : BitVec 8) (nsid : BitVec 32) (save : Bool) (value : Word) (data : List Nat),
      s.adminLive ctx.val = some c →
      c.cmd = .setFeature fid nsid save value data →
      fid.toNat = 0x0B →
      ∃ t, exec (.setAsyncEventConfig ctx) s = .next t
        ∧ (t.ctx ctx.val).bind (·.result) = some ⟨.ok, 0, .none⟩
        ∧ featGet t.host.feats 0x0B (featKey 0x0B nsid.toNat value.toNat) = some ⟨0x0B, featKey 0x0B nsid.toNat value.toNat, value, data⟩
        ∧ (save = true → featGet t.host.saved 0x0B (featKey 0x0B nsid.toNat value.toNat) = some ⟨0x0B, featKey 0x0B nsid.toNat value.toNat, value, data⟩)
        ∧ (save = false → t.host.saved = s.host.saved)
        ∧ t.regs = s.regs ∧ t.dram = s.dram)
  ∧ (∀ (s : State) (ctx : Fin 16384) (c : Context) (fid : BitVec 8) (nsid : BitVec 32) (save : Bool) (value : Word) (data : List Nat),
      s.adminLive ctx.val = some c →
      c.cmd = .setFeature fid nsid save value data →
      fid.toNat = 0x0C →
      ∃ t, exec (.setApst ctx) s = .next t
        ∧ (t.ctx ctx.val).bind (·.result) = some ⟨.ok, 0, .none⟩
        ∧ (bitAt value.toNat 0 = false → ∀ j ∈ List.range 3, t.rd (R.PWR_IDLE_ms.at j) = 0)
        ∧ (bitAt value.toNat 0 = true → ∀ j ∈ List.range 3, t.rd (R.PWR_IDLE_ms.at j) = min (2 ^ R.PWR_IDLE_ms.w - 1) (apstIdle (data.take 32) (2 + j)))
        ∧ s.fieldsKept [R.PWR_IDLE_ms.at 0, R.PWR_IDLE_ms.at 1, R.PWR_IDLE_ms.at 2] t)
  ∧ (∀ (s : State) (ctx : Fin 16384) (c : Context) (fid : BitVec 8) (nsid : BitVec 32) (save : Bool) (value : Word) (data : List Nat),
      s.adminLive ctx.val = some c →
      c.cmd = .setFeature fid nsid save value data →
      fid.toNat = 0x0E →
      save = false →
      s.driveTime < 2 ^ 64 →
      ∃ t, exec (.setTimestamp ctx) s = .next t
        ∧ (t.ctx ctx.val).bind (·.result) = some ⟨.ok, 0, .none⟩
        ∧ t.timestampNow c.ctrl = data.headD 0 % 2 ^ 48
        ∧ t.regs = s.regs ∧ t.dram = s.dram)
  ∧ (∀ (s : State) (ctx : Fin 16384) (c : Context) (fid : BitVec 8) (nsid : BitVec 32) (save : Bool) (value : Word) (data : List Nat),
      s.adminLive ctx.val = some c →
      c.cmd = .setFeature fid nsid save value data →
      fid.toNat = 0x0F →
      save = false →
      ∃ t, exec (.setKeepAliveTimer ctx) s = .next t
        ∧ (t.ctx ctx.val).bind (·.result) = some ⟨.ok, 0, .none⟩
        ∧ featGet t.host.feats 0x0F (featKey 0x0F nsid.toNat value.toNat) = some ⟨0x0F, featKey 0x0F nsid.toNat value.toNat, value, data⟩
        ∧ (save = true → featGet t.host.saved 0x0F (featKey 0x0F nsid.toNat value.toNat) = some ⟨0x0F, featKey 0x0F nsid.toNat value.toNat, value, data⟩)
        ∧ (save = false → t.host.saved = s.host.saved)
        ∧ t.regs = s.regs ∧ t.dram = s.dram)
  ∧ (∀ (s : State) (ctx : Fin 16384) (c : Context) (fid : BitVec 8) (nsid : BitVec 32) (save : Bool) (value : Word) (data : List Nat),
      s.adminLive ctx.val = some c →
      c.cmd = .setFeature fid nsid save value data →
      fid.toNat = 0x19 →
      value.toNat % 512 = 0 →
      ∃ t, exec (.setIoCommandSetProfile ctx) s = .next t
        ∧ (t.ctx ctx.val).bind (·.result) = some ⟨.ok, 0, .none⟩
        ∧ featGet t.host.feats 0x19 (featKey 0x19 nsid.toNat value.toNat) = some ⟨0x19, featKey 0x19 nsid.toNat value.toNat, value, data⟩
        ∧ (save = true → featGet t.host.saved 0x19 (featKey 0x19 nsid.toNat value.toNat) = some ⟨0x19, featKey 0x19 nsid.toNat value.toNat, value, data⟩)
        ∧ (save = false → t.host.saved = s.host.saved)
        ∧ t.regs = s.regs ∧ t.dram = s.dram)
  ∧ (∀ (s : State) (ctx : Fin 16384) (c : Context) (fid : BitVec 8) (nsid : BitVec 32) (save : Bool) (value : Word) (data : List Nat),
      s.adminLive ctx.val = some c →
      c.cmd = .setFeature fid nsid save value data →
      fid.toNat = 0x19 →
      value.toNat % 512 ≠ 0 →
      ∃ t, exec (.setIoCommandSetProfile ctx) s = .next t
        ∧ (t.ctx ctx.val).bind (·.result) = some (.of .invalidField)
        ∧ t.host.feats = s.host.feats
        ∧ t.regs = s.regs ∧ t.dram = s.dram)
  ∧ (∀ (s : State) (ctx : Fin 16384) (c : Context) (fid : BitVec 8) (nsid : BitVec 32) (sel : FeatSel) (dw11 : Word),
      s.adminLive ctx.val = some c →
      c.cmd = .getFeature fid nsid sel dw11 →
      ∃ t, exec (.getFeatures ctx) s = .next t
        ∧ (t.ctx ctx.val).bind (·.result) = some (s.getFeatureResult c.ctrl fid.toNat nsid.toNat sel dw11.toNat)
        ∧ (fid.toNat = 0x02 → sel = .current → (t.ctx ctx.val).bind (·.result) = some ⟨.ok, (s.ctrl c.ctrl).ps, .none⟩)
        ∧ (fid.toNat = 0x06 → sel = .current → (featGet s.host.feats 6 0).isSome = true → (t.ctx ctx.val).bind (·.result) = some ⟨.ok, ((featGet s.host.feats 6 0).map (fun f => f.value.toNat)).getD 0, .none⟩)
        ∧ t.regs = s.regs ∧ t.dram = s.dram)

/-- Get Log Page answers each log and has its effects (parts of R355, R356, R361, R420). In every state and for all operands that meet the
conditions of a clause, the command answers the next state that the clause describes. Commands: GET_LOG_ERROR_INFO, GET_LOG_SMART,
GET_LOG_FW_SLOT, GET_LOG_CHANGED_NS, GET_LOG_EFFECTS, GET_LOG_TELEMETRY, GET_LOG_CHANGED_ZONES, GET_LOG_EVENTS, GET_LOG_MEDIA_STATUS,
GET_LOG_AUDIT. Where the spec leaves a point open, the clauses follow the model's choices (assumptions 1, 59, 60 and 61). -/
def Obligations.AdminLogs : Prop :=
  (∀ (s : State) (ctx : Fin 16384) (c : Context) (lid : BitVec 8) (nsid : BitVec 32) (lsp : BitVec 7) (offset : BitVec 64) (index : BitVec 48) (rae : Bool) (bytes : Nat),
      s.adminLive ctx.val = some c →
      c.cmd = .getLog lid nsid lsp offset index rae bytes →
      lid.toNat = 0x01 →
      ∃ t, exec (.getLogErrorInfo ctx) s = .next t
        ∧ (t.ctx ctx.val).bind (·.result) = some ⟨.ok, 0, .errors s.host.errors⟩
        ∧ t.regs = s.regs ∧ t.dram = s.dram)
  ∧ (∀ (s : State) (ctx : Fin 16384) (c : Context) (lid : BitVec 8) (nsid : BitVec 32) (lsp : BitVec 7) (offset : BitVec 64) (index : BitVec 48) (rae : Bool) (bytes : Nat),
      s.adminLive ctx.val = some c →
      c.cmd = .getLog lid nsid lsp offset index rae bytes →
      lid.toNat = 0x02 →
      nsid.toNat ≤ 3 ∨ nsid.toNat = 0xFFFFFFFF →
      ∃ t, exec (.getLogSmart ctx) s = .next t
        ∧ (t.ctx ctx.val).bind (·.result) = some ⟨.ok, 0, .fields s.smartLog⟩
        ∧ s.smartLog.head? = some ("Critical Warning", .num s.criticalWarning)
        ∧ t.regs = s.regs ∧ t.dram = s.dram)
  ∧ (∀ (s : State) (ctx : Fin 16384) (c : Context) (lid : BitVec 8) (nsid : BitVec 32) (lsp : BitVec 7) (offset : BitVec 64) (index : BitVec 48) (rae : Bool) (bytes : Nat),
      s.adminLive ctx.val = some c →
      c.cmd = .getLog lid nsid lsp offset index rae bytes →
      lid.toNat = 0x02 →
      3 < nsid.toNat →
      nsid.toNat ≠ 0xFFFFFFFF →
      ∃ t, exec (.getLogSmart ctx) s = .next t
        ∧ (t.ctx ctx.val).bind (·.result) = some (.of .invalidNamespace)
        ∧ t.regs = s.regs ∧ t.dram = s.dram)
  ∧ (∀ (s : State) (ctx : Fin 16384) (c : Context) (lid : BitVec 8) (nsid : BitVec 32) (lsp : BitVec 7) (offset : BitVec 64) (index : BitVec 48) (rae : Bool) (bytes : Nat),
      s.adminLive ctx.val = some c →
      c.cmd = .getLog lid nsid lsp offset index rae bytes →
      lid.toNat = 0x03 →
      ∃ t, exec (.getLogFwSlot ctx) s = .next t
        ∧ (t.ctx ctx.val).bind (·.result) = some ⟨.ok, 0, .fields s.fwSlotLog⟩
        ∧ t.regs = s.regs ∧ t.dram = s.dram)
  ∧ (∀ (s : State) (ctx : Fin 16384) (c : Context) (lid : BitVec 8) (nsid : BitVec 32) (lsp : BitVec 7) (offset : BitVec 64) (index : BitVec 48) (rae : Bool) (bytes : Nat),
      s.adminLive ctx.val = some c →
      c.cmd = .getLog lid nsid lsp offset index rae bytes →
      lid.toNat = 0x04 →
      ∃ t, exec (.getLogChangedNs ctx) s = .next t
        ∧ (t.ctx ctx.val).bind (·.result) = some ⟨.ok, 0, .fields s.changedNsLog⟩
        ∧ t.host.changedNs = (if rae then s.host.changedNs else [])
        ∧ t.regs = s.regs ∧ t.dram = s.dram)
  ∧ (∀ (s : State) (ctx : Fin 16384) (c : Context) (lid : BitVec 8) (nsid : BitVec 32) (lsp : BitVec 7) (offset : BitVec 64) (index : BitVec 48) (rae : Bool) (bytes : Nat),
      s.adminLive ctx.val = some c →
      c.cmd = .getLog lid nsid lsp offset index rae bytes →
      lid.toNat = 0x05 →
      ∃ t, exec (.getLogEffects ctx) s = .next t
        ∧ (t.ctx ctx.val).bind (·.result) = some ⟨.ok, 0, .fields effectsLog⟩
        ∧ t.regs = s.regs ∧ t.dram = s.dram)
  ∧ (∀ (s : State) (ctx : Fin 16384) (c : Context) (lid : BitVec 8) (nsid : BitVec 32) (lsp : BitVec 7) (offset : BitVec 64) (index : BitVec 48) (rae : Bool) (bytes : Nat),
      s.adminLive ctx.val = some c →
      c.cmd = .getLog lid nsid lsp offset index rae bytes →
      lid.toNat = 0x07 ∨ lid.toNat = 0x08 →
      ∃ t, exec (.getLogTelemetry ctx) s = .next t
        ∧ (t.ctx ctx.val).bind (·.result) = some ⟨.ok, 0, .telemetry s.ringBytes s.counters⟩
        ∧ t.regs = s.regs ∧ t.dram = s.dram)
  ∧ (∀ (s : State) (ctx : Fin 16384) (c : Context) (lid : BitVec 8) (nsid : BitVec 32) (lsp : BitVec 7) (offset : BitVec 64) (index : BitVec 48) (rae : Bool) (bytes : Nat),
      s.adminLive ctx.val = some c →
      c.cmd = .getLog lid nsid lsp offset index rae bytes →
      lid.toNat = 0xBF →
      nsid.toNat = 1 →
      ∃ t, exec (.getLogChangedZones ctx) s = .next t
        ∧ (t.ctx ctx.val).bind (·.result) = some ⟨.ok, 0, .fields s.changedZonesLog⟩
        ∧ t.host.changedZones = (if rae then s.host.changedZones else [])
        ∧ t.regs = s.regs ∧ t.dram = s.dram)
  ∧ (∀ (s : State) (ctx : Fin 16384) (media : List (List Byte)) (c : Context) (lid : BitVec 8) (nsid : BitVec 32) (lsp : BitVec 7) (offset : BitVec 64) (index : BitVec 48) (rae : Bool) (bytes : Nat),
      s.adminLive ctx.val = some c →
      c.cmd = .getLog lid nsid lsp offset index rae bytes →
      lid.toNat = 0xC0 →
      offset.toNat % 64 = 0 →
      lsp.toNat ≠ 1 →
      ∃ t, exec (.getLogEvents ctx media) s = .next t
        ∧ (t.ctx ctx.val).bind (·.result) = some ⟨.ok, 0, .bytes (((s.eventHeader (s.eventRecords media) ++ (s.eventRecords media).flatten).drop offset.toNat).take bytes)⟩
        ∧ (rae = false → (t.ctrl c.ctrl).vendorMasked = false)
        ∧ t.regs = s.regs ∧ t.dram = s.dram)
  ∧ (∀ (s : State) (ctx : Fin 16384) (media : List (List Byte)) (c : Context) (lid : BitVec 8) (nsid : BitVec 32) (lsp : BitVec 7) (offset : BitVec 64) (index : BitVec 48) (rae : Bool) (bytes : Nat),
      s.adminLive ctx.val = some c →
      c.cmd = .getLog lid nsid lsp offset index rae bytes →
      lid.toNat = 0xC0 →
      offset.toNat % 64 ≠ 0 →
      ∃ t, exec (.getLogEvents ctx media) s = .next t
        ∧ (t.ctx ctx.val).bind (·.result) = some (.of .invalidField)
        ∧ t.host.c0 = s.host.c0 ∧ t.host.c1 = s.host.c1
        ∧ t.regs = s.regs ∧ t.dram = s.dram)
  ∧ (∀ (s : State) (ctx : Fin 16384) (c : Context) (lid : BitVec 8) (nsid : BitVec 32) (lsp : BitVec 7) (offset : BitVec 64) (index : BitVec 48) (rae : Bool) (bytes : Nat),
      s.adminLive ctx.val = some c →
      c.cmd = .getLog lid nsid lsp offset index rae bytes →
      lid.toNat = 0xC1 →
      ∃ t, exec (.getLogMediaStatus ctx) s = .next t
        ∧ (t.ctx ctx.val).bind (·.result) = some ⟨.ok, 0, .bytes ((s.mediaLog.drop offset.toNat).take bytes)⟩
        ∧ t.regs = s.regs ∧ t.dram = s.dram)
  ∧ (∀ (s : State) (ctx : Fin 16384) (c : Context) (lid : BitVec 8) (nsid : BitVec 32) (lsp : BitVec 7) (offset : BitVec 64) (index : BitVec 48) (rae : Bool) (bytes : Nat),
      s.adminLive ctx.val = some c →
      c.cmd = .getLog lid nsid lsp offset index rae bytes →
      lid.toNat = 0xC2 →
      offset.toNat % 128 = 0 →
      lsp.toNat ≠ 1 →
      ∃ t, exec (.getLogAudit ctx) s = .next t
        ∧ (t.ctx ctx.val).bind (·.result) = some ⟨.ok, 0, .bytes (((s.auditHeader c.ctrl s.host.audit.recs.reverse ++ (s.host.audit.recs.reverse.map AuditRec.bytes).flatten).drop offset.toNat).take bytes)⟩
        ∧ (lsp.toNat = 2 → (t.ctrl c.ctrl).capture = true)
        ∧ (lsp.toNat = 3 → (t.ctrl c.ctrl).capture = false)
        ∧ t.regs = s.regs ∧ t.dram = s.dram)

/-- How Abort, Asynchronous Event Request, unsupported and vendor commands end (parts of R340, R345, R348, R356, R360, R365). In every state
and for all operands that meet the conditions of a clause, the command answers the next state that the clause describes. Commands:
ABORT_COMMAND, ASYNC_EVENT_REQUEST, UNSUPPORTED_COMMAND, VENDOR_COMMAND. Where the spec leaves a point open, the clauses follow the
model's choices (assumptions 2, 27 and 78). -/
def Obligations.AdminOtherCommands : Prop :=
  (∀ (s : State) (ctx : Fin 16384) (c d : Context) (n : BitVec 14),
      s.adminLive ctx.val = some c →
      c.cmd = .abort n →
      s.ctx n.toNat = some d →
      d.ctrl = c.ctrl →
      s.abortable d = true →
      d.no ≠ c.no →
      ∃ t, exec (.abortCommand ctx) s = .next t
        ∧ (t.ctx ctx.val).bind (·.result) = some ⟨.ok, 0, .none⟩
        ∧ (t.ctx n.toNat).bind (·.result) = some (.of .abortRequested)
        ∧ (∀ m ∈ t.host.cmds, m.ctx ≠ some d.no)
        ∧ t.regs = s.regs ∧ t.dram = s.dram)
  ∧ (∀ (s : State) (ctx : Fin 16384) (c : Context) (n : BitVec 14),
      s.adminLive ctx.val = some c →
      c.cmd = .abort n →
      ∀ d ∈ s.ctx n.toNat, d.ctrl ≠ c.ctrl ∨ s.abortable d = false →
      ∃ t, exec (.abortCommand ctx) s = .next t
        ∧ (t.ctx ctx.val).bind (·.result) = some ⟨.ok, 1, .none⟩
        ∧ t.host.cmds = s.host.cmds
        ∧ t.regs = s.regs ∧ t.dram = s.dram)
  ∧ (∀ (s : State) (ctx : Fin 16384) (c : Context) (v : AsyncEvent) (r : List AsyncEvent),
      s.adminLive ctx.val = some c →
      c.cmd = .asyncEvent →
      (s.ctrl c.ctrl).events = v :: r →
      ∃ t, exec (.asyncEventRequest ctx) s = .next t
        ∧ (t.ctx ctx.val).bind (·.result) = some ⟨.ok, asyncDw0 v, .none⟩
        ∧ (t.ctrl c.ctrl).events = r
        ∧ t.regs = s.regs ∧ t.dram = s.dram)
  ∧ (∀ (s : State) (ctx : Fin 16384) (c : Context),
      s.adminLive ctx.val = some c →
      c.cmd = .asyncEvent →
      (s.ctrl c.ctrl).events = [] →
      ∃ t, exec (.asyncEventRequest ctx) s = .next t
        ∧ ((s.ctrl c.ctrl).aers.length < 8 → (t.ctrl c.ctrl).aers = (s.ctrl c.ctrl).aers ++ [c.no] ∧ (t.ctx ctx.val).bind (·.result) = none)
        ∧ (8 ≤ (s.ctrl c.ctrl).aers.length → (t.ctx ctx.val).bind (·.result) = some (.of .asyncLimit))
        ∧ t.regs = s.regs ∧ t.dram = s.dram)
  ∧ (∀ (s : State) (ctx : Fin 16384) (c : Context) (v : Status),
      s.anyLive ctx.val = some c →
      unsupported c.cmd = some v →
      ∃ t, exec (.unsupportedCommand ctx) s = .next t
        ∧ (t.ctx ctx.val).bind (·.result) = some (.of v)
        ∧ t.regs = s.regs ∧ t.dram = s.dram)
  ∧ (∀ (s : State) (ctx : Fin 16384) (handler : Option Word) (c : Context) (v : Status),
      s.anyLive ctx.val = some c →
      vendorNone c.cmd = some v →
      ∃ t, exec (.vendorCommand ctx handler) s = .next t
        ∧ (t.ctx ctx.val).bind (·.result) = some (match handler with | some w => ⟨.ok, w.toNat, .none⟩ | none => .of v)
        ∧ t.regs = s.regs ∧ t.dram = s.dram)

/-- Write, Zone Append, Write Zeroes, Flush, Read and Verify have their effects (parts of R345, R346, R363, R377, R381 to R386, R393, R395).
In every state and for all operands that meet the conditions of a clause, the command answers the next state that the clause describes.
Commands: APPEND_ASSIGN, NVM_FLUSH, NVM_WRITE, NVM_READ, WRITE_ZEROES, NVM_VERIFY, ZONE_APPEND. Where the spec leaves a point open, the
clauses follow the model's choices (assumptions 2, 69, 70 and 76). -/
def Obligations.BlockCommands : Prop :=
  (∀ (s : State) (ctx : Fin 16384) (items : List (List ItemSpec)) (c : Context) (slba : BitVec 64) (data : List Block) (p : Prot),
      s.live ctx.val = some c →
      c.cmd = .write 1 slba data p →
      c.begun = false →
      s.mediaDeny 1 true slba.toNat data.length = none →
      protDeny p slba.toNat data = none →
      slba.toNat % 65536 + data.length ≤ 65536 →
      s.zoneDeny (slba.toNat / 65536) = none →
      (s.zone (slba.toNat / 65536)).wp = slba.toNat % 65536 →
      ∃ t, exec (.nvmWrite ctx items) s = .next t
        ∧ (t.zone (slba.toNat / 65536)).wp = slba.toNat % 65536 + data.length
        ∧ (∀ j ∈ List.range data.length, t.staged .zns (slba.toNat + j) = data[j]?)
        ∧ (s.cacheOn = true → c.waits = [] → (t.ctx ctx.val).bind (·.result) = some (.of .ok))
        ∧ t.dram = s.dram)
  ∧ (∀ (s : State) (ctx : Fin 16384) (items : List (List ItemSpec)) (c : Context) (slba : BitVec 64) (data : List Block) (p : Prot),
      s.live ctx.val = some c →
      c.cmd = .write 1 slba data p →
      c.begun = false →
      s.mediaDeny 1 true slba.toNat data.length = none →
      protDeny p slba.toNat data = none →
      slba.toNat % 65536 + data.length ≤ 65536 →
      s.zoneDeny (slba.toNat / 65536) = none →
      (s.zone (slba.toNat / 65536)).wp ≠ slba.toNat % 65536 →
      ∃ t, exec (.nvmWrite ctx items) s = .next t
        ∧ (t.ctx ctx.val).bind (·.result) = some (.of .zoneInvalidWrite)
        ∧ t.host.zones = s.host.zones ∧ t.host.cmds = s.host.cmds
        ∧ t.regs = s.regs ∧ t.dram = s.dram)
  ∧ (∀ (s : State) (ctx : Fin 16384) (items : List (List ItemSpec)) (c : Context) (slba : BitVec 64) (data : List Block) (p : Prot),
      s.live ctx.val = some c →
      c.cmd = .write 3 slba data p →
      c.begun = false →
      s.mediaDeny 3 true slba.toNat data.length = none →
      protDeny p slba.toNat data = none →
      ∃ t, exec (.nvmWrite ctx items) s = .next t
        ∧ (∀ j ∈ List.range data.length, t.staged .conv (slba.toNat + j) = data[j]?)
        ∧ t.host.jSeq = s.host.jSeq + (data.length + 15) / 16
        ∧ (t.host.units.drop s.host.units.length).map (·.lba) = (List.range ((data.length + 15) / 16)).map (fun j => slba.toNat + 16 * j)
        ∧ (s.cacheOn = true → c.waits = [] → (t.ctx ctx.val).bind (·.result) = some (.of .ok)))
  ∧ (∀ (s : State) (ctx : Fin 16384) (c : Context) (zslba : BitVec 64) (data : List Block) (p : Prot),
      s.live ctx.val = some c →
      c.cmd = .append 1 zslba data p →
      c.begun = false →
      s.mediaDeny 1 true zslba.toNat 1 = none →
      zslba.toNat % 65536 = 0 →
      data.length ≤ 256 →
      p.pract = true ∨ p.remap = true →
      protDeny p p.tag.toNat data = none →
      s.zoneDeny (zslba.toNat / 65536) = none →
      (s.zone (zslba.toNat / 65536)).wp + data.length ≤ 65536 →
      ∃ t, exec (.zoneAppend ctx) s = .next t
        ∧ (t.ctx ctx.val).map (fun d => (d.begun, d.result)) = some (true, none)
        ∧ (t.zone (zslba.toNat / 65536)).st = (if (s.zone (zslba.toNat / 65536)).st = .empty ∨ (s.zone (zslba.toNat / 65536)).st = .closed then .implicit else (s.zone (zslba.toNat / 65536)).st)
        ∧ (t.zone (zslba.toNat / 65536)).wp = (s.zone (zslba.toNat / 65536)).wp
        ∧ t.host.cmds = s.host.cmds)
  ∧ (∀ (s : State) (ctx : Fin 16384) (items : List (List ItemSpec)) (c : Context) (zslba : BitVec 64) (data : List Block) (p : Prot),
      s.live ctx.val = some c →
      c.cmd = .append 1 zslba data p →
      c.begun = true →
      c.moved = false →
      s.zoneDeny (zslba.toNat / 65536) = none →
      (s.zone (zslba.toNat / 65536)).wp + data.length ≤ 65536 →
      ∃ t, exec (.appendAssign ctx items) s = .next t
        ∧ (t.zone (zslba.toNat / 65536)).wp = (s.zone (zslba.toNat / 65536)).wp + data.length
        ∧ (∀ j ∈ List.range data.length, t.staged .zns (blockAt (zslba.toNat / 65536) (s.zone (zslba.toNat / 65536)).wp + j) = data[j]?)
        ∧ (s.cacheOn = true → c.waits = [] → (t.ctx ctx.val).bind (·.result) = some ⟨.ok, blockAt (zslba.toNat / 65536) (s.zone (zslba.toNat / 65536)).wp, .none⟩))
  ∧ (∀ (s : State) (ctx : Fin 16384) (items : List (List ItemSpec)) (c : Context) (slba : BitVec 64) (nlb : BitVec 16),
      s.live ctx.val = some c →
      c.cmd = .writeZeroes 3 slba nlb →
      c.begun = false →
      s.mediaDeny 3 true slba.toNat (nlb.toNat + 1) = none →
      ∃ t, exec (.writeZeroes ctx items) s = .next t
        ∧ (List.range (nlb.toNat + 1)).all (fun j => (t.staged .conv (slba.toNat + j)).any (fun b => b.length == 4096 && b.all (· == 0))) = true
        ∧ t.host.jSeq = s.host.jSeq + (if nlb.toNat < 16 then 1 else 0)
        ∧ (s.cacheOn = true → c.waits = [] → (t.ctx ctx.val).bind (·.result) = some (.of .ok)))
  ∧ (∀ (s : State) (ctx : Fin 16384) (c : Context) (nsid : BitVec 32),
      s.live ctx.val = some c →
      c.cmd = .flush nsid →
      nsid.toNat = 1 ∨ nsid.toNat = 2 ∨ nsid.toNat = 3 ∨ nsid.toNat = 0xFFFFFFFF →
      s.nsReady 1 = true ∧ s.nsReady 2 = true ∧ s.nsReady 3 = true →
      ∀ m ∈ s.host.cmds, m.id ∉ c.before →
      ∀ z ∈ s.host.unsaved, z ∉ c.zonesBefore →
      ∃ t, exec (.nvmFlush ctx) s = .next t
        ∧ (t.ctx ctx.val).bind (·.result) = some (.of .ok)
        ∧ t.regs = s.regs ∧ t.dram = s.dram ∧ t.host.cmds = s.host.cmds)
  ∧ (∀ (s : State) (ctx : Fin 16384) (items : List ItemSpec) (got : List (Nat × Option Block)) (c : Context) (nsid : BitVec 32) (slba : BitVec 64) (nlb : BitVec 16) (p : Prot),
      s.live ctx.val = some c →
      c.cmd = .read nsid slba nlb p →
      c.begun = true →
      c.waits = [] →
      nsid.toNat = 3 ∨ s.wholeZone slba.toNat (nlb.toNat + 1) = none →
      ∀ b ∈ (List.range (nlb.toNat + 1)).map (fun j => s.blockGot (nsSpace nsid.toNat) got (slba.toNat + j)), b ≠ none →
      ∃ t, exec (.nvmRead ctx items got) s = .next t
        ∧ (t.ctx ctx.val).bind (·.result) = some ⟨.ok, 0, readPayload ((List.range (nlb.toNat + 1)).map (fun j => s.blockGot (nsSpace nsid.toNat) got (slba.toNat + j))) slba.toNat p⟩
        ∧ t.regs = s.regs ∧ t.dram = s.dram)
  ∧ (∀ (s : State) (ctx : Fin 16384) (items : List ItemSpec) (got : List (Nat × Option Block)) (c : Context) (slba : BitVec 64) (nlb : BitVec 16) (p : Prot),
      s.live ctx.val = some c →
      c.cmd = .read 3 slba nlb p →
      c.begun = false →
      s.mediaDeny 3 false slba.toNat (nlb.toNat + 1) = none →
      p.app = false →
      p.ref = false →
      items ≠ [] →
      (List.range (nlb.toNat + 1)).any (fun j => (s.staged .conv (slba.toNat + j)).isNone) = true →
      ∃ t, exec (.nvmRead ctx items got) s = .next t
        ∧ (t.ctx ctx.val).map (fun d => (d.begun, d.result)) = some (true, none)
        ∧ t.host.nextId = s.host.nextId + items.length
        ∧ (t.host.pend.a.length + t.host.pend.b.length = s.host.pend.a.length + s.host.pend.b.length + items.length))
  ∧ (∀ (s : State) (ctx : Fin 16384) (items : List ItemSpec) (got : List (Nat × Option Block)) (c : Context) (nsid : BitVec 32) (slba : BitVec 64) (nlb : BitVec 16),
      s.live ctx.val = some c →
      c.cmd = .verify nsid slba nlb →
      c.begun = true →
      c.waits = [] →
      ∀ b ∈ (List.range (nlb.toNat + 1)).map (fun j => s.blockGot (nsSpace nsid.toNat) got (slba.toNat + j)), b ≠ none →
      ∃ t, exec (.nvmVerify ctx items got) s = .next t
        ∧ (t.ctx ctx.val).bind (·.result) = some (.of .ok)
        ∧ t.regs = s.regs ∧ t.dram = s.dram)
  ∧ (∀ (s : State) (ctx : Fin 16384) (items : List ItemSpec) (got : List (Nat × Option Block)) (c : Context) (slba : BitVec 64) (nlb : BitVec 16) (j : Nat),
      s.live ctx.val = some c →
      c.cmd = .verify 3 slba nlb →
      c.begun = true →
      c.waits = [] →
      firstBadOf ((List.range (nlb.toNat + 1)).map (fun j => s.blockGot .conv got (slba.toNat + j))) = some j →
      ∃ t, exec (.nvmVerify ctx items got) s = .next t
        ∧ (t.ctx ctx.val).bind (·.result) = some (.of .unrecovered)
        ∧ t.host.errors.head? = some ⟨c.ctrl, c.stamp, .unrecovered, slba.toNat + j, 3⟩)

/-- Zone Management Send changes zone states, and Report Zones lists them (parts of R318, R343, R355, R383). In every state and for all
operands that meet the conditions of a clause, the command answers the next state that the clause describes. Commands: ZONE_OPEN,
ZONE_CLOSE, ZONE_FINISH, ZONE_RESET, ZONE_OFFLINE, REPORT_ZONES. Where the spec leaves a point open, the clauses follow the model's
choices (assumptions 70 and 71). -/
def Obligations.ZoneManagement : Prop :=
  (∀ (s : State) (ctx : Fin 16384) (c : Context) (zslba : BitVec 64),
      s.live ctx.val = some c →
      c.cmd = .zoneSend 1 .open false zslba →
      s.mediaDeny 1 true zslba.toNat 1 = none →
      zslba.toNat % 65536 = 0 →
      s.openDeny (zslba.toNat / 65536) = none →
      ∃ t, exec (.zoneOpen ctx) s = .next t
        ∧ (t.zone (zslba.toNat / 65536)).st = .explicit ∧ (t.zone (zslba.toNat / 65536)).wp = (s.zone (zslba.toNat / 65536)).wp
        ∧ (∀ e ∈ s.host.zones, e.1 ≠ zslba.toNat / 65536 → t.zone e.1 = s.zone e.1)
        ∧ (t.ctx ctx.val).bind (·.result) = some (.of .ok)
        ∧ t.regs = s.regs ∧ t.dram = s.dram)
  ∧ (∀ (s : State) (ctx : Fin 16384) (c : Context) (zslba : BitVec 64) (d : Status),
      s.live ctx.val = some c →
      c.cmd = .zoneSend 1 .open false zslba →
      s.mediaDeny 1 true zslba.toNat 1 = none →
      zslba.toNat % 65536 = 0 →
      s.openDeny (zslba.toNat / 65536) = some d →
      ∃ t, exec (.zoneOpen ctx) s = .next t
        ∧ (t.ctx ctx.val).bind (·.result) = some (.of d)
        ∧ t.host.zones = s.host.zones ∧ t.regs = s.regs ∧ t.dram = s.dram)
  ∧ (∀ (s : State) (ctx : Fin 16384) (c : Context) (zslba : BitVec 64),
      s.live ctx.val = some c →
      c.cmd = .zoneSend 1 .close true zslba →
      s.mediaDeny 1 true 0 1 = none →
      ∃ t, exec (.zoneClose ctx) s = .next t
        ∧ (∀ e ∈ s.host.zones, e.1 < s.znsZones → (s.zone e.1).st.open = true → (t.zone e.1).st = .closed)
        ∧ (∀ e ∈ s.host.zones, ¬ (e.1 < s.znsZones ∧ (s.zone e.1).st.open = true) → t.zone e.1 = s.zone e.1)
        ∧ (t.ctx ctx.val).bind (·.result) = some (.of .ok)
        ∧ t.regs = s.regs ∧ t.dram = s.dram)
  ∧ (∀ (s : State) (ctx : Fin 16384) (c : Context) (zslba : BitVec 64),
      s.live ctx.val = some c →
      c.cmd = .zoneSend 1 .finish false zslba →
      s.mediaDeny 1 true zslba.toNat 1 = none →
      zslba.toNat % 65536 = 0 →
      s.finishDeny (zslba.toNat / 65536) = none →
      ∃ t, exec (.zoneFinish ctx) s = .next t
        ∧ (t.zone (zslba.toNat / 65536)).st = .full
        ∧ ((s.zone (zslba.toNat / 65536)).st ≠ .full → (t.zone (zslba.toNat / 65536)).byCtrl = false ∧ zslba.toNat / 65536 ∈ t.host.unsaved ∧ (t.digestOf (zslba.toNat / 65536)).isSome = true)
        ∧ (t.ctx ctx.val).bind (·.result) = some (.of .ok)
        ∧ t.regs = s.regs ∧ t.dram = s.dram)
  ∧ (∀ (s : State) (ctx : Fin 16384) (c : Context) (zslba : BitVec 64),
      s.live ctx.val = some c →
      c.cmd = .zoneSend 1 .reset false zslba →
      s.mediaDeny 1 true zslba.toNat 1 = none →
      zslba.toNat % 65536 = 0 →
      s.resetDeny (zslba.toNat / 65536) = none →
      s.bandsQuiet (s.zoneActOf (zslba.toNat / 65536)) (s.resetBands (zslba.toNat / 65536)) = true →
      (s.zone (zslba.toNat / 65536)).st ≠ .empty →
      s.rdB R.JIG_GOLD_BASE_lock = false →
      Memory.wf s.dram = true →
      ∃ t, exec (.zoneReset ctx) s = .next t
        ∧ (t.zone (zslba.toNat / 65536)).st = .empty ∧ (t.zone (zslba.toNat / 65536)).wp = 0
        ∧ (t.zone (zslba.toNat / 65536)).epoch = ((s.zone (zslba.toNat / 65536)).epoch + 1) % 65536
        ∧ t.bandPtr (s.zoneBands (zslba.toNat / 65536)).1 = 0 ∧ t.bandPtr (s.zoneBands (zslba.toNat / 65536)).2 = 0
        ∧ (∀ m ∈ t.host.media, ¬ (m.space = s.zoneSpace (zslba.toNat / 65536) ∧ blockAt (zslba.toNat / 65536) 0 ≤ m.addr ∧ m.addr < blockAt (zslba.toNat / 65536 + 1) 0))
        ∧ t.digestOf (zslba.toNat / 65536) = none
        ∧ (t.ctx ctx.val).bind (·.result) = some (.of .ok))
  ∧ (∀ (s : State) (ctx : Fin 16384) (c : Context) (zslba : BitVec 64),
      s.live ctx.val = some c →
      c.cmd = .zoneSend 1 .offline false zslba →
      s.mediaDeny 1 true zslba.toNat 1 = none →
      zslba.toNat % 65536 = 0 →
      (s.zone (zslba.toNat / 65536)).st = .readOnly →
      ∃ t, exec (.zoneOffline ctx) s = .next t
        ∧ (t.zone (zslba.toNat / 65536)).st = .offline
        ∧ (t.ctx ctx.val).bind (·.result) = some (.of .ok)
        ∧ t.digestOf (zslba.toNat / 65536) = none)
  ∧ (∀ (s : State) (ctx : Fin 16384) (c : Context) (slba : BitVec 64) (option : BitVec 8) (part : Bool) (max : BitVec 16),
      s.live ctx.val = some c →
      c.cmd = .reportZones 1 slba false option part max →
      option.toNat ≤ 7 →
      s.mediaDeny 1 false slba.toNat 1 = none →
      ∃ t, exec (.reportZones ctx) s = .next t
        ∧ (t.ctx ctx.val).bind (·.result) = some ⟨.ok, 0, .zones
    (let l := ((List.range (s.znsZones - slba.toNat / 65536)).map (· + slba.toNat / 65536)).filter (fun z => reportTakes option.toNat (s.zone z).st); if part then min max.toNat l.length else l.length)
    (((((List.range (s.znsZones - slba.toNat / 65536)).map (· + slba.toNat / 65536)).filter (fun z => reportTakes option.toNat (s.zone z).st)).take max.toNat).map (fun z => ⟨(s.zone z).st, 65536, z * 65536, blockAt z (s.zone z).wp, (s.zone z).byCtrl⟩))⟩
        ∧ t.regs = s.regs ∧ t.dram = s.dram)

/-- Store, Retrieve, Delete, Exist and List act on the records and the key index (parts of R400, R402, R407 to R409, R412). In every state and
for all operands that meet the conditions of a clause, the command answers the next state that the clause describes. Commands: KV_STORE,
KV_RETRIEVE, KV_DELETE, KV_EXIST, KV_LIST. Where the spec leaves a point open, the clauses follow the model's choices (assumptions 2, 73,
74 and 76). -/
def Obligations.KeyValueCommands : Prop :=
  (∀ (s : State) (ctx : Fin 16384) (zones : List Nat) (items : List (List ItemSpec)) (c : Context) (key value : List Byte) (opt : StoreOpt) (ext : List Extent),
      s.live ctx.val = some c →
      c.cmd = .store key value opt →
      c.begun = false →
      s.kvDeny true key = none →
      value.length ≤ 0xFFFFFFFF →
      opt = .mustExist → s.kvHas key = true →
      opt = .mustNotExist → s.kvHas key = false →
      (value.length + 4095) / 4096 + 2 ≤ s.kvFree →
      s.host.kv.index.length < 33554432 →
      s.kvPlace true ((value.length + 4095) / 4096 + 2) zones = some ext →
      ∃ t, exec (.kvStore ctx zones items true) s = .next t
        ∧ t.host.kv.recs = ⟨key, s.host.kv.seq, false, value, Config.sha256 value, s.driveTime, ext⟩ :: s.host.kv.recs
        ∧ t.host.kv.seq = s.host.kv.seq + 1
        ∧ t.host.kv.index = s.host.kv.index
        ∧ (s.cacheOn = true → c.waits = [] → (t.ctx ctx.val).bind (·.result) = some (.of .ok))
        ∧ t.regs = s.regs ∧ t.dram = s.dram)
  ∧ (∀ (s : State) (ctx : Fin 16384) (zones : List Nat) (items : List (List ItemSpec)) (digestOk : Bool) (c : Context) (key value : List Byte),
      s.live ctx.val = some c →
      c.cmd = .store key value .mustNotExist →
      c.begun = false →
      s.kvDeny true key = none →
      value.length ≤ 0xFFFFFFFF →
      s.kvHas key = true →
      ∃ t, exec (.kvStore ctx zones items digestOk) s = .next t
        ∧ (t.ctx ctx.val).bind (·.result) = some (.of .keyExists)
        ∧ t.host.kv = s.host.kv)
  ∧ (∀ (s : State) (ctx : Fin 16384) (items : List ItemSpec) (got : List (Nat × Option Block)) (c : Context) (key : List Byte) (size : Nat) (r : KvRec),
      s.live ctx.val = some c →
      c.cmd = .retrieve key size →
      c.begun = true →
      c.waits = [] →
      s.kvHas key = true →
      s.kvGet key = some r →
      ∀ p ∈ r.places, s.blockGot .kv got (blockAt p.1 p.2) ≠ none →
      size < r.value.length →
      ∃ t, exec (.kvRetrieve ctx items got) s = .next t
        ∧ (t.ctx ctx.val).bind (·.result) = some ⟨.ok, r.value.length, .bytes ((valueOf r.value.length (r.places.map (fun p => s.blockGot .kv got (blockAt p.1 p.2)))).take size)⟩
        ∧ t.host.kv = s.host.kv ∧ t.regs = s.regs ∧ t.dram = s.dram)
  ∧ (∀ (s : State) (ctx : Fin 16384) (items : List ItemSpec) (got : List (Nat × Option Block)) (c : Context) (key : List Byte) (size : Nat) (r : KvRec),
      s.live ctx.val = some c →
      c.cmd = .retrieve key size →
      c.begun = false →
      s.kvDeny false key = none →
      s.kvHas key = true →
      s.kvGet key = some r →
      items ≠ [] →
      ∃ p ∈ r.places, s.staged .kv (blockAt p.1 p.2) = none →
      ∃ t, exec (.kvRetrieve ctx items got) s = .next t
        ∧ (t.ctx ctx.val).map (fun d => (d.begun, d.result)) = some (true, none)
        ∧ t.host.nextId = s.host.nextId + items.length
        ∧ t.host.kv = s.host.kv)
  ∧ (∀ (s : State) (ctx : Fin 16384) (zones : List Nat) (items : List (List ItemSpec)) (c : Context) (key : List Byte) (ext : List Extent),
      s.live ctx.val = some c →
      c.cmd = .delete key →
      c.begun = false →
      s.kvDeny true key = none →
      s.kvHas key = true →
      s.kvFree ≠ 0 →
      s.kvPlace true 1 zones = some ext →
      ∃ t, exec (.kvDelete ctx zones items) s = .next t
        ∧ t.host.kv.recs = ⟨key, s.host.kv.seq, true, [], 0, s.driveTime, ext⟩ :: s.host.kv.recs
        ∧ t.host.kv.seq = s.host.kv.seq + 1
        ∧ (s.cacheOn = true → c.waits = [] → (t.ctx ctx.val).bind (·.result) = some (.of .ok)))
  ∧ (∀ (s : State) (ctx : Fin 16384) (zones : List Nat) (items : List (List ItemSpec)) (c : Context) (key : List Byte),
      s.live ctx.val = some c →
      c.cmd = .delete key →
      c.begun = false →
      s.kvDeny true key = none →
      s.kvHas key = false →
      ∃ t, exec (.kvDelete ctx zones items) s = .next t
        ∧ (t.ctx ctx.val).bind (·.result) = some (.of .keyMissing)
        ∧ t.host.kv = s.host.kv)
  ∧ (∀ (s : State) (ctx : Fin 16384) (c : Context) (key : List Byte),
      s.live ctx.val = some c →
      c.cmd = .exist key →
      s.kvDeny false key = none →
      ∃ t, exec (.kvExist ctx) s = .next t
        ∧ (t.ctx ctx.val).bind (·.result) = some (.of (if s.kvHas key then .ok else .keyMissing))
        ∧ t.host.kv = s.host.kv ∧ t.regs = s.regs ∧ t.dram = s.dram)
  ∧ (∀ (s : State) (ctx : Fin 16384) (c : Context) (key : List Byte) (max : Nat),
      s.live ctx.val = some c →
      c.cmd = .list key max →
      s.nsReady 2 = true →
      key.length ≤ 16 →
      ∃ t, exec (.kvList ctx) s = .next t
        ∧ (t.ctx ctx.val).bind (·.result) = some ⟨.ok, 0, .keys ((((s.host.kv.index.map (·.key)).filter (fun k => key.isEmpty || keyBefore key k)).foldl (fun l k => keyInsert k l) []).take max)⟩
        ∧ t.host.kv = s.host.kv ∧ t.regs = s.regs ∧ t.dram = s.dram)

/-- Fetching, clamp entries, HQE_READY, completions and posting items (parts of R368 to R380, R567). In every state and for all operands that
meet the conditions of a clause, the command answers the next state that the clause describes. Commands: COMMAND_FETCH, CLAMP_INSERT,
READY_POP, COMPLETION_POST, CLP_ADD, CLP_NARROW, CLP_RELEASE, ITEM_POST. Where the spec leaves a point open, the clauses follow the
model's choices (assumptions 22, 24, 67, 68 and 77). -/
def Obligations.QueueEngine : Prop :=
  (∀ (s : State) (ctrl : Fin 2) (urgent : Bool) (cmd : HostCmd),
      s.fetches ctrl.val = true →
      s.host.ctxs.length < 16384 →
      s.ctxHeld ctrl.val < s.ctxLimit ctrl.val →
      ∃ t, exec (.commandFetch ctrl urgent cmd) s = .next t
        ∧ t.host.ctxs = s.host.ctxs ++ [⟨s.ctxFreeNo, ctrl.val, s.stamp, urgent, cmd, (s.clampOf cmd).isNone, false, false, false, false, false, 0, [],
    (s.flushCovers cmd).1, (s.flushCovers cmd).2, none⟩]
        ∧ t.stamp = (s.stamp + 1) % 2 ^ 64
        ∧ t.rd R.HQE_CNT_FETCH_count = satAdd (2 ^ R.HQE_CNT_FETCH_count.w - 1) (s.rd R.HQE_CNT_FETCH_count) 1
        ∧ t.rd R.HQE_STAT_ctx_used = (s.host.ctxs.length + 1) % 2 ^ R.HQE_STAT_ctx_used.w
        ∧ t.pwr.doorbell = true
        ∧ (s.clpOn = true → s.clampOf cmd = none → s.clampsClear ctrl.val s.ctxFreeNo = true → s.ctxFreeNo ∈ t.host.ready))
  ∧ (∀ (s : State) (ctrl : Fin 2) (urgent : Bool) (cmd : HostCmd),
      s.fetches ctrl.val = true →
      16384 ≤ s.host.ctxs.length ∨ s.ctxLimit ctrl.val ≤ s.ctxHeld ctrl.val →
      ∃ t, exec (.commandFetch ctrl urgent cmd) s = .next t
        ∧ t.host = s.host
        ∧ t.rd R.HQE_CNT_STALL_count = satAdd (2 ^ R.HQE_CNT_STALL_count.w - 1) (s.rd R.HQE_CNT_STALL_count) 1
        ∧ s.fieldsKept [R.HQE_CNT_STALL_count] t)
  ∧ (∀ (s : State) (c : Context) (space lo hi : Nat) (append : Bool),
      s.hqeOn = true →
      s.clpOn = true →
      s.clampNext = some c →
      s.clampOf c.cmd = some (space, lo, hi, append) →
      s.host.clamps.length < 4096 →
      ∃ t, exec .clampInsert s = .next t
        ∧ t.host.clamps = s.host.clamps ++ [⟨s.clampFree, space, lo, hi, append, c.ctrl, c.no, c.stamp,
    (s.host.clamps.filter (fun f => (⟨s.clampFree, space, lo, hi, append, c.ctrl, c.no, c.stamp, 0⟩ : Clamp).overlaps f)).length⟩]
        ∧ (∀ d ∈ t.host.ctxs, d.no = c.no → d.inserted = true)
        ∧ t.rd R.CLP_STAT_used = (s.host.clamps.length + 1) % 2 ^ R.CLP_STAT_used.w
        ∧ (t.clampsClear c.ctrl c.no = true → c.no ∈ t.host.ready))
  ∧ (∀ (s : State) (c : Context),
      s.hqeOn = true →
      s.clpOn = true →
      s.clampNext = some c →
      c.delayed = false →
      4096 ≤ s.host.clamps.length →
      s.host.clamps.length ≤ 4096 →
      ∃ t, exec .clampInsert s = .next t
        ∧ t.host.clamps = s.host.clamps
        ∧ t.rd R.CLP_CNT_full = satAdd (2 ^ R.CLP_CNT_full.w - 1) (s.rd R.CLP_CNT_full) 1
        ∧ (∀ d ∈ t.host.ctxs, d.no = c.no → d.delayed = true))
  ∧ (∀ (s : State) (who : Init) (n : Nat) (r : List Nat),
      s.inSoftReset 31 = false →
      s.host.ready = n :: r →
      ∃ t, exec (.readyPop who) s = .next t
        ∧ t.reply = BitVec.ofNat 32 (s.rd R.HQE_READY_valid * 2 ^ 31 + s.rd R.HQE_READY_ctx)
        ∧ t.host.ready = r.filter (· != n)
        ∧ (∀ c ∈ s.host.ctxs, c.no = n → s.clampsClear c.ctrl n = true → ∃ d ∈ t.host.ctxs, d.no = n ∧ d.stamp = c.stamp ∧ d.started = true)
        ∧ t.host.clamps = s.host.clamps
        ∧ s.fieldsKept [R.HQE_READY_ctx, R.HQE_READY_valid] t)
  ∧ (∀ (s : State) (ctx : Fin 16384) (c : Context) (r : Result),
      s.hqeOn = true →
      s.ctx ctx.val = some c →
      c.result = some r →
      ∃ t, exec (.completionPost ctx) s = .next t
        ∧ t.host.completions = ⟨c.ctrl, c.no, r⟩ :: s.host.completions
        ∧ t.ctx ctx.val = none
        ∧ (∀ e ∈ t.host.clamps, ¬ (e.owner = c.ctrl ∧ e.ctx = c.no))
        ∧ ctx.val ∉ t.host.ready
        ∧ t.host.mediaErrors = s.host.mediaErrors + (if r.status.integrity then 1 else 0)
        ∧ t.dram = s.dram)
  ∧ (∀ (s : State) (who : Init) (space : BitVec 3) (append : Bool) (owner : BitVec 2) (ctx : BitVec 14),
      s.reaches 32 →
      s.rdB R.CLP_CTL_en = true →
      space.toNat < 4 →
      s.clampNext = none →
      s.host.clamps.length < 4096 →
      ∃ t, exec (.clpAdd who space append owner ctx) s = .next t
        ∧ t.host.clamps = s.host.clamps ++ [⟨s.clampFree, space.toNat, s.rd64 R.CLP_OP_START_addr, s.rd64 R.CLP_OP_END_addr, append, owner.toNat, ctx.toNat, s.stamp,
    (s.host.clamps.filter (fun f => (⟨s.clampFree, space.toNat, s.rd64 R.CLP_OP_START_addr, s.rd64 R.CLP_OP_END_addr, append, owner.toNat, ctx.toNat, s.stamp, 0⟩ : Clamp).overlaps f)).length⟩]
        ∧ t.rd R.CLP_OP_STAT_done = 1
        ∧ t.rd R.CLP_OP_STAT_entry = s.clampFree % 2 ^ R.CLP_OP_STAT_entry.w
        ∧ t.stamp = (s.stamp + 1) % 2 ^ 64
        ∧ t.host.ctxs = s.host.ctxs)
  ∧ (∀ (s : State) (who : Init) (space : BitVec 3) (append : Bool) (owner : BitVec 2) (ctx : BitVec 14),
      s.reaches 32 →
      s.rdB R.CLP_CTL_en = true →
      s.clampNext = none →
      s.host.clamps.length = 4096 →
      ∃ t, exec (.clpAdd who space append owner ctx) s = .next t
        ∧ t.host = s.host
        ∧ t.rd R.CLP_OP_STAT_done = 1 ∧ t.rd R.CLP_OP_STAT_err = 1)
  ∧ (∀ (s : State) (who : Init) (space : BitVec 3) (append : Bool) (owner : BitVec 2) (ctx : BitVec 14) (x : Clamp),
      s.reaches 32 →
      s.rdB R.CLP_CTL_en = true →
      s.clpEnt = some x →
      x.lo ≤ s.rd64 R.CLP_OP_START_addr →
      s.rd64 R.CLP_OP_START_addr ≤ s.rd64 R.CLP_OP_END_addr →
      s.rd64 R.CLP_OP_END_addr ≤ x.hi →
      ∃ t, exec (.clpNarrow who space append owner ctx) s = .next t
        ∧ (t.host.clamps.find? (fun f => f.no == x.no)).map (fun f => (f.lo, f.hi)) = some (s.rd64 R.CLP_OP_START_addr, s.rd64 R.CLP_OP_END_addr)
        ∧ t.rd R.CLP_OP_STAT_done = 1
        ∧ t.host.clamps.length = s.host.clamps.length)
  ∧ (∀ (s : State) (who : Init) (space : BitVec 3) (append : Bool) (owner : BitVec 2) (ctx : BitVec 14),
      s.reaches 32 →
      s.rdB R.CLP_CTL_en = true →
      s.clpEnt = none →
      ∃ t, exec (.clpNarrow who space append owner ctx) s = .next t
        ∧ t.rd R.CLP_OP_STAT_done = 1 ∧ t.rd R.CLP_OP_STAT_err = 1
        ∧ t.host = s.host)
  ∧ (∀ (s : State) (who : Init) (space : BitVec 3) (append : Bool) (owner : BitVec 2) (ctx : BitVec 14) (x : Clamp),
      s.reaches 32 →
      s.rdB R.CLP_CTL_en = true →
      s.clpEnt = some x →
      ∃ t, exec (.clpRelease who space append owner ctx) s = .next t
        ∧ (∀ f ∈ t.host.clamps, f.no ≠ x.no)
        ∧ (∀ f ∈ s.host.clamps, f.no ≠ x.no → ∃ g ∈ t.host.clamps, g.no = f.no ∧ g.lo = f.lo ∧ g.hi = f.hi ∧ g.waiters = (if x.stamp < f.stamp ∧ x.overlaps f = true then f.waiters - 1 else f.waiters))
        ∧ t.rd R.CLP_OP_STAT_done = 1)
  ∧ (∀ (s : State) (x : Act) (m : Item),
      s.bestItem x = some m →
      s.hqeOn = true →
      1 ≤ (s.rd (msqF R.MSQ_RING_TAIL_tail x) + 1 + s.ringSize x - s.rd (msqF R.MSQ_RING_HEAD_head x) % s.ringSize x) % s.ringSize x →
      (s.rd (msqF R.MSQ_RING_TAIL_tail x) + 1 + s.ringSize x - s.rd (msqF R.MSQ_RING_HEAD_head x) % s.ringSize x) % s.ringSize x < s.ringSize x - 1 →
      (s.host.posted.get x).length < s.rd R.HQE_SCHED_CFG_depth →
      s.rdB R.JIG_GOLD_BASE_lock = false →
      Memory.wf s.dram = true →
      ∃ t, exec (.itemPost x) s = .next t
        ∧ t.host.posted.get x = s.host.posted.get x ++ [m] ∧ t.host.pend.get x = dropFirst m (s.host.pend.get x)
        ∧ t.rd (msqF R.MSQ_RING_TAIL_tail x) = (s.rd (msqF R.MSQ_RING_TAIL_tail x) + 1) % s.ringSize x
        ∧ t.dram = memWriteBytes s.dram (s.rd (msqF R.MSQ_RING_BASE_base x) * 256 + 256 * s.rd (msqF R.MSQ_RING_TAIL_tail x)) (m.spec.desc.take 256)
        ∧ (s.itemOld m = true → t.rd R.HQE_CNT_AGE_count = satAdd (2 ^ R.HQE_CNT_AGE_count.w - 1) (s.rd R.HQE_CNT_AGE_count) 1)
        ∧ s.fieldsKept [msqF R.MSQ_RING_TAIL_tail x, R.HQE_CNT_AGE_count, R.PWR_IDLE_STAT_count] t)
  ∧ (∀ (s : State) (x : Act),
      s.bestItem x = none →
      ∃ t, exec (.itemPost x) s = .next t
        ∧ t = s)

/-- Ring node states, the time beacon, elections, frames forwarded and messages (parts of R491 to R507). In every state and for all operands
that meet the conditions of a clause, the command answers the next state that the clause describes. Commands: FRK_ENABLE_WRITE, RING_LOCK,
LISTEN_TIMEOUT, BEACON_LOST, SOLO_TIMEOUT, RING_LOCK_LOST, BRK_TICK, BEACON_SEND, FRAME_FORWARD, FRAME_BCN, BEACON_SYNC_TIMEOUT,
FRAME_ENUM, FRAME_ELECT, FRAME_JOIN, FRAME_LEAVE, FRAME_EVT, FRAME_MBX, FRAME_ACK, FRAME_NAK, FRAME_BRK, FRAME_RETRY_TIMER, MBX_SEND.
Where the spec leaves a point open, the clauses follow the model's choices (assumptions 1, 11 and 53). -/
def Obligations.RingNodeAndFrames : Prop :=
  (∀ (s : State) (who : Init),
      s.frkIs .off = true →
      s.rd R.JIG_STRAP_role ≠ 3 →
      ∃ t, exec (.frkEnableWrite who false true) s = .next t
        ∧ t.frkIs .listen = true ∧ t.rd R.FRK_CTL_en = 1 ∧ t.rd R.FRK_STAT_addr = 0xFE
        ∧ t.frk = s.frk
        ∧ s.fieldsKept [R.FRK_CTL_en, R.FRK_STAT_addr, R.FRK_STAT_state, R.FRK_TOK_STAT_local] t)
  ∧ (∀ (s : State) (who : Init),
      s.rd R.JIG_STRAP_role = 3 →
      s.rdB R.SYS_CFG_ERR_valid = false →
      ∃ t, exec (.frkEnableWrite who false true) s = .next t
        ∧ t.frk = s.frk ∧ t.rd R.FRK_STAT_state = s.rd R.FRK_STAT_state
        ∧ t.rd R.SYS_CFG_ERR_cause = 5)
  ∧ (∀ (s : State) (who : Init),
      s.frkIs .off = false →
      s.frkIs .cabinet = false →
      s.frkLinked = true →
      s.frk.tok.spin = .none →
      s.frk.tok.power = .none →
      ∃ t, exec (.frkEnableWrite who false false) s = .next t
        ∧ t.frkIs .off = true ∧ t.rd R.FRK_CTL_en = 0 ∧ t.rd R.FRK_STAT_bypass = 0 ∧ t.rd R.FRK_STAT_addr = 0xFE
        ∧ t.frk.out = s.frkFrame .leave 0 (leBytes 8 s.uid) :: s.frk.out
        ∧ t.frk.table = [] ∧ t.frk.queue = [] ∧ t.frk.await = [])
  ∧ (∀ (s : State),
      s.frkIs .listen = true →
      ∃ t, exec .ringLock s = .next t
        ∧ t.frkIs .linked = true ∧ t.rd R.FRK_STAT_in_lock = 1 ∧ t.rd R.FRK_STAT_bypass = 1
        ∧ t.frk = s.frk)
  ∧ (∀ (s : State),
      s.frkIs .cabinet = true →
      s.rdB R.FRK_STAT_in_lock = false →
      ∃ t, exec .ringLock s = .next t
        ∧ t.rd R.FRK_STAT_in_lock = 1
        ∧ t.frk.epoch = (s.frk.epoch + 1) % 65536
        ∧ t.frk.out = s.frkFrame .enum dstAll (leBytes 1 1 ++ leBytes 1 0 ++ leBytes 2 ((s.frk.epoch + 1) % 65536)) :: s.frk.out
        ∧ t.rd R.FRK_STAT_state = s.rd R.FRK_STAT_state)
  ∧ (∀ (s : State),
      s.frkIs .listen = true →
      ∃ t, exec .listenTimeout s = .next t
        ∧ t.frkIs .linked = true ∧ t.rd R.FRK_STAT_bypass = 1 ∧ t.rd R.FRK_STAT_in_lock = s.rd R.FRK_STAT_in_lock)
  ∧ (∀ (s : State),
      s.frkIs .listen = false →
      ∃ t, exec .listenTimeout s = .next t
        ∧ t = s)
  ∧ (∀ (s : State),
      s.frkIs .linked = true ∨ s.frkIs .drawer = true →
      0 < s.frkRank →
      ∃ t, exec .beaconLost s = .next t
        ∧ t.frkIs .elect = true
        ∧ t.frk.out = s.frkFrame .elect dstAll s.electPayload :: s.frk.out
        ∧ t.frk.tok = s.frk.tok)
  ∧ (∀ (s : State),
      s.frkRank = 0 →
      ∃ t, exec .beaconLost s = .next t
        ∧ t = s)
  ∧ (∀ (s : State),
      s.frkIs .linked = true →
      s.rdB R.FRK_CFG_solo = true →
      ∃ t, exec .soloTimeout s = .next t
        ∧ t.frkIs .solo = true ∧ t.localBudget = true
        ∧ (s.rdB (tokQ .spin) = true ∧ s.rdB (tokLocal .spin) = true ∧ s.frk.tok.spin = .none → t.frk.tok.spin = .local ∧ t.rd (tokHeld .spin) = 1))
  ∧ (∀ (s : State),
      s.frkIs .linked = false ∨ s.rdB R.FRK_CFG_solo = false →
      ∃ t, exec .soloTimeout s = .next t
        ∧ t = s)
  ∧ (∀ (s : State),
      s.rdB R.FRK_STAT_in_lock = true →
      ∃ t, exec .ringLockLost s = .next t
        ∧ t.rd R.FRK_STAT_in_lock = 0 ∧ t.rd R.FRK_STAT_bypass = s.rd R.FRK_STAT_bypass ∧ t.rd R.FRK_STAT_state = s.rd R.FRK_STAT_state
        ∧ (s.rdB (R.SYS_IRQ_CFG_nmi.at 245) = false ∧ s.rdB (R.SYS_IRQ_CFG_prio.at 245) = true → 245 ∈ t.irq.latch)
        ∧ s.fieldsKept [R.FRK_STAT_in_lock] t)
  ∧ (∀ (s : State),
      s.frkUp = true →
      s.rdB R.FRK_STAT_in_lock = false →
      ∃ t, exec .brkTick s = .next t
        ∧ t = s.frkSend .brk dstAll (leBytes 1 s.frkAddr)
        ∧ t.frk.out = s.frkFrame .brk dstAll (leBytes 1 s.frkAddr) :: s.frk.out ∧ t.frk.seq = (s.frk.seq + 1) % 65536)
  ∧ (∀ (s : State),
      s.frkUp = false ∨ s.rdB R.FRK_STAT_in_lock = true →
      ∃ t, exec .brkTick s = .next t
        ∧ t = s)
  ∧ (∀ (s : State),
      s.frkIs .cabinet = true →
      ∃ t, exec .beaconSend s = .next t
        ∧ t.frk.out.length = s.frk.out.length + 1
        ∧ t.frk.out.drop 1 = s.frk.out
        ∧ ∀ f ∈ t.frk.out.head?, f.type = 1 ∧ f.dst = dstAll ∧ payLe f.payload 0 8 = s.driveTime ∧ payLe f.payload 16 2 = s.frk.epoch % 65536 ∧ 50 ≤ payLe f.payload 20 2 ∧ payLe f.payload 20 2 ≤ 5000
        ∧ t.regs = s.regs)
  ∧ (∀ (s : State),
      s.frkIs .cabinet = false →
      ∃ t, exec .beaconSend s = .next t
        ∧ t = s)
  ∧ (∀ (s : State) (f : RingFrame) (crcOk : Bool) (residence : BitVec 32),
      s.frkUp = true →
      crcOk = false →
      ∃ t, exec (.frameForward f crcOk residence) s = .next t
        ∧ t.rd R.FRK_CNT_crc = satAdd (2 ^ R.FRK_CNT_crc.w - 1) (s.rd R.FRK_CNT_crc) 1
        ∧ t.frk = s.frk
        ∧ s.fieldsKept [R.FRK_CNT_crc] t)
  ∧ (∀ (s : State) (f : RingFrame) (crcOk : Bool) (residence : BitVec 32),
      s.frkUp = true →
      crcOk = true →
      f.hops < 63 →
      f.type ≠ 1 →
      (f.dst ≠ s.frkAddr ∧ (f.dst ≠ dstAll ∨ f.src ≠ s.frkAddr)) ∨ 64 ≤ s.frkAddr →
      ∃ t, exec (.frameForward f crcOk residence) s = .next t
        ∧ t = s.frkEmit { f with hops := f.hops + 1 })
  ∧ (∀ (s : State) (f : RingFrame) (crcOk : Bool) (residence : BitVec 32),
      s.frkUp = true →
      crcOk = true →
      f.hops < 63 →
      f.type = 1 →
      f.payload.length = 40 →
      f.src ≠ s.frkAddr →
      f.dst = dstAll →
      payLe f.payload 8 4 + residence.toNat < 2 ^ 32 →
      ∃ t, exec (.frameForward f crcOk residence) s = .next t
        ∧ ∃ g, t = s.frkEmit g ∧ g.hops = f.hops + 1 ∧ payLe g.payload 8 4 = payLe f.payload 8 4 + residence.toNat ∧ g.payload.take 8 = f.payload.take 8 ∧ g.payload.drop 12 = f.payload.drop 12)
  ∧ (∀ (s : State) (f : RingFrame) (crcOk : Bool) (residence : BitVec 32),
      s.frkUp = true →
      crcOk = true →
      (f.dst = s.frkAddr ∧ s.frkAddr < 64) ∨ 63 ≤ f.hops →
      ∃ t, exec (.frameForward f crcOk residence) s = .next t
        ∧ t = s)
  ∧ (∀ (s : State) (f : RingFrame) (ns loopNs : BitVec 32) (outranks : Bool),
      s.frkIs .linked = true →
      f.type = 1 →
      f.dst = dstAll →
      f.payload.length = 40 →
      ∃ t, exec (.frameBcn f ns loopNs outranks) s = .next t
        ∧ t.frk.joined = true
        ∧ t.frk.out.drop 1 = s.frk.out ∧ t.frk.out.length = s.frk.out.length + 1
        ∧ t.rd R.FRK_STAT_state = s.rd R.FRK_STAT_state
        ∧ t.driveTime = (s.driveTime + ns.toNat) % 2 ^ 64)
  ∧ (∀ (s : State) (f : RingFrame) (ns loopNs : BitVec 32) (outranks : Bool),
      s.frkIs .drawer = true →
      f.type = 1 →
      f.dst = dstAll →
      f.payload.length = 40 →
      f.hops * payLe f.payload 12 4 = 0 →
      s.driveTime + ns.toNat < 2 ^ 64 →
      (((payLe f.payload 0 8 + payLe f.payload 8 4 : Nat) : Int) - ((s.driveTime + ns.toNat : Nat) : Int)).natAbs ≤ s.rd R.FRK_TB_CFG_step_ns →
      (((payLe f.payload 0 8 + payLe f.payload 8 4 : Nat) : Int) - ((s.driveTime + ns.toNat : Nat) : Int)).natAbs ≤ 200 * s.rd R.FRK_TB_CFG_period →
      ∃ t, exec (.frameBcn f ns loopNs outranks) s = .next t
        ∧ t.pwr.trim = ((payLe f.payload 0 8 + payLe f.payload 8 4 : Nat) : Int) - ((s.driveTime + ns.toNat : Nat) : Int)
        ∧ t.driveTime = s.driveTime + ns.toNat
        ∧ t.frk.window = payLe f.payload 20 2 ∧ t.frk.windows = payLe f.payload 22 1
        ∧ t.rd R.FRK_STAT_nodes = payLe f.payload 18 1)
  ∧ (∀ (s : State) (f : RingFrame) (ns loopNs : BitVec 32) (outranks : Bool),
      s.frkIs .elect = true →
      f.type = 1 →
      f.dst = dstAll →
      f.payload.length = 40 →
      ∃ t, exec (.frameBcn f ns loopNs outranks) s = .next t
        ∧ t.frkIs .linked = true ∧ t.rd R.FRK_STAT_addr = 0xFE ∧ t.frk.joined = true)
  ∧ (∀ (s : State),
      ∃ t, exec .beaconSyncTimeout s = .next t
        ∧ t.rd R.FRK_TB_STAT_sync = 0 ∧ t.pwr.trim = 0
        ∧ t.timeQuality = s.timeQuality
        ∧ t.pwr = { s.pwr with trim := 0 }
        ∧ t.frk.tok = s.frk.tok)
  ∧ (∀ (s : State) (f : RingFrame),
      s.frkIs .linked = true →
      s.frk.joined = true →
      f.type = 2 →
      f.dst = dstAll →
      f.payload.length = 4 →
      payLe f.payload 0 1 < 64 →
      s.rdB (tokQ .spin) = false →
      s.rdB (tokQ .power) = false →
      ∃ t, exec (.frameEnum f) s = .next t
        ∧ t.frkIs .drawer = true
        ∧ t.frk.nextAddr = some (payLe f.payload 0 1, payLe f.payload 2 2)
        ∧ t.frk.out = { f with hops := f.hops + 1, payload := leBytes 1 (payLe f.payload 0 1 + 1) ++ f.payload.drop 1 } :: s.frk.out
        ∧ t.rd R.FRK_STAT_addr = s.rd R.FRK_STAT_addr)
  ∧ (∀ (s : State) (f : RingFrame),
      s.frkIs .cabinet = true →
      f.type = 2 →
      f.dst = dstAll →
      f.payload.length = 4 →
      f.src = s.frkAddr →
      s.frk.census = none →
      ∃ t, exec (.frameEnum f) s = .next t
        ∧ t.rd R.FRK_STAT_nodes = payLe f.payload 0 1
        ∧ t.frk = s.frk)
  ∧ (∀ (s : State) (f : RingFrame) (loop : BitVec 8),
      s.frkIs .elect = true →
      f.type = 3 →
      f.dst = dstAll →
      f.payload.length = 16 →
      payLe f.payload 8 8 = s.uid →
      f.hops = loop.toNat →
      ∃ t, exec (.frameElect f loop) s = .next t
        ∧ t.frkIs .cabinet = true ∧ t.rd R.FRK_STAT_addr = 0
        ∧ t.frk.census = some [] ∧ t.frk.table = [] ∧ t.frk.queue = []
        ∧ t.frk.epoch = (s.frk.epoch + 1) % 65536)
  ∧ (∀ (s : State) (f : RingFrame) (loop : BitVec 8),
      s.frkUp = true →
      f.type = 3 →
      f.dst = dstAll →
      f.payload.length = 16 →
      payLe f.payload 8 8 ≠ s.uid →
      0 < s.frkRank →
      s.ranksBefore f.payload = true →
      ∃ t, exec (.frameElect f loop) s = .next t
        ∧ t = s.frkEmit { f with hops := f.hops + 1, payload := s.electPayload })
  ∧ (∀ (s : State) (f : RingFrame),
      s.frkIs .cabinet = true →
      f.type = 4 →
      s.frkForMe f = true →
      f.payload.length = 8 →
      ∃ t, exec (.frameJoin f) s = .next t
        ∧ t.frk.epoch = (s.frk.epoch + 1) % 65536
        ∧ t.frk.out = s.frkFrame .enum dstAll (leBytes 1 1 ++ leBytes 1 0 ++ leBytes 2 ((s.frk.epoch + 1) % 65536)) :: s.frk.out
        ∧ t.regs = s.regs)
  ∧ (∀ (s : State) (f : RingFrame),
      s.frkIs .cabinet = true →
      f.type = 5 →
      s.frkForMe f = true →
      f.payload.length = 8 →
      ∃ t, exec (.frameLeave f) s = .next t
        ∧ t.frk.epoch = (s.frk.epoch + 1) % 65536
        ∧ t.regs = s.regs)
  ∧ (∀ (s : State) (f : RingFrame),
      s.frkUp = true →
      f.type = 0x21 →
      s.frkForMe f = true →
      f.dst ≠ dstAll →
      2 ≤ f.payload.length →
      f.payload.length ≤ 256 →
      (s.rd R.FRK_RX_TAIL_tail + 2) % 64 ≠ s.rd R.FRK_RX_HEAD_head →
      s.rdB R.JIG_GOLD_BASE_lock = false →
      Memory.wf s.dram = true →
      ∃ t, exec (.frameMbx f) s = .next t
        ∧ t.rd R.FRK_RX_TAIL_tail = (s.rd R.FRK_RX_TAIL_tail + 1) % 64
        ∧ t.dram = memWriteBytes s.dram (s.rd R.FRK_RX_BASE_base * 4096 + 512 * s.rd R.FRK_RX_TAIL_tail) (leBytes 8 s.driveTime ++ leBytes 1 0x21 ++ leBytes 1 f.src ++ leBytes 2 f.payload.length ++ f.payload)
        ∧ t.frk.out = s.frkFrame .ack f.src (leBytes 2 f.seq ++ leBytes 1 f.src ++ leBytes 1 0) :: s.frk.out
        ∧ s.fieldsKept [R.FRK_RX_TAIL_tail] t)
  ∧ (∀ (s : State) (f : RingFrame),
      s.frkUp = true →
      f.type = 0x21 →
      s.frkForMe f = true →
      f.dst ≠ dstAll →
      2 ≤ f.payload.length →
      f.payload.length ≤ 256 →
      (s.rd R.FRK_RX_TAIL_tail + 2) % 64 = s.rd R.FRK_RX_HEAD_head →
      ∃ t, exec (.frameMbx f) s = .next t
        ∧ t = s.frkSend .nak f.src (leBytes 2 f.seq ++ leBytes 1 f.src ++ leBytes 1 1))
  ∧ (∀ (s : State) (f : RingFrame),
      s.frkIs .cabinet = true →
      f.type = 0x20 →
      s.frkForMe f = true →
      f.dst ≠ dstAll →
      f.payload.length = 72 →
      (s.rd R.FRK_RX_TAIL_tail + 2) % 64 ≠ s.rd R.FRK_RX_HEAD_head →
      ∃ t, exec (.frameEvt f) s = .next t
        ∧ t.rd R.FRK_RX_TAIL_tail = (s.rd R.FRK_RX_TAIL_tail + 1) % 64
        ∧ t.frk.out = s.frkFrame .ack f.src (leBytes 2 f.seq ++ leBytes 1 f.src ++ leBytes 1 0) :: s.frk.out)
  ∧ (∀ (s : State) (f : RingFrame) (a : AwaitAck),
      s.frkUp = true →
      f.type = 0x30 →
      s.frkForMe f = true →
      f.payload.length = 4 →
      s.awaiting (payLe f.payload 0 2) = some a →
      a.frame.seq = payLe f.payload 0 2 →
      ∃ t, exec (.frameAck f) s = .next t
        ∧ t.frk.await = s.frk.await.filter (fun w => w.frame.seq != payLe f.payload 0 2)
        ∧ (a.frame.type = 0x21 → t.rd R.FRK_TX_CTL_busy = 0 ∧ t.rd R.FRK_TX_CTL_status = 1)
        ∧ (a.frame.type ≠ 0x21 → t.regs = s.regs))
  ∧ (∀ (s : State) (f : RingFrame) (a : AwaitAck),
      s.frkUp = true →
      f.type = 0x31 →
      s.frkForMe f = true →
      f.payload.length = 4 →
      s.awaiting (payLe f.payload 0 2) = some a →
      a.frame.seq = payLe f.payload 0 2 →
      a.frame.type = 0x21 →
      2 ≤ a.naks →
      ∃ t, exec (.frameNak f) s = .next t
        ∧ t.frk.await = s.frk.await.filter (fun w => w.frame.seq != payLe f.payload 0 2)
        ∧ t.rd R.FRK_TX_CTL_busy = 0 ∧ t.rd R.FRK_TX_CTL_status = 2)
  ∧ (∀ (s : State) (f : RingFrame),
      s.frkUp = true →
      f.type = 0x3F →
      f.dst = dstAll →
      f.payload.length = 1 →
      ∃ t, exec (.frameBrk f) s = .next t
        ∧ t.rd R.FRK_STAT_brk_at = payLe f.payload 0 1 % 2 ^ R.FRK_STAT_brk_at.w
        ∧ t.frk.out = { f with hops := f.hops + 1 } :: s.frk.out
        ∧ s.fieldsKept [R.FRK_STAT_brk_at] t)
  ∧ (∀ (s : State) (q : BitVec 16) (a : AwaitAck),
      s.awaiting q.toNat = some a →
      a.frame.type ≠ 0x11 →
      a.repeats < 3 →
      ∃ t, exec (.frameRetryTimer q) s = .next t
        ∧ t.frk.out = a.frame :: s.frk.out
        ∧ t.regs = s.regs)
  ∧ (∀ (s : State) (q : BitVec 16) (a : AwaitAck),
      s.awaiting q.toNat = some a →
      a.frame.type = 0x20 →
      3 ≤ a.repeats →
      ∃ t, exec (.frameRetryTimer q) s = .next t
        ∧ t.frk.await = s.frk.await.filter (fun w => w.frame.seq != a.frame.seq)
        ∧ t.rd R.FRK_CNT_evt_drop = satAdd (2 ^ R.FRK_CNT_evt_drop.w - 1) (s.rd R.FRK_CNT_evt_drop) 1)
  ∧ (∀ (s : State) (who : Init),
      s.reaches 36 →
      s.rdB R.FRK_TX_CTL_busy = false →
      s.dramLe (s.rd R.FRK_TX_ADDR_addr * 16) 1 ≠ dstAll →
      1 ≤ s.dramLe (s.rd R.FRK_TX_ADDR_addr * 16 + 2) 2 →
      s.dramLe (s.rd R.FRK_TX_ADDR_addr * 16 + 2) 2 ≤ 255 →
      ∃ t, exec (.mbxSend who) s = .next t
        ∧ t.rd R.FRK_TX_CTL_busy = 1
        ∧ t.frk.out.length = s.frk.out.length + 1 ∧ t.frk.await.length = s.frk.await.length + 1
        ∧ s.fieldsKept [R.FRK_TX_CTL_busy] t)
  ∧ (∀ (s : State) (who : Init),
      s.reaches 36 →
      s.rdB R.FRK_TX_CTL_busy = true →
      s.rdB R.SYS_CFG_ERR_valid = false →
      ∃ t, exec (.mbxSend who) s = .next t
        ∧ t.frk = s.frk ∧ t.rd R.SYS_CFG_ERR_cause = 5)

/-- Tokens are asked for, granted, cancelled, renewed, revoked and freed (parts of R496 to R500). In every state and for all operands that
meet the conditions of a clause, the command answers the next state that the clause describes. Commands: FRAME_REQ, FRAME_GRANT,
FRAME_REL, FRAME_REVOKE, FRAME_TOKRPT, GRANT_ACK_TIMEOUT, TOKEN_LEASE_EXPIRE, CABINET_LEASE_FREE, SPIN_LEASE_EXPIRE, CENSUS_TIMEOUT,
TOK_REQ_SPIN, TOK_REQ_PWR, TOK_REL_PWR, TOK_CANCEL_SPIN, TOK_CANCEL_PWR, BUDGET_LOWER. -/
def Obligations.RingTokens : Prop :=
  (∀ (s : State) (f : RingFrame),
      s.frkIs .cabinet = true →
      s.frk.census.isSome = true →
      f.type = 0x10 →
      s.frkForMe f = true →
      f.payload.length = 9 →
      payLe f.payload 8 1 = 1 →
      (s.frk.table ++ s.frk.queue).all (fun q => !(q.uid == payLe f.payload 0 8 && q.kind == .spin)) = true →
      ∃ t, exec (.frameReq f) s = .next t
        ∧ t.frk.queue = s.frk.queue ++ [{ uid := payLe f.payload 0 8, kind := .spin, addr := f.src }]
        ∧ t.frk.table = s.frk.table ∧ t.regs = s.regs)
  ∧ (∀ (s : State) (f : RingFrame),
      s.frkIs .cabinet = true →
      s.frk.census = none →
      s.frk.queue = [] →
      f.type = 0x10 →
      s.frkForMe f = true →
      f.payload.length = 9 →
      payLe f.payload 8 1 = 1 →
      payLe f.payload 0 8 ≠ s.uid →
      s.frk.table.all (fun q => !(q.uid == payLe f.payload 0 8 && q.kind == .spin)) = true →
      (s.tokInTable .spin).length < s.rd R.FRK_TOK_CFG_spin_max →
      ∃ t, exec (.frameReq f) s = .next t
        ∧ t.frk.table = s.frk.table ++ [{ uid := payLe f.payload 0 8, kind := .spin, addr := f.src }]
        ∧ t.frk.queue = []
        ∧ t.frk.await.length = s.frk.await.length + 1)
  ∧ (∀ (s : State) (f : RingFrame),
      s.frkUp = true →
      f.type = 0x11 →
      s.frkForMe f = true →
      f.dst ≠ dstAll →
      f.payload.length = 12 →
      payLe f.payload 8 1 = 1 →
      payLe f.payload 0 8 = s.uid →
      s.rdB (tokQ .spin) = true →
      ∃ t, exec (.frameGrant f) s = .next t
        ∧ t.rd R.SPM_TOK_held = 1 ∧ t.rd R.FRK_TOK_STAT_spin_q = 0
        ∧ t.frk.tok.spin = .ring ∧ t.frk.renewed.spin = s.driveTime
        ∧ t.frk.out = s.frkFrame .ack f.src (leBytes 2 f.seq ++ leBytes 1 f.src ++ leBytes 1 0) :: s.frk.out)
  ∧ (∀ (s : State) (f : RingFrame),
      s.frkUp = true →
      s.frkIs .cabinet = false →
      s.frkLinked = true →
      f.type = 0x11 →
      s.frkForMe f = true →
      f.payload.length = 12 →
      payLe f.payload 8 1 = 2 →
      payLe f.payload 0 8 = s.uid →
      s.rdB (tokQ .power) = false →
      (s.frk.tok.power == .ring) = false →
      ∃ t, exec (.frameGrant f) s = .next t
        ∧ t = s.frkSend .rel 0 (tokPayload s.uid .power))
  ∧ (∀ (s : State) (f : RingFrame),
      s.frkIs .cabinet = true →
      s.frk.census.isSome = true →
      f.type = 0x12 →
      s.frkForMe f = true →
      f.payload.length = 9 →
      payLe f.payload 8 1 = 1 →
      ∃ t, exec (.frameRel f) s = .next t
        ∧ t.frk.table = s.frk.table.filter (fun q => !(q.uid == payLe f.payload 0 8 && q.kind == .spin))
        ∧ t.frk.queue = s.frk.queue.filter (fun q => !(q.uid == payLe f.payload 0 8 && q.kind == .spin)))
  ∧ (∀ (s : State) (f : RingFrame),
      s.frkUp = true →
      s.frkIs .cabinet = false →
      s.frkLinked = true →
      f.type = 0x13 →
      s.frkForMe f = true →
      f.payload.length = 9 →
      payLe f.payload 8 1 = 2 →
      payLe f.payload 0 8 = s.uid →
      s.frk.tok.power = .ring →
      s.jig.boot ≠ .running →
      ∃ t, exec (.frameRevoke f) s = .next t
        ∧ t.frk.tok.power = .none ∧ t.rd R.FRK_TOK_STAT_pwr = 0
        ∧ t.frk.out = s.frkFrame .rel 0 (tokPayload s.uid .power) :: s.frk.out)
  ∧ (∀ (s : State) (f : RingFrame),
      s.frkUp = true →
      f.type = 0x13 →
      f.dst = s.frkAddr →
      s.frkAddr < 64 →
      f.payload.length = 9 →
      payLe f.payload 8 1 = 2 →
      payLe f.payload 0 8 ≠ s.uid →
      ∃ t, exec (.frameRevoke f) s = .next t
        ∧ t = s.frkSend .nak f.src (leBytes 2 f.seq ++ leBytes 1 f.src ++ leBytes 1 2))
  ∧ (∀ (s : State) (f : RingFrame) (n : Nat) (l : List Nat),
      s.frkIs .cabinet = true →
      f.type = 0x14 →
      s.frkForMe f = true →
      f.payload.length = 14 →
      payLe f.payload 8 1 = 1 →
      s.frk.table = [] →
      s.frk.census = some (f.src :: n :: l) →
      n ≠ f.src →
      ∃ t, exec (.frameTokrpt f) s = .next t
        ∧ t.frk.table = [{ uid := payLe f.payload 0 8, kind := .spin, addr := f.src }]
        ∧ t.frk.census = some ((n :: l).filter (· ≠ f.src))
        ∧ t.rd R.FRK_TOK_STAT_spin_held = 1)
  ∧ (∀ (s : State),
      s.frkIs .cabinet = true →
      s.frk.census.isSome = true →
      s.frk.queue = [] →
      (s.tokInTable .spin).length ≤ s.rd R.FRK_TOK_CFG_spin_max →
      (s.tokInTable .power).length ≤ s.rd R.FRK_TOK_CFG_pwr_max →
      ∃ t, exec .censusTimeout s = .next t
        ∧ t = s.updFrk (fun k => { k with census := none }))
  ∧ (∀ (s : State),
      s.frkIs .cabinet = false ∨ s.frk.census = none →
      ∃ t, exec .censusTimeout s = .next t
        ∧ t = s)
  ∧ (∀ (s : State) (q : BitVec 16) (a : AwaitAck),
      s.awaiting q.toNat = some a →
      a.frame.type = 0x11 →
      a.repeats < 3 →
      ∃ t, exec (.grantAckTimeout q) s = .next t
        ∧ t.frk.out = a.frame :: s.frk.out
        ∧ t.frk.table = s.frk.table ∧ t.regs = s.regs)
  ∧ (∀ (s : State) (q : BitVec 16) (a : AwaitAck),
      s.awaiting q.toNat = some a →
      a.frame.type = 0x11 →
      3 ≤ a.repeats →
      payLe a.frame.payload 8 1 = 1 →
      s.frk.queue = [] →
      s.frkIs .drawer = false →
      ∃ t, exec (.grantAckTimeout q) s = .next t
        ∧ t.frk.table = s.frk.table.filter (fun q => !(q.uid == payLe a.frame.payload 0 8 && q.kind == .spin))
        ∧ t.frk.await = s.frk.await.filter (fun w => w.frame.seq != a.frame.seq))
  ∧ (∀ (s : State),
      s.frkIs .drawer = true →
      s.frk.tok.spin = .ring →
      s.frkLinked = true →
      ∃ t, exec (.tokenLeaseExpire .spin) s = .next t
        ∧ t.frk.tok.spin = .none ∧ t.rd R.SPM_TOK_held = 0
        ∧ t.frk.out = s.frkFrame .rel 0 (tokPayload s.uid .spin) :: s.frk.out
        ∧ s.fieldsKept [R.SPM_TOK_held] t)
  ∧ (∀ (s : State) (k : TokKind),
      s.frk.tok.get k ≠ .ring →
      ∃ t, exec (.tokenLeaseExpire k) s = .next t
        ∧ t = s)
  ∧ (∀ (s : State) (uid : BitVec 64) (k : TokKind),
      s.frkIs .cabinet = true →
      uid.toNat ≠ s.uid →
      s.frk.queue = [] →
      ∃ t, exec (.cabinetLeaseFree uid k) s = .next t
        ∧ t.frk.table = s.frk.table.filter (fun q => !(q.uid == uid.toNat && q.kind == k))
        ∧ t.frk.tok = s.frk.tok)
  ∧ (∀ (s : State) (uid : BitVec 64),
      s.frkIs .cabinet = true →
      uid.toNat ≠ s.uid →
      s.frk.queue = [] →
      ∃ t, exec (.spinLeaseExpire uid) s = .next t
        ∧ t.frk.table = s.frk.table.filter (fun q => !(q.uid == uid.toNat && q.kind == .spin)))
  ∧ (∀ (s : State) (who : Init),
      s.reaches 36 →
      s.rdB R.SPM_TOK_held = false →
      s.rdB R.FRK_TOK_STAT_spin_q = false →
      s.frkIs .drawer = true →
      s.localBudget = false →
      ∃ t, exec (.tokReqSpin who) s = .next t
        ∧ t.rd R.FRK_TOK_STAT_spin_q = 1
        ∧ t.frk.out = s.frkFrame .req 0 (tokPayload s.uid .spin) :: s.frk.out
        ∧ s.fieldsKept [R.FRK_TOK_STAT_spin_q] t)
  ∧ (∀ (s : State) (who : Init),
      s.reaches 36 →
      s.rdB R.SPM_TOK_held = true ∨ s.rdB R.FRK_TOK_STAT_spin_q = true →
      s.rdB R.SYS_CFG_ERR_valid = false →
      ∃ t, exec (.tokReqSpin who) s = .next t
        ∧ t.frk = s.frk ∧ t.rd R.SYS_CFG_ERR_cause = 5)
  ∧ (∀ (s : State) (who : Init),
      s.reaches 36 →
      s.rdB R.FRK_TOK_STAT_pwr = false →
      s.rdB R.FRK_TOK_STAT_pwr_q = false →
      s.localBudget = true →
      s.rdB R.FRK_LOCAL_pwr_en = true →
      s.frk.tok.power = .none →
      s.jig.boot ≠ .running →
      ∃ t, exec (.tokReqPwr who) s = .next t
        ∧ t.rd R.FRK_TOK_STAT_pwr = 1 ∧ t.rd R.FRK_TOK_STAT_pwr_q = 0
        ∧ t.frk.tok.power = .local)
  ∧ (∀ (s : State) (who : Init),
      s.reaches 36 →
      s.frk.tok.power = .ring →
      s.frkIs .cabinet = false →
      s.frkLinked = true →
      s.jig.boot ≠ .running →
      ∃ t, exec (.tokRelPwr who) s = .next t
        ∧ t.frk.tok.power = .none ∧ t.rd R.FRK_TOK_STAT_pwr = 0
        ∧ t.frk.out = s.frkFrame .rel 0 (tokPayload s.uid .power) :: s.frk.out)
  ∧ (∀ (s : State) (who : Init),
      s.reaches 36 →
      s.frk.tok.power = .none →
      ∃ t, exec (.tokRelPwr who) s = .next t
        ∧ t = s)
  ∧ (∀ (s : State) (who : Init),
      s.reaches 36 →
      s.rdB R.FRK_TOK_STAT_spin_q = true →
      s.localBudget = false →
      s.frkIs .cabinet = false →
      s.frkLinked = true →
      ∃ t, exec (.tokCancelSpin who) s = .next t
        ∧ t.rd R.FRK_TOK_STAT_spin_q = 0
        ∧ t.frk.out = s.frkFrame .rel 0 (tokPayload s.uid .spin) :: s.frk.out
        ∧ s.fieldsKept [R.FRK_TOK_STAT_spin_q] t)
  ∧ (∀ (s : State) (who : Init),
      s.reaches 36 →
      s.rdB R.FRK_TOK_STAT_pwr_q = true →
      s.localBudget = true →
      ∃ t, exec (.tokCancelPwr who) s = .next t
        ∧ t = s.wr R.FRK_TOK_STAT_pwr_q 0)
  ∧ (∀ (s : State) (who : Init) (k : TokKind) (v : BitVec 8),
      s.reaches 36 →
      s.frkIs .cabinet = false →
      ∃ t, exec (.budgetLower who k v) s = .next t
        ∧ t = s.wr (tokMax k) v.toNat)
  ∧ (∀ (s : State) (who : Init) (v : BitVec 8) (x y : TokEntry),
      s.reaches 36 →
      s.frkIs .cabinet = true →
      s.frk.queue = [] →
      s.frk.table = [x, y] →
      x.kind = .power →
      y.kind = .power →
      y.uid ≠ s.uid →
      v.toNat = 1 →
      ∃ t, exec (.budgetLower who .power v) s = .next t
        ∧ t.rd R.FRK_TOK_CFG_pwr_max = 1
        ∧ t.frk.out = s.frkFrame .revoke y.addr (tokPayload y.uid .power) :: s.frk.out
        ∧ t.frk.table = s.frk.table)

/-- Speed thresholds and the commands of GCK_CTL load, unload, swap and relock the gauge heads (parts of R115, R118, R136). In every state and
for all operands that meet the conditions of a clause, the command answers the next state that the clause describes. Commands:
GAUGE_LOAD_SPEED, GAUGE_UNLOAD_SPEED, GCK_LOAD_CMD, GCK_UNLOAD_CMD, GCK_SWAP_CMD, GCK_RELOCK_CMD, GCK_DISABLE, GAUGE_HEAD_FLYING,
GAUGE_AMPLITUDE_OK, GAUGE_LOAD_TIMEOUT, GAUGE_PHASE_LOCK, GAUGE_ACQ_TIMEOUT, GAUGE_INDEX, GAUGE_INDEX_TIMEOUT, GAUGE_INDEX_MISSING,
GAUGE_LOSS, GAUGE_HOLD_END, SWITCH_PHASE_LOCK, SWITCH_TIMEOUT, GAUGE_UNLOAD_DONE, SPARE_INDEX, SPARE_GAUGE_LOSS. Where the spec leaves a
point open, the clauses follow the model's choices (assumptions 6 and 11). -/
def Obligations.GaugeTimebase : Prop :=
  (∀ (s : State),
      s.gckIs .off = true →
      s.rdB R.GCK_CTL_en = true →
      s.rdB R.GCK_CTL_auto_load = true →
      s.rd R.GCK_LOAD_CFG_load_rpm ≤ s.rd R.SPM_SPEED_rpm →
      ∃ t, exec .gaugeLoadSpeed s = .next t
        ∧ t.gckIs .load = true
        ∧ t.rd R.GCK_STAT_tries_left = s.rd R.GCK_LOSS_CFG_tries
        ∧ (s.gck.primFitted = true → t.gck.primDriven = true ∧ t.gckActive = .primary))
  ∧ (∀ (s : State),
      s.gckIs .off = false →
      s.gckIs .unload = false →
      s.rd R.SPM_SPEED_rpm < s.rd R.GCK_LOAD_CFG_unload_rpm →
      ∃ t, exec .gaugeUnloadSpeed s = .next t
        ∧ t.gckIs .unload = true
        ∧ t.rd R.GCK_STAT_lock = 0
        ∧ t.rd R.GCK_STAT_prim_fly = 0
        ∧ t.rd R.GCK_STAT_spare_fly = 0
        ∧ t.gck.primDriven = false
        ∧ t.gck.spareDriven = false)
  ∧ (∀ (s : State) (who : Init),
      s.reaches 7 →
      s.gckIs .off = true →
      s.rdB R.GCK_CTL_en = true →
      s.rd R.GCK_LOAD_CFG_load_rpm ≤ s.rd R.SPM_SPEED_rpm →
      ∃ t, exec (.gckLoadCmd who) s = .next t
        ∧ t.gckIs .load = true
        ∧ t.rd R.GCK_STAT_tries_left = s.rd R.GCK_LOSS_CFG_tries)
  ∧ (∀ (s : State) (who : Init),
      s.reaches 7 →
      s.gckIs .off = false →
      s.gckIs .unload = false →
      ∃ t, exec (.gckUnloadCmd who) s = .next t
        ∧ t.gckIs .unload = true
        ∧ t.rd R.GCK_STAT_lock = 0
        ∧ t.gck.primDriven = false)
  ∧ (∀ (s : State) (who : Init),
      s.reaches 7 →
      (s.gckIs .locked || s.gckIs .hold) = true →
      s.gaugeFlying s.gckActive.other = true →
      ∃ t, exec (.gckSwapCmd who) s = .next t
        ∧ t.gckIs .switch = true
        ∧ t.rd R.GCK_STAT_lock = 0
        ∧ t.rd R.GCK_STAT_dp_src = 1)
  ∧ (∀ (s : State) (who : Init),
      s.reaches 7 →
      s.gckIs .fault = true →
      s.gaugeFlying .primary = true →
      ∃ t, exec (.gckRelockCmd who) s = .next t
        ∧ t.gckIs .acq = true
        ∧ t.gckActive = .primary
        ∧ t.gck.frameOfs = 0
        ∧ t.rd R.GCK_STAT_tries_left = s.rd R.GCK_LOSS_CFG_tries)
  ∧ (∀ (s : State) (who : Init),
      s.gckIs .off = false →
      s.gckIs .unload = false →
      ∃ t, exec (.gckDisable who false) s = .next t
        ∧ t.rd R.GCK_CTL_en = 0
        ∧ t.gckIs .unload = true
        ∧ t.rd R.GCK_STAT_lock = 0)
  ∧ (∀ (s : State),
      s.gckIs .unload = true →
      ∃ t, exec .gaugeUnloadDone s = .next t
        ∧ t.gckIs .off = true
        ∧ t.irq = (s.raise 62).irq)
  ∧ (∀ (s : State),
      s.gck.primDriven = true →
      ∃ t, exec (.gaugeHeadFlying .primary) s = .next t
        ∧ t.rd R.GCK_STAT_prim_fly = 1)
  ∧ (∀ (s : State) (amp : BitVec 8),
      s.gckIs .load = true →
      s.rd R.GCK_LOSS_CFG_amp_min ≤ amp.toNat →
      ∃ t, exec (.gaugeAmplitudeOk amp) s = .next t
        ∧ t.gckIs .acq = true
        ∧ t.gaugeAmp s.gckActive = amp.toNat)
  ∧ (∀ (s : State),
      s.gckIs .load = true →
      ∃ t, exec .gaugeLoadTimeout s = .next t
        ∧ t.gckIs (if s.gaugeFlying .spare && s.rdB R.GCK_CTL_auto_spare && decide (s.gckActive = .primary) then .acq else .fault) = true)
  ∧ (∀ (s : State),
      s.gckIs .acq = true →
      ∃ t, exec .gaugePhaseLock s = .next t
        ∧ t.gckIs .index = true
        ∧ t.gck.dueCount = none)
  ∧ (∀ (s : State) (amp : BitVec 8),
      s.gckIs .acq = true →
      0 < s.rd R.GCK_STAT_tries_left →
      s.rdB R.GCK_CTL_auto_spare = false →
      ∃ t, exec (.gaugeAcqTimeout amp) s = .next t
        ∧ t.gckIs .acq = true
        ∧ t.rd R.GCK_STAT_tries_left = s.rd R.GCK_STAT_tries_left - 1)
  ∧ (∀ (s : State) (count : BitVec 16) (phase step : Word) (ns : BitVec 32),
      s.gckIs .index = true →
      s.gck.dueCount = some count.toNat →
      ∃ t, exec (.gaugeIndex count phase step ns) s = .next t
        ∧ t.gckIs .locked = true
        ∧ t.rd R.GCK_STAT_lock = 1
        ∧ t.rd R.GCK_STAT_dp_src = 0
        ∧ t.rd R.GCK_DP_STEP_step = step.toNat
        ∧ t.driveTime = (s.driveTime + ns.toNat) % 2 ^ 64)
  ∧ (∀ (s : State) (count : BitVec 16) (phase step : Word) (ns : BitVec 32),
      s.gckIs .locked = true →
      count.toNat = s.frameCount →
      ∃ t, exec (.gaugeIndex count phase step ns) s = .next t
        ∧ t.gckIs .locked = true
        ∧ t.rd64 R.GCK_IDX_DT_dt = (s.driveTime + ns.toNat) % 2 ^ 64
        ∧ t.rd R.GCK_DPHASE_dphase = twosOf 32 s.gck.frameOfs
        ∧ t.gck.missing = 0)
  ∧ (∀ (s : State) (amp : BitVec 8),
      s.gckIs .switch = true →
      ∃ t, exec (.gaugeIndexTimeout amp) s = .next t
        ∧ t.gckIs .fault = true)
  ∧ (∀ (s : State),
      s.gckIs .locked = true →
      s.gck.missing = 0 →
      ∃ t, exec .gaugeIndexMissing s = .next t
        ∧ t.gckIs .locked = true
        ∧ t.gck.missing = 1
        ∧ t.rd R.GCK_EVT_CNT_idx_miss = min (2 ^ R.GCK_EVT_CNT_idx_miss.w - 1) (s.rd R.GCK_EVT_CNT_idx_miss + 1)
        ∧ t.irq = (s.raise 54).irq)
  ∧ (∀ (s : State) (amp : BitVec 8),
      s.gckIs .locked = true →
      ∃ t, exec (.gaugeLoss amp) s = .next t
        ∧ t.gckIs .hold = true
        ∧ t.rd R.GCK_STAT_lock = 0
        ∧ t.rd R.GCK_STAT_dp_src = 1
        ∧ t.gaugeAmp s.gckActive = amp.toNat)
  ∧ (∀ (s : State) (amp : BitVec 8),
      s.gckIs .hold = true →
      s.rd R.GCK_LOSS_CFG_amp_min ≤ amp.toNat →
      ∃ t, exec (.gaugeHoldEnd amp true) s = .next t
        ∧ t.gckIs .index = true
        ∧ t.gck.dueCount = some s.frameCount)
  ∧ (∀ (s : State) (step : Word),
      s.gckIs .switch = true →
      s.gck.switchHeld = false →
      ∃ t, exec (.switchPhaseLock step) s = .next t
        ∧ t.gck.switchHeld = true
        ∧ t.rd R.GCK_DP_STEP_step = step.toNat
        ∧ t.gckIs .switch = true)
  ∧ (∀ (s : State),
      s.gckIs .switch = true →
      ∃ t, exec .switchTimeout s = .next t
        ∧ t.gckIs .fault = true)
  ∧ (∀ (s : State) (phase : Word) (apart : BitVec 32),
      s.gckIs .locked = true →
      s.gckActive = .primary →
      s.gaugeFlying .spare = true →
      ∃ t, exec (.spareIndex phase apart) s = .next t
        ∧ t.rd R.GCK_SPARE_MEAS_fresh = 1
        ∧ t.rdI R.GCK_SPARE_MEAS_meas_ofs = signedOf 24 phase.toNat
        ∧ t.gck.spareSeen = true)
  ∧ (∀ (s : State) (amp : BitVec 8),
      s.gckIs .locked = true →
      s.gckActive = .primary →
      s.gaugeFlying .spare = true →
      ∃ t, exec (.spareGaugeLoss amp) s = .next t
        ∧ t.rd R.GCK_STAT_spare_ok = 0
        ∧ t.rd R.GCK_AMP_spare_amp = amp.toNat
        ∧ t.gckIs .locked = true)

/-- A read channel takes sectors, delivers, opens and closes entries, and reports (parts of R149 to R159, R161, R164, R174, R175). In every
state and for all operands that meet the conditions of a clause, the command answers the next state that the clause describes. Commands:
SECTOR_READ, SECTOR_DECODE_DONE, STORED_DECODE_DONE, REPORT_POP, RCH_DISABLE. Where the spec leaves a point open, the clauses follow the
model's choices (assumptions 11, 95 and 96). -/
def Obligations.ReadChannels : Prop :=
  (∀ (s : State) (ch : Fin 8) (cands : List SyncCand) (samples : List (BitVec 7)) (slotEcc sumEcc : Bool) (r : LaneRec) (k track sector : Nat),
      s.rdB (rchF R.RCH_STAT_reading ch) = true →
      s.rch[ch].stopAfter = false →
      s.rch[ch].heatWait = false →
      s.wch[ch].withheld = false →
      s.hlOn (chAct ch) = false ∨ s.wch[ch].settled = true →
      s.nextRead ch = some (r, k, track, sector, none) →
      (s.lane (chAct ch) (chLane ch)).targets = none →
      s.shadows = [] →
      ∃ t, exec (.sectorRead ch cands samples slotEcc sumEcc) s = .next t
        ∧ t.rch[ch].flight.map (fun f => (f.track, f.sector, f.k, f.target)) = s.rch[ch].flight.map (fun f => (f.track, f.sector, f.k, f.target)) ++ [(track, sector, k, none)]
        ∧ (t.lane (chAct ch) (chLane ch)).k = k + 1
        ∧ t.rd (rchF R.RCH_CNT_SECT_count ch) = satAdd (2 ^ R.RCH_CNT_SECT_count.w - 1) (s.rd (rchF R.RCH_CNT_SECT_count ch)) 1
        ∧ (s.rdBit R.GCK_CH_STAT_rate_err ch.val = false → (t.rch[ch].flight.getLast?).map (·.cands) = some (candRank (s.rd (rchF R.RCH_SYNC_CFG_win ch)) (s.rd (rchF R.RCH_SYNC_CFG_thr ch)) cands))
        ∧ (s.rdBit R.GCK_CH_STAT_rate_err ch.val = false → s.rch[ch].slot0 = .free → t.rch[ch].slot0 = .filling ∧ (t.rch[ch].flight.getLast?).map (·.slot) = some (some 0))
        ∧ t.dram = s.dram)
  ∧ (∀ (s : State) (ch : Fin 8) (d : Decoded) (m : SectorMeasure) (x : InFlight) (rest : List InFlight),
      s.rch[ch].flight = x :: rest →
      x.target = none →
      ∃ t, exec (.sectorDecodeDone ch d m) s = .next t
        ∧ t.rch[ch].flight = rest
        ∧ (x.decodable = true → s.decodeOk ch d = true → t.rd ((R.MSQ_LANE_PROG_progress.inst (chAct ch).idx).at (chLane ch).val) = (s.rd ((R.MSQ_LANE_PROG_progress.inst (chAct ch).idx).at (chLane ch).val) + 1) % 2 ^ R.MSQ_LANE_PROG_progress.w)
        ∧ (∀ r, x.decodable = true → s.decodeOk ch d = true → s.rdB R.JIG_GOLD_BASE_lock = false → s.par.bind[ch] = none → s.chRec ch = some r → t.dram = memWriteBytes (memWriteBytes s.dram (r.dataAddr x.k) (d.info.take 4096)) (r.metaAddr x.k) ((d.info.drop 4096).take 16))
        ∧ (¬ (x.decodable = true ∧ s.decodeOk ch d = true) → t.dram = s.dram ∧ t.rd (rchF R.RCH_CNT_OTF_FAIL_count ch) = satAdd (2 ^ R.RCH_CNT_OTF_FAIL_count.w - 1) (s.rd (rchF R.RCH_CNT_OTF_FAIL_count ch)) 1)
        ∧ (∀ k : Fin 16, ¬ (x.decodable = true ∧ s.decodeOk ch d = true) → s.rcvOpen ch = true → s.freeEntry ch = some k → t.entryOpen ch k.val = true ∧ t.rd (rsetF R.RCH_RSET_B_track ch k.val) = x.track % 2 ^ R.RCH_RSET_B_track.w ∧ t.rd (rsetF R.RCH_RSET_B_sector ch k.val) = x.sector % 2 ^ R.RCH_RSET_B_sector.w)
        ∧ (¬ (x.decodable = true ∧ s.decodeOk ch d = true) → s.rcvOpen ch = true → s.freeEntry ch = none → t.rd (rchF R.RCH_STAT_rset_ovf ch) = 1))
  ∧ (∀ (s : State) (ch : Fin 8) (d : Decoded) (x : StoredDecode),
      s.rch[ch].stored = some x →
      x.suspended = false →
      x.entry < 16 →
      s.entryOpen ch x.entry = true →
      s.rch[ch].todo = [] →
      s.kindNow ch = .deep →
      ∃ t, exec (.storedDecodeDone ch d false) s = .next t
        ∧ t.rch[ch].stored = none
        ∧ t.rch[ch].lastIter = d.iter.toNat
        ∧ (s.decodeOk ch d = true → t.rd (rsetF R.RCH_RSET_A_status ch x.entry) = 1 ∧ t.rd (rsetF R.RCH_RSET_A_rung ch x.entry) = s.rungNow ch % 2 ^ R.RCH_RSET_A_rung.w)
        ∧ (s.decodeOk ch d = false → t.rd (rsetF R.RCH_RSET_A_status ch x.entry) = 0 ∧ t.dram = s.dram))
  ∧ (∀ (s : State) (ch : Fin 8) (d : Decoded) (ecc : Bool) (x : StoredDecode),
      s.rch[ch].stored = some x →
      x.suspended = true →
      ∃ t, exec (.storedDecodeDone ch d ecc) s = .next t
        ∧ t = s)
  ∧ (∀ (s : State) (who : Init) (ch : Fin 8),
      s.absent (8 + ch.val) = false →
      s.inSoftReset (8 + ch.val) = false →
      ∃ t, exec (.reportPop who ch) s = .next t
        ∧ t.rch[ch].reports = s.rch[ch].reports.drop 1
        ∧ t.reply = s.heldHigh (8 + ch.val) R.RCH_RPT_LO_track.off
        ∧ (s.rch[ch].reports.length ≤ 1 → t.rd (rchF R.RCH_RPT_HI_valid ch) = 0)
        ∧ (∀ p, (s.rch[ch].reports.drop 1).head? = some p → t.rd (rchF R.RCH_RPT_HI_valid ch) = 1 ∧ t.rd (rchF R.RCH_RPT_LO_track ch) = p.track % 2 ^ R.RCH_RPT_LO_track.w ∧ t.rd (rchF R.RCH_RPT_HI_outcome ch) = p.outcome % 2 ^ R.RCH_RPT_HI_outcome.w)
        ∧ t.dram = s.dram)
  ∧ (∀ (s : State) (who : Init) (ch : Fin 8) (srst : Bool),
      s.absent (8 + ch.val) = false →
      ∃ t, exec (.rchDisable who ch srst) s = .next t
        ∧ (∀ k : Fin 16, t.entryOpen ch k.val = false)
        ∧ t.rch[ch].slot0 = .free ∧ t.rch[ch].slot1 = .free
        ∧ t.rch[ch].flight = [] ∧ t.rch[ch].stored = none
        ∧ t.combine.all (fun c => c.ch != ch.val) = true
        ∧ (srst = false → s.shadows = [] → t.rd (rchF R.RCH_CTL_en ch) = 0)
        ∧ (srst = true → t.rd (rchF R.RCH_CTL_srst ch) = 1)
        ∧ t.dram = s.dram)

/-- A writing channel assembles, runs, completes or leaves sectors incomplete (parts of R182, R190, R192, R193, R194, R197). In every state
and for all operands that meet the conditions of a clause, the command answers the next state that the clause describes. Commands:
SECTOR_ASSEMBLE, WRITE_RUN_GRANT, SECTOR_COMPLETE, PREHEAT_DONE, WCH_ENABLE. Where the spec leaves a point open, the clauses follow the
model's choice (assumption 11). -/
def Obligations.WriteChannels : Prop :=
  (∀ (s : State) (ch : Fin 8) (r : LaneRec) (k : Nat),
      s.wchNext ch = some (r, k) →
      s.wch[ch].source = false →
      s.wchPoison ch r k = false →
      s.shadows = [] →
      ∃ t, exec (.sectorAssemble ch true) s = .next t
        ∧ t.wch[ch].asm.map (fun a => (a.k, a.track, a.sector)) = s.wch[ch].asm.map (fun a => (a.k, a.track, a.sector)) ++ [(k, s.secTrack (chAct ch) r k, s.secIdx (chAct ch) r k)]
        ∧ (t.wch[ch].asm.getLast?).map (·.info) = some (s.wchInfo ch r k)
        ∧ t.dram = s.dram)
  ∧ (∀ (s : State) (ch : Fin 8) (r : LaneRec) (k : Nat),
      s.wchNext ch = some (r, k) →
      s.wch[ch].source = false →
      s.rdB (R.WCH_FLT_valid.inst ch.val) = false →
      s.shadows = [] →
      ∃ t, exec (.sectorAssemble ch false) s = .next t
        ∧ t.rd (R.WCH_FLT_valid.inst ch.val) = 1
        ∧ t.rd (R.WCH_FLT_cause.inst ch.val) = 8
        ∧ t.wch[ch].asm = []
        ∧ t.rd (R.WCH_STAT_strobe.inst ch.val) = 0
        ∧ t.dram = s.dram)
  ∧ (∀ (s : State) (ch : Fin 8) (a : AsmSector) (l : List AsmSector),
      s.rdB (R.WCH_STAT_gate_req.inst ch.val) = true →
      s.wch[ch].failed = false →
      s.rdBit R.GCK_CH_STAT_rate_err ch.val = false →
      s.wch[ch].asm = a :: l →
      (s.wchConds ch).all id = true →
      ∃ t, exec (.writeRunGrant ch) s = .next t
        ∧ t.rd (R.WCH_STAT_lane_active.inst ch.val) = 1
        ∧ t.rd (R.WCH_STAT_strobe.inst ch.val) = 1
        ∧ t.wch[ch].inRun = true
        ∧ t.wch[ch].asm = s.wch[ch].asm
        ∧ s.fieldsKept [R.WCH_STAT_lane_active.inst ch.val, R.WCH_STAT_strobe.inst ch.val] t)
  ∧ (∀ (s : State) (ch : Fin 8) (a : AsmSector) (l : List AsmSector),
      s.rdB (R.WCH_STAT_gate_req.inst ch.val) = true →
      s.wch[ch].failed = false →
      s.rdBit R.GCK_CH_STAT_rate_err ch.val = false →
      s.wch[ch].asm = a :: l →
      (s.wchConds ch).all id = false →
      ∃ t, exec (.writeRunGrant ch) s = .next t
        ∧ t.wch[ch].inRun = false
        ∧ t.wch[ch].asm = []
        ∧ t.rd (R.WCH_STAT_lane_active.inst ch.val) = 0
        ∧ t.rd (R.WCH_STAT_strobe.inst ch.val) = 0
        ∧ t.dram = s.dram)
  ∧ (∀ (s : State) (ch : Fin 8) (r : LaneRec) (a : AsmSector) (l : List AsmSector),
      s.wch[ch].inRun = true →
      s.wch[ch].asm = a :: l →
      s.chRec ch = some r →
      s.par.bind[ch] = none →
      s.wch[ch].stopAfter = false →
      ∃ t, exec (.sectorComplete ch) s = .next t
        ∧ t.wch[ch].asm = l
        ∧ t.wch[ch].inRun = false
        ∧ (t.lane (chAct ch) (chLane ch)).k = a.k + 1
        ∧ (s.rdB (R.WCH_BWP_valid.inst ch.val) = true → t.rd (R.WCH_BWP_ptr.inst ch.val) = (s.rd (R.WCH_BWP_ptr.inst ch.val) + 1) % 2 ^ R.WCH_BWP_ptr.w)
        ∧ (s.rdB (R.WCH_BWP_valid.inst ch.val) = false → t.rd (R.WCH_BWP_ptr.inst ch.val) = s.rd (R.WCH_BWP_ptr.inst ch.val))
        ∧ t.rd (R.WCH_CNT_SECT_count.inst ch.val) = satAdd (2 ^ R.WCH_CNT_SECT_count.w - 1) (s.rd (R.WCH_CNT_SECT_count.inst ch.val)) 1
        ∧ (l = [] → t.rd (R.WCH_STAT_strobe.inst ch.val) = 0)
        ∧ t.dram = s.dram)
  ∧ (∀ (s : State) (ch : Fin 8),
      s.wchHctl ch % 4 = 2 →
      ∃ t, exec (.preheatDone ch) s = .next t
        ∧ t.rd (R.WCH_STAT_preheat_done.inst ch.val) = 1
        ∧ t = { s with regs := t.regs }
        ∧ s.fieldsKept [R.WCH_STAT_preheat_done.inst ch.val] t)
  ∧ (∀ (s : State) (who : Init) (ch : Fin 8),
      s.reaches (16 + ch.val) →
      s.rdB (R.WCH_CTL_en.inst ch.val) = false →
      ∃ t, exec (.wchEnable who ch) s = .next t
        ∧ t.rd (R.WCH_CTL_en.inst ch.val) = 1
        ∧ (ch.val % 4 = 0 → (t.hl.get (chAct ch)).queue = hlInitFrames ∧ (t.hl.get (chAct ch)).initLeft = 7)
        ∧ (ch.val % 4 ≠ 0 → t.hl = s.hl))

/-- The Head Link carries one frame at a time, retries a failed read, and reports the preamp's faults (parts of R190, R193, R201 to R203,
R208). In every state and for all operands that meet the conditions of a clause, the command answers the next state that the clause
describes. Commands: PREAMP_FAULT_LINE, HL_FRAME_DONE, HL_CMD, FAULT_LINE_DEASSERTED. Where the spec leaves a point open, the clauses
follow the model's choices (assumptions 11 and 93). -/
def Obligations.HeadLink : Prop :=
  (∀ (s : State) (x : Act),
      s.hlOn x = true →
      (s.hl.get x).queue = [] →
      (∀ c ∈ actChans x, s.wch[c].inRun = false) →
      ∃ t, exec (.preampFaultLine x) s = .next t
        ∧ t.rd (hlField R.WCH_HL_STAT_fault_line x) = 1
        ∧ (t.hl.get x).queue = [hlStatRead]
        ∧ t.wch = s.wch)
  ∧ (∀ (s : State) (x : Act),
      (∀ c ∈ actChans x, s.wch[c].inRun = true ∧ s.wch[c].stopAfter = false) →
      ∃ t, exec (.preampFaultLine x) s = .next t
        ∧ t.rd (hlField R.WCH_HL_STAT_fault_line x) = 1
        ∧ (∀ c ∈ actChans x, t.wch[c].inRun = false ∧ t.wch[c].failed = true ∧ t.rd (R.WCH_STAT_strobe.inst c.val) = 0))
  ∧ (∀ (s : State) (x : Act),
      ∃ t, exec (.faultLineDeasserted x) s = .next t
        ∧ t.rd (hlField R.WCH_HL_STAT_fault_line x) = 0
        ∧ t = { s with regs := t.regs }
        ∧ s.fieldsKept [hlField R.WCH_HL_STAT_fault_line x] t)
  ∧ (∀ (s : State) (x : Act) (data : BitVec 16) (crc : BitVec 8) (f : HlFrame) (l : List HlFrame),
      (s.hl.get x).queue = f :: l →
      f.read = false →
      f.init = false →
      ∃ t, exec (.hlFrameDone x data crc) s = .next t
        ∧ (t.hl.get x).queue = l
        ∧ (t.hl.get x).pa.head? = some (f.target, f.reg, f.data)
        ∧ t.rd (hlField R.WCH_HL_STAT_depth x) = min 31 l.length)
  ∧ (∀ (s : State) (x : Act) (data : BitVec 16) (crc : BitVec 8) (f : HlFrame) (l : List HlFrame),
      (s.hl.get x).queue = f :: l →
      f.read = true →
      f.init = false →
      f.fw = true →
      ¬ (f.target = 16 ∧ f.reg = 1) →
      crc.toNat = f.readCrc data →
      ∃ t, exec (.hlFrameDone x data crc) s = .next t
        ∧ (t.hl.get x).queue = l
        ∧ t.rd (hlField R.WCH_HL_RDATA_data x) = data.toNat
        ∧ t.rd (hlField R.WCH_HL_RDATA_valid x) = 1
        ∧ t.rd (hlField R.WCH_HL_RDATA_crc_err x) = 0)
  ∧ (∀ (s : State) (x : Act) (data : BitVec 16) (crc : BitVec 8) (f : HlFrame) (l : List HlFrame),
      (s.hl.get x).queue = f :: l →
      f.read = true →
      crc.toNat ≠ f.readCrc data →
      f.tries < s.rd (hlField R.WCH_HL_CFG_rd_retry x) →
      ∃ t, exec (.hlFrameDone x data crc) s = .next t
        ∧ (t.hl.get x).queue = { f with tries := f.tries + 1 } :: l
        ∧ t.rd (hlField R.WCH_HL_CNT_crc_err x) = satAdd (2 ^ R.WCH_HL_CNT_crc_err.w - 1) (s.rd (hlField R.WCH_HL_CNT_crc_err x)) 1)
  ∧ (∀ (s : State) (who : Init) (x : Act) (cmd : Word),
      s.reaches (16 + 4 * x.idx) →
      s.rdB (hlField R.WCH_HL_STAT_fw_busy x) = false →
      s.hlOn x = true →
      (s.hl.get x).queue = [] →
      ∃ t, exec (.hlCmd who x cmd) s = .next t
        ∧ (t.hl.get x).queue = [⟨7, bitAt cmd.toNat 31, bitField cmd.toNat 26 5, bitField cmd.toNat 18 8, bitField cmd.toNat 0 16, 0, false, true⟩]
        ∧ t.rd (hlField R.WCH_HL_STAT_fw_busy x) = 1)
  ∧ (∀ (s : State) (who : Init) (x : Act) (cmd : Word),
      s.reaches (16 + 4 * x.idx) →
      s.rdB (hlField R.WCH_HL_STAT_fw_busy x) = true →
      s.rdB R.SYS_CFG_ERR_valid = false →
      ∃ t, exec (.hlCmd who x cmd) s = .next t
        ∧ t.hl = s.hl
        ∧ t.rd R.SYS_CFG_ERR_cause = 5)

/-- A sequencer dispatches descriptors, goes on at next or alt, times waits out, and opens and closes commit regions (parts of R212, R214,
R221, R223, R228). In every state and for all operands that meet the conditions of a clause, the command answers the next state that the
clause describes. Commands: RING_TAIL_WRITE, DISPATCH, WAIT_END, WAIT_TIMEOUT, COMMIT_CLOSE, COMMIT_BOUND_EXCEEDED. Where the spec leaves
a point open, the clauses follow the model's choice (assumption 11). -/
def Obligations.SequencerFlow : Prop :=
  (∀ (s : State) (who : Init) (x : Act) (v : BitVec 10),
      s.reaches (24 + x.idx) →
      v.toNat < s.ringSize x →
      (v.toNat + s.ringSize x - s.rd (msqF R.MSQ_RING_HEAD_head x) % s.ringSize x) % s.ringSize x < s.ringSize x - 1 →
      ∃ t, exec (.ringTailWrite who x v) s = .next t
        ∧ t.rd (msqF R.MSQ_RING_TAIL_tail x) = v.toNat
        ∧ t = { s with regs := t.regs }
        ∧ s.fieldsKept [msqF R.MSQ_RING_TAIL_tail x, R.PWR_IDLE_STAT_count] t
        ∧ (v.toNat ≠ s.rd (msqF R.MSQ_RING_HEAD_head x) → t.rd R.PWR_IDLE_STAT_count = 0))
  ∧ (∀ (s : State) (who : Init) (x : Act) (v : BitVec 10),
      s.reaches (24 + x.idx) →
      s.rdB R.SYS_CFG_ERR_valid = false →
      s.ringSize x ≤ v.toNat ∨ s.ringSize x - 1 ≤ (v.toNat + s.ringSize x - s.rd (msqF R.MSQ_RING_HEAD_head x) % s.ringSize x) % s.ringSize x →
      ∃ t, exec (.ringTailWrite who x v) s = .next t
        ∧ t.rd (msqF R.MSQ_RING_TAIL_tail x) = s.rd (msqF R.MSQ_RING_TAIL_tail x)
        ∧ t.rd R.SYS_CFG_ERR_cause = 5
        ∧ s.blocksKept [0] t)
  ∧ (∀ (s : State) (x : Act) (a b : BitVec 14) (c : BitVec 128),
      s.msqIs x .run = true ∨ s.msqIs x .commit = true →
      (s.msq.get x).heldBreaks = [] →
      (s.msq.get x).dispatchDue = true →
      (s.msq.get x).opDone = true →
      (s.msq.get x).retracting = false →
      (s.msq.get x).urgentWait = false →
      (s.msq.get x).saved = none →
      s.ringReady x = false →
      ∃ t, exec (.dispatch x a b c) s = .next t
        ∧ t.msqIs x (if s.rdB (msqF R.MSQ_CTL_run x) then .idle else .paused) = true
        ∧ (t.msq.get x).desc = none
        ∧ (t.msq.get x).dispatchDue = false
        ∧ t.dram = s.dram)
  ∧ (∀ (s : State) (x : Act) (a b : BitVec 14) (c : BitVec 128) (d : Desc),
      s.msqIs x .idle = true →
      s.rdBit R.PWR_SLEEP_STAT_votes (2 + x.idx) = false →
      (s.msq.get x).opDone = true →
      (s.msq.get x).retracting = false →
      (s.msq.get x).urgentWait = false →
      (s.msq.get x).saved = none →
      s.ringReady x = true →
      s.shadows = [] →
      d = s.readDesc (s.rd (msqF R.MSQ_RING_BASE_base x) * 256 + 256 * s.rd (msqF R.MSQ_RING_HEAD_head x)) →
      ∃ t, exec (.dispatch x a b c) s = .next t
        ∧ (s.descBad x d = true → (t.msq.get x).desc = none ∧ t.rd (msqF R.MSQ_RING_HEAD_head x) = (s.rd (msqF R.MSQ_RING_HEAD_head x) + 1) % s.ringSize x % 2 ^ R.MSQ_RING_HEAD_head.w)
        ∧ (∀ e, s.descBad x d = false → (s.dtEntry x d.opcode a).2 = some e → (t.msq.get x).desc = some d ∧ (t.msq.get x).src = .ring ∧ t.rd (msqF R.MSQ_STAT_entry x) = e % 4096)
        ∧ (s.descBad x d = false → (s.dtEntry x d.opcode a).2 = none → (s.dtEntry x 0xFE b).2 = none → (t.msq.get x).desc = none))
  ∧ (∀ (s : State) (x : Act) (flip : BitVec 128) (w : Microword),
      (s.msq.get x).word = some w →
      (s.msq.get x).todo = [] →
      w.fin = false →
      (if (if w.wait = 8 then !(s.msqCond x w.cond != w.inv) else (s.msqCond x w.cond != w.inv)) then w.alt else w.next) = 0xFFF →
      ∃ t, exec (.waitEnd x flip) s = .next t
        ∧ (t.msq.get x).dispatchDue = true
        ∧ (t.msq.get x).word = none
        ∧ t.regs = s.regs
        ∧ t.dram = s.dram)
  ∧ (∀ (s : State) (x : Act) (flip : BitVec 128) (w : Microword) (a : Nat),
      (s.msq.get x).word = some w →
      (s.msq.get x).todo = [] →
      w.fin = false →
      a = (if (if w.wait = 8 then !(s.msqCond x w.cond != w.inv) else (s.msqCond x w.cond != w.inv)) then w.alt else w.next) →
      a < 0xFFF →
      s.msqMarked x R.MSQ_FAIL_bits a = false →
      evenParity ((storeFind (s.msq.get x).store a ^^^ flip).toNat / 2 ^ 64) 64 = true →
      evenParity (storeFind (s.msq.get x).store a ^^^ flip).toNat 64 = true →
      (Microword.decode (storeFind (s.msq.get x).store a ^^^ flip).toNat).reserved = false →
      (Microword.decode (storeFind (s.msq.get x).store a ^^^ flip).toNat).persistent = false →
      ∃ t, exec (.waitEnd x flip) s = .next t
        ∧ (t.msq.get x).word = some (Microword.decode (storeFind (s.msq.get x).store a ^^^ flip).toNat)
        ∧ (t.msq.get x).todo = (Microword.decode (storeFind (s.msq.get x).store a ^^^ flip).toNat).ops
        ∧ t.rd (msqF R.MSQ_STAT_pc x) = a
        ∧ s.fieldsKept [msqF R.MSQ_STAT_pc x] t
        ∧ t.dram = s.dram)
  ∧ (∀ (s : State) (x : Act) (flip : BitVec 128) (w : Microword),
      (s.msq.get x).word = some w →
      (s.msq.get x).todo = [] →
      2 ≤ w.wait ∧ w.wait ≤ 7 →
      w.fin = false →
      w.alt = 0xFFF →
      ∃ t, exec (.waitTimeout x flip) s = .next t
        ∧ t.rd (msqF R.MSQ_STAT_wto x) = 1
        ∧ t.rd (msqF R.MSQ_CNT_EVT_wto x) = satAdd (2 ^ R.MSQ_CNT_EVT_wto.w - 1) (s.rd (msqF R.MSQ_CNT_EVT_wto x)) 1
        ∧ (t.msq.get x).dispatchDue = true
        ∧ t.dram = s.dram)
  ∧ (∀ (s : State) (x : Act) (w : Microword),
      (s.msq.get x).word = some w →
      (s.msq.get x).todo = [] →
      w.fin = true →
      s.msqIs x .commit = true →
      (s.msq.get x).heldBreaks = [] →
      ∃ t, exec (.commitClose x) s = .next t
        ∧ t.msqIs x .run = true
        ∧ t.rd (msqF R.MSQ_STAT_held x) = 0
        ∧ (t.msq.get x).word = some w
        ∧ t.dram = s.dram)
  ∧ (∀ (s : State) (x : Act) (flip : BitVec 128),
      s.msqIs x .commit = true →
      s.rdB (msqF R.MSQ_MCHK_valid x) = false →
      (s.msq.get x).heldBreaks = [] →
      (s.msq.get x).opDone = false →
      ∃ t, exec (.commitBoundExceeded x flip) s = .next t
        ∧ t.rd (msqF R.MSQ_MCHK_valid x) = 1
        ∧ t.rd (msqF R.MSQ_MCHK_kind x) = 4
        ∧ t.rd (msqF R.MSQ_MCHK_addr x) = s.rd (msqF R.MSQ_STAT_pc x)
        ∧ t.rd (msqF R.MSQ_STAT_pc x) = s.rd (msqF R.MSQ_STAT_entry x)
        ∧ t.rd (msqF R.MSQ_CNT_EVT_restarts x) = satAdd (2 ^ R.MSQ_CNT_EVT_restarts.w - 1) (s.rd (msqF R.MSQ_CNT_EVT_restarts x)) 1)

/-- Aborts, flushes, run and enable, urgent work, the retract break and the store port (parts of R225, R229, R231, R232, R235). In every state
and for all operands that meet the conditions of a clause, the command answers the next state that the clause describes. Commands:
MSQ_ABORT, MSQ_FLUSH, MSQ_RUN_WRITE, MSQ_ENABLE_WRITE, URGENT_GO, PREEMPTION, RETRACT_COUNT_REACHED, CS_WRITE, CS_READ. Where the spec
leaves a point open, the clauses follow the model's choice (assumption 11). -/
def Obligations.SequencerControl : Prop :=
  (∀ (s : State) (who : Init) (x : Act),
      s.reaches (24 + x.idx) →
      s.msqIs x .run = true →
      (s.msq.get x).opDone = false →
      (s.msq.get x).flushHeld = false →
      ∃ t, exec (.msqAbort who x) s = .next t
        ∧ (t.msq.get x).opDone = true
        ∧ (t.msq.get x).dispatchDue = true
        ∧ (t.msq.get x).word = none
        ∧ t.msqIs x .run = true
        ∧ t.rd (msqF R.MSQ_RING_TAIL_tail x) = s.rd (msqF R.MSQ_RING_TAIL_tail x))
  ∧ (∀ (s : State) (who : Init) (x : Act),
      s.reaches (24 + x.idx) →
      s.msqIs x .commit = true →
      ∃ t, exec (.msqAbort who x) s = .next t
        ∧ Brk.abort ∈ (t.msq.get x).heldBreaks
        ∧ t.rd (msqF R.MSQ_STAT_held x) = 1
        ∧ s.fieldsKept [msqF R.MSQ_STAT_held x] t
        ∧ t.dram = s.dram)
  ∧ (∀ (s : State) (who : Init) (x : Act),
      s.reaches (24 + x.idx) →
      s.msqRunning x = false →
      ∃ t, exec (.msqFlush who x) s = .next t
        ∧ t.rd (msqF R.MSQ_RING_HEAD_head x) = s.rd (msqF R.MSQ_RING_TAIL_tail x)
        ∧ (t.msq.get x).flushHeld = false
        ∧ t.host.posted.get x = []
        ∧ t.host.pend.get x = s.host.posted.get x ++ s.host.pend.get x
        ∧ s.fieldsKept [msqF R.MSQ_RING_HEAD_head x] t
        ∧ t.dram = s.dram)
  ∧ (∀ (s : State) (who : Init) (x : Act) (v : Bool),
      s.reaches (24 + x.idx) →
      ∃ t, exec (.msqRunWrite who x v) s = .next t
        ∧ t.rdB (msqF R.MSQ_CTL_run x) = v
        ∧ (s.msqIs x .idle = true → v = false → t.msqIs x .paused = true)
        ∧ ((s.msqIs x .paused = true ∨ s.msqIs x .parked = true) → v = true → t.msqIs x .idle = true)
        ∧ (s.msqRunning x = true → t.rd (msqF R.MSQ_STAT_state x) = s.rd (msqF R.MSQ_STAT_state x))
        ∧ t = { s with regs := t.regs }
        ∧ s.fieldsKept [msqF R.MSQ_CTL_run x, msqF R.MSQ_STAT_state x] t)
  ∧ (∀ (s : State) (who : Init) (x : Act),
      s.msqIs x .off = true →
      ∃ t, exec (.msqEnableWrite who x false true) s = .next t
        ∧ t.rd (msqF R.MSQ_CTL_en x) = 1
        ∧ t.msqIs x (if s.rdB (msqF R.MSQ_CTL_run x) then .idle else .paused) = true
        ∧ (t.msq.get x).store = (s.msq.get x).store)
  ∧ (∀ (s : State) (who : Init) (x : Act),
      s.msqIs x .off = false →
      s.shadows = [] →
      ∃ t, exec (.msqEnableWrite who x false false) s = .next t
        ∧ t.rd (msqF R.MSQ_CTL_en x) = 0
        ∧ t.msqIs x .off = true
        ∧ (t.msq.get x).store = (s.msq.get x).store
        ∧ (t.msq.get x).desc = none
        ∧ (t.msq.get x).saved = none
        ∧ (∀ l ∈ s.opLanes x, t.rd (R.WCH_STAT_gate_req.inst (laneCh x l).val) = 0 ∧ t.rd (R.WCH_STAT_strobe.inst (laneCh x l).val) = 0))
  ∧ (∀ (s : State) (who : Init) (x : Act) (en : Bool),
      ∃ t, exec (.msqEnableWrite who x true en) s = .next t
        ∧ t.rd (msqF R.MSQ_CTL_srst x) = 1
        ∧ t.msqIs x .off = true
        ∧ (t.msq.get x).store = (s.msq.get x).store)
  ∧ (∀ (s : State) (who : Init) (x : Act),
      s.reaches (24 + x.idx) →
      s.rdB (msqF R.MSQ_URG_CTL_busy x) = false →
      ∃ t, exec (.urgentGo who x) s = .next t
        ∧ t.rd (msqF R.MSQ_URG_CTL_busy x) = 1
        ∧ (t.msq.get x).urgentWait = true
        ∧ s.fieldsKept [msqF R.MSQ_URG_CTL_busy x] t)
  ∧ (∀ (s : State) (who : Init) (x : Act),
      s.reaches (24 + x.idx) →
      s.rdB (msqF R.MSQ_URG_CTL_busy x) = true →
      s.rdB R.SYS_CFG_ERR_valid = false →
      ∃ t, exec (.urgentGo who x) s = .next t
        ∧ t.msq = s.msq
        ∧ t.rd R.SYS_CFG_ERR_cause = 5)
  ∧ (∀ (s : State) (x : Act) (a b : BitVec 14) (c : BitVec 128) (d : Desc),
      s.preemptible x = true →
      s.msqIs x .run = true →
      (s.msq.get x).desc = some d →
      ∃ t, exec (.preemption x a b c) s = .next t
        ∧ (∃ v, (t.msq.get x).saved = some v ∧ v.desc = d ∧ v.entry = s.rd (msqF R.MSQ_STAT_entry x) ∧ v.prog = lanes4.map (s.laneProg x) ∧ v.src = (s.msq.get x).src)
        ∧ (t.msq.get x).urgentWait = false
        ∧ t.rd (msqF R.MSQ_CNT_EVT_preempts x) = satAdd (2 ^ R.MSQ_CNT_EVT_preempts.w - 1) (s.rd (msqF R.MSQ_CNT_EVT_preempts x)) 1)
  ∧ (∀ (s : State) (x : Act) (a b : BitVec 14) (c : BitVec 128),
      s.preemptible x = true →
      s.msqIs x .commit = true →
      ∃ t, exec (.preemption x a b c) s = .next t
        ∧ Brk.preempt ∈ (t.msq.get x).heldBreaks
        ∧ t.rd (msqF R.MSQ_STAT_held x) = 1
        ∧ t.dram = s.dram)
  ∧ (∀ (s : State) (x : Act) (a : BitVec 14) (c : BitVec 128),
      s.retractDue x = true →
      (s.msq.get x).retracting = false →
      s.msqIs x .run = true →
      ∃ t, exec (.retractCountReached x a c) s = .next t
        ∧ (t.msq.get x).retracting = true
        ∧ (∀ l ∈ s.opLanes x, t.rd (R.WCH_STAT_gate_req.inst (laneCh x l).val) = 0)
        ∧ (∀ e, (s.dtEntry x 0xF0 a).2 = some e → t.rd (msqF R.MSQ_STAT_entry x) = e % 4096)
        ∧ ((s.dtEntry x 0xF0 a).2 = none → (t.msq.get x).dispatchDue = true ∧ (t.msq.get x).opDone = true))
  ∧ (∀ (s : State) (x : Act) (a : BitVec 14) (c : BitVec 128),
      s.retractDue x = true →
      (s.msq.get x).retracting = false →
      s.msqIs x .commit = true →
      ∃ t, exec (.retractCountReached x a c) s = .next t
        ∧ Brk.retract ∈ (t.msq.get x).heldBreaks
        ∧ t.rd (msqF R.MSQ_STAT_held x) = 1
        ∧ (t.msq.get x).retracting = false)
  ∧ (∀ (s : State) (who : Init) (x : Act),
      s.reaches (24 + x.idx) →
      s.storeOpen x = true →
      rising (s.msq.get x).store = true →
      ∃ t, exec (.csWrite who x) s = .next t
        ∧ (let v := storeFind (t.msq.get x).store (s.rd (msqF R.MSQ_CS_ADDR_addr x)); evenParity v.toNat 64 = true ∧ evenParity (v.toNat / 2 ^ 64) 64 = true ∧ v.toNat % 2 ^ 63 = (s.rd (msqAt R.MSQ_CS_DATA_data x 0) + 2 ^ 32 * s.rd (msqAt R.MSQ_CS_DATA_data x 1)) % 2 ^ 63 ∧ v.toNat / 2 ^ 64 % 2 ^ 63 = (s.rd (msqAt R.MSQ_CS_DATA_data x 2) + 2 ^ 32 * s.rd (msqAt R.MSQ_CS_DATA_data x 3)) % 2 ^ 63)
        ∧ t.regs = s.regs
        ∧ t.dram = s.dram)
  ∧ (∀ (s : State) (who : Init) (x : Act),
      s.reaches (24 + x.idx) →
      s.storeOpen x = false →
      s.rdB R.SYS_CFG_ERR_valid = false →
      ∃ t, exec (.csWrite who x) s = .next t
        ∧ t.msq = s.msq
        ∧ t.rd R.SYS_CFG_ERR_cause = 5)
  ∧ (∀ (s : State) (who : Init) (x : Act),
      s.reaches (24 + x.idx) →
      ∃ t, exec (.csRead who x) s = .next t
        ∧ (∀ i : Fin 4, t.rd (msqAt R.MSQ_CS_DATA_data x i.val) = bitField (storeFind (s.msq.get x).store (s.rd (msqF R.MSQ_CS_ADDR_addr x))).toNat (32 * i.val) 32)
        ∧ t.msq = s.msq
        ∧ s.fieldsKept ((List.range 4).map (msqAt R.MSQ_CS_DATA_data x)) t)

/-- The commit, chop, hmode and wg fields of the word executing act on its lanes (parts of R216, R217, R222, R228). In every state and for all
operands that meet the conditions of a clause, the command answers the next state that the clause describes. Commands: COMMIT_OPEN,
CHOP_SELECT, CHOP_READ_ON, CHOP_READ_OFF, CHOP_ARM, CHOP_WRITE_ON, CHOP_WRITE_OFF, CHOP_RELEASE, HMODE_FRAME, WRITE_GATE_REQUEST. -/
def Obligations.SequencerChannelOperations : Prop :=
  (∀ (s : State) (x : Act) (w : Microword),
      (s.msq.get x).word = some w →
      MicroOp.commit ∈ (s.msq.get x).todo →
      w.commit = true →
      ∃ t, exec (.commitOpen x) s = .next t
        ∧ MicroOp.commit ∉ (t.msq.get x).todo
        ∧ (t.msq.get x).word = some w
        ∧ (s.msqIs x .run = true → t.msqIs x .commit = true)
        ∧ (s.msqIs x .run = false → t.regs = s.regs)
        ∧ t.dram = s.dram)
  ∧ (∀ (s : State) (x : Act) (w : Microword),
      (s.msq.get x).word = some w →
      MicroOp.chop ∈ (s.msq.get x).todo →
      w.chop = 1 →
      ∃ t, exec (.chopSelect x) s = .next t
        ∧ MicroOp.chop ∉ (t.msq.get x).todo
        ∧ (t.msq.get x).word = some w
        ∧ (∀ p ∈ s.wordLanes x w, t.srv.chan[laneCh x p.1].released = false)
        ∧ t.dram = s.dram)
  ∧ (∀ (s : State) (x : Act) (w : Microword),
      (s.msq.get x).word = some w →
      MicroOp.chop ∈ (s.msq.get x).todo →
      w.chop = 2 →
      ∃ t, exec (.chopReadOn x) s = .next t
        ∧ MicroOp.chop ∉ (t.msq.get x).todo
        ∧ (t.msq.get x).word = some w
        ∧ (∀ p ∈ s.wordLanes x w, s.rdB (rchF R.RCH_CTL_en (laneCh x p.1)) = true → t.rd (rchF R.RCH_STAT_reading (laneCh x p.1)) = 1 ∧ t.rch[laneCh x p.1].stopAfter = false)
        ∧ t.dram = s.dram)
  ∧ (∀ (s : State) (x : Act) (w : Microword),
      (s.msq.get x).word = some w →
      MicroOp.chop ∈ (s.msq.get x).todo →
      w.chop = 3 →
      ∃ t, exec (.chopReadOff x) s = .next t
        ∧ MicroOp.chop ∉ (t.msq.get x).todo
        ∧ (t.msq.get x).word = some w
        ∧ (∀ p ∈ s.wordLanes x w, s.rch[laneCh x p.1].flight = [] → t.rd (rchF R.RCH_STAT_reading (laneCh x p.1)) = 0)
        ∧ (∀ p ∈ s.wordLanes x w, s.rch[laneCh x p.1].flight ≠ [] → t.rch[laneCh x p.1].stopAfter = true)
        ∧ t.dram = s.dram)
  ∧ (∀ (s : State) (x : Act) (w : Microword),
      (s.msq.get x).word = some w →
      MicroOp.chop ∈ (s.msq.get x).todo →
      w.chop = 4 →
      ∃ t, exec (.chopArm x) s = .next t
        ∧ MicroOp.chop ∉ (t.msq.get x).todo
        ∧ (t.msq.get x).word = some w
        ∧ (∀ p ∈ s.wordLanes x w, (t.lane x p.1).armed = true ∧ (t.lane x p.1).fault = false)
        ∧ (∀ p ∈ s.wordLanes x w, (s.lane x p.1).armed = false → p.2.band = true → p.2.ratio < 64 → t.rd (R.WCH_BWP_valid.inst (laneCh x p.1).val) = 1 ∧ t.rd (R.WCH_BWP_ptr.inst (laneCh x p.1).val) = s.dramLe (s.bptAddr x p.2) 4 % 131072)
        ∧ (∀ p ∈ s.wordLanes x w, (s.lane x p.1).armed = false → (p.2.band = false ∨ 64 ≤ p.2.ratio) → t.rd (R.WCH_BWP_valid.inst (laneCh x p.1).val) = 0)
        ∧ (∀ p ∈ s.wordLanes x w, (s.lane x p.1).armed = true → t.rd (R.WCH_BWP_ptr.inst (laneCh x p.1).val) = s.rd (R.WCH_BWP_ptr.inst (laneCh x p.1).val))
        ∧ t.dram = s.dram)
  ∧ (∀ (s : State) (x : Act) (w : Microword),
      (s.msq.get x).word = some w →
      MicroOp.chop ∈ (s.msq.get x).todo →
      w.chop = 5 →
      ∃ t, exec (.chopWriteOn x) s = .next t
        ∧ MicroOp.chop ∉ (t.msq.get x).todo
        ∧ (t.msq.get x).word = some w
        ∧ (∀ p ∈ s.wordLanes x w, s.rdB (R.WCH_CTL_en.inst (laneCh x p.1).val) = true → t.rd (R.WCH_STAT_writing.inst (laneCh x p.1).val) = 1 ∧ t.wch[laneCh x p.1].on = true ∧ t.wch[laneCh x p.1].asm = [] ∧ t.wch[laneCh x p.1].failed = false)
        ∧ t.dram = s.dram)
  ∧ (∀ (s : State) (x : Act) (w : Microword),
      (s.msq.get x).word = some w →
      MicroOp.chop ∈ (s.msq.get x).todo →
      w.chop = 6 →
      ∃ t, exec (.chopWriteOff x) s = .next t
        ∧ MicroOp.chop ∉ (t.msq.get x).todo
        ∧ (t.msq.get x).word = some w
        ∧ (∀ p ∈ s.wordLanes x w, t.wch[laneCh x p.1].on = false)
        ∧ (∀ p ∈ s.wordLanes x w, s.wch[laneCh x p.1].inRun = true → t.wch[laneCh x p.1].stopAfter = true)
        ∧ (∀ p ∈ s.wordLanes x w, s.wch[laneCh x p.1].inRun = false → t.rd (R.WCH_STAT_writing.inst (laneCh x p.1).val) = 0)
        ∧ t.dram = s.dram)
  ∧ (∀ (s : State) (x : Act) (w : Microword),
      (s.msq.get x).word = some w →
      MicroOp.chop ∈ (s.msq.get x).todo →
      w.chop = 7 →
      ∃ t, exec (.chopRelease x) s = .next t
        ∧ MicroOp.chop ∉ (t.msq.get x).todo
        ∧ (t.msq.get x).word = some w
        ∧ (∀ p ∈ s.wordLanes x w, t.srv.chan[laneCh x p.1].released = true ∧ t.rd (R.WCH_STAT_gate_req.inst (laneCh x p.1).val) = 0 ∧ t.rd (R.WCH_STAT_writing.inst (laneCh x p.1).val) = 0 ∧ t.rd (R.WCH_STAT_strobe.inst (laneCh x p.1).val) = 0)
        ∧ (∀ p ∈ s.wordLanes x w, t.rch[laneCh x p.1].flight = [])
        ∧ t.dram = s.dram)
  ∧ (∀ (s : State) (x : Act) (w : Microword),
      (s.msq.get x).word = some w →
      MicroOp.hmode ∈ (s.msq.get x).todo →
      w.hmode ≠ 0 →
      s.hlOn x = true →
      ∃ t, exec (.hmodeFrame x) s = .next t
        ∧ MicroOp.hmode ∉ (t.msq.get x).todo
        ∧ (t.msq.get x).word = some w
        ∧ (∀ p ∈ s.wordLanes x w, ∃ f ∈ (t.hl.get x).queue, f.read = false ∧ f.target = s.headPos p.2.head ∧ f.reg = 0x10 ∧ f.data = (if w.hmode = 3 then 0 else w.hmode) + (if w.lbias then 4 else 0))
        ∧ t.dram = s.dram)
  ∧ (∀ (s : State) (x : Act) (w : Microword),
      (s.msq.get x).word = some w →
      MicroOp.wg ∈ (s.msq.get x).todo →
      ∃ t, exec (.writeGateRequest x) s = .next t
        ∧ MicroOp.wg ∉ (t.msq.get x).todo
        ∧ (t.msq.get x).word = some w
        ∧ (∀ l ∈ s.opLanes x, t.rdB (R.WCH_STAT_gate_req.inst (laneCh x l).val) = (bitAt w.wg l.val && bitAt w.lanes l.val))
        ∧ (∀ l : Fin 4, l ∉ s.opLanes x → t.rd (R.WCH_STAT_gate_req.inst (laneCh x l).val) = s.rd (R.WCH_STAT_gate_req.inst (laneCh x l).val))
        ∧ t.dram = s.dram)

/-- The fmt and pos fields of the word executing place lanes and move the actuator (parts of R159, R217, R226, R281, R283). In every state and
for all operands that meet the conditions of a clause, the command answers the next state that the clause describes. Commands: FMT_LOAD,
FMT_NEXT_TRACK, FMT_HALT, FMT_RCV_FIRST, FMT_RCV_NEXT, FMT_OVF, POS_SEEK, POS_TRACK_STEP, POS_OFFTRACK_SET, POS_OFFTRACK_CLR, POS_RETRACT.
Where the spec leaves a point open, the clauses follow the model's choice (assumption 11). -/
def Obligations.SequencerPositionOperations : Prop :=
  (∀ (s : State) (x : Act) (w : Microword),
      (s.msq.get x).word = some w →
      MicroOp.fmt ∈ (s.msq.get x).todo →
      w.fmt = 1 →
      ∃ t, exec (.fmtLoad x) s = .next t
        ∧ MicroOp.fmt ∉ (t.msq.get x).todo
        ∧ (t.msq.get x).word = some w
        ∧ (∀ p ∈ s.opRecs x, (t.lane x p.1).on = true ∧ (t.lane x p.1).k = s.laneProg x p.1 ∧ (t.lane x p.1).targets = none ∧ (t.lane x p.1).track = s.secTrack x p.2 (min (s.laneProg x p.1) (p.2.count - 1)))
        ∧ t.dram = s.dram)
  ∧ (∀ (s : State) (x : Act) (w : Microword),
      (s.msq.get x).word = some w →
      MicroOp.fmt ∈ (s.msq.get x).todo →
      w.fmt = 2 →
      ∃ t, exec (.fmtNextTrack x) s = .next t
        ∧ MicroOp.fmt ∉ (t.msq.get x).todo
        ∧ (t.msq.get x).word = some w
        ∧ (∀ p ∈ s.opRecs x, (s.lane x p.1).targets = none → (s.lane x p.1).k < p.2.count → (t.lane x p.1).track = s.secTrack x p.2 (s.lane x p.1).k)
        ∧ (∀ p ∈ s.opRecs x, (t.lane x p.1).k = (s.lane x p.1).k)
        ∧ t.dram = s.dram)
  ∧ (∀ (s : State) (x : Act) (w : Microword),
      (s.msq.get x).word = some w →
      MicroOp.fmt ∈ (s.msq.get x).todo →
      w.fmt = 3 →
      ∃ t, exec (.fmtHalt x) s = .next t
        ∧ MicroOp.fmt ∉ (t.msq.get x).todo
        ∧ (t.msq.get x).word = some w
        ∧ (∀ l ∈ s.opLanes x, (t.lane x l).on = false ∧ (t.lane x l).k = (s.lane x l).k)
        ∧ t.regs = s.regs
        ∧ t.dram = s.dram)
  ∧ (∀ (s : State) (x : Act) (w : Microword),
      (s.msq.get x).word = some w →
      MicroOp.fmt ∈ (s.msq.get x).todo →
      w.fmt = 4 →
      ∃ t, exec (.fmtRcvFirst x) s = .next t
        ∧ MicroOp.fmt ∉ (t.msq.get x).todo
        ∧ (t.msq.get x).word = some w
        ∧ (∀ p ∈ s.opRecs x, ∀ e es, s.openEntries (laneCh x p.1) = e :: es → (t.lane x p.1).track = s.entryTrack (laneCh x p.1) e ∧ (t.lane x p.1).rcvTrack = some (s.entryTrack (laneCh x p.1) e) ∧ (t.lane x p.1).on = true)
        ∧ (∀ p ∈ s.opRecs x, s.openEntries (laneCh x p.1) = [] → (t.lane x p.1).targets = some [])
        ∧ ((s.opLanes x).all (fun l => (s.openEntries (laneCh x l)).isEmpty) = true → (t.msq.get x).noTrack = true)
        ∧ t.dram = s.dram)
  ∧ (∀ (s : State) (x : Act) (w : Microword),
      (s.msq.get x).word = some w →
      MicroOp.fmt ∈ (s.msq.get x).todo →
      w.fmt = 5 →
      ∃ t, exec (.fmtRcvNext x) s = .next t
        ∧ MicroOp.fmt ∉ (t.msq.get x).todo
        ∧ (t.msq.get x).word = some w
        ∧ (∀ p ∈ s.opRecs x, ∀ u, (s.lane x p.1).rcvTrack = some u → (∀ e ∈ s.openEntries (laneCh x p.1), s.entryTrack (laneCh x p.1) e ≤ u) → (t.lane x p.1).targets = some [])
        ∧ (∀ p ∈ s.opRecs x, s.openEntries (laneCh x p.1) = [] → (t.lane x p.1).targets = some [])
        ∧ ((s.opLanes x).all (fun l => (s.openEntries (laneCh x l)).isEmpty) = true → (t.msq.get x).noTrack = true)
        ∧ t.dram = s.dram)
  ∧ (∀ (s : State) (x : Act) (w : Microword),
      (s.msq.get x).word = some w →
      MicroOp.fmt ∈ (s.msq.get x).todo →
      w.fmt = 6 →
      ∃ t, exec (.fmtOvf x) s = .next t
        ∧ MicroOp.fmt ∉ (t.msq.get x).todo
        ∧ (t.msq.get x).word = some w
        ∧ (∀ p ∈ s.opRecs x, s.rdB (rchF R.RCH_STAT_rset_ovf (laneCh x p.1)) = true → (t.lane x p.1).k = s.rch[laneCh x p.1].ovfK ∧ t.rd (rchF R.RCH_STAT_rset_ovf (laneCh x p.1)) = 0 ∧ (t.lane x p.1).on = true)
        ∧ (∀ p ∈ s.opRecs x, s.rdB (rchF R.RCH_STAT_rset_ovf (laneCh x p.1)) = false → (t.lane x p.1).k = p.2.count)
        ∧ t.dram = s.dram)
  ∧ (∀ (s : State) (x : Act) (w : Microword),
      (s.msq.get x).word = some w →
      MicroOp.pos ∈ (s.msq.get x).todo →
      w.pos = 1 →
      w.fmt = 0 →
      ∃ t, exec (.posSeek x) s = .next t
        ∧ MicroOp.pos ∉ (t.msq.get x).todo
        ∧ (t.msq.get x).word = some w
        ∧ (s.actTracks x = true → s.windowOk x (s.seekLanes x) = true → t.actIs x .seek = true ∧ (t.act.act.get x).lanes = s.seekLanes x ∧ t.rd (actF R.ACT_STAT_settle x) = 0)
        ∧ (s.actTracks x = true → s.windowOk x (s.seekLanes x) = false → (t.act.act.get x).held = true ∧ t.rd (actF R.ACT_STAT_settle x) = 0)
        ∧ (s.actTracks x = false → t.act = s.act ∧ t.rd (actF R.ACT_STAT_state x) = s.rd (actF R.ACT_STAT_state x))
        ∧ t.dram = s.dram)
  ∧ (∀ (s : State) (x : Act) (w : Microword),
      (s.msq.get x).word = some w →
      MicroOp.pos ∈ (s.msq.get x).todo →
      w.pos = 2 →
      w.fmt = 0 →
      ∃ t, exec (.posTrackStep x) s = .next t
        ∧ MicroOp.pos ∉ (t.msq.get x).todo
        ∧ (t.msq.get x).word = some w
        ∧ (s.actTracks x = true → s.windowOk x (s.seekLanes x) = true → t.actIs x .seek = true ∧ (t.act.act.get x).lanes = s.seekLanes x ∧ t.rd (actF R.ACT_STAT_settle x) = 0)
        ∧ (s.actTracks x = true → s.windowOk x (s.seekLanes x) = false → (t.act.act.get x).held = true ∧ t.rd (actF R.ACT_STAT_settle x) = 0)
        ∧ (s.actTracks x = false → t.act = s.act ∧ t.rd (actF R.ACT_STAT_state x) = s.rd (actF R.ACT_STAT_state x))
        ∧ t.dram = s.dram)
  ∧ (∀ (s : State) (x : Act) (w : Microword),
      (s.msq.get x).word = some w →
      MicroOp.pos ∈ (s.msq.get x).todo →
      w.pos = 3 →
      w.fmt = 0 →
      ∃ t, exec (.posOfftrackSet x) s = .next t
        ∧ MicroOp.pos ∉ (t.msq.get x).todo
        ∧ (t.msq.get x).word = some w
        ∧ (∀ l ∈ s.opLanes x, s.actTracks x = true → t.act.dispNext[laneCh x l] = some (s.laneOfftrack (laneCh x l)))
        ∧ (s.actIs x .track = true → t.actIs x .settle = true ∧ t.rd (actF R.ACT_STAT_count x) = 0)
        ∧ t.dram = s.dram)
  ∧ (∀ (s : State) (x : Act) (w : Microword),
      (s.msq.get x).word = some w →
      MicroOp.pos ∈ (s.msq.get x).todo →
      w.pos = 4 →
      w.fmt = 0 →
      ∃ t, exec (.posOfftrackClr x) s = .next t
        ∧ MicroOp.pos ∉ (t.msq.get x).todo
        ∧ (t.msq.get x).word = some w
        ∧ (∀ l ∈ s.opLanes x, s.actTracks x = true → t.act.dispNext[laneCh x l] = some 0)
        ∧ (s.actIs x .track = true → t.actIs x .settle = true ∧ t.rd (actF R.ACT_STAT_count x) = 0)
        ∧ t.dram = s.dram)
  ∧ (∀ (s : State) (x : Act) (w : Microword),
      (s.msq.get x).word = some w →
      MicroOp.pos ∈ (s.msq.get x).todo →
      w.pos = 5 →
      w.fmt = 0 →
      ∃ t, exec (.posRetract x) s = .next t
        ∧ MicroOp.pos ∉ (t.msq.get x).todo
        ∧ (t.msq.get x).word = some w
        ∧ (s.actTracks x = true → t.actIs x .retract = true ∧ (t.act.act.get x).hasTarget = false)
        ∧ (s.actTracks x = false → s.actIs x .loading = false → t.act = s.act)
        ∧ t.dram = s.dram)

/-- The par, bop, ctr, rop and post fields of the word executing act (parts of R167, R171, R198, R213, R215, R217, R312, R315, R321). In every
state and for all operands that meet the conditions of a clause, the command answers the next state that the clause describes. Commands:
PAR_OP_OPEN, PAR_OP_CLOSE, PAR_OP_SOURCE, PAR_OP_REBUILD, BOP_LOAD, CTR_LOAD, CTR_DEC, POST_WBACK, POST_STATUS, POST_WBACK_STATUS,
ROP_NEXT, ROP_APPLY, ROP_REPEAT, ROP_STORED, ROP_RESTORE, ROP_CLOSE. -/
def Obligations.SequencerOtherOperations : Prop :=
  (∀ (s : State) (x : Act) (w : Microword),
      (s.msq.get x).word = some w →
      MicroOp.par ∈ (s.msq.get x).todo →
      w.par = 1 →
      ∃ t, exec (.parOpOpen x) s = .next t
        ∧ MicroOp.par ∉ (t.msq.get x).todo
        ∧ (t.msq.get x).word = some w
        ∧ (∀ p ∈ s.opRecs x, ∀ y, p.2.band = true → s.bindingOf x p.2 = some y → t.par.bind[laneCh x p.1] = some y)
        ∧ (∀ p ∈ s.opRecs x, p.2.band = false → t.par.bind[laneCh x p.1] = s.par.bind[laneCh x p.1])
        ∧ t.dram = s.dram)
  ∧ (∀ (s : State) (x : Act) (w : Microword),
      (s.msq.get x).word = some w →
      MicroOp.par ∈ (s.msq.get x).todo →
      w.par = 2 →
      ∃ t, exec (.parOpClose x) s = .next t
        ∧ MicroOp.par ∉ (t.msq.get x).todo
        ∧ (t.msq.get x).word = some w
        ∧ (∀ c ∈ actChans x, t.par.bind[c] = none ∧ t.wch[c].source = false)
        ∧ (∀ c ∈ actChans x.other, t.par.bind[c] = s.par.bind[c])
        ∧ t.dram = s.dram)
  ∧ (∀ (s : State) (x : Act) (w : Microword),
      (s.msq.get x).word = some w →
      MicroOp.par ∈ (s.msq.get x).todo →
      w.par = 3 →
      ∃ t, exec (.parOpSource x) s = .next t
        ∧ MicroOp.par ∉ (t.msq.get x).todo
        ∧ (t.msq.get x).word = some w
        ∧ (∀ p ∈ s.opRecs x, p.2.band = true → t.wch[laneCh x p.1].source = true)
        ∧ (∀ p ∈ s.opRecs x, ∀ y, p.2.band = true → s.par.bind[laneCh x p.1] = some y → (y.role = .p ∨ y.role = .q) → y.write = true → t.par.bind[laneCh x p.1] = some { y with source := true })
        ∧ t.dram = s.dram)
  ∧ (∀ (s : State) (x : Act) (w : Microword),
      (s.msq.get x).word = some w →
      MicroOp.par ∈ (s.msq.get x).todo →
      w.par = 4 →
      ∃ t, exec (.parOpRebuild x) s = .next t
        ∧ MicroOp.par ∉ (t.msq.get x).todo
        ∧ (t.msq.get x).word = some w
        ∧ (s.rdB R.PAR_CTL_en = false → t.par.walk.get x = none)
        ∧ (∀ y, t.par.walk.get x = some y → y.mask = s.rd R.PAR_RET_ret))
  ∧ (∀ (s : State) (x : Act) (w : Microword),
      (s.msq.get x).word = some w →
      MicroOp.bop ∈ (s.msq.get x).todo →
      w.bop = 1 →
      ∃ t, exec (.bopLoad x) s = .next t
        ∧ MicroOp.bop ∉ (t.msq.get x).todo
        ∧ (t.msq.get x).word = some w
        ∧ t.regs = s.regs
        ∧ t.dram = s.dram)
  ∧ (∀ (s : State) (x : Act) (w : Microword),
      (s.msq.get x).word = some w →
      MicroOp.ctr ∈ (s.msq.get x).todo →
      w.ctr = 1 →
      ∃ t, exec (.ctrLoad x) s = .next t
        ∧ MicroOp.ctr ∉ (t.msq.get x).todo
        ∧ (t.msq.get x).word = some w
        ∧ (t.msq.get x).ctr = w.imm
        ∧ t.regs = s.regs
        ∧ t.dram = s.dram)
  ∧ (∀ (s : State) (x : Act) (w : Microword),
      (s.msq.get x).word = some w →
      MicroOp.ctr ∈ (s.msq.get x).todo →
      w.ctr = 2 →
      ∃ t, exec (.ctrDec x) s = .next t
        ∧ MicroOp.ctr ∉ (t.msq.get x).todo
        ∧ (t.msq.get x).word = some w
        ∧ (t.msq.get x).ctr = (s.msq.get x).ctr - 1
        ∧ t.regs = s.regs
        ∧ t.dram = s.dram)
  ∧ (∀ (s : State) (x : Act) (w : Microword),
      (s.msq.get x).word = some w →
      MicroOp.rop ∈ (s.msq.get x).todo →
      w.rop = 1 →
      ∃ t, exec (.ropNext x) s = .next t
        ∧ MicroOp.rop ∉ (t.msq.get x).todo
        ∧ (t.msq.get x).word = some w
        ∧ (∀ l ∈ s.opLanes x, t.rch[laneCh x l].rung = some (s.rungNext (laneCh x l) (s.limitReached x)) ∧ t.rd (rchF R.RCH_RCV_STAT_repeat (laneCh x l)) = 0)
        ∧ t.dram = s.dram)
  ∧ (∀ (s : State) (x : Act) (w : Microword),
      (s.msq.get x).word = some w →
      MicroOp.rop ∈ (s.msq.get x).todo →
      w.rop = 2 →
      ∃ t, exec (.ropApply x) s = .next t
        ∧ MicroOp.rop ∉ (t.msq.get x).todo
        ∧ (t.msq.get x).word = some w
        ∧ (∀ l ∈ s.opLanes x, t.rch[laneCh x l].captureOn = (s.rd (ladF R.RCH_LAD_W0_capture (laneCh x l) (s.rungNow (laneCh x l))) == 1))
        ∧ (∀ l ∈ s.opLanes x, s.kindNow (laneCh x l) = .fly → t.rch[laneCh x l].heatWait = true ∧ t.rch[laneCh x l].heat = signedOf 5 (s.rd (ladF R.RCH_LAD_W1_heat (laneCh x l) (s.rungNow (laneCh x l)))))
        ∧ t.dram = s.dram)
  ∧ (∀ (s : State) (x : Act) (w : Microword),
      (s.msq.get x).word = some w →
      MicroOp.rop ∈ (s.msq.get x).todo →
      w.rop = 3 →
      ∃ t, exec (.ropRepeat x) s = .next t
        ∧ MicroOp.rop ∉ (t.msq.get x).todo
        ∧ (t.msq.get x).word = some w
        ∧ (∀ l ∈ s.opLanes x, t.rd (rchF R.RCH_RCV_STAT_repeat (laneCh x l)) = min (2 ^ R.RCH_RCV_STAT_repeat.w - 1) (s.rd (rchF R.RCH_RCV_STAT_repeat (laneCh x l)) + 1))
        ∧ t.dram = s.dram)
  ∧ (∀ (s : State) (x : Act) (w : Microword),
      (s.msq.get x).word = some w →
      MicroOp.rop ∈ (s.msq.get x).todo →
      w.rop = 4 →
      ∃ t, exec (.ropStored x) s = .next t
        ∧ MicroOp.rop ∉ (t.msq.get x).todo
        ∧ (t.msq.get x).word = some w
        ∧ (∀ l ∈ s.opLanes x, s.openEntries (laneCh x l) = [] → t.rch[laneCh x l].stored = none)
        ∧ (∀ l ∈ s.opLanes x, ∀ e es, s.openEntries (laneCh x l) = e :: es → s.storedSkip (laneCh x l) e = false → t.rch[laneCh x l].stored = some ⟨e, 2, s.rdB (rchF R.RCH_STAT_reading (laneCh x l))⟩ ∧ t.rch[laneCh x l].todo = es)
        ∧ t.dram = s.dram)
  ∧ (∀ (s : State) (x : Act) (w : Microword),
      (s.msq.get x).word = some w →
      MicroOp.rop ∈ (s.msq.get x).todo →
      w.rop = 5 →
      ∃ t, exec (.ropRestore x) s = .next t
        ∧ MicroOp.rop ∉ (t.msq.get x).todo
        ∧ (t.msq.get x).word = some w
        ∧ (∀ l ∈ s.opLanes x, t.rch[laneCh x l].heat = 0 ∧ t.rch[laneCh x l].captureOn = false ∧ t.rch[laneCh x l].firSet = 0 ∧ t.act.dispNext[laneCh x l] = some 0)
        ∧ (∀ l ∈ s.opLanes x, s.rch[laneCh x l].heat ≠ 0 → t.rch[laneCh x l].heatWait = true)
        ∧ t.dram = s.dram)
  ∧ (∀ (s : State) (x : Act) (w : Microword),
      (s.msq.get x).word = some w →
      MicroOp.rop ∈ (s.msq.get x).todo →
      w.rop = 6 →
      ∃ t, exec (.ropClose x) s = .next t
        ∧ MicroOp.rop ∉ (t.msq.get x).todo
        ∧ (t.msq.get x).word = some w
        ∧ (∀ l ∈ s.opLanes x, ∀ k : Fin 16, s.entryOpen (laneCh x l) k.val = true → t.rd (rsetF R.RCH_RSET_A_status (laneCh x l) k.val) = 2)
        ∧ (∀ l ∈ s.opLanes x, t.rch[laneCh x l].rung = none ∧ t.rch[laneCh x l].stored = none)
        ∧ (s.par.walk.get x = none → t.dram = s.dram))
  ∧ (∀ (s : State) (x : Act) (w : Microword),
      (s.msq.get x).word = some w →
      MicroOp.post ∈ (s.msq.get x).todo →
      w.post = 1 →
      (s.opRecs x).any (fun p => p.2.band && s.rdB (R.WCH_STAT_writing.inst (laneCh x p.1).val)) = false →
      Memory.wf s.dram = true →
      ∃ t, exec (.postWback x) s = .next t
        ∧ MicroOp.post ∉ (t.msq.get x).todo
        ∧ (t.msq.get x).word = some w
        ∧ ((s.opRecs x).all (fun p => !((s.lane x p.1).armed && p.2.band && decide (p.2.ratio < 64))) = true → t.dram = s.dram)
        ∧ (∀ a, (∀ p ∈ s.opRecs x, (s.lane x p.1).armed = true → p.2.band = true → a < s.bptAddr x p.2 ∨ s.bptAddr x p.2 + 4 ≤ a) → memRead t.dram a = memRead s.dram a)
        ∧ (∀ p, s.opRecs x = [p] → (s.lane x p.1).armed = true → p.2.band = true → p.2.ratio < 64 → s.rdB R.JIG_GOLD_BASE_lock = false → memReadLe t.dram (s.bptAddr x p.2) 4 = s.rd (R.WCH_BWP_ptr.inst (laneCh x p.1).val))
        ∧ (s.rdB R.JIG_GOLD_BASE_lock = false → t.regs = s.regs))
  ∧ (∀ (s : State) (x : Act) (w : Microword),
      (s.msq.get x).word = some w →
      MicroOp.post ∈ (s.msq.get x).todo →
      w.post = 2 →
      Memory.wf s.dram = true →
      ∃ t, exec (.postStatus x) s = .next t
        ∧ MicroOp.post ∉ (t.msq.get x).todo
        ∧ (t.msq.get x).word = some w
        ∧ (∀ d, (s.msq.get x).desc = some d → ((s.msq.get x).src = .ring → s.host.cmds = []) → s.rdB R.JIG_GOLD_BASE_lock = false → (∀ l ∈ s.opLanes x, s.rch[laneCh x l].unrec = false) → memReadLe t.dram (d.addr + 48) 4 = (2 ^ 31 + d.opcode * 65536 + w.status) % 2 ^ 32)
        ∧ (∀ d, (s.msq.get x).desc = some d → ((s.msq.get x).src = .ring → s.host.cmds = []) → ∀ a, a < d.addr + 48 ∨ d.addr + 64 ≤ a → memRead t.dram a = memRead s.dram a)
        ∧ (t.msq.get x).opDone = true
        ∧ ((s.msq.get x).opDone = false → (s.msq.get x).desc.isSome = true → (s.msq.get x).src = .ring → t.rd (msqF R.MSQ_RING_HEAD_head x) = (s.rd (msqF R.MSQ_RING_HEAD_head x) + 1) % s.ringSize x % 2 ^ R.MSQ_RING_HEAD_head.w)
        ∧ ((s.msq.get x).opDone = false → (s.msq.get x).desc.isSome = true → (s.msq.get x).src = .urgent → t.rd (msqF R.MSQ_URG_CTL_busy x) = 0)
        ∧ ((s.msq.get x).opDone = false → (s.msq.get x).desc.isSome = true → t.rd (msqF R.MSQ_CNT_OPS_count x) = satAdd (2 ^ R.MSQ_CNT_OPS_count.w - 1) (s.rd (msqF R.MSQ_CNT_OPS_count x)) 1))
  ∧ (∀ (s : State) (x : Act) (w : Microword),
      (s.msq.get x).word = some w →
      MicroOp.post ∈ (s.msq.get x).todo →
      w.post = 3 →
      Memory.wf s.dram = true →
      (s.opRecs x).any (fun p => p.2.band && s.rdB (R.WCH_STAT_writing.inst (laneCh x p.1).val)) = false →
      ∃ t, exec (.postWbackStatus x) s = .next t
        ∧ MicroOp.post ∉ (t.msq.get x).todo
        ∧ (t.msq.get x).word = some w
        ∧ (t.msq.get x).opDone = true
        ∧ ((s.msq.get x).opDone = false → (s.msq.get x).desc.isSome = true → (s.msq.get x).src = .ring → t.rd (msqF R.MSQ_RING_HEAD_head x) = (s.rd (msqF R.MSQ_RING_HEAD_head x) + 1) % s.ringSize x % 2 ^ R.MSQ_RING_HEAD_head.w)
        ∧ ((s.msq.get x).opDone = false → (s.msq.get x).desc.isSome = true → (s.msq.get x).src = .urgent → t.rd (msqF R.MSQ_URG_CTL_busy x) = 0)
        ∧ ((s.msq.get x).opDone = false → (s.msq.get x).desc.isSome = true → t.rd (msqF R.MSQ_CNT_OPS_count x) = satAdd (2 ^ R.MSQ_CNT_OPS_count.w - 1) (s.rd (msqF R.MSQ_CNT_OPS_count x)) 1)
        ∧ (∀ d, (s.msq.get x).desc = some d → ((s.msq.get x).src = .ring → s.host.cmds = []) → ∀ a, (a < d.addr + 48 ∨ d.addr + 64 ≤ a) → (∀ p ∈ s.opRecs x, (s.lane x p.1).armed = true → p.2.band = true → a < s.bptAddr x p.2 ∨ s.bptAddr x p.2 + 4 ≤ a) → memRead t.dram a = memRead s.dram a)
        ∧ (∀ d, (s.msq.get x).desc = some d → ((s.msq.get x).src = .ring → s.host.cmds = []) → s.rdB R.JIG_GOLD_BASE_lock = false → (∀ l ∈ s.opLanes x, s.rch[laneCh x l].unrec = false) → memReadLe t.dram (d.addr + 48) 4 = (2 ^ 31 + d.opcode * 65536 + w.status) % 2 ^ 32))

/-- Servo timing states, wedge boundaries, and samples with their positions, reasons and counts (parts of R244 to R259). In every state and
for all operands that meet the conditions of a clause, the command answers the next state that the clause describes. Commands:
WEDGE_BOUNDARY, SERVO_FIELD_SAMPLE, HUNT_SYNC, HUNT_MISSING_TICK, FOLLOW_MISS, SRV_ACT_WRITE. Where the spec leaves a point open, the
clauses follow the model's choices (assumptions 1, 9 and 11). -/
def Obligations.ServoDemodulation : Prop :=
  (∀ (s : State) (h : Fin 32) (w : Nat),
      s.shadows = [] →
      s.headFitted h.val = true →
      s.srvTimed (s.headAct h.val) = true →
      w < s.wedges (s.headAct h.val) →
      h.val ≠ s.refHead (s.headAct h.val) →
      ∃ t, exec (.wedgeBoundary h w) s = .next t
        ∧ t.act.wedgeOf[h] = w
        ∧ (∀ ch : Fin 8, chAct ch = s.headAct h.val → s.chHead ch = h.val → s.demodulates ch = true → s.srv.chan[ch].lastW ≠ some w → t.srv.chan[ch].windowOpen = true)
        ∧ (∀ ch : Fin 8, s.chHead ch ≠ h.val → t.srv.chan[ch] = s.srv.chan[ch] ∧ t.act.dispNow[ch] = s.act.dispNow[ch])
        ∧ (∀ ch : Fin 8, chAct ch = s.headAct h.val → s.chHead ch = h.val → t.act.dispNow[ch] = (s.act.dispNext[ch]).getD s.act.dispNow[ch] ∧ t.act.dispNext[ch] = none)
        ∧ t = { s with act := t.act, srv := t.srv, regs := t.regs })
  ∧ (∀ (s : State) (h : Fin 32) (w : Nat),
      s.shadows = [] →
      s.headFitted h.val = true →
      s.srvIs (s.headAct h.val) .follow = true →
      s.rdB R.GCK_STAT_lock = true →
      w < s.wedges (s.headAct h.val) →
      h.val = s.refHead (s.headAct h.val) →
      ∃ t, exec (.wedgeBoundary h w) s = .next t
        ∧ t.srvIs (s.headAct h.val) .gauge = true
        ∧ (t.srv.act.get (s.headAct h.val)).wedge = w
        ∧ t.act.wedgeOf[h] = w)
  ∧ (∀ (s : State) (ch : Fin 8) (f : ServoField),
      s.demodulates ch = true →
      s.srvTimed (chAct ch) = true →
      s.srv.chan[ch].windowOpen = true →
      s.srv.chan[ch].switched = false →
      s.rdB R.SRV_CTL_force_en = false →
      (candRank (s.srvCfg (chAct ch) (if s.srvIs (chAct ch) .gauge then R.SRV_WIN_CFG_sync_win else R.SRV_WIN_CFG_follow_win)) (s.srvCfg (chAct ch) R.SRV_WIN_CFG_thr) f.cands).head? = none →
      ∃ t, exec (.servoFieldSample ch f) s = .next t
        ∧ t.rd (R.SRV_CH_FLG_valid.at ch.val) = 0 ∧ t.rd (R.SRV_CH_FLG_reason.at ch.val) = 1
        ∧ t.rd (R.SRV_CH_FLG_invcnt.at ch.val) = min 255 (s.rd (R.SRV_CH_FLG_invcnt.at ch.val) + 1)
        ∧ t.rd R.SRV_CNT0_missing = satAdd 65535 (s.rd R.SRV_CNT0_missing) 1
        ∧ t.rd (R.SRV_CH_POS_pos.at ch.val) = s.rd (R.SRV_CH_POS_pos.at ch.val)
        ∧ t.srv.chan[ch].windowOpen = false ∧ t.srv.chan[ch].prev = none)
  ∧ (∀ (s : State) (ch : Fin 8) (f : ServoField) (b : SyncCand) (w : Nat),
      s.demodulates ch = true →
      s.srvTimed (chAct ch) = true →
      s.srv.chan[ch].windowOpen = true →
      s.srv.chan[ch].switched = false →
      (candRank (s.srvCfg (chAct ch) (if s.srvIs (chAct ch) .gauge then R.SRV_WIN_CFG_sync_win else R.SRV_WIN_CFG_follow_win)) (s.srvCfg (chAct ch) R.SRV_WIN_CFG_thr) f.cands).head? = some b →
      s.act.wedgeOf[(s.chHead ch)]? = some w →
      wedgeParityOk f.wedge.toNat = true →
      wedgeNumber f.wedge.toNat = w →
      f.a.toNat ≠ f.b.toNat ∨ f.c.toNat ≠ f.d.toNat →
      s.srvCfg (chAct ch) R.SRV_Q_CFG_amp_min * 64 ≤ f.a.toNat + f.b.toNat + f.c.toNat + f.d.toNat →
      s.srv.chan[ch].prev = none →
      s.srv.chan[ch].noCheck = true →
      ∃ t, exec (.servoFieldSample ch f) s = .next t
        ∧ t.rd (R.SRV_CH_FLG_valid.at ch.val) = 1 ∧ t.rd (R.SRV_CH_FLG_reason.at ch.val) = 0 ∧ t.rd (R.SRV_CH_FLG_invcnt.at ch.val) = 0
        ∧ t.rd (R.SRV_CH_FLG_wedge.at ch.val) = w % 2 ^ R.SRV_CH_FLG_wedge.w
        ∧ t.rd (R.SRV_CH_POS_pos.at ch.val) = twosOf R.SRV_CH_POS_pos.w (s.posOf (grayToBin f.gray.toNat 24) ((f.a.toNat : Int) - f.b.toNat) ((f.c.toNat : Int) - f.d.toNat))
        ∧ t.rdI (R.SRV_CH_NQ_n.at ch.val) = sat16 ((f.a.toNat : Int) - f.b.toNat)
        ∧ t.rdI (R.SRV_CH_NQ_q.at ch.val) = sat16 ((f.c.toNat : Int) - f.d.toNat)
        ∧ t.rd (R.SRV_CH_PES_sum.at ch.val) = min 65535 (f.a.toNat + f.b.toNat + f.c.toNat + f.d.toNat)
        ∧ (∀ g, s.headTarget ch w = some g → t.rdI (R.SRV_CH_PES_pes.at ch.val) = clampInt (-32767) 32767 (s.posOf (grayToBin f.gray.toNat 24) ((f.a.toNat : Int) - f.b.toNat) ((f.c.toNat : Int) - f.d.toNat) - g))
        ∧ t.srv.chan[ch].windowOpen = false ∧ t.srv.chan[ch].noCheck = false ∧ t.srv.chan[ch].lastW = some w)
  ∧ (∀ (s : State) (ch : Fin 8) (f : ServoField) (b : SyncCand) (w : Nat),
      s.demodulates ch = true →
      s.srvTimed (chAct ch) = true →
      s.srv.chan[ch].windowOpen = true →
      s.srv.chan[ch].switched = false →
      (candRank (s.srvCfg (chAct ch) (if s.srvIs (chAct ch) .gauge then R.SRV_WIN_CFG_sync_win else R.SRV_WIN_CFG_follow_win)) (s.srvCfg (chAct ch) R.SRV_WIN_CFG_thr) f.cands).head? = some b →
      s.act.wedgeOf[(s.chHead ch)]? = some w →
      wedgeParityOk f.wedge.toNat = false ∨ wedgeNumber f.wedge.toNat ≠ w →
      ∃ t, exec (.servoFieldSample ch f) s = .next t
        ∧ t.rd (R.SRV_CH_FLG_valid.at ch.val) = 0 ∧ t.rd (R.SRV_CH_FLG_reason.at ch.val) = 2
        ∧ t.rd (R.SRV_CH_FLG_invcnt.at ch.val) = min 255 (s.rd (R.SRV_CH_FLG_invcnt.at ch.val) + 1)
        ∧ t.rd R.SRV_CNT0_wedge = satAdd 65535 (s.rd R.SRV_CNT0_wedge) 1
        ∧ t.rd (R.SRV_CH_POS_pos.at ch.val) = s.rd (R.SRV_CH_POS_pos.at ch.val)
        ∧ t.srv.chan[ch].windowOpen = false)
  ∧ (∀ (s : State) (ch : Fin 8) (code : BitVec 12) (apart : BitVec 32),
      s.srvIs (chAct ch) .hunt = true →
      s.demodulates ch = true →
      wedgeParityOk code.toNat = true →
      (s.srv.act.get (chAct ch)).cand = none →
      ∃ t, exec (.huntSync ch code apart) s = .next t
        ∧ t = s.updSrv (chAct ch) (fun a => { a with cand := some (wedgeNumber code.toNat) }))
  ∧ (∀ (s : State) (ch : Fin 8) (code : BitVec 12) (apart : BitVec 32) (c : Nat),
      s.shadows = [] →
      s.srvIs (chAct ch) .hunt = true →
      s.demodulates ch = true →
      wedgeParityOk code.toNat = true →
      (s.srv.act.get (chAct ch)).cand = some c →
      wedgeNumber code.toNat = (c + 1) % s.wedges (chAct ch) →
      apart.toNat * s.wedges (chAct ch) = 16 * 65536 * s.rd R.SRV_FIELD_CFG_ratio →
      ∃ t, exec (.huntSync ch code apart) s = .next t
        ∧ t.srvIs (chAct ch) .follow = true
        ∧ (t.srv.act.get (chAct ch)).period = apart.toNat ∧ (t.srv.act.get (chAct ch)).wedge = wedgeNumber code.toNat
        ∧ (t.srv.act.get (chAct ch)).cand = none ∧ (t.srv.act.get (chAct ch)).miss = 0)
  ∧ (∀ (s : State) (ch : Fin 8) (code : BitVec 12) (apart : BitVec 32),
      s.srvIs (chAct ch) .hunt = false ∨ s.demodulates ch = false ∨ wedgeParityOk code.toNat = false →
      ∃ t, exec (.huntSync ch code apart) s = .next t
        ∧ t = s)
  ∧ (∀ (s : State) (x : Act),
      s.srvIs x .hunt = true →
      ∃ t, exec (.huntMissingTick x) s = .next t
        ∧ (∀ ch : Fin 8, s.demodulates ch = true → chAct ch = x → t.rd (R.SRV_CH_FLG_valid.at ch.val) = 0 ∧ t.rd (R.SRV_CH_FLG_reason.at ch.val) = 1 ∧ t.rd (R.SRV_CH_FLG_invcnt.at ch.val) = min 255 (s.rd (R.SRV_CH_FLG_invcnt.at ch.val) + 1))
        ∧ t.rd (R.SRV_ACT_FLG_valid.at x.idx) = 0 ∧ t.rd (R.SRV_ACT_FLG_reason.at x.idx) = 1
        ∧ t.rd (R.SRV_ACT_FLG_invcnt.at x.idx) = min 255 (s.rd (R.SRV_ACT_FLG_invcnt.at x.idx) + 1)
        ∧ t.srvIs x .hunt = true)
  ∧ (∀ (s : State) (x : Act),
      s.shadows = [] →
      s.srvIs x .follow = true →
      s.srvCfg x R.SRV_WIN_CFG_follow_miss ≤ (s.srv.act.get x).miss →
      ∃ t, exec (.followMiss x) s = .next t
        ∧ t.srvIs x .hunt = true
        ∧ (t.srv.act.get x).cand = none ∧ (t.srv.act.get x).miss = 0)
  ∧ (∀ (s : State) (who : Init) (en actA actB : Bool),
      s.shadows = [] →
      ∃ t, exec (.srvActWrite who false en actA actB) s = .next t
        ∧ t.rdB R.SRV_CTL_en = en ∧ t.rdB R.SRV_CTL_act_a = actA ∧ t.rdB R.SRV_CTL_act_b = actB
        ∧ (en && actA = false → t.srvIs .a .off = true)
        ∧ (en && actB = false → t.srvIs .b .off = true)
        ∧ (en && actA = true → s.srvIs .a .off = true → t.srvIs .a (if s.rdB R.GCK_STAT_lock then .gauge else .hunt) = true)
        ∧ (en && actB = true → s.srvIs .b .off = true → t.srvIs .b (if s.rdB R.GCK_STAT_lock then .gauge else .hunt) = true)
        ∧ (en && actA = false → s.srvIs .a .off = false → t.rd (R.SRV_ACT_FLG_valid.at 0) = 0 ∧ ∀ ch ∈ actChans .a, t.rd (R.SRV_CH_FLG_valid.at ch.val) = 0 ∧ t.rd (R.SRV_CH_POS_pos.at ch.val) = 0)
        ∧ t.rd R.SRV_STAT_demod = maskOf ((chans8.filter t.demodulates).map (·.val)))
  ∧ (∀ (s : State) (who : Init) (en actA actB : Bool),
      ∃ t, exec (.srvActWrite who true en actA actB) s = .next t
        ∧ t.rd R.SRV_CTL_srst = 1
        ∧ t.srv = SrvState.init)

/-- Loop slots take triggers, compute, swap banks, follow targets, measurements and external references (parts of R260 to R275, R566). In
every state and for all operands that meet the conditions of a clause, the command answers the next state that the clause describes.
Commands: LOOP_TRIGGER, LOOP_COMPUTE, BANK_SWAP_REQUEST, SLOT_ENABLE, SLOT_TARGET_WRITE, MEAS_WRITE, CLE_TIMER_TICK, SPD_REF_EDGE,
SPD_REF_LOST, AUX_FOLLOW_START, VCM_PWM_PERIOD. Where the spec leaves a point open, the clauses follow the model's choices (assumptions 9,
11 and 94). -/
def Obligations.ControlEngine : Prop :=
  (∀ (s : State) (k : Fin 24) (wrap : Bool),
      s.slotOn k = true →
      ∃ t, exec (.loopTrigger k wrap) s = .next t
        ∧ t.cle.slots[k].pend = some (s.slotInput k wrap)
        ∧ (s.cle.slots[k].pend.isSome = true → t.rdBit R.CLE_OVR_ovr k.val = true ∧ t.rd R.CLE_CNT_ovr = satAdd 65535 (s.rd R.CLE_CNT_ovr) 1)
        ∧ (s.cle.slots[k].pend = none → t.regs = s.regs)
        ∧ s.fieldsKept [R.CLE_OVR_ovr, R.CLE_CNT_ovr] t)
  ∧ (∀ (s : State) (k : Fin 24) (wrap : Bool),
      s.slotOn k = false →
      ∃ t, exec (.loopTrigger k wrap) s = .next t
        ∧ t = s)
  ∧ (∀ (s : State) (k : Fin 24) (p : PendSample),
      s.shadows = [] →
      s.cle.slots[k].pend = some p →
      ∀ j : Fin 24, j.val < k.val → s.cle.slots[j].pend = none →
      19 ≤ k.val →
      p.valid = true →
      s.rdBit R.CLE_SWAP_swap k.val = false →
      s.rd (R.CLE_CFG_law.at k.val) = 1 →
      s.rd (R.CLE_CFG_nbq.at k.val) = 0 →
      s.slotSat k = 0 →
      ∃ t, exec .loopCompute s = .next t
        ∧ t.cle.slots[k].pend = none ∧ t.cle.slots[k].y1 = p.y
        ∧ t.rd (R.CLE_SSTAT_invcnt.at k.val) = 0
        ∧ t.rd (R.CLE_Y_y.at k.val) = twosOf 32 p.y
        ∧ t.slotU k.val = limitOut (s.bankWord k (s.slotBank k) 40 * satSigned 32 (s.sampleRef k p.y - p.y) / pow2 7
    + s.bankWord k (s.slotBank k) 41 * clampSum (s.bankWord k (s.slotBank k) 41) (s.bankWord k (s.slotBank k) 44) (s.bankWord k (s.slotBank k) 45)
    (s.slotSum k + satSigned 32 (s.sampleRef k p.y - p.y) * pow2 17) / pow2 24) (s.bankWord k (s.slotBank k) 42) (s.bankWord k (s.slotBank k) 43)
        ∧ (∀ j : Fin 24, j ≠ k → t.cle.slots[j] = s.cle.slots[j]))
  ∧ (∀ (s : State),
      ∀ k : Fin 24, s.cle.slots[k].pend = none →
      ∃ t, exec .loopCompute s = .next t
        ∧ t = s)
  ∧ (∀ (s : State) (who : Init) (bits : BitVec 24),
      s.reaches 27 →
      ∃ t, exec (.bankSwapRequest who bits) s = .next t
        ∧ (∀ k : Fin 24, k ≠ 14 → bits.getLsbD k.val = true → s.slotOn k = true → t.rdBit R.CLE_SWAP_swap k.val = true ∧ t.slotBank k = s.slotBank k)
        ∧ (∀ k : Fin 24, k ≠ 14 → bits.getLsbD k.val = true → s.slotOn k = false → t.slotBank k = 1 - s.slotBank k ∧ t.rdBit R.CLE_SWAP_swap k.val = false)
        ∧ (∀ k : Fin 24, bits.getLsbD k.val = false → t.slotBank k = s.slotBank k ∧ t.rdBit R.CLE_SWAP_swap k.val = s.rdBit R.CLE_SWAP_swap k.val)
        ∧ (bits.getLsbD 14 = true → s.rdB (R.CLE_CFG_auto_bank.at 14) = true → t.slotBank 14 = s.slotBank 14 ∧ (s.rdB R.SYS_CFG_ERR_valid = false → t.rd R.SYS_CFG_ERR_cause = 5))
        ∧ s.blocksKept [0, 27] t)
  ∧ (∀ (s : State) (who : Init) (k : Fin 24),
      s.reaches 27 →
      s.rdB R.CLE_CTL_en = true →
      s.rdB (R.CLE_CFG_en.at k.val) = false →
      ∃ t, exec (.slotEnable who k true) s = .next t
        ∧ t.slotOn k = true
        ∧ t.slotSum k = 0 ∧ t.slotSat k = 0 ∧ t.slotBank k = s.slotBank k
        ∧ t.cle.slots[k].pend = none ∧ t.cle.slots[k].y1 = 0 ∧ t.cle.slots[k].y2 = 0
        ∧ (∀ j ∈ List.range 32, t.stateWord k j = 0)
        ∧ s.blocksKept [27] t)
  ∧ (∀ (s : State) (who : Init) (k : Fin 24),
      s.reaches 27 →
      s.shadows = [] →
      s.slotOn k = true →
      ∃ t, exec (.slotEnable who k false) s = .next t
        ∧ t.slotOn k = false
        ∧ t.slotU k.val = 0
        ∧ t.cle.slots[k].pend = none
        ∧ (k.val = 12 ∨ k.val = 13 → t.cle.slots[(slotOf (k.val - 12))].r = 0)
        ∧ (k.val = 2 → t.rd R.SPM_VDQ_v_d = 0)
        ∧ (k.val = 3 → t.rd R.SPM_VDQ_v_q = 0))
  ∧ (∀ (s : State) (who : Init) (k : Fin 24) (v : Word),
      s.reaches 27 →
      ∃ t, exec (.slotTargetWrite who k v) s = .next t
        ∧ t.rd (R.CLE_TGT_tgt.at k.val) = v.toNat
        ∧ (14 ≤ k.val → t.cle.slots[k].r = s.rdI (R.CLE_Y_y.at k.val) ∧ t.rdB (R.CLE_SSTAT_ramping.at k.val) = decide (s.rdI (R.CLE_Y_y.at k.val) ≠ v.toInt))
        ∧ (k.val < 14 → t = { s with regs := t.regs })
        ∧ s.fieldsKept [R.CLE_TGT_tgt.at k.val, R.CLE_SSTAT_ramping.at k.val] t)
  ∧ (∀ (s : State) (who : Init) (k : Fin 24) (v : Word),
      s.reaches 27 →
      ∃ t, exec (.measWrite who k v) s = .next t
        ∧ t.rd (R.CLE_MEAS_meas.at k.val) = v.toNat
        ∧ (15 ≤ k.val → s.rd (R.CLE_CFG_trig.at k.val) = 1 → s.slotOn k = true → s.rd (R.CLE_CFG_fb.at k.val) = 0 → t.cle.slots[k].pend = some ⟨v.toInt, true, false⟩)
        ∧ (k.val < 15 ∨ s.rd (R.CLE_CFG_trig.at k.val) ≠ 1 → t = { s with regs := t.regs } ∧ s.fieldsKept [R.CLE_MEAS_meas.at k.val] t))
  ∧ (∀ (s : State),
      s.rdB R.CLE_CTL_en = true →
      s.rdB R.CLE_TIMER_period = true →
      ∃ t, exec .cleTimerTick s = .next t
        ∧ (∀ k : Fin 24, 15 ≤ k.val → s.rd (R.CLE_CFG_trig.at k.val) = 2 → s.slotOn k = true → t.cle.slots[k].pend = some (s.slotInput k false))
        ∧ (∀ k : Fin 24, k.val < 15 ∨ s.rd (R.CLE_CFG_trig.at k.val) ≠ 2 → t.cle.slots[k] = s.cle.slots[k])
        ∧ s.fieldsKept [R.CLE_OVR_ovr, R.CLE_CNT_ovr] t)
  ∧ (∀ (s : State) (ns : BitVec 32),
      ns.toNat * s.rd R.CLE_REF_CFG_spd_ppr ≠ 0 →
      60000000000 % (ns.toNat * s.rd R.CLE_REF_CFG_spd_ppr) = 0 →
      ∃ t, exec (.spdRefEdge ns) s = .next t
        ∧ t.rd R.CLE_SPD_MEAS_rpm = min 65535 (60000000000 / (ns.toNat * s.rd R.CLE_REF_CFG_spd_ppr))
        ∧ t.cle.spdRef = satSigned 32 (((60000000000 * 131072 / (ns.toNat * s.rd R.CLE_REF_CFG_spd_ppr) : Nat) : Int))
        ∧ s.fieldsKept [R.CLE_SPD_MEAS_rpm] t)
  ∧ (∀ (s : State),
      s.cle.spdFollow = true →
      ∃ t, exec .spdRefLost s = .next t
        ∧ t.cle.spdFollow = false
        ∧ t.cle.slots[14].r = s.rdI (R.CLE_Y_y.at 14)
        ∧ t.rd R.CLE_STAT_spd_lost = 1
        ∧ s.fieldsKept [R.CLE_STAT_spd_lost] t)
  ∧ (∀ (s : State) (who : Init) (slot : BitVec 5),
      s.reaches 27 →
      s.lc = .manufacture ∨ s.lc = .service →
      slot.toNat = 0 ∨ slot.toNat = 1 ∨ slot.toNat = 12 ∨ slot.toNat = 13 →
      ∃ t, exec (.auxFollowStart who slot) s = .next t
        ∧ t.cle.auxSlot = some slot.toNat
        ∧ t.rd R.CLE_STAT_aux_active = 1 ∧ t.rd R.CLE_REF_CFG_aux_slot = slot.toNat
        ∧ (slot.toNat = 0 ∨ slot.toNat = 12 → s.actIs .a .track = true → t.actIs .a .settle = true)
        ∧ (slot.toNat = 1 ∨ slot.toNat = 13 → s.actIs .b .track = true → t.actIs .b .settle = true)
        ∧ s.blocksKept [27, 29] t)
  ∧ (∀ (s : State) (who : Init) (slot : BitVec 5),
      s.reaches 27 →
      (s.lc ≠ .manufacture ∧ s.lc ≠ .service) ∨ (slot.toNat ≠ 0 ∧ slot.toNat ≠ 1 ∧ slot.toNat ≠ 12 ∧ slot.toNat ≠ 13) →
      s.rdB R.SYS_CFG_ERR_valid = false →
      ∃ t, exec (.auxFollowStart who slot) s = .next t
        ∧ t.cle = s.cle
        ∧ t.rd R.SYS_CFG_ERR_cause = (if s.lc = .manufacture ∨ s.lc = .service then 5 else 1)
        ∧ s.blocksKept [0] t)
  ∧ (∀ (s : State) (x : Act) (code : BitVec 12) (mV mA : BitVec 16) (aux : BitVec 12) (vib : List (BitVec 12)),
      ∃ t, exec (.vcmPwmPeriod x code mV mA aux vib) s = .next t
        ∧ t.rdI (actF R.ACT_IMEAS_code x) = code.toInt
        ∧ t.rd R.CLE_AUX_MEAS_code = aux.toNat
        ∧ (x = .a → ∀ i ∈ List.range 4, t.rd (R.SYS_VIB_lo.at i) = s.vibCode vib (2 * i) ∧ t.rd (R.SYS_VIB_hi.at i) = s.vibCode vib (2 * i + 1))
        ∧ (s.slotOn (slotOf x.idx) = true → t.cle.slots[slotOf x.idx].pend = some ⟨code.toInt * 1048576, decide (code.toInt ≠ -2048 ∧ code.toInt ≠ 2047), false⟩)
        ∧ t.rdI (actF R.ACT_VEST_vest x) = satSigned 16 (s.quot (((s.rd (actF R.ACT_BEMF_kb_inv x) : Nat) : Int) * (1000 * mV.toInt - ((s.rd (actF R.ACT_BEMF_r_coil x) : Nat) : Int) * mA.toInt)) 65536000)
        ∧ s.blocksKept [0, 27, 29] t)

/-- Enables, load and retract commands and their time limits move an actuator between its states (R280). In every state and for all operands
that meet the conditions of a clause, the command answers the next state that the clause describes. Commands: ACT_ENABLE_WRITE,
ACT_LOAD_CMD, ACT_RETRACT_CMD, ACT_LOAD_TIMEOUT, RETRACT_PARKED, RETRACT_TIMEOUT. Where the spec leaves a point open, the clauses follow
the model's choice (assumption 11). -/
def Obligations.Actuators : Prop :=
  (∀ (s : State) (who : Init) (en actA actB : Bool),
      s.shadows = [] →
      ∃ t, exec (.actEnableWrite who false en actA actB) s = .next t
        ∧ t.rdB R.ACT_CTL_en = en ∧ t.rdB R.ACT_CTL_act_a = actA ∧ t.rdB R.ACT_CTL_act_b = actB
        ∧ (en && actA = false → t.actIs .a .off = true)
        ∧ (en && actB = false → t.actIs .b .off = true)
        ∧ (en && actA = true → t.rd (actF R.ACT_STAT_state .a) = if s.actIs .a .off then ActSt.parked.code else s.rd (actF R.ACT_STAT_state .a))
        ∧ (en && actB = true → t.rd (actF R.ACT_STAT_state .b) = if s.actIs .b .off then ActSt.parked.code else s.rd (actF R.ACT_STAT_state .b))
        ∧ (en && actA = false → s.actIs .a .off = false → ∀ h ∈ s.actHeads .a, t.maNow h = 0)
        ∧ s.blocksKept [29] t)
  ∧ (∀ (s : State) (who : Init) (en actA actB : Bool),
      ∃ t, exec (.actEnableWrite who true en actA actB) s = .next t
        ∧ t.rd R.ACT_CTL_srst = 1
        ∧ t.act = ActAll.init)
  ∧ (∀ (s : State) (who : Init) (x : Act),
      s.reaches 29 →
      s.actIs x .parked = true →
      s.rdB R.SPM_STAT_lock = true →
      s.srvIs x .off = false →
      ∃ t, exec (.actLoadCmd who x) s = .next t
        ∧ t.actIs x .loading = true
        ∧ (t.act.act.get x).loadCount = 0
        ∧ t.rd (actF R.ACT_STAT_settle x) = 0
        ∧ s.fieldsKept [actF R.ACT_STAT_state x, actF R.ACT_STAT_settle x] t)
  ∧ (∀ (s : State) (who : Init) (x : Act),
      s.reaches 29 →
      s.actIs x .parked = true →
      s.rdB R.SPM_STAT_lock = false ∨ s.srvIs x .off = true →
      s.rdB R.SYS_CFG_ERR_valid = false →
      ∃ t, exec (.actLoadCmd who x) s = .next t
        ∧ t.rd R.SYS_CFG_ERR_cause = 5
        ∧ t.act = s.act
        ∧ s.blocksKept [0] t)
  ∧ (∀ (s : State) (who : Init) (x : Act),
      s.reaches 29 →
      s.actIs x .loading = true ∨ s.actTracks x = true →
      ∃ t, exec (.actRetractCmd who x) s = .next t
        ∧ t.actIs x .retract = true
        ∧ t.rd (actF R.ACT_STAT_settle x) = 0 ∧ t.rd (actF R.ACT_OFT_disp x) = 0
        ∧ (∀ h ∈ s.actHeads x, t.maNow h = 0)
        ∧ (t.act.act.get x).vestSeen = false
        ∧ s.blocksKept [29] t)
  ∧ (∀ (s : State) (who : Init) (x : Act),
      s.reaches 29 →
      s.actIs x .loading = false →
      s.actTracks x = false →
      ∃ t, exec (.actRetractCmd who x) s = .next t
        ∧ t = s)
  ∧ (∀ (s : State) (x : Act),
      s.actIs x .loading = true →
      ∃ t, exec (.actLoadTimeout x) s = .next t
        ∧ t.actIs x .retract = true
        ∧ t.rd (actF R.ACT_STAT_load_fail x) = 1
        ∧ s.blocksKept [29] t)
  ∧ (∀ (s : State) (x : Act),
      s.actIs x .retract = true →
      (s.act.act.get x).vestSeen = true →
      ∃ t, exec (.retractParked x) s = .next t
        ∧ t.actIs x .parked = true
        ∧ (∀ h : Fin 32, h.val ∈ s.actHeads x → t.act.laneTrack[h] = none)
        ∧ t.rd (actF R.ACT_STAT_ret_to x) = s.rd (actF R.ACT_STAT_ret_to x))
  ∧ (∀ (s : State) (x : Act),
      s.actIs x .retract = false ∨ (s.act.act.get x).vestSeen = false →
      ∃ t, exec (.retractParked x) s = .next t
        ∧ t = s)
  ∧ (∀ (s : State) (x : Act),
      s.actIs x .retract = true →
      ∃ t, exec (.retractTimeout x) s = .next t
        ∧ t.actIs x .parked = true
        ∧ t.rd (actF R.ACT_STAT_ret_to x) = 1
        ∧ (∀ h : Fin 32, h.val ∈ s.actHeads x → t.act.laneTrack[h] = none))

/-- The spindle starts through MEASURE, ALIGN and OPEN to RUN, stops through BRAKE to IDLE (parts of R287, R292 to R305). In every state and
for all operands that meet the conditions of a clause, the command answers the next state that the clause describes. Commands:
SPM_PWM_PERIOD, OBSERVER_CONVERGED, OBSERVER_LOSS, OBSERVER_MARK, SPM_START, SPM_STOP, SPM_STILL, MEASURE_ORDER_FOUND, MEASURE_TIMEOUT,
REVERSE_CHECK, BRAKE_TIMEOUT, ALIGN_DONE, OPEN_TIMEOUT, COAST_END, GAUGE_ANGLE_VALID, GAUGE_OFFSET_MEASURED, GAUGE_ANGLE_WITHDRAWN,
SPM_DISABLE. Where the spec leaves a point open, the clauses follow the model's choices (assumptions 7, 9, 10 and 11). -/
def Obligations.SpindleStates : Prop :=
  (∀ (s : State) (p : SpmPeriod),
      s.spm.bridge = false →
      ∃ t, exec (.spmPwmPeriod p) s = .next t
        ∧ t = s.updSpm (fun q => { q with dp := p.dp.toNat, gaugeRpm := p.rpm.toNat }))
  ∧ (∀ (s : State) (p : SpmPeriod),
      s.spm.bridge = true →
      s.spm.braking = true →
      ∃ t, exec (.spmPwmPeriod p) s = .next t
        ∧ t.spm.short = (if s.rd R.SPM_BRAKE_ilim < p.brake.toInt.natAbs then s.spm.short - 1 else min 63 (s.spm.short + 1))
        ∧ t.spm.duty = s.spm.duty
        ∧ t.spm.dp = p.dp.toNat
        ∧ t = { s with spm := t.spm, regs := t.regs, freeCount := t.freeCount }
        ∧ s.fieldsKept [R.SPM_SPEED_obs_rpm] t)
  ∧ (∀ (s : State) (p : SpmPeriod),
      s.spm.bridge = true →
      s.spm.braking = false →
      ∃ t, exec (.spmPwmPeriod p) s = .next t
        ∧ (s.slotOn 2 = true → t.cle.slots[(2 : Fin 24)].pend.isSome = true)
        ∧ (s.slotOn 3 = true → t.cle.slots[(3 : Fin 24)].pend.isSome = true)
        ∧ t.rd R.SPM_STAT_sector = sectorOf t.spm.duty % 2 ^ R.SPM_STAT_sector.w
        ∧ t.spm.handover = false
        ∧ t.rd R.SPM_STAT_state = s.rd R.SPM_STAT_state
        ∧ (s.spmIs .open = true → t.spm.forced = s.spm.forced + s.rd R.SPM_OPEN_acc * (s.rd R.SPM_PWM_period * 5) * 4294967296 / 1000000000)
        ∧ t.dram = s.dram)
  ∧ (∀ (s : State),
      48 ≤ s.spm.convRun →
      s.spmIs .open = true →
      s.rd R.SPM_CATCH_catch_rpm * 4294967296 ≤ s.spm.forced →
      ∃ t, exec .observerConverged s = .next t
        ∧ t.spmIs .run = true
        ∧ t.rd R.SPM_STAT_obs_conv = 1 ∧ t.rd R.SPM_STAT_ang_src = 2 ∧ t.rd R.SPM_STAT_pending = 0
        ∧ t.slotSum 14 = 0 ∧ t.cle.slots[14].pend = none
        ∧ t.spm.bridge = true ∧ t.spm.braking = false ∧ t.spm.idRef = 0)
  ∧ (∀ (s : State),
      48 ≤ s.spm.convRun →
      s.spmIs .open = false →
      ∃ t, exec .observerConverged s = .next t
        ∧ t.rd R.SPM_STAT_obs_conv = 1
        ∧ t = { s with regs := t.regs }
        ∧ s.fieldsKept [R.SPM_STAT_obs_conv] t)
  ∧ (∀ (s : State),
      s.spmIs .run = true →
      s.rd R.SPM_OBS_LOSS_loss_n ≤ s.spm.lossRun ∨ s.rd R.SPM_OBS_LOSS_loss_n ≤ s.spm.xchkRun →
      s.spm.gaugeValid = false →
      ∃ t, exec .observerLoss s = .next t
        ∧ t.spmIs .coast = true
        ∧ t.rd R.SPM_CNT_obs_loss = satAdd (2 ^ R.SPM_CNT_obs_loss.w - 1) (s.rd R.SPM_CNT_obs_loss) 1
        ∧ t.rd R.SPM_CNT_coasts = satAdd (2 ^ R.SPM_CNT_coasts.w - 1) (s.rd R.SPM_CNT_coasts) 1
        ∧ t.rd R.SPM_STAT_obs_conv = 0 ∧ t.rd R.SPM_STAT_lock = 0
        ∧ t.spm.bridge = false)
  ∧ (∀ (s : State),
      s.spmIs .run = true →
      s.rd R.SPM_OBS_LOSS_loss_n ≤ s.spm.lossRun ∨ s.rd R.SPM_OBS_LOSS_loss_n ≤ s.spm.xchkRun →
      s.spm.gaugeValid = true →
      ∃ t, exec .observerLoss s = .next t
        ∧ t.spmIs .run = true ∧ t.rd R.SPM_STAT_lock = 0
        ∧ t.rd R.SPM_STAT_ang_src = (if s.rd R.SPM_STAT_ang_src = 2 then 3 else s.rd R.SPM_STAT_ang_src)
        ∧ t.spm.obsTheta = t.gaugeTheta ∧ t.spm.convRun = 0 ∧ t.spm.lossRun = 0 ∧ t.spm.xchkRun = 0
        ∧ t.rd R.SPM_CNT_obs_loss = satAdd (2 ^ R.SPM_CNT_obs_loss.w - 1) (s.rd R.SPM_CNT_obs_loss) 1)
  ∧ (∀ (s : State),
      s.rdB R.GCK_STAT_lock = false →
      s.shadows = [] →
      ∃ t, exec .observerMark s = .next t
        ∧ (s.rd R.GCK_STAT_dp_src = 2 → t.rd R.GCK_DPHASE_dphase = 0)
        ∧ (∀ k : Fin 24, 15 ≤ k.val → s.rd (R.CLE_CFG_trig.at k.val) = 0 → s.slotOn k = true → t.cle.slots[k].pend.isSome = true)
        ∧ t.msq.a.faultRevs = s.msq.a.faultRevs.map (· + 1) ∧ t.msq.b.faultRevs = s.msq.b.faultRevs.map (· + 1)
        ∧ (2 * (s.rd R.SPM_LOCK_tol : Int) * s.rdI (R.CLE_TGT_tgt.at 14) < (((s.rd R.SPM_SPEED_rpm * 131072 : Nat) : Int) - s.rdI (R.CLE_TGT_tgt.at 14)).natAbs * 1000000 → s.spmIs .run = false → t.rd R.SPM_STAT_lock = 0))
  ∧ (∀ (s : State),
      s.rdB R.GCK_STAT_lock = true →
      ∃ t, exec .observerMark s = .next t
        ∧ t = s)
  ∧ (∀ (s : State) (who : Init),
      s.reaches 28 →
      s.rdB R.SPM_TOK_held = true →
      s.spmIs .idle = true →
      ∃ t, exec (.spmStart who) s = .next t
        ∧ t.spmIs .measure = true ∧ t.rd R.SPM_STAT_pending = 1
        ∧ t.spm.bridge = false
        ∧ t.rd R.SPM_TOK_held = 1)
  ∧ (∀ (s : State) (who : Init),
      s.reaches 28 →
      s.rdB R.SPM_TOK_held = true →
      s.spmIs .brake = true →
      ∃ t, exec (.spmStart who) s = .next t
        ∧ t.rd R.SPM_STAT_pending = 1
        ∧ t = { s with regs := t.regs }
        ∧ s.fieldsKept [R.SPM_STAT_pending] t)
  ∧ (∀ (s : State) (who : Init),
      s.reaches 28 →
      s.rdB R.SPM_TOK_held = false ∨ (s.spmIs .idle = false ∧ s.spmIs .brake = false) →
      s.rdB R.SYS_CFG_ERR_valid = false →
      ∃ t, exec (.spmStart who) s = .next t
        ∧ t.rd R.SYS_CFG_ERR_cause = 5
        ∧ t.spm = s.spm
        ∧ s.blocksKept [0] t)
  ∧ (∀ (s : State) (who : Init),
      s.reaches 28 →
      s.headsParked = true →
      s.spmIs .measure = true ∨ s.spmIs .align = true ∨ s.spmIs .open = true ∨ s.spmIs .run = true ∨ s.spmIs .coast = true →
      ∃ t, exec (.spmStop who) s = .next t
        ∧ t.spmIs .brake = true ∧ t.rd R.SPM_STAT_pending = 0
        ∧ t.spm.bridge = true ∧ t.spm.braking = true ∧ t.spm.short = 0
        ∧ t.rd R.SPM_STAT_lock = 0)
  ∧ (∀ (s : State) (who : Init),
      s.reaches 28 →
      s.headsParked = false →
      s.spmIs .run = true →
      s.rdB R.SYS_CFG_ERR_valid = false →
      ∃ t, exec (.spmStop who) s = .next t
        ∧ t.rd R.SYS_CFG_ERR_cause = 5
        ∧ t.spm = s.spm
        ∧ s.blocksKept [0] t)
  ∧ (∀ (s : State),
      s.spmIs .measure = true ∨ (s.spmIs .brake = true ∧ s.rdB R.SPM_STAT_pending = true) →
      s.spm.alignWait = false →
      s.arbOpen 1 = true →
      ∃ t, exec .spmStill s = .next t
        ∧ t.spmIs .align = true
        ∧ t.rd R.SPM_ANGLE_theta = 0 ∧ t.rd R.SPM_STAT_ang_src = 1
        ∧ t.spm.idRef = s.rdI R.SPM_START_align_i * 256
        ∧ t.cle.slots[(3 : Fin 24)].r = 0
        ∧ t.pwr.admitted = (1, s.rd R.SPM_START_align_i * Config.shuntMicroAmp / 1000, s.driveTime) :: s.pwr.admitted)
  ∧ (∀ (s : State),
      s.spmIs .measure = true ∨ (s.spmIs .brake = true ∧ s.rdB R.SPM_STAT_pending = true) →
      s.spm.alignWait = false →
      s.arbOpen 1 = false →
      ∃ t, exec .spmStill s = .next t
        ∧ t.spm.alignWait = true
        ∧ t.pwr.queue = s.pwr.queue ++ [{ who := .spm, rail := 1, ma := s.rd R.SPM_START_align_i * Config.shuntMicroAmp / 1000 }]
        ∧ t.rd R.SPM_STAT_state = s.rd R.SPM_STAT_state
        ∧ s.fieldsKept [R.PWR_ARB_STAT_queued] t)
  ∧ (∀ (s : State),
      s.spmIs .brake = true →
      s.rdB R.SPM_STAT_pending = false →
      ∃ t, exec .spmStill s = .next t
        ∧ t.spmIs .idle = true
        ∧ t.spm.bridge = false ∧ t.rd R.SPM_TOK_held = 0)
  ∧ (∀ (s : State) (forward : Bool) (rpm : BitVec 16) (theta : Word),
      s.spmIs .measure = true →
      forward = true →
      s.rd R.SPM_CATCH_catch_rpm ≤ rpm.toNat →
      ∃ t, exec (.measureOrderFound forward rpm theta) s = .next t
        ∧ t.spmIs .run = true
        ∧ t.rd R.SPM_SPEED_rpm = rpm.toNat ∧ t.rd R.SPM_SPEED_obs_rpm = rpm.toNat
        ∧ t.spm.obsTheta = theta.toNat ∧ t.spm.obsW = s.rpmToW rpm.toNat
        ∧ t.rd R.SPM_CNT_catches = satAdd (2 ^ R.SPM_CNT_catches.w - 1) (s.rd R.SPM_CNT_catches) 1
        ∧ t.rd R.SPM_STAT_pending = 0)
  ∧ (∀ (s : State) (forward : Bool) (rpm : BitVec 16) (theta : Word),
      s.spmIs .measure = true →
      forward = false →
      s.rd R.SPM_CATCH_rev_rpm ≤ rpm.toNat →
      ∃ t, exec (.measureOrderFound forward rpm theta) s = .next t
        ∧ t.spmIs .reverse = true
        ∧ t.rd R.SPM_STAT_reverse = 1
        ∧ t.rd R.SPM_CNT_reverses = satAdd (2 ^ R.SPM_CNT_reverses.w - 1) (s.rd R.SPM_CNT_reverses) 1
        ∧ t.spm.bridge = true ∧ t.spm.braking = true)
  ∧ (∀ (s : State) (forward : Bool) (rpm : BitVec 16) (theta : Word),
      s.spmIs .measure = true →
      rpm.toNat < (if forward then s.rd R.SPM_CATCH_catch_rpm else s.rd R.SPM_CATCH_rev_rpm) →
      ∃ t, exec (.measureOrderFound forward rpm theta) s = .next t
        ∧ t.spmIs .brake = true
        ∧ t.rd R.SPM_STAT_pending = s.rd R.SPM_STAT_pending)
  ∧ (∀ (s : State),
      s.spmIs .measure = true →
      ∃ t, exec .measureTimeout s = .next t
        ∧ t.spmIs .brake = true
        ∧ t.rd R.SPM_STAT_pending = s.rd R.SPM_STAT_pending)
  ∧ (∀ (s : State) (rpm : BitVec 16),
      s.spmIs .reverse = true →
      rpm.toNat < s.rd R.SPM_CATCH_rev_rpm →
      ∃ t, exec (.reverseCheck rpm) s = .next t
        ∧ t.spmIs .brake = true)
  ∧ (∀ (s : State) (rpm : BitVec 16),
      s.spmIs .reverse = false ∨ s.rd R.SPM_CATCH_rev_rpm ≤ rpm.toNat →
      ∃ t, exec (.reverseCheck rpm) s = .next t
        ∧ t = s)
  ∧ (∀ (s : State),
      s.spmIs .brake = true →
      ∃ t, exec .brakeTimeout s = .next t
        ∧ t.spmIs .idle = true
        ∧ t.rd R.SPM_STAT_start_fail = 1 ∧ t.rd R.SPM_STAT_pending = 0
        ∧ t.rd R.SPM_TOK_held = 0)
  ∧ (∀ (s : State),
      s.spmIs .align = true →
      ∃ t, exec .alignDone s = .next t
        ∧ t.spmIs .open = true
        ∧ t.spm.forced = 0 ∧ t.spm.idRef = 0
        ∧ t.cle.slots[(3 : Fin 24)].r = s.rdI R.SPM_START_open_i * 1048576
        ∧ t.rd R.SPM_STAT_ang_src = 1)
  ∧ (∀ (s : State),
      s.spmIs .open = true →
      ∃ t, exec .openTimeout s = .next t
        ∧ t.spmIs .brake = true
        ∧ t.rd R.SPM_STAT_start_fail = 1 ∧ t.rd R.SPM_STAT_pending = 0)
  ∧ (∀ (s : State),
      s.spmIs .coast = true →
      ∃ t, exec .coastEnd s = .next t
        ∧ t.spmIs .measure = true
        ∧ t.rd R.SPM_STAT_pending = 1)
  ∧ (∀ (s : State),
      s.rdB R.GCK_STAT_lock = true →
      ∃ t, exec .gaugeAngleValid s = .next t
        ∧ t = s.updSpm (fun q => { q with gaugeValid := true, measured := false }))
  ∧ (∀ (s : State) (mean : Word),
      s.spm.gaugeValid = true →
      s.rdB R.SPM_GANG_CFG_ofs_src = true →
      s.spmIs .run = true →
      s.rd R.SPM_STAT_ang_src = 2 →
      ∃ t, exec (.gaugeOffsetMeasured mean) s = .next t
        ∧ t.rd R.SPM_GANG_MEAS_meas = mean.toNat
        ∧ t.spm = { s.spm with measured := true }
        ∧ s.fieldsKept [R.SPM_GANG_MEAS_meas] t)
  ∧ (∀ (s : State),
      s.spm.gaugeValid = true →
      s.rdB R.GCK_STAT_lock = false →
      ∃ t, exec .gaugeAngleWithdrawn s = .next t
        ∧ t.spm.gaugeValid = false ∧ t.spm.measured = false
        ∧ (s.spmIs .run = true → s.rd R.SPM_STAT_ang_src = 3 → s.rdB R.SPM_STAT_obs_conv = true → t.spmIs .run = true ∧ t.rd R.SPM_STAT_ang_src = 2 ∧ t.rd R.SPM_STAT_lock = 0)
        ∧ (s.spmIs .run = true → s.rd R.SPM_STAT_ang_src = 3 → s.rdB R.SPM_STAT_obs_conv = false → t.spmIs .coast = true)
        ∧ (s.spmIs .run = false ∨ s.rd R.SPM_STAT_ang_src ≠ 3 → t.regs = s.regs))
  ∧ (∀ (s : State) (who : Init),
      s.shadows = [] →
      s.spmIs .latched = false →
      ∃ t, exec (.spmDisable who false) s = .next t
        ∧ t.spmIs .off = true
        ∧ t.rd R.SPM_CTL_en = 0
        ∧ (s.spmIs .off = false → t.spm.bridge = false ∧ t.rd R.SPM_TOK_held = 0 ∧ t.rd R.SPM_STAT_pending = 0))
  ∧ (∀ (s : State) (who : Init) (srst : Bool),
      s.shadows = [] →
      s.spmIs .latched = true →
      ∃ t, exec (.spmDisable who srst) s = .next t
        ∧ t.spmIs .latched = true
        ∧ (srst = false → t = { s with regs := t.regs } ∧ s.fieldsKept [R.SPM_CTL_en] t)
        ∧ (srst = true → t.rd R.SPM_CTL_srst = 1))

/-- Accumulator commands, the non-zero scan, and disabling PAR (parts of R311, R315, R316, R319, R323, R567). In every state and for all
operands that meet the conditions of a clause, the command answers the next state that the clause describes. Commands: ACC_ATTACH,
ACC_REBUILD, ACC_READY, ACC_SEAL, ACC_CHECK, ACC_SCAN, SCAN_DONE, ACC_RELEASE, WALKER_ROUND, PAR_DISABLE. Where the spec leaves a point
open, the clauses follow the model's choice (assumption 45). -/
def Obligations.Accumulators : Prop :=
  (∀ (s : State) (who : Init) (k : Fin 8) (x : Act) (slot : BitVec 17),
      s.reaches 30 →
      s.rdB R.PAR_CTL_en = true →
      s.accIs k .free = true →
      ∀ j : Fin 8, j ≠ k → s.accIs j .free = true ∨ s.rd (accF R.PAR_ACC_CTL_act j) ≠ x.idx ∨ s.rd (accF R.PAR_ACC_CTL_slot j) ≠ slot.toNat →
      ∃ t, exec (.accAttach who k x slot) s = .next t
        ∧ t.accIs k .attached = true
        ∧ t.rd (accF R.PAR_ACC_CTL_act k) = x.idx ∧ t.rd (accF R.PAR_ACC_CTL_slot k) = slot.toNat
        ∧ t.accHw k = 0
        ∧ t = { s with regs := t.regs }
        ∧ s.fieldsKept [accF R.PAR_ACC_CTL_act k, accF R.PAR_ACC_CTL_slot k, accF R.PAR_ACC_STAT_state k, accF R.PAR_ACC_STAT_scan_busy k, accF R.PAR_ACC_STAT_hw k] t)
  ∧ (∀ (s : State) (who : Init) (k : Fin 8) (x : Act) (slot : BitVec 17),
      s.reaches 30 →
      s.rdB R.PAR_CTL_en = false ∨ s.accIs k .free = false →
      s.rdB R.SYS_CFG_ERR_valid = false →
      ∃ t, exec (.accAttach who k x slot) s = .next t
        ∧ t.rd R.SYS_CFG_ERR_cause = 5
        ∧ (∀ j : Fin 8, t.rd (accF R.PAR_ACC_STAT_state j) = s.rd (accF R.PAR_ACC_STAT_state j))
        ∧ t.par = s.par ∧ t.dram = s.dram)
  ∧ (∀ (s : State) (who : Init) (k : Fin 8) (x : Act) (slot : BitVec 17),
      s.reaches 30 →
      s.rdB R.PAR_CTL_en = true →
      s.accIs k .free = true →
      ∀ j : Fin 8, j ≠ k → s.accIs j .free = true ∨ s.rd (accF R.PAR_ACC_CTL_act j) ≠ x.idx ∨ s.rd (accF R.PAR_ACC_CTL_slot j) ≠ slot.toNat →
      ∃ t, exec (.accRebuild who k x slot) s = .next t
        ∧ t.accIs k .rebuilding = true
        ∧ t.rd (accF R.PAR_ACC_CTL_act k) = x.idx ∧ t.rd (accF R.PAR_ACC_CTL_slot k) = slot.toNat
        ∧ t.accHw k = 0
        ∧ t = { s with regs := t.regs })
  ∧ (∀ (s : State) (who : Init) (k : Fin 8) (x : Act) (slot : BitVec 17),
      s.reaches 30 →
      s.rdB R.PAR_CTL_en = true →
      s.accIs k .damaged = true →
      s.rd (accF R.PAR_ACC_CTL_act k) = x.idx →
      s.rd (accF R.PAR_ACC_CTL_slot k) = slot.toNat →
      ∃ t, exec (.accRebuild who k x slot) s = .next t
        ∧ t.accIs k .rebuilding = true
        ∧ t.accHw k = 0
        ∧ t = { s with regs := t.regs }
        ∧ s.fieldsKept [accF R.PAR_ACC_STAT_state k, accF R.PAR_ACC_STAT_scan_busy k, accF R.PAR_ACC_STAT_hw k] t)
  ∧ (∀ (s : State) (who : Init) (k : Fin 8),
      s.reaches 30 →
      s.rdB R.PAR_CTL_en = true →
      s.accIs k .rebuilding = true →
      s.accLanes k = 0 →
      ∃ t, exec (.accReady who k) s = .next t
        ∧ t.accIs k .attached = true
        ∧ t = { s with regs := t.regs }
        ∧ s.fieldsKept [accF R.PAR_ACC_STAT_state k, accF R.PAR_ACC_STAT_scan_busy k] t)
  ∧ (∀ (s : State) (who : Init) (k : Fin 8),
      s.reaches 30 →
      s.rdB R.PAR_CTL_en = true →
      s.accIs k .attached = true →
      s.accLanes k = 0 →
      ∃ t, exec (.accSeal who k) s = .next t
        ∧ t.accIs k .sealing = true
        ∧ t.par.sourced[k] = (0, 0)
        ∧ s.fieldsKept [accF R.PAR_ACC_STAT_state k, accF R.PAR_ACC_STAT_scan_busy k] t)
  ∧ (∀ (s : State) (who : Init) (k : Fin 8) (x : Act) (slot : BitVec 17),
      s.reaches 30 →
      s.rdB R.PAR_CTL_en = true →
      s.accIs k .free = true →
      ∀ j : Fin 8, j ≠ k → s.accIs j .free = true ∨ s.rd (accF R.PAR_ACC_CTL_act j) ≠ x.idx ∨ s.rd (accF R.PAR_ACC_CTL_slot j) ≠ slot.toNat →
      ∃ t, exec (.accCheck who k x slot) s = .next t
        ∧ t.accIs k .checking = true
        ∧ t.rd (accF R.PAR_ACC_CTL_act k) = x.idx ∧ t.rd (accF R.PAR_ACC_CTL_slot k) = slot.toNat
        ∧ t.accHw k = 0
        ∧ t = { s with regs := t.regs })
  ∧ (∀ (s : State) (who : Init) (k : Fin 8),
      s.reaches 30 →
      s.rdB R.PAR_CTL_en = true →
      s.accIs k .checking = true →
      s.accLanes k = 0 →
      ∃ t, exec (.accScan who k) s = .next t
        ∧ t.accIs k .checking = true
        ∧ t.rd (accF R.PAR_ACC_STAT_scan_busy k) = 1
        ∧ s.fieldsKept [accF R.PAR_ACC_STAT_state k, accF R.PAR_ACC_STAT_scan_busy k] t)
  ∧ (∀ (s : State) (k : Fin 8),
      s.rdB (accF R.PAR_ACC_STAT_scan_busy k) = true →
      ∃ t, exec (.scanDone k) s = .next t
        ∧ t.rd (accF R.PAR_ACC_STAT_scan_busy k) = 0
        ∧ t.rd (accF R.PAR_ACC_SCAN_nonzero k) = min 65535 (s.nonZeroSectors k).length % 2 ^ R.PAR_ACC_SCAN_nonzero.w
        ∧ (s.nonZeroSectors k = [] → t = { s with regs := t.regs } ∧ t.rd (accF R.PAR_ACC_SCAN_first k) = 0)
        ∧ (∀ b ∈ s.nonZeroSectors k, b < 2 ^ R.PAR_ACC_SCAN_first.w → t.rd (accF R.PAR_ACC_SCAN_first k) ≤ b)
        ∧ s.fieldsKept [accF R.PAR_ACC_STAT_scan_busy k, accF R.PAR_ACC_SCAN_nonzero k, accF R.PAR_ACC_SCAN_first k] t)
  ∧ (∀ (s : State) (k : Fin 8),
      s.rdB (accF R.PAR_ACC_STAT_scan_busy k) = false →
      ∃ t, exec (.scanDone k) s = .next t
        ∧ t = s)
  ∧ (∀ (s : State) (who : Init) (k : Fin 8),
      s.reaches 30 →
      s.rdB R.PAR_CTL_en = true →
      s.accIs k .free = false →
      s.accLanes k = 0 →
      ∃ t, exec (.accRelease who k) s = .next t
        ∧ t.accIs k .free = true
        ∧ t.host.attached = (chans8.filter (fun j => t.accIs j .attached || t.accIs j .rebuilding)).map (fun j => (s.rd (R.PAR_ACC_CTL_act.at j.val), s.rd (R.PAR_ACC_CTL_slot.at j.val)))
        ∧ s.fieldsKept [accF R.PAR_ACC_STAT_state k, accF R.PAR_ACC_STAT_scan_busy k] t)
  ∧ (∀ (s : State) (who : Init) (k : Fin 8),
      s.reaches 30 →
      s.rdB R.PAR_CTL_en = true →
      s.accLanes k ≠ 0 →
      s.rdB R.SYS_CFG_ERR_valid = false →
      ∃ t, exec (.accRelease who k) s = .next t
        ∧ t.rd R.SYS_CFG_ERR_cause = 5
        ∧ t.par = s.par ∧ t.host = s.host
        ∧ s.blocksKept [0] t)
  ∧ (∀ (s : State) (x : Act) (reads : List SurvivorRead),
      s.par.walk.get x = none →
      ∃ t, exec (.walkerRound x reads) s = .next t
        ∧ t = s)
  ∧ (∀ (s : State) (x : Act) (reads : List SurvivorRead) (w : WalkState),
      s.par.walk.get x = some w →
      w.targets = [] →
      ∃ t, exec (.walkerRound x reads) s = .next t
        ∧ t.par.walk.get x = none
        ∧ t.rd (wlkF R.PAR_WLK_STAT_busy x) = 0 ∧ t.rd (wlkBit x) = 0)
  ∧ (∀ (s : State) (x : Act) (w : WalkState) (v b : Nat),
      s.par.walk.get x = some w →
      w.targets ≠ [] →
      w.left = [v] →
      w.again = [] →
      w.retried = false →
      s.walkNeeds x w v = [b] →
      ∃ t, exec (.walkerRound x []) s = .next t
        ∧ t.par.walk.get x = some { w with left := [v], again := [], retried := true }
        ∧ t.rd R.PAR_CNT_MISC_surv_fail = satAdd (2 ^ R.PAR_CNT_MISC_surv_fail.w - 1) (s.rd R.PAR_CNT_MISC_surv_fail) 1)
  ∧ (∀ (s : State) (who : Init) (srst : Bool),
      ∃ t, exec (.parDisable who srst) s = .next t
        ∧ (∀ k : Fin 8, t.accIs k .free = true)
        ∧ (∀ c : Fin 8, t.par.bind[c] = none)
        ∧ t.par.walk.get .a = none ∧ t.par.walk.get .b = none
        ∧ (srst = false → t.rd R.PAR_CTL_en = 0)
        ∧ (srst = true → t.rd R.PAR_CTL_srst = 1)
        ∧ t.dram = s.dram)

/-- The base firmware retires heads, relocates bands, scrubs sealed groups and rebuilds accumulators (parts of R319, R324 to R327). In every
state and for all operands that meet the conditions of a clause, the command answers the next state that the clause describes. Commands:
HEAD_RETIRE, BAND_RELOCATION, SCRUB_GROUP, ACCUMULATOR_RECOVERY. Where the spec leaves a point open, the clauses follow the model's
choices (assumptions 11, 62 and 72). -/
def Obligations.HeadsAndGroups : Prop :=
  (∀ (s : State) (h : Fin 32),
      s.headFitted h.val = true →
      s.rdBit R.PAR_RET_ret h.val = false →
      s.retiredOn (s.headAct h.val) < 2 →
      ∃ t, exec (.headRetire h) s = .next t
        ∧ t.rdBit R.PAR_RET_ret h.val = true
        ∧ (∀ j : Fin 32, j ≠ h → t.rdBit R.PAR_RET_ret j.val = s.rdBit R.PAR_RET_ret j.val)
        ∧ (s.zonesOnHead (s.headAct h.val) h.val = [] → Memory.wf s.dram = true → s.rdB R.JIG_GOLD_BASE_lock = false → ∀ i ∈ s.bandsOf (s.headAct h.val), s.bandHead (s.headAct h.val) i = some h.val → remapState (s.remapEntry i) ≠ .lent → t.remapEntry i = 2 * 2 ^ 30))
  ∧ (∀ (s : State) (h : Fin 32),
      s.headFitted h.val = false ∨ s.rdBit R.PAR_RET_ret h.val = true ∨ 2 ≤ s.retiredOn (s.headAct h.val) →
      ∃ t, exec (.headRetire h) s = .next t
        ∧ t = s)
  ∧ (∀ (s : State) (index : BitVec 21) (surface : BitVec 4) (position : BitVec 17),
      index.toNat < s.geom.usable * (2 * s.geom.n) →
      remapState (s.remapEntry index.toNat) ≠ .lent →
      s.placeNext (if index.toNat % (2 * s.geom.n) < s.geom.n then .a else .b) surface.toNat position.toNat = true →
      Memory.wf s.dram = true →
      s.rdB R.JIG_GOLD_BASE_lock = false →
      ∃ t, exec (.bandRelocation index surface position) s = .next t
        ∧ remapState (t.remapEntry index.toNat) = .relocated
        ∧ t.remapEntry index.toNat = 2 ^ 30 + surface.toNat * 2 ^ 17 + position.toNat
        ∧ t.host.relocate = s.host.relocate.filter (· != index.toNat)
        ∧ t.regs = s.regs)
  ∧ (∀ (s : State) (k : Fin 8) (x : Act) (slot : BitVec 17),
      s.reaches 30 →
      s.rdB R.PAR_CTL_en = true →
      s.groupSealed x slot.toNat = true →
      s.accIs k .free = true →
      ∃ t, exec (.scrubGroup k x slot .check) s = .next t
        ∧ t.accIs k .checking = true
        ∧ t.rd (accF R.PAR_ACC_CTL_act k) = x.idx ∧ t.rd (accF R.PAR_ACC_CTL_slot k) = slot.toNat
        ∧ t = { s with regs := t.regs })
  ∧ (∀ (s : State) (k : Fin 8) (x : Act) (slot : BitVec 17),
      s.rdB R.PAR_CTL_en = true →
      s.accOf x slot.toNat = some k →
      s.accIs k .checking = true →
      s.accLanes k = 0 →
      ∃ t, exec (.scrubGroup k x slot .scan) s = .next t
        ∧ t.rd (accF R.PAR_ACC_STAT_scan_busy k) = 1
        ∧ s.fieldsKept [accF R.PAR_ACC_STAT_state k, accF R.PAR_ACC_STAT_scan_busy k] t)
  ∧ (∀ (s : State) (k : Fin 8) (x : Act) (slot : BitVec 17) (unrecovered : List Nat),
      s.rdB R.PAR_CTL_en = true →
      s.accOf x slot.toNat = some k →
      s.accIs k .checking = true →
      s.accLanes k = 0 →
      s.rdB (accF R.PAR_ACC_STAT_scan_busy k) = false →
      ∀ b ∈ s.nonZeroSectors k, b ∈ unrecovered →
      ∃ t, exec (.scrubGroup k x slot (.judge unrecovered)) s = .next t
        ∧ t.accIs k .free = true
        ∧ t.host.relocate = s.host.relocate)
  ∧ (∀ (s : State) (k : Fin 8) (x : Act) (slot : BitVec 17),
      s.host.groups.contains (x.idx, slot.toNat) = true →
      s.scanned = true →
      s.reaches 30 →
      s.rdB R.PAR_CTL_en = true →
      s.accIs k .free = true →
      ∀ j : Fin 8, j ≠ k → s.accIs j .free = true ∨ s.rd (accF R.PAR_ACC_CTL_act j) ≠ x.idx ∨ s.rd (accF R.PAR_ACC_CTL_slot j) ≠ slot.toNat →
      ∃ t, exec (.accumulatorRecovery k x slot .rebuild) s = .next t
        ∧ t.accIs k .rebuilding = true
        ∧ t.rd (accF R.PAR_ACC_CTL_act k) = x.idx ∧ t.rd (accF R.PAR_ACC_CTL_slot k) = slot.toNat
        ∧ t.host = s.host)
  ∧ (∀ (s : State) (k : Fin 8) (x : Act) (slot : BitVec 17),
      s.host.groups.contains (x.idx, slot.toNat) = true →
      s.scanned = true →
      s.rdB R.PAR_CTL_en = true →
      s.accIs k .rebuilding = true →
      s.accLanes k = 0 →
      s.accOf x slot.toNat = some k →
      ∃ t, exec (.accumulatorRecovery k x slot .ready) s = .next t
        ∧ t.accIs k .attached = true
        ∧ t.host.groups = s.host.groups.filter (· != (x.idx, slot.toNat)))

/-- What cores, reset, life cycle, power, thermal, calibration, event and self-test commands leave as they were. For every state and all
operands, each of these commands that answers a next state leaves everything as it was but the parts of the state, the register fields,
the register blocks and the single registers that its clause lists; State.onlyTouches says so over the whole state but the queue. A DRAM
part in the list is narrowed to addresses by MemoryStores. Each clause's list is the model's (assumptions 3 and 11). -/
def Obligations.SystemFrames : Prop :=
  (∀ (s t : State) (who : Init) (addr : Nat) (v : Word), exec (.registerWrite who addr v) s = .next t →
      s.onlyTouches
        { parts := [.bridges, .copy, .irq], fields := Touch.cfgErr } t)
  ∧ (∀ (s t : State) (blk : Fin 38), exec (.bridgeWriteApply blk) s = .next t →
      s.onlyTouches
        { parts := Touch.seqRunParts ++ [.bistFull, .bridges, .buf, .cal, .combine, .cores, .gck, .holding, .hostActivation, .hostChangedNs,
          .hostClamps, .hostHeads, .hostKv, .hostObjUe, .hostReady, .isolated, .jig, .pwr, .reply, .spm, .thm, .uart, .warmPending],
          blocks := List.range 38 } t)
  ∧ (∀ (s t : State) (blk : Fin 38), exec (.writeTimeout blk) s = .next t →
      s.onlyTouches
        { parts := [.bridges, .irq], fields := Touch.cfgErr } t)
  ∧ (∀ (s t : State) (who : Init) (isWrite : Bool) (addr : Nat), exec (.unmappedAccess who isWrite addr) s = .next t →
      s.onlyTouches
        { parts := [.irq, .reply], fields := Touch.cfgErr } t)
  ∧ (∀ (s t : State) (isWrite : Bool) (addr : Nat) (v : Word), exec (.debugPortAccess isWrite addr v) s = .next t →
      s.onlyTouches
        { parts := Touch.maintParts ++ [.bridges, .copy, .holding, .hostC0, .hostC1, .hostCtxs, .hostDamaged, .hostReady, .jig, .rch, .sram,
          .uart], blocks := List.range 38 } t)
  ∧ (∀ (s t : State) (who : Init) (addr : Nat), exec (.pairLowRead who addr) s = .next t →
      s.onlyTouches
        { parts := [.holding, .hostCtxs, .hostReady, .irq, .rch, .reply, .uart], fields := Touch.cfgErr ++ Touch.uart ++ [R.HQE_READY_ctx,
          R.HQE_READY_valid, R.RCH_RPT_HI_captures, R.RCH_RPT_HI_head, R.RCH_RPT_HI_iter, R.RCH_RPT_HI_outcome, R.RCH_RPT_HI_rung,
          R.RCH_RPT_HI_valid, R.RCH_RPT_LO_sector, R.RCH_RPT_LO_track, R.SYS_IRQ_CLAIM_source, R.SYS_IRQ_CLAIM_valid] ++ Touch.readCleared } t)
  ∧ (∀ (s t : State) (who : Init) (addr : Nat), exec (.rcFieldRead who addr) s = .next t →
      s.onlyTouches
        { parts := [.holding, .hostCtxs, .hostReady, .irq, .rch, .reply, .uart], fields := Touch.cfgErr ++ Touch.uart ++ [R.HQE_READY_ctx,
          R.HQE_READY_valid, R.RCH_RPT_HI_captures, R.RCH_RPT_HI_head, R.RCH_RPT_HI_iter, R.RCH_RPT_HI_outcome, R.RCH_RPT_HI_rung,
          R.RCH_RPT_HI_valid, R.RCH_RPT_LO_sector, R.RCH_RPT_LO_track, R.SYS_IRQ_CLAIM_source, R.SYS_IRQ_CLAIM_valid] ++ Touch.readCleared } t)
  ∧ (∀ (s t : State), exec .powerOnReset s = .next t →
      s.onlyTouches
        { parts := Touch.wordParts ++ [.bistFull, .bridges, .buf, .cal, .cores, .fuses, .gck, .geom, .holding, .hostActivation, .hostAudit,
          .hostChangedNs, .hostChangedZones, .hostClamps, .hostCompletions, .hostErrors, .hostFeats, .hostGeomBad, .hostGroups, .hostIndexed,
          .hostJSeq, .hostKv, .hostMctpUnit, .hostMediaErrors, .hostMi, .hostNextId, .hostObjUe, .hostOrder, .hostPendingCommit, .hostReady,
          .hostRelocate, .hostRemapSaved, .hostReplayed, .hostSaved, .hostSlots, .hostSmbusKhz, .hostTable, .hostThrottled, .hostTorn, .isolated,
          .jig, .positions, .presence, .pwr, .spm, .sram, .tap, .thm, .uart, .warmPending], blocks := List.range 38 } t)
  ∧ (∀ (s t : State), exec .aonPowerUp s = .next t →
      s.onlyTouches
        { parts := Touch.wordParts ++ [.bistFull, .bridges, .buf, .cal, .cores, .fuses, .gck, .geom, .holding, .hostActivation, .hostAudit,
          .hostChangedNs, .hostChangedZones, .hostClamps, .hostCompletions, .hostErrors, .hostFeats, .hostGeomBad, .hostGroups, .hostIndexed,
          .hostJSeq, .hostKv, .hostMctpUnit, .hostMediaErrors, .hostMi, .hostNextId, .hostObjUe, .hostOrder, .hostPendingCommit, .hostReady,
          .hostRelocate, .hostRemapSaved, .hostReplayed, .hostSaved, .hostSlots, .hostSmbusKhz, .hostTable, .hostThrottled, .hostTorn, .isolated,
          .jig, .positions, .presence, .pwr, .spm, .sram, .tap, .thm, .uart, .warmPending], blocks := List.range 38 } t)
  ∧ (∀ (s t : State), exec .resetNLow s = .next t →
      s.onlyTouches
        { parts := Touch.wordParts ++ [.bistFull, .bridges, .buf, .cal, .cores, .fuses, .gck, .geom, .holding, .hostActivation, .hostAudit,
          .hostChangedNs, .hostChangedZones, .hostClamps, .hostCompletions, .hostErrors, .hostFeats, .hostGeomBad, .hostGroups, .hostIndexed,
          .hostJSeq, .hostKv, .hostMctpUnit, .hostMediaErrors, .hostMi, .hostNextId, .hostObjUe, .hostOrder, .hostPendingCommit, .hostReady,
          .hostRelocate, .hostRemapSaved, .hostReplayed, .hostSaved, .hostSlots, .hostSmbusKhz, .hostTable, .hostThrottled, .hostTorn, .isolated,
          .jig, .positions, .presence, .pwr, .spm, .sram, .tap, .thm, .uart, .warmPending], blocks := List.range 38 } t)
  ∧ (∀ (s t : State) (who : Init), exec (.warmRequest who) s = .next t →
      s.onlyTouches
        { parts := [.irq, .warmPending], fields := Touch.cfgErr ++ [R.SYS_RST_CTL_warm] } t)
  ∧ (∀ (s t : State), exec .warmAssert s = .next t →
      s.onlyTouches
        { parts := Touch.wordParts ++ [.bistFull, .bridges, .buf, .cal, .cores, .fuses, .gck, .geom, .holding, .hostActivation, .hostAudit,
          .hostChangedNs, .hostChangedZones, .hostClamps, .hostCompletions, .hostErrors, .hostFeats, .hostGeomBad, .hostGroups, .hostIndexed,
          .hostJSeq, .hostKv, .hostMctpUnit, .hostMediaErrors, .hostMi, .hostNextId, .hostObjUe, .hostOrder, .hostPendingCommit, .hostReady,
          .hostRelocate, .hostRemapSaved, .hostReplayed, .hostSaved, .hostSlots, .hostSmbusKhz, .hostTable, .hostThrottled, .hostTorn, .isolated,
          .jig, .positions, .presence, .pwr, .spm, .sram, .tap, .thm, .uart, .warmPending], blocks := List.range 38 } t)
  ∧ (∀ (s t : State) (strapBoot strapRole : BitVec 2) (strapXtal : Bool), exec (.porRelease strapBoot strapRole strapXtal) s = .next t →
      s.onlyTouches
        { parts := [.cores, .evr, .frk, .hostC0, .hostC1, .hostCtxs, .irq, .jig], fields := Touch.record ++ [R.CAL_PMON_ref, R.CAL_TRIM_active,
          R.CAL_TRIM_shadow, R.JIG_KEY_STAT_programmed, R.JIG_KEY_STAT_revoked, R.JIG_KEY_STAT_svc, R.JIG_RBK_STAT_floor, R.JIG_STAT_boot_copy,
          R.JIG_STAT_lc_state, R.JIG_STRAP_boot, R.JIG_STRAP_role, R.JIG_STRAP_xtal, R.JIG_UID_uid, R.SYS_ID_grade] } t)
  ∧ (∀ (s t : State) (fast slow : BitVec 4) (density : Fin 3) (ranks : Bool), exec (.dramTrainingDone fast slow density ranks) s = .next t →
      s.onlyTouches
        { parts := Touch.recordParts ++ [.jig], fields := Touch.record ++ [R.DRC_CFG_density, R.DRC_CFG_ranks, R.DRC_CFG_rate, R.DRC_CTL_en,
          R.DRC_STAT_rate, R.DRC_STAT_ready, R.DRC_STAT_trn_fail] } t)
  ∧ (∀ (s t : State), exec .dramTrainingRetry s = .next t →
      s.onlyTouches
        { parts := [.jig] } t)
  ∧ (∀ (s t : State), exec .imageStreamDone s = .next t →
      s.onlyTouches
        { parts := Touch.seqStopParts ++ Touch.recoveryParts ++ [.cores, .dram, .drc, .gck, .geom, .holding, .hostGeomBad, .jig, .positions,
          .presence, .pwr], fields := Touch.seqStop ++ Touch.recovery ++ [R.CLE_BANK_coef, R.FRK_LOCAL_pwr_en, R.FRK_LOCAL_spin_en,
          R.GCK_PHOFS_OFS_ofs, R.GCK_PHOFS_SLOPE_slope, R.GCK_RATIO_ratio, R.HIF_MI_CFG_addr, R.HIF_PORT_CFG_clk_mode,
          R.HIF_PORT_CFG_clk_mode_ssc, R.HIF_PORT_CFG_max_rate, R.HIF_PORT_CFG_mode, R.HIF_REV_rev, R.HIF_STAT_mode, R.HQE_SCHED_CFG_max_lanes,
          R.JIG_GOLD_BASE_base, R.JIG_GOLD_BASE_half, R.JIG_GOLD_BASE_lock, R.JIG_GOLD_STAT_refused, R.JIG_IMG_GEN_generation,
          R.JIG_IMG_INFO_key_slot, R.JIG_IMG_INFO_sec_ver, R.JIG_LOAD_STAT_done, R.JIG_STAT_boot_copy, R.JIG_STAT_gold_ok, R.MSQ_CTL_en,
          R.MSQ_CTL_srst, R.OBJ_CTL_en, R.OBJ_CTL_srst, R.OBJ_RING_HEAD_head, R.OBJ_STAT_open, R.PAR_ACC_STAT_scan_busy, R.PAR_ACC_STAT_state,
          R.PAR_CTL_en, R.PAR_CTL_srst, R.PWR_ARB_STAT_queued, R.PWR_AVS_STAT_vdone, R.PWR_CAP_cap, R.PWR_PLVL_STAT_busy, R.PWR_PLVL_req,
          R.RCH_CTL_en, R.RCH_CTL_srst, R.RCH_SYNC_PAT_pattern, R.SRV_ACT_FLG_chan, R.SRV_ACT_FLG_invcnt, R.SRV_ACT_FLG_quality,
          R.SRV_ACT_FLG_reason, R.SRV_ACT_FLG_valid, R.SRV_ACT_FLG_wedge, R.SRV_ACT_POS_pos, R.SRV_CH_FLG_quality, R.SRV_CH_FLG_reason,
          R.SRV_CH_FLG_valid, R.SRV_CH_FLG_wedge, R.SRV_CH_NQ_n, R.SRV_CH_NQ_q, R.SRV_CH_PES_pes, R.SRV_CH_PES_sum, R.SRV_CH_POS_pos,
          R.SRV_CTL_act_a, R.SRV_CTL_act_b, R.SRV_CTL_en, R.SRV_CTL_srst, R.SRV_STAT_state_a, R.SRV_STAT_state_b, R.SRV_SYNC_PAT_pattern,
          R.SYS_GPIO_DIR_dir, R.SYS_GPIO_OUT_out, R.SYS_GPIO_PULL_down, R.SYS_GPIO_PULL_up, R.SYS_SLOT_USED_used, R.WCH_HL_STAT_init_done],
          blocks := [2, 37] ++ mediaBlocks, keys := s.shadowKeys } t)
  ∧ (∀ (s t : State) (bytes : List Byte), exec (.uartRecoveryImage bytes) s = .next t →
      s.onlyTouches
        { parts := Touch.seqStopParts ++ Touch.recoveryParts ++ [.cores, .dram, .drc, .flash, .gck, .geom, .holding, .hostGeomBad, .jig,
          .positions, .presence, .pwr], fields := Touch.seqStop ++ Touch.recovery ++ [R.CLE_BANK_coef, R.FRK_LOCAL_pwr_en, R.FRK_LOCAL_spin_en,
          R.GCK_PHOFS_OFS_ofs, R.GCK_PHOFS_SLOPE_slope, R.GCK_RATIO_ratio, R.HIF_MI_CFG_addr, R.HIF_PORT_CFG_clk_mode,
          R.HIF_PORT_CFG_clk_mode_ssc, R.HIF_PORT_CFG_max_rate, R.HIF_PORT_CFG_mode, R.HIF_REV_rev, R.HIF_STAT_mode, R.HQE_SCHED_CFG_max_lanes,
          R.JIG_GOLD_BASE_base, R.JIG_GOLD_BASE_half, R.JIG_GOLD_BASE_lock, R.JIG_GOLD_STAT_refused, R.JIG_IMG_GEN_generation,
          R.JIG_IMG_INFO_key_slot, R.JIG_IMG_INFO_sec_ver, R.JIG_LOAD_STAT_done, R.JIG_STAT_boot_copy, R.JIG_STAT_gold_ok, R.MSQ_CTL_en,
          R.MSQ_CTL_srst, R.OBJ_CTL_en, R.OBJ_CTL_srst, R.OBJ_RING_HEAD_head, R.OBJ_STAT_open, R.PAR_ACC_STAT_scan_busy, R.PAR_ACC_STAT_state,
          R.PAR_CTL_en, R.PAR_CTL_srst, R.PWR_ARB_STAT_queued, R.PWR_AVS_STAT_vdone, R.PWR_CAP_cap, R.PWR_PLVL_STAT_busy, R.PWR_PLVL_req,
          R.RCH_CTL_en, R.RCH_CTL_srst, R.RCH_SYNC_PAT_pattern, R.SRV_ACT_FLG_chan, R.SRV_ACT_FLG_invcnt, R.SRV_ACT_FLG_quality,
          R.SRV_ACT_FLG_reason, R.SRV_ACT_FLG_valid, R.SRV_ACT_FLG_wedge, R.SRV_ACT_POS_pos, R.SRV_CH_FLG_quality, R.SRV_CH_FLG_reason,
          R.SRV_CH_FLG_valid, R.SRV_CH_FLG_wedge, R.SRV_CH_NQ_n, R.SRV_CH_NQ_q, R.SRV_CH_PES_pes, R.SRV_CH_PES_sum, R.SRV_CH_POS_pos,
          R.SRV_CTL_act_a, R.SRV_CTL_act_b, R.SRV_CTL_en, R.SRV_CTL_srst, R.SRV_STAT_state_a, R.SRV_STAT_state_b, R.SRV_SYNC_PAT_pattern,
          R.SYS_GPIO_DIR_dir, R.SYS_GPIO_OUT_out, R.SYS_GPIO_PULL_down, R.SYS_GPIO_PULL_up, R.SYS_SLOT_USED_used, R.WCH_HL_STAT_init_done],
          blocks := [2, 37] ++ mediaBlocks, keys := s.shadowKeys } t)
  ∧ (∀ (s t : State) (who : Init) (run : BitVec 6), exec (.coreRunWrite who run) s = .next t →
      s.onlyTouches
        { parts := [.cores, .irq], fields := Touch.cfgErr ++ [R.SYS_RST_CTL_core_run] } t)
  ∧ (∀ (s t : State) (core : Fin 6), exec (.irqClaim core) s = .next t →
      s.onlyTouches
        { parts := [.irq, .reply], fields := [R.SYS_IRQ_CLAIM_source, R.SYS_IRQ_CLAIM_valid] } t)
  ∧ (∀ (s t : State) (who : Init) (core : Fin 6) (source : BitVec 8), exec (.irqComplete who core source) s = .next t →
      s.onlyTouches
        { parts := [.irq], fields := Touch.cfgErr ++ [R.SYS_IRQ_CLAIM_source, R.SYS_IRQ_CLAIM_valid] } t)
  ∧ (∀ (s t : State) (who : Init) (slot : Fin 4), exec (.keyProgramSlot who slot) s = .next t →
      s.onlyTouches
        { parts := [.irq, .jig], fields := Touch.cfgErr ++ [R.JIG_KEY_CTL_go, R.JIG_KEY_CTL_op, R.JIG_KEY_CTL_slot, R.JIG_STAT_busy] } t)
  ∧ (∀ (s t : State) (who : Init) (slot : Fin 4), exec (.keyRevokeSlot who slot) s = .next t →
      s.onlyTouches
        { parts := [.irq, .jig], fields := Touch.cfgErr ++ [R.JIG_KEY_CTL_go, R.JIG_KEY_CTL_op, R.JIG_KEY_CTL_slot, R.JIG_STAT_busy] } t)
  ∧ (∀ (s t : State) (who : Init) (slot : Fin 4), exec (.keyProgramService who slot) s = .next t →
      s.onlyTouches
        { parts := [.irq, .jig], fields := Touch.cfgErr ++ [R.JIG_KEY_CTL_go, R.JIG_KEY_CTL_op, R.JIG_KEY_CTL_slot, R.JIG_STAT_busy] } t)
  ∧ (∀ (s t : State) (ok : Bool), exec (.fuseProgramDone ok) s = .next t →
      s.onlyTouches
        { parts := [.fuses, .irq, .jig], fields := [R.JIG_KEY_STAT_programmed, R.JIG_KEY_STAT_revoked, R.JIG_KEY_STAT_svc, R.JIG_STAT_busy] } t)
  ∧ (∀ (s t : State) (who : Init) (target : BitVec 7), exec (.rollbackRaise who target) s = .next t →
      s.onlyTouches
        { parts := [.irq, .jig], fields := Touch.cfgErr ++ [R.JIG_RBK_CTL_target, R.JIG_STAT_busy] } t)
  ∧ (∀ (s t : State), exec .rollbackProgramDone s = .next t →
      s.onlyTouches
        { parts := [.fuses, .irq, .jig], fields := [R.JIG_RBK_STAT_floor, R.JIG_STAT_busy] } t)
  ∧ (∀ (s t : State) (who : Init) (type : BitVec 16) (src : Bool) (index : BitVec 12), exec (.loadSection who type src index) s = .next t →
      s.onlyTouches
        { parts := [.irq, .jig], fields := Touch.cfgErr ++ [R.JIG_LOAD_CTL_go, R.JIG_LOAD_CTL_index, R.JIG_LOAD_CTL_src, R.JIG_LOAD_CTL_type,
          R.JIG_LOAD_CTL_word, R.JIG_LOAD_STAT_err, R.JIG_STAT_busy] } t)
  ∧ (∀ (s t : State) (who : Init) (type : BitVec 16) (src : Bool) (index : BitVec 12), exec (.loadWord who type src index) s = .next t →
      s.onlyTouches
        { parts := [.irq, .jig], fields := Touch.cfgErr ++ [R.JIG_LOAD_CTL_go, R.JIG_LOAD_CTL_index, R.JIG_LOAD_CTL_src, R.JIG_LOAD_CTL_type,
          R.JIG_LOAD_CTL_word, R.JIG_LOAD_STAT_err, R.JIG_STAT_busy] } t)
  ∧ (∀ (s t : State), exec .loadDone s = .next t →
      s.onlyTouches
        { parts := Touch.seqRunParts ++ [.gck, .geom, .jig, .positions, .presence], fields := Touch.seqRun ++ [R.CLE_BANK_coef,
          R.FRK_LOCAL_pwr_en, R.FRK_LOCAL_spin_en, R.GCK_PHOFS_OFS_ofs, R.GCK_PHOFS_SLOPE_slope, R.GCK_RATIO_ratio, R.HIF_MI_CFG_addr,
          R.HIF_PORT_CFG_clk_mode, R.HIF_PORT_CFG_clk_mode_ssc, R.HIF_PORT_CFG_max_rate, R.HIF_PORT_CFG_mode, R.HIF_REV_rev, R.HIF_STAT_mode,
          R.JIG_LOAD_STAT_done, R.JIG_LOAD_STAT_err, R.JIG_STAT_busy, R.MSQ_CNT_EVT_preempts, R.MSQ_RLD_bits, R.MSQ_STAT_held,
          R.RCH_SYNC_PAT_pattern, R.SRV_SYNC_PAT_pattern, R.SYS_GPIO_DIR_dir, R.SYS_GPIO_OUT_out, R.SYS_GPIO_PULL_down, R.SYS_GPIO_PULL_up,
          R.SYS_SLOT_USED_used], blocks := [2, 24, 25, 26, 37], keys := s.shadowKeys } t)
  ∧ (∀ (s t : State) (who : Init), exec (.goldLock who) s = .next t →
      s.onlyTouches
        { parts := [.irq], fields := Touch.cfgErr ++ [R.JIG_GOLD_BASE_lock] } t)
  ∧ (∀ (s t : State) (who : Init), exec (.goldSwap who) s = .next t →
      s.onlyTouches
        { parts := [.irq, .jig], fields := Touch.cfgErr ++ [R.JIG_GOLD_BASE_swap, R.JIG_STAT_busy] } t)
  ∧ (∀ (s t : State), exec .goldSwapEffect s = .next t →
      s.onlyTouches
        { parts := [.jig], fields := [R.JIG_GOLD_BASE_half, R.JIG_GOLD_BASE_stage_lock, R.JIG_IMG_GEN_generation, R.JIG_IMG_INFO_key_slot,
          R.JIG_IMG_INFO_sec_ver, R.JIG_STAT_boot_copy, R.JIG_STAT_busy] } t)
  ∧ (∀ (s t : State), exec .goldRepairDone s = .next t →
      s.onlyTouches
        { parts := Touch.recordParts ++ [.dram, .drc, .jig], fields := Touch.record ++ [R.JIG_STAT_gold_ok] } t)
  ∧ (∀ (s t : State) (who : Init) (req : BitVec 3), exec (.lcRequest who req) s = .next t →
      s.onlyTouches
        { parts := Touch.recordParts ++ [.jig], fields := Touch.cfgErr ++ Touch.record ++ [R.JIG_LC_CTL_req, R.JIG_LC_STAT_fail_cnt,
          R.JIG_LC_STAT_result, R.JIG_STAT_busy, R.JIG_STAT_lc_state, R.JIG_STAT_lockout] } t)
  ∧ (∀ (s t : State) (who : Init), exec (.challenge who) s = .next t →
      s.onlyTouches
        { parts := [.freeCount, .irq, .jig], fields := Touch.cfgErr ++ [R.JIG_CHAL_nonce, R.JIG_LC_CTL_chal] } t)
  ∧ (∀ (s t : State), exec .nonceExpire s = .next t →
      s.onlyTouches
        { parts := [.jig] } t)
  ∧ (∀ (s t : State) (ok : Bool), exec (.lcTransitionDone ok) s = .next t →
      s.onlyTouches
        { parts := [.freeCount, .fuses, .hostC0, .hostC1, .hostCtxs, .irq, .jig], fields := [R.JIG_LC_STAT_result, R.JIG_STAT_busy,
          R.JIG_STAT_lc_state] } t)
  ∧ (∀ (s t : State) (ctx : Fin 16384), exec (.firmwareImageDownload ctx) s = .next t →
      s.onlyTouches
        { parts := [.dram, .drc, .hostCtxs, .irq], fields := [R.JIG_GOLD_STAT_refused] } t)
  ∧ (∀ (s t : State) (ctx : Fin 16384), exec (.fwCommitReplace ctx) s = .next t →
      s.onlyTouches
        { parts := [.flash, .hostActivation, .hostC0, .hostC1, .hostCtxs, .hostPendingCommit], fields := [R.HQE_CTL_fetch0, R.HQE_CTL_fetch1,
          R.HQE_STAT_fetching, R.JIG_GOLD_BASE_stage_lock] } t)
  ∧ (∀ (s t : State) (ctx : Fin 16384), exec (.fwCommitReplaceActivate ctx) s = .next t →
      s.onlyTouches
        { parts := [.flash, .hostActivation, .hostC0, .hostC1, .hostCtxs, .hostPendingCommit], fields := [R.HQE_CTL_fetch0, R.HQE_CTL_fetch1,
          R.HQE_STAT_fetching, R.JIG_GOLD_BASE_stage_lock] } t)
  ∧ (∀ (s t : State) (ctx : Fin 16384), exec (.fwCommitActivate ctx) s = .next t →
      s.onlyTouches
        { parts := [.flash, .hostActivation, .hostC0, .hostC1, .hostCtxs, .hostPendingCommit], fields := [R.HQE_CTL_fetch0, R.HQE_CTL_fetch1,
          R.HQE_STAT_fetching, R.JIG_GOLD_BASE_stage_lock] } t)
  ∧ (∀ (s t : State) (ctx : Fin 16384), exec (.fwCommitImmediate ctx) s = .next t →
      s.onlyTouches
        { parts := [.flash, .hostActivation, .hostC0, .hostC1, .hostCtxs, .hostPendingCommit], fields := [R.HQE_CTL_fetch0, R.HQE_CTL_fetch1,
          R.HQE_STAT_fetching, R.JIG_GOLD_BASE_stage_lock] } t)
  ∧ (∀ (s t : State), exec .activationDrainDeadline s = .next t →
      s.onlyTouches
        { parts := [.hostActivation, .hostClamps, .hostCmds, .hostCtxs, .hostKv, .hostPend, .hostReady, .hostUnits, .hostZones, .irq],
          fields := Touch.clamp ++ [R.HQE_CNT_DISC_count, R.HQE_STAT_ctx_used, R.PWR_IDLE_STAT_count] } t)
  ∧ (∀ (s t : State), exec .activationFlushDone s = .next t →
      s.onlyTouches
        { parts := [.flash, .hostActivation] } t)
  ∧ (∀ (s t : State), exec .activationFlushDeadline s = .next t →
      s.onlyTouches
        { parts := [.hostActivation, .hostC0, .hostC1, .hostClamps, .hostCmds, .hostCtxs, .hostKv, .hostPend, .hostReady, .hostUnits,
          .hostZones, .irq], fields := Touch.clamp ++ [R.HQE_CNT_DISC_count, R.HQE_CTL_fetch0, R.HQE_CTL_fetch1, R.HQE_STAT_ctx_used,
          R.HQE_STAT_fetching, R.JIG_GOLD_BASE_stage_lock, R.PWR_IDLE_STAT_count] } t)
  ∧ (∀ (s t : State), exec .activationResume s = .next t →
      s.onlyTouches
        { parts := Touch.seqRunParts ++ [.combine, .cores, .gck, .geom, .holding, .hostActivation, .hostChangedNs, .hostClamps, .hostHeads,
          .hostKv, .hostPendingCommit, .hostReady, .jig, .positions, .presence, .pwr], blocks := List.range 38 } t)
  ∧ (∀ (s t : State) (who : Init) (n : BitVec 2), exec (.levelRequest who n) s = .next t →
      s.onlyTouches
        { parts := [.freeCount, .irq, .pwr], fields := Touch.cfgErr ++ [R.PWR_ARB_STAT_queued, R.PWR_AVS_STAT_vdone, R.PWR_PLVL_STAT_busy,
          R.PWR_PLVL_req] } t)
  ∧ (∀ (s t : State) (vdone : Bool) (mv : BitVec 12), exec (.avsStatusPoll vdone mv) s = .next t →
      s.onlyTouches
        { parts := [.cores, .freeCount, .irq, .pwr], fields := [R.PWR_ARB_STAT_queued, R.PWR_AVS_STAT_mv, R.PWR_AVS_STAT_vdone,
          R.PWR_PLVL_STAT_busy, R.PWR_PLVL_STAT_fail] } t)
  ∧ (∀ (s t : State), exec .avsTimeout s = .next t →
      s.onlyTouches
        { parts := Touch.recordParts ++ [.cores, .pwr], fields := Touch.record ++ [R.PWR_ARB_STAT_queued, R.PWR_AVS_STAT_vdone,
          R.PWR_PLVL_STAT_busy, R.PWR_PLVL_STAT_fail] } t)
  ∧ (∀ (s t : State), exec .clockSwitchDone s = .next t →
      s.onlyTouches
        { parts := [.cores, .freeCount, .irq, .pwr], fields := [R.PWR_ARB_STAT_queued, R.PWR_AVS_STAT_vdone, R.PWR_PLVL_STAT_busy,
          R.PWR_PLVL_STAT_cur, R.PWR_PLVL_STAT_fail] } t)
  ∧ (∀ (s t : State) (who : Init) (target : BitVec 2) (inL2 : BitVec 2), exec (.sleepGo who target inL2) s = .next t →
      s.onlyTouches
        { parts := [.irq, .pwr], fields := Touch.cfgErr ++ [R.PWR_SLEEP_CTL_go, R.PWR_SLEEP_CTL_target, R.PWR_SLEEP_STAT_phase,
          R.PWR_SLEEP_STAT_votes] } t)
  ∧ (∀ (s t : State) (voter : Fin 11) (inL2 : BitVec 2), exec (.voteYes voter inL2) s = .next t →
      s.onlyTouches
        { parts := Touch.recordParts ++ [.pwr], fields := Touch.token ++ Touch.record ++ [R.BUF_STAT_draining, R.FRK_STAT_addr,
          R.FRK_STAT_bypass, R.FRK_STAT_in_lock, R.FRK_STAT_state, R.FRK_TOK_STAT_local, R.PWR_CNT_aborts, R.PWR_SLEEP_STAT_abort_by,
          R.PWR_SLEEP_STAT_phase, R.PWR_SLEEP_STAT_votes] } t)
  ∧ (∀ (s t : State), exec .commitDone s = .next t →
      s.onlyTouches
        { parts := Touch.seqStopParts ++ [.buf, .combine, .cores, .drc, .frk, .gck, .holding, .hostClamps, .hostCtxs, .hostObjUe, .hostPend,
          .hostPosted, .hostReady, .pwr, .spm, .sram], fields := [R.BUF_SPAD_ways, R.PWR_AON_STAT_dol_exit, R.PWR_ARB_STAT_queued,
          R.PWR_CNT_entries, R.PWR_SLEEP_STAT_phase, R.PWR_WAKE_SRC_src, R.RCH_CMB_STAT_used], blocks := 34 :: s.calmOff } t)
  ∧ (∀ (s t : State) (voter : Fin 11) (inL2 : BitVec 2), exec (.voteWithdrawal voter inL2) s = .next t →
      s.onlyTouches
        { parts := Touch.recordParts ++ [.pwr], fields := Touch.record ++ [R.PWR_ARB_STAT_queued, R.PWR_AVS_STAT_vdone, R.PWR_CNT_aborts,
          R.PWR_PLVL_STAT_busy, R.PWR_SLEEP_STAT_abort_by, R.PWR_SLEEP_STAT_phase, R.PWR_SLEEP_STAT_votes] } t)
  ∧ (∀ (s t : State), exec .prepareTimeout s = .next t →
      s.onlyTouches
        { parts := Touch.recordParts ++ [.pwr], fields := Touch.record ++ [R.PWR_ARB_STAT_queued, R.PWR_AVS_STAT_vdone, R.PWR_CNT_aborts,
          R.PWR_PLVL_STAT_busy, R.PWR_SLEEP_STAT_abort_by, R.PWR_SLEEP_STAT_phase, R.PWR_SLEEP_STAT_votes] } t)
  ∧ (∀ (s t : State), exec .voterRelease s = .next t →
      s.onlyTouches
        { parts := Touch.recordParts ++ [.pwr], fields := Touch.record ++ [R.PWR_ARB_STAT_queued, R.PWR_AVS_STAT_vdone, R.PWR_PLVL_STAT_busy,
          R.PWR_SLEEP_STAT_votes] } t)
  ∧ (∀ (s t : State), exec .backoffEnd s = .next t →
      s.onlyTouches
        { fields := [R.PWR_SLEEP_STAT_phase] } t)
  ∧ (∀ (s t : State) (src : Option (Fin 8)), exec (.wakeEvent src) s = .next t →
      s.onlyTouches
        { parts := [.freeCount, .hostC0, .hostC1, .pwr], fields := [R.PWR_AON_STAT_dol_exit, R.PWR_ARB_STAT_queued, R.PWR_SLEEP_STAT_phase,
          R.PWR_WAKE_SRC_src] } t)
  ∧ (∀ (s t : State), exec .sleepExitDone s = .next t →
      s.onlyTouches
        { parts := [.cores, .drc, .freeCount, .irq, .pwr], fields := [R.PWR_AON_STAT_calm_exit, R.PWR_ARB_STAT_queued, R.PWR_AVS_STAT_vdone,
          R.PWR_DT_Q_frac, R.PWR_DT_Q_q, R.PWR_DT_dt, R.PWR_PLVL_STAT_busy, R.PWR_SLEEP_STAT_phase, R.PWR_SLEEP_STAT_votes] } t)
  ∧ (∀ (s t : State) (ns : BitVec 32), exec (.aonEdge ns) s = .next t →
      s.onlyTouches
        { parts := [.copy, .pwr, .shadows], fields := [R.EVR_STAT_in_use, R.PWR_DT_Q_frac, R.PWR_DT_Q_q, R.PWR_DT_dt, R.PWR_PMB_CMD_busy],
          keys := s.shadowKeys } t)
  ∧ (∀ (s t : State), exec .aonAlarm s = .next t →
      s.onlyTouches
        { parts := [.freeCount, .pwr], fields := [R.PWR_AON_STAT_dol_exit, R.PWR_ARB_STAT_queued, R.PWR_SLEEP_STAT_phase, R.PWR_WAKE_SRC_src] } t)
  ∧ (∀ (s t : State) (k : Fin 3), exec (.idleThreshold k) s = .next t →
      s.onlyTouches
        { parts := [.irq], fields := [R.PWR_IDLE_STAT_count, R.PWR_IDLE_STAT_reached] } t)
  ∧ (∀ (s t : State) (who : Init) (rail : BitVec 2) (ma : BitVec 16), exec (.arbRequest who rail ma) s = .next t →
      s.onlyTouches
        { parts := [.irq, .pwr], fields := Touch.cfgErr ++ [R.PWR_ARB_REQ_go, R.PWR_ARB_REQ_granted, R.PWR_ARB_REQ_ma, R.PWR_ARB_REQ_rail,
          R.PWR_ARB_STAT_queued] } t)
  ∧ (∀ (s t : State), exec .arbiterAdmit s = .next t →
      s.onlyTouches
        { parts := Touch.spindleParts ++ [.cle], fields := Touch.spindle ++ [R.PWR_ARB_REQ_granted, R.PWR_ARB_STAT_over, R.SPM_ANGLE_theta,
          R.SPM_IDREF_id_ref] } t)
  ∧ (∀ (s t : State), exec .powerEstimate s = .next t →
      s.onlyTouches
        { parts := [.freeCount, .irq, .pwr], fields := [R.PWR_EST_mw, R.PWR_EST_over] } t)
  ∧ (∀ (s t : State) (who : Init) (read : Bool) (addr : BitVec 7) (cmd : BitVec 8), exec (.pmbusCommand who read addr cmd) s = .next t →
      s.onlyTouches
        { parts := [.irq], fields := Touch.cfgErr ++ [R.PWR_PMB_CMD_addr, R.PWR_PMB_CMD_busy, R.PWR_PMB_CMD_cmd, R.PWR_PMB_CMD_go,
          R.PWR_PMB_CMD_read] } t)
  ∧ (∀ (s t : State) (nack : Bool) (data : BitVec 16), exec (.pmbusDone nack data) s = .next t →
      s.onlyTouches
        { parts := [.irq], fields := [R.PWR_PMB_CMD_busy, R.PWR_PMB_DATA_data, R.PWR_PMB_DATA_nack] } t)
  ∧ (∀ (s t : State) (conv : List (Option Int)), exec (.thmConversion conv) s = .next t →
      s.onlyTouches
        { parts := Touch.seqStopParts ++ Touch.recordParts ++ [.hostActivation, .hostThrottled, .thm], fields := Touch.seqStop ++ Touch.calEnd ++
          [R.THM_AON_STAT_sd_cause, R.THM_CNT_fault, R.THM_CNT_levels, R.THM_DIODE_open, R.THM_DIODE_valid, R.THM_DIODE_value, R.THM_MAX_sensor,
          R.THM_MAX_tmax, R.THM_RISE_fast, R.THM_RISE_slow, R.THM_SENS_valid, R.THM_SENS_value, R.THM_STAT_flash, R.THM_STAT_sd_cause,
          R.THM_STAT_sd_sensor, R.THM_STAT_sd_seq, R.THM_STAT_warn, R.THM_THR_STAT_level], keys := s.shadowKeys } t)
  ∧ (∀ (s t : State) (who : Init), exec (.thmShutdownRequest who) s = .next t →
      s.onlyTouches
        { parts := Touch.seqStopParts ++ Touch.recordParts ++ [.hostActivation, .thm], fields := Touch.seqStop ++ Touch.calEnd ++ Touch.cfgErr ++
          [R.THM_AON_STAT_sd_cause, R.THM_CTL_sd_req, R.THM_STAT_flash, R.THM_STAT_sd_cause, R.THM_STAT_sd_sensor, R.THM_STAT_sd_seq],
          keys := s.shadowKeys } t)
  ∧ (∀ (s t : State), exec .sensorTimeout s = .next t →
      s.onlyTouches
        { parts := Touch.seqStopParts ++ Touch.recordParts ++ [.hostActivation, .thm], fields := Touch.seqStop ++ Touch.calEnd ++
          [R.THM_AON_STAT_sd_cause, R.THM_STAT_flash, R.THM_STAT_sd_cause, R.THM_STAT_sd_sensor, R.THM_STAT_sd_seq], keys := s.shadowKeys } t)
  ∧ (∀ (s t : State), exec .shutdownRetract s = .next t →
      s.onlyTouches
        { parts := Touch.gaugeParts ++ [.gck, .thm], fields := Touch.gauge ++ Touch.actuator ++ [R.GCK_STAT_prim_fly, R.GCK_STAT_spare_fly,
          R.GCK_STAT_spare_ok], keys := s.shadowKeys } t)
  ∧ (∀ (s t : State), exec .shutdownLatch s = .next t →
      s.onlyTouches
        { parts := Touch.gaugeParts ++ Touch.recoveryParts ++ [.dram, .drc, .holding, .par, .pwr, .spm], fields := Touch.seqStop ++ Touch.spindle
          ++ Touch.recovery ++ [R.JIG_GOLD_STAT_refused, R.MSQ_CTL_en, R.MSQ_CTL_srst, R.OBJ_CTL_en, R.OBJ_CTL_srst, R.OBJ_RING_HEAD_head,
          R.OBJ_STAT_open, R.PAR_ACC_STAT_scan_busy, R.PAR_ACC_STAT_state, R.PAR_CTL_en, R.PAR_CTL_srst, R.RCH_CTL_en, R.RCH_CTL_srst,
          R.SPM_STAT_pending, R.SRV_ACT_FLG_chan, R.SRV_ACT_FLG_invcnt, R.SRV_ACT_FLG_quality, R.SRV_ACT_FLG_reason, R.SRV_ACT_FLG_valid,
          R.SRV_ACT_FLG_wedge, R.SRV_ACT_POS_pos, R.SRV_CH_FLG_quality, R.SRV_CH_FLG_reason, R.SRV_CH_FLG_valid, R.SRV_CH_FLG_wedge,
          R.SRV_CH_NQ_n, R.SRV_CH_NQ_q, R.SRV_CH_PES_pes, R.SRV_CH_PES_sum, R.SRV_CH_POS_pos, R.SRV_CTL_act_a, R.SRV_CTL_act_b, R.SRV_CTL_en,
          R.SRV_CTL_srst, R.SRV_STAT_state_a, R.SRV_STAT_state_b, R.THM_AON_STAT_sd, R.THM_AON_STAT_sd_cause, R.THM_STAT_latched,
          R.THM_STAT_retracted, R.THM_STAT_sd_seq, R.WCH_HL_STAT_init_done], blocks := mediaBlocks, keys := s.shadowKeys } t)
  ∧ (∀ (s t : State) (d : Fin 2) (ok suspended : Bool), exec (.flashOpEnd d ok suspended) s = .next t →
      s.onlyTouches
        { parts := Touch.recordParts, fields := Touch.record ++ [R.EVR_CNT_fail, R.EVR_FLASH_POS_pos, R.EVR_STAT_in_use, R.EVR_STAT_store_fail,
          R.THM_STAT_flash] } t)
  ∧ (∀ (s t : State) (d : Fin 2), exec (.flashOpAbandon d) s = .next t →
      s.onlyTouches
        { parts := [.evr, .freeCount], fields := [R.THM_STAT_flash] } t)
  ∧ (∀ (s t : State), exec .squallDetect s = .next t →
      s.onlyTouches
        { parts := Touch.gaugeParts ++ [.evr, .frk, .gck, .hostActivation, .par, .pwr, .rch, .spm, .thm], fields := Touch.seqStop ++
          Touch.spindle ++ Touch.calEnd ++ Touch.gauge ++ Touch.actuator ++ [R.GCK_STAT_prim_fly, R.GCK_STAT_spare_fly, R.GCK_STAT_spare_ok,
          R.SPM_IDREF_id_ref, R.THM_AON_STAT_sq, R.THM_CNT_squalls, R.THM_STAT_squall], keys := s.shadowKeys } t)
  ∧ (∀ (s t : State), exec .squallRetracted s = .next t →
      s.onlyTouches
        { parts := [.irq, .spm, .thm], fields := [R.THM_STAT_retracted] } t)
  ∧ (∀ (s t : State), exec .squallRestored s = .next t →
      s.onlyTouches
        { parts := [.irq], fields := [R.THM_STAT_restored] } t)
  ∧ (∀ (s t : State) (who : Init) (srst en : Bool), exec (.frkEnableWrite who srst en) s = .next t →
      s.onlyTouches
        { parts := [.copy, .freeCount, .frk, .holding, .irq, .pwr, .shadows], fields := Touch.token ++ Touch.cfgErr ++ [R.FRK_CTL_en,
          R.FRK_CTL_srst, R.FRK_STAT_addr, R.FRK_STAT_bypass, R.FRK_STAT_in_lock, R.FRK_STAT_state, R.FRK_TOK_STAT_local], blocks := [36] } t)
  ∧ (∀ (s t : State), exec .ringLock s = .next t →
      s.onlyTouches
        { parts := [.frk, .irq], fields := [R.FRK_STAT_bypass, R.FRK_STAT_in_lock, R.FRK_STAT_state, R.FRK_TOK_STAT_local] } t)
  ∧ (∀ (s t : State), exec .listenTimeout s = .next t →
      s.onlyTouches
        { parts := [.irq], fields := [R.FRK_STAT_bypass, R.FRK_STAT_state, R.FRK_TOK_STAT_local] } t)
  ∧ (∀ (s t : State), exec .beaconLost s = .next t →
      s.onlyTouches
        { parts := [.frk, .irq], fields := [R.FRK_STAT_state, R.FRK_TOK_STAT_local] } t)
  ∧ (∀ (s t : State), exec .soloTimeout s = .next t →
      s.onlyTouches
        { parts := [.freeCount, .frk, .irq, .pwr], fields := [R.FRK_STAT_state, R.FRK_TOK_STAT_local, R.FRK_TOK_STAT_pwr, R.FRK_TOK_STAT_pwr_q,
          R.FRK_TOK_STAT_spin_q, R.HQE_SCHED_CFG_max_lanes, R.PWR_ARB_STAT_queued, R.PWR_AVS_STAT_vdone, R.PWR_CAP_cap, R.PWR_PLVL_STAT_busy,
          R.PWR_PLVL_req, R.SPM_TOK_held] } t)
  ∧ (∀ (s t : State), exec .ringLockLost s = .next t →
      s.onlyTouches
        { parts := [.irq], fields := [R.FRK_STAT_in_lock] } t)
  ∧ (∀ (s t : State), exec .brkTick s = .next t →
      s.onlyTouches
        { parts := [.frk] } t)
  ∧ (∀ (s t : State), exec .beaconSend s = .next t →
      s.onlyTouches
        { parts := [.freeCount, .frk] } t)
  ∧ (∀ (s t : State) (f : RingFrame) (crcOk : Bool) (residence : BitVec 32), exec (.frameForward f crcOk residence) s = .next t →
      s.onlyTouches
        { parts := [.frk, .irq], fields := [R.FRK_CNT_crc] } t)
  ∧ (∀ (s t : State) (f : RingFrame) (ns loopNs : BitVec 32) (outranks : Bool), exec (.frameBcn f ns loopNs outranks) s = .next t →
      s.onlyTouches
        { parts := Touch.recordParts ++ [.pwr], fields := Touch.record ++ [R.FRK_CNT_crc, R.FRK_STAT_addr, R.FRK_STAT_nodes, R.FRK_STAT_state,
          R.FRK_TB_STAT_offset, R.FRK_TB_STAT_sync, R.FRK_TOK_STAT_local, R.FRK_TOK_STAT_pwr_held, R.FRK_TOK_STAT_spin_held, R.PWR_DT_Q_q,
          R.PWR_DT_dt] } t)
  ∧ (∀ (s t : State), exec .beaconSyncTimeout s = .next t →
      s.onlyTouches
        { parts := [.frk, .irq, .pwr], fields := [R.FRK_TB_STAT_sync] } t)
  ∧ (∀ (s t : State) (f : RingFrame), exec (.frameEnum f) s = .next t →
      s.onlyTouches
        { parts := Touch.recordParts ++ [.pwr], fields := Touch.token ++ Touch.record ++ [R.FRK_CNT_crc, R.FRK_CNT_reenum, R.FRK_STAT_nodes,
          R.FRK_STAT_state, R.FRK_TOK_STAT_local] } t)
  ∧ (∀ (s t : State) (f : RingFrame) (loop : BitVec 8), exec (.frameElect f loop) s = .next t →
      s.onlyTouches
        { parts := [.frk, .irq], fields := [R.FRK_CNT_crc, R.FRK_STAT_addr, R.FRK_STAT_state, R.FRK_TOK_STAT_local] } t)
  ∧ (∀ (s t : State) (f : RingFrame), exec (.frameJoin f) s = .next t →
      s.onlyTouches
        { parts := [.frk, .irq], fields := [R.FRK_CNT_crc] } t)
  ∧ (∀ (s t : State) (f : RingFrame), exec (.frameLeave f) s = .next t →
      s.onlyTouches
        { parts := [.frk, .irq], fields := [R.FRK_CNT_crc] } t)
  ∧ (∀ (s t : State) (f : RingFrame), exec (.frameReq f) s = .next t →
      s.onlyTouches
        { parts := [.freeCount, .frk, .irq, .pwr], fields := Touch.token ++ [R.FRK_CNT_crc] } t)
  ∧ (∀ (s t : State) (f : RingFrame), exec (.frameGrant f) s = .next t →
      s.onlyTouches
        { parts := [.freeCount, .frk, .irq, .pwr], fields := Touch.token ++ [R.FRK_CNT_crc] } t)
  ∧ (∀ (s t : State) (f : RingFrame), exec (.frameRel f) s = .next t →
      s.onlyTouches
        { parts := [.freeCount, .frk, .irq, .pwr], fields := Touch.token ++ [R.FRK_CNT_crc] } t)
  ∧ (∀ (s t : State) (f : RingFrame), exec (.frameRevoke f) s = .next t →
      s.onlyTouches
        { parts := [.freeCount, .frk, .irq, .pwr], fields := Touch.token ++ [R.FRK_CNT_crc] } t)
  ∧ (∀ (s t : State) (f : RingFrame), exec (.frameTokrpt f) s = .next t →
      s.onlyTouches
        { parts := [.freeCount, .frk, .irq, .pwr], fields := Touch.token ++ [R.FRK_CNT_crc] } t)
  ∧ (∀ (s t : State) (f : RingFrame), exec (.frameEvt f) s = .next t →
      s.onlyTouches
        { parts := [.dram, .drc, .frk, .irq], fields := [R.FRK_CNT_crc, R.FRK_RX_TAIL_tail, R.JIG_GOLD_STAT_refused] } t)
  ∧ (∀ (s t : State) (f : RingFrame), exec (.frameMbx f) s = .next t →
      s.onlyTouches
        { parts := [.dram, .drc, .frk, .irq], fields := [R.FRK_CNT_crc, R.FRK_RX_TAIL_tail, R.JIG_GOLD_STAT_refused] } t)
  ∧ (∀ (s t : State) (f : RingFrame), exec (.frameAck f) s = .next t →
      s.onlyTouches
        { parts := [.frk, .irq], fields := [R.FRK_CNT_crc, R.FRK_TX_CTL_busy, R.FRK_TX_CTL_status] } t)
  ∧ (∀ (s t : State) (f : RingFrame), exec (.frameNak f) s = .next t →
      s.onlyTouches
        { parts := Touch.recordParts ++ [.pwr], fields := Touch.token ++ Touch.record ++ [R.FRK_CNT_crc, R.FRK_TX_CTL_busy, R.FRK_TX_CTL_status]
          } t)
  ∧ (∀ (s t : State) (f : RingFrame), exec (.frameBrk f) s = .next t →
      s.onlyTouches
        { parts := [.frk, .irq], fields := [R.FRK_CNT_crc, R.FRK_STAT_brk_at] } t)
  ∧ (∀ (s t : State) (seq : BitVec 16), exec (.grantAckTimeout seq) s = .next t →
      s.onlyTouches
        { parts := Touch.recordParts ++ [.pwr], fields := Touch.token ++ Touch.record ++ [R.FRK_TX_CTL_busy, R.FRK_TX_CTL_status] } t)
  ∧ (∀ (s t : State) (seq : BitVec 16), exec (.frameRetryTimer seq) s = .next t →
      s.onlyTouches
        { parts := Touch.recordParts ++ [.pwr], fields := Touch.token ++ Touch.record ++ [R.FRK_TX_CTL_busy, R.FRK_TX_CTL_status] } t)
  ∧ (∀ (s t : State) (k : TokKind), exec (.tokenLeaseExpire k) s = .next t →
      s.onlyTouches
        { parts := [.freeCount, .frk, .irq, .pwr], fields := Touch.token } t)
  ∧ (∀ (s t : State) (uid : BitVec 64) (k : TokKind), exec (.cabinetLeaseFree uid k) s = .next t →
      s.onlyTouches
        { parts := [.freeCount, .frk, .irq, .pwr], fields := Touch.token } t)
  ∧ (∀ (s t : State) (uid : BitVec 64), exec (.spinLeaseExpire uid) s = .next t →
      s.onlyTouches
        { parts := [.freeCount, .frk, .irq, .pwr], fields := Touch.token } t)
  ∧ (∀ (s t : State), exec .censusTimeout s = .next t →
      s.onlyTouches
        { parts := [.freeCount, .frk, .irq, .pwr], fields := Touch.token } t)
  ∧ (∀ (s t : State) (who : Init), exec (.tokReqSpin who) s = .next t →
      s.onlyTouches
        { parts := [.freeCount, .frk, .irq, .pwr], fields := Touch.token ++ Touch.cfgErr ++ [R.FRK_TOK_CTL_req_spin] } t)
  ∧ (∀ (s t : State) (who : Init), exec (.tokReqPwr who) s = .next t →
      s.onlyTouches
        { parts := [.freeCount, .frk, .irq, .pwr], fields := Touch.token ++ Touch.cfgErr ++ [R.FRK_TOK_CTL_req_pwr] } t)
  ∧ (∀ (s t : State) (who : Init), exec (.tokRelPwr who) s = .next t →
      s.onlyTouches
        { parts := [.freeCount, .frk, .irq, .pwr], fields := Touch.token ++ Touch.cfgErr ++ [R.FRK_TOK_CTL_rel_pwr] } t)
  ∧ (∀ (s t : State) (who : Init), exec (.tokCancelSpin who) s = .next t →
      s.onlyTouches
        { parts := [.freeCount, .frk, .irq, .pwr], fields := Touch.token ++ Touch.cfgErr ++ [R.FRK_TOK_CTL_cancel_spin] } t)
  ∧ (∀ (s t : State) (who : Init), exec (.tokCancelPwr who) s = .next t →
      s.onlyTouches
        { parts := [.freeCount, .frk, .irq, .pwr], fields := Touch.token ++ Touch.cfgErr ++ [R.FRK_TOK_CTL_cancel_pwr] } t)
  ∧ (∀ (s t : State) (who : Init) (k : TokKind) (v : BitVec 8), exec (.budgetLower who k v) s = .next t →
      s.onlyTouches
        { parts := [.freeCount, .frk, .irq, .pwr], fields := Touch.token ++ Touch.cfgErr ++ [R.FRK_TOK_CFG_pwr_max, R.FRK_TOK_CFG_spin_max] } t)
  ∧ (∀ (s t : State) (who : Init), exec (.mbxSend who) s = .next t →
      s.onlyTouches
        { parts := [.freeCount, .frk, .irq], fields := Touch.cfgErr ++ [R.FRK_TX_CTL_busy, R.FRK_TX_CTL_go, R.FRK_TX_CTL_status] } t)
  ∧ (∀ (s t : State) (who : Init) (inst : BitVec 5), exec (.calRunGo who inst) s = .next t →
      s.onlyTouches
        { parts := Touch.recordParts, fields := Touch.calEnd ++ Touch.cfgErr ++ [R.CAL_RUN_go, R.CAL_RUN_inst, R.CAL_STAT_inst] } t)
  ∧ (∀ (s t : State) (who : Init) (us : BitVec 32) (value : BitVec 64), exec (.calRunAbort who us value) s = .next t →
      s.onlyTouches
        { parts := [.evr, .frk, .hostC0, .hostC1, .hostCtxs, .irq], fields := Touch.calEnd ++ Touch.cfgErr ++ [R.CAL_RUN_abort] } t)
  ∧ (∀ (s t : State) (us : BitVec 32) (vals : List (BitVec 16)), exec (.calMeasureDone us vals) s = .next t →
      s.onlyTouches
        { parts := [.evr, .frk, .hostC0, .hostC1, .hostCtxs, .irq], fields := Touch.calEnd ++ [R.CAL_CNT_count, R.CAL_LAST_HI_dt,
          R.CAL_LAST_LO_dt, R.CAL_TRIM_active] } t)
  ∧ (∀ (s t : State) (quiet : Bool) (us : BitVec 32) (value : BitVec 64), exec (.calPrecondFail quiet us value) s = .next t →
      s.onlyTouches
        { parts := [.evr, .frk, .hostC0, .hostC1, .hostCtxs, .irq], fields := Touch.calEnd } t)
  ∧ (∀ (s t : State) (who : Init) (inst : BitVec 5), exec (.calStrobeRequest who inst) s = .next t →
      s.onlyTouches
        { parts := [.irq], fields := Touch.cfgErr ++ [R.CAL_CNT_count, R.CAL_LAST_HI_dt, R.CAL_LAST_LO_dt, R.CAL_PEND_pend, R.CAL_STAT_busy,
          R.CAL_STAT_code, R.CAL_STROBE_go, R.CAL_STROBE_inst, R.CAL_TRIM_active] } t)
  ∧ (∀ (s t : State) (inst : BitVec 5), exec (.trimStrobe inst) s = .next t →
      s.onlyTouches
        { parts := Touch.recordParts, fields := Touch.calEnd ++ [R.CAL_CNT_count, R.CAL_LAST_HI_dt, R.CAL_LAST_LO_dt, R.CAL_TRIM_active] } t)
  ∧ (∀ (s t : State) (who : Init) (srst : Bool), exec (.calDisable who srst) s = .next t →
      s.onlyTouches
        { parts := Touch.recordParts ++ [.cal, .copy, .holding, .shadows], fields := Touch.calEnd ++ [R.CAL_CNT_count, R.CAL_CTL_en,
          R.CAL_CTL_srst, R.CAL_LAST_HI_dt, R.CAL_LAST_LO_dt, R.CAL_PMON_ref, R.CAL_TRIM_active], blocks := [5] } t)
  ∧ (∀ (s t : State) (m : Fin 9) (raw : BitVec 16), exec (.vmonConversion m raw) s = .next t →
      s.onlyTouches
        { parts := [.cal, .freeCount, .irq], fields := [R.CAL_CNT_EVT_vmon, R.CAL_VMON_STAT_in3, R.CAL_VMON_STAT_out, R.CAL_VMON_mv] } t)
  ∧ (∀ (s t : State) (mhz : List (BitVec 16)), exec (.pmonCount mhz) s = .next t →
      s.onlyTouches
        { fields := [R.CAL_PMON_mhz] } t)
  ∧ (∀ (s t : State) (who : Init) (c : Fin 6) (code : BitVec 16) (sev : BitVec 3) (source : BitVec 8), exec (.eventPost who c code sev source) s = .next t →
      s.onlyTouches
        { parts := [.evr, .frk, .hostC0, .hostC1, .hostCtxs, .irq], fields := Touch.cfgErr ++ Touch.record ++ [R.EVR_POST_CTL_code,
          R.EVR_POST_CTL_sev] } t)
  ∧ (∀ (s t : State), exec .aonRingWriteDrop s = .next t →
      s.onlyTouches
        { parts := [.irq], fields := [R.EVR_CNT_dropped] } t)
  ∧ (∀ (s t : State) (d : Fin 2), exec (.flashPageProgram d) s = .next t →
      s.onlyTouches
        { parts := [.evr] } t)
  ∧ (∀ (s t : State) (d : Fin 2), exec (.flashFlushTimer d) s = .next t →
      s.onlyTouches
        { parts := [.evr] } t)
  ∧ (∀ (s t : State) (d : Fin 2) (ok : Bool), exec (.flashProgramDone d ok) s = .next t →
      s.onlyTouches
        { parts := Touch.recordParts, fields := Touch.record ++ [R.EVR_CNT_fail, R.EVR_FLASH_POS_pos, R.EVR_STAT_clearing, R.EVR_STAT_in_use,
          R.EVR_STAT_store_fail] } t)
  ∧ (∀ (s t : State) (d : Fin 2), exec (.flashProgramTimeout d) s = .next t →
      s.onlyTouches
        { parts := Touch.recordParts, fields := Touch.record ++ [R.EVR_CNT_fail, R.EVR_STAT_clearing, R.EVR_STAT_in_use, R.EVR_STAT_store_fail] } t)
  ∧ (∀ (s t : State), exec .mediaStoreAge s = .next t →
      s.onlyTouches
        { parts := [.irq] } t)
  ∧ (∀ (s t : State) (who : Init), exec (.evrMediaFail who) s = .next t →
      s.onlyTouches
        { parts := Touch.recordParts, fields := Touch.cfgErr ++ Touch.record ++ [R.EVR_CNT_fail, R.EVR_STAT_in_use, R.EVR_STAT_store_fail,
          R.EVR_STORE_CTL_mfail] } t)
  ∧ (∀ (s t : State) (who : Init) (bits : BitVec 3), exec (.evrStoreRetry who bits) s = .next t →
      s.onlyTouches
        { parts := [.evr, .frk, .hostC0, .hostC1, .hostCtxs, .irq], fields := Touch.cfgErr ++ Touch.record ++ [R.EVR_STAT_in_use,
          R.EVR_STAT_store_fail, R.EVR_STORE_CTL_retry] } t)
  ∧ (∀ (s t : State) (who : Init), exec (.evrEnable who) s = .next t →
      s.onlyTouches
        { parts := [.irq], fields := Touch.cfgErr ++ [R.EVR_CTL_en, R.EVR_STAT_in_use] } t)
  ∧ (∀ (s t : State) (who : Init) (media : Option Word), exec (.logClear who media) s = .next t →
      s.onlyTouches
        { parts := Touch.recordParts, fields := Touch.cfgErr ++ Touch.record ++ [R.EVR_CLR_go, R.EVR_STAT_clearing] } t)
  ∧ (∀ (s t : State), exec .logClearDone s = .next t →
      s.onlyTouches
        { parts := [.evr, .irq], fields := [R.EVR_STAT_clearing] } t)
  ∧ (∀ (s t : State) (who : Init) (mode : Bool) (target : BitVec 5), exec (.bistRunGo who mode target) s = .next t →
      s.onlyTouches
        { parts := [.act, .bistFull, .buf, .cle, .combine, .copy, .drc, .frk, .gck, .holding, .hostClamps, .hostCtxs, .hostObjUe, .hostPend,
          .hostPosted, .hostReady, .irq, .isolated, .msq, .par, .rch, .shadows, .spm, .srv, .wch], fields := Touch.cfgErr ++ [R.BST_RUN_go,
          R.BST_RUN_mode, R.BST_RUN_target, R.BST_STAT_busy, R.BST_STAT_code, R.BST_STAT_target, R.RCH_CMB_STAT_used],
          blocks := bstBlocks target.toNat } t)
  ∧ (∀ (s t : State) (who : Init), exec (.bistAbort who) s = .next t →
      s.onlyTouches
        { parts := [.act, .buf, .cle, .combine, .copy, .drc, .frk, .gck, .holding, .hostClamps, .hostCtxs, .hostObjUe, .hostPend, .hostPosted,
          .hostReady, .irq, .isolated, .msq, .par, .rch, .shadows, .spm, .srv, .wch], fields := Touch.cfgErr ++ [R.BST_CNT_runs, R.BST_RUN_abort,
          R.BST_STAT_busy, R.BST_STAT_code, R.RCH_CMB_STAT_used], blocks := bstBlocks (s.rd R.BST_STAT_target) } t)
  ∧ (∀ (s t : State), exec .bistPrecondFail s = .next t →
      s.onlyTouches
        { parts := [.act, .buf, .cle, .combine, .copy, .drc, .frk, .gck, .holding, .hostClamps, .hostCtxs, .hostObjUe, .hostPend, .hostPosted,
          .hostReady, .irq, .isolated, .msq, .par, .rch, .shadows, .spm, .srv, .wch], fields := [R.BST_CNT_runs, R.BST_STAT_busy, R.BST_STAT_code,
          R.RCH_CMB_STAT_used], blocks := bstBlocks (s.rd R.BST_STAT_target) } t)
  ∧ (∀ (s t : State) (who : Init), exec (.bistSoftReset who) s = .next t →
      s.onlyTouches
        { parts := [.act, .buf, .cle, .combine, .copy, .dram, .drc, .frk, .gck, .holding, .hostClamps, .hostCtxs, .hostObjUe, .hostPend,
          .hostPosted, .hostReady, .irq, .isolated, .msq, .par, .rch, .shadows, .spm, .srv, .wch], fields := [R.BST_BSCAN_active,
          R.BST_BSCAN_groups, R.BST_CNT_runs, R.BST_CTL_srst, R.BST_STAT_busy, R.BST_STAT_code, R.DRC_STAT_ready, R.FRK_STAT_bypass,
          R.RCH_CMB_STAT_used], blocks := 6 :: bstBlocks (s.rd R.BST_STAT_target) } t)
  ∧ (∀ (s t : State) (misr : BitVec 64), exec (.bistDone misr) s = .next t →
      s.onlyTouches
        { parts := [.act, .buf, .cle, .combine, .copy, .drc, .frk, .gck, .holding, .hostClamps, .hostCtxs, .hostObjUe, .hostPend, .hostPosted,
          .hostReady, .irq, .isolated, .msq, .par, .rch, .shadows, .spm, .srv, .wch], fields := [R.BST_CNT_fails, R.BST_CNT_runs, R.BST_FAIL_fail,
          R.BST_MISR_misr, R.BST_PASS_pass, R.BST_STAT_busy, R.BST_STAT_code, R.RCH_CMB_STAT_used], blocks := bstBlocks (s.rd R.BST_STAT_target) } t)
  ∧ (∀ (s t : State) (who : Init) (groups : BitVec 5), exec (.bscanGrant who groups) s = .next t →
      s.onlyTouches
        { parts := [.dram, .irq], fields := Touch.cfgErr ++ [R.BST_BSCAN_active, R.BST_BSCAN_groups, R.BST_STAT_code, R.DRC_STAT_ready,
          R.FRK_STAT_bypass] } t)
  ∧ (∀ (s t : State), exec .bscanPrecondRelease s = .next t →
      s.onlyTouches
        { parts := [.dram, .irq], fields := [R.BST_BSCAN_active, R.BST_BSCAN_groups, R.BST_STAT_code, R.DRC_STAT_ready, R.FRK_STAT_bypass] } t)
  ∧ (∀ (s t : State), exec .tapBypass s = .next t →
      s.onlyTouches
        { parts := [.irq, .tap], fields := [R.BST_BSCAN_active] } t)
  ∧ (∀ (s t : State), exec .tapIdcode s = .next t →
      s.onlyTouches
        { parts := [.irq, .reply, .tap], fields := [R.BST_BSCAN_active] } t)
  ∧ (∀ (s t : State) (pads load : List Bool), exec (.tapSamplePreload pads load) s = .next t →
      s.onlyTouches
        { parts := [.irq, .tap], fields := [R.BST_BSCAN_active] } t)
  ∧ (∀ (s t : State) (pads load : List Bool), exec (.tapExtest pads load) s = .next t →
      s.onlyTouches
        { parts := [.irq, .tap], fields := [R.BST_BSCAN_active] } t)
  ∧ (∀ (s t : State) (pads load : List Bool), exec (.tapExtestPulse pads load) s = .next t →
      s.onlyTouches
        { parts := [.irq, .tap], fields := [R.BST_BSCAN_active] } t)
  ∧ (∀ (s t : State) (pads load : List Bool), exec (.tapExtestTrain pads load) s = .next t →
      s.onlyTouches
        { parts := [.irq, .tap], fields := [R.BST_BSCAN_active] } t)
  ∧ (∀ (s t : State) (who : Init) (v : Byte), exec (.uartTxWrite who v) s = .next t →
      s.onlyTouches
        { parts := [.irq, .uart], fields := Touch.cfgErr ++ Touch.uart ++ [R.SYS_UART_TX_data] } t)
  ∧ (∀ (s t : State) (v : Byte), exec (.uartRxByte v) s = .next t →
      s.onlyTouches
        { parts := [.uart], fields := Touch.uart } t)
  ∧ (∀ (s t : State) (who : Init), exec (.uartRxPop who) s = .next t →
      s.onlyTouches
        { parts := [.reply, .uart], fields := Touch.uart } t)
  ∧ (∀ (s t : State), exec .gpioWake s = .next t →
      s.onlyTouches
        { parts := [.freeCount, .pwr], fields := [R.PWR_AON_STAT_dol_exit, R.PWR_ARB_STAT_queued, R.PWR_SLEEP_STAT_phase, R.PWR_WAKE_SRC_src,
          R.SYS_GPIO_IN_in] } t)
  ∧ (∀ (s t : State), exec .uartTxByteSent s = .next t →
      s.onlyTouches
        { parts := [.uart], fields := Touch.uart } t)

/-- What host, queue, object and buffer commands leave as they were. For every state and all operands, each of these commands that answers a
next state leaves everything as it was but the parts of the state, the register fields, the register blocks and the single registers that
its clause lists; State.onlyTouches says so over the whole state but the queue. A DRAM part in the list is narrowed to addresses by
MemoryStores. Each clause's list is the model's (assumptions 3 and 11). -/
def Obligations.HostFrames : Prop :=
  (∀ (s t : State) (ctrl : Fin 2) (urgent : Bool) (cmd : HostCmd), exec (.commandFetch ctrl urgent cmd) s = .next t →
      s.onlyTouches
        { parts := [.freeCount, .hostC0, .hostC1, .hostCtxs, .hostReady, .irq, .pwr], fields := [R.HQE_CNT_FETCH_count, R.HQE_CNT_STALL_count,
          R.HQE_READY_ctx, R.HQE_READY_valid, R.HQE_STAMP_stamp, R.HQE_STAT_ctx_used, R.PWR_IDLE_STAT_count] } t)
  ∧ (∀ (s t : State), exec .clampInsert s = .next t →
      s.onlyTouches
        { parts := [.freeCount, .hostClamps, .hostCtxs, .hostReady, .irq], fields := Touch.clamp ++ [R.CLP_CNT_full, R.CLP_CNT_stalls] } t)
  ∧ (∀ (s t : State) (who : Init), exec (.readyPop who) s = .next t →
      s.onlyTouches
        { parts := [.hostCtxs, .hostReady, .irq, .reply], fields := [R.HQE_READY_ctx, R.HQE_READY_valid] } t)
  ∧ (∀ (s t : State) (ctx : Fin 16384), exec (.completionPost ctx) s = .next t →
      s.onlyTouches
        { parts := Touch.actuatorParts ++ [.hostClamps, .hostCmds, .hostCompletions, .hostCtxs, .hostKv, .hostMediaErrors, .hostReady],
          fields := Touch.clamp ++ Touch.actuator ++ [R.HQE_STAT_ctx_used, R.PWR_IDLE_STAT_count] } t)
  ∧ (∀ (s t : State) (who : Init) (space : BitVec 3) (append : Bool) (owner : BitVec 2) (ctx : BitVec 14), exec (.clpAdd who space append owner ctx) s = .next t →
      s.onlyTouches
        { parts := [.freeCount, .hostClamps, .hostCtxs, .hostReady, .irq], fields := Touch.clamp ++ Touch.cfgErr ++ [R.CLP_CNT_full,
          R.CLP_CNT_stalls, R.CLP_OP_STAT_done, R.CLP_OP_STAT_entry, R.CLP_OP_STAT_err, R.CLP_OP_STAT_waiters, R.CLP_OP_append, R.CLP_OP_ctx,
          R.CLP_OP_go, R.CLP_OP_op, R.CLP_OP_owner, R.CLP_OP_space, R.HQE_STAMP_stamp] } t)
  ∧ (∀ (s t : State) (who : Init) (space : BitVec 3) (append : Bool) (owner : BitVec 2) (ctx : BitVec 14), exec (.clpNarrow who space append owner ctx) s = .next t →
      s.onlyTouches
        { parts := [.hostClamps, .hostReady, .irq], fields := Touch.clamp ++ Touch.cfgErr ++ [R.CLP_OP_STAT_done, R.CLP_OP_STAT_err,
          R.CLP_OP_append, R.CLP_OP_ctx, R.CLP_OP_go, R.CLP_OP_op, R.CLP_OP_owner, R.CLP_OP_space] } t)
  ∧ (∀ (s t : State) (who : Init) (space : BitVec 3) (append : Bool) (owner : BitVec 2) (ctx : BitVec 14), exec (.clpRelease who space append owner ctx) s = .next t →
      s.onlyTouches
        { parts := [.hostClamps, .hostReady, .irq], fields := Touch.clamp ++ Touch.cfgErr ++ [R.CLP_OP_STAT_done, R.CLP_OP_STAT_err,
          R.CLP_OP_append, R.CLP_OP_ctx, R.CLP_OP_go, R.CLP_OP_op, R.CLP_OP_owner, R.CLP_OP_space] } t)
  ∧ (∀ (s t : State) (x : Act), exec (.itemPost x) s = .next t →
      s.onlyTouches
        { parts := [.dram, .drc, .freeCount, .hostAttached, .hostCmds, .hostCtxs, .hostPend, .hostPosted, .irq], fields := [R.HQE_CNT_AGE_count,
          R.JIG_GOLD_STAT_refused, R.MSQ_RING_TAIL_tail, R.PWR_IDLE_STAT_count] } t)
  ∧ (∀ (s t : State) (ctx : Fin 16384) (items : List (List ItemSpec)), exec (.appendAssign ctx items) s = .next t →
      s.onlyTouches
        { parts := [.hostClamps, .hostCmds, .hostCtxs, .hostDigests, .hostNextId, .hostOrder, .hostPend, .hostReady, .hostUnsaved, .hostZones,
          .irq], fields := Touch.clamp } t)
  ∧ (∀ (s t : State) (ctx : Fin 16384), exec (.nvmFlush ctx) s = .next t →
      s.onlyTouches
        { parts := [.hostCtxs] } t)
  ∧ (∀ (s t : State) (ctx : Fin 16384) (items : List (List ItemSpec)), exec (.nvmWrite ctx items) s = .next t →
      s.onlyTouches
        { parts := [.hostCmds, .hostCtxs, .hostDigests, .hostJSeq, .hostNextId, .hostOrder, .hostPend, .hostUnits, .hostUnsaved, .hostZones] } t)
  ∧ (∀ (s t : State) (ctx : Fin 16384) (items : List ItemSpec) (got : List (Nat × Option Block)), exec (.nvmRead ctx items got) s = .next t →
      s.onlyTouches
        { parts := Touch.recordParts ++ [.hostAudit, .hostErrors, .hostNextId, .hostPend], fields := Touch.record } t)
  ∧ (∀ (s t : State) (ctx : Fin 16384) (items : List (List ItemSpec)), exec (.writeZeroes ctx items) s = .next t →
      s.onlyTouches
        { parts := [.hostCmds, .hostCtxs, .hostJSeq, .hostNextId, .hostPend, .hostUnits] } t)
  ∧ (∀ (s t : State) (ctx : Fin 16384) (items : List ItemSpec) (got : List (Nat × Option Block)), exec (.nvmVerify ctx items got) s = .next t →
      s.onlyTouches
        { parts := Touch.recordParts ++ [.hostAudit, .hostErrors, .hostNextId, .hostPend], fields := Touch.record } t)
  ∧ (∀ (s t : State) (ctx : Fin 16384), exec (.zoneAppend ctx) s = .next t →
      s.onlyTouches
        { parts := [.hostCtxs, .hostOrder, .hostUnsaved, .hostZones] } t)
  ∧ (∀ (s t : State) (ctx : Fin 16384), exec (.zoneOpen ctx) s = .next t →
      s.onlyTouches
        { parts := [.hostCtxs, .hostUnsaved, .hostZones] } t)
  ∧ (∀ (s t : State) (ctx : Fin 16384), exec (.zoneClose ctx) s = .next t →
      s.onlyTouches
        { parts := [.hostCtxs, .hostZones] } t)
  ∧ (∀ (s t : State) (ctx : Fin 16384), exec (.zoneFinish ctx) s = .next t →
      s.onlyTouches
        { parts := [.hostCtxs, .hostDigests, .hostUnsaved, .hostZones] } t)
  ∧ (∀ (s t : State) (ctx : Fin 16384), exec (.zoneReset ctx) s = .next t →
      s.onlyTouches
        { parts := [.dram, .drc, .hostCmds, .hostCtxs, .hostDigests, .hostMedia, .hostPend, .hostUnsaved, .hostZones, .irq],
          fields := [R.JIG_GOLD_STAT_refused] } t)
  ∧ (∀ (s t : State) (ctx : Fin 16384), exec (.zoneOffline ctx) s = .next t →
      s.onlyTouches
        { parts := [.hostCtxs, .hostDigests, .hostUnsaved, .hostZones] } t)
  ∧ (∀ (s t : State) (ctx : Fin 16384), exec (.reportZones ctx) s = .next t →
      s.onlyTouches
        { parts := [.hostCtxs] } t)
  ∧ (∀ (s t : State) (ctx : Fin 16384) (zones : List Nat) (items : List (List ItemSpec)) (digestOk : Bool), exec (.kvStore ctx zones items digestOk) s = .next t →
      s.onlyTouches
        { parts := [.hostCmds, .hostCtxs, .hostDigests, .hostKv, .hostNextId, .hostPend, .hostUnsaved, .hostZones] } t)
  ∧ (∀ (s t : State) (ctx : Fin 16384) (items : List ItemSpec) (got : List (Nat × Option Block)), exec (.kvRetrieve ctx items got) s = .next t →
      s.onlyTouches
        { parts := Touch.recordParts ++ [.hostAudit, .hostErrors, .hostNextId, .hostPend], fields := Touch.record } t)
  ∧ (∀ (s t : State) (ctx : Fin 16384) (zones : List Nat) (items : List (List ItemSpec)), exec (.kvDelete ctx zones items) s = .next t →
      s.onlyTouches
        { parts := [.hostCmds, .hostCtxs, .hostDigests, .hostKv, .hostNextId, .hostPend, .hostUnsaved, .hostZones] } t)
  ∧ (∀ (s t : State) (ctx : Fin 16384), exec (.kvExist ctx) s = .next t →
      s.onlyTouches
        { parts := [.hostCtxs] } t)
  ∧ (∀ (s t : State) (ctx : Fin 16384), exec (.kvList ctx) s = .next t →
      s.onlyTouches
        { parts := [.hostCtxs] } t)
  ∧ (∀ (s t : State) (ctx : Fin 16384) (vendor : List Byte), exec (.identify ctx vendor) s = .next t →
      s.onlyTouches
        { parts := [.freeCount, .hostCtxs] } t)
  ∧ (∀ (s t : State) (ctx : Fin 16384), exec (.getLogErrorInfo ctx) s = .next t →
      s.onlyTouches
        { parts := [.freeCount, .hostC0, .hostC1, .hostChangedNs, .hostChangedZones, .hostCtxs] } t)
  ∧ (∀ (s t : State) (ctx : Fin 16384), exec (.getLogSmart ctx) s = .next t →
      s.onlyTouches
        { parts := [.freeCount, .hostC0, .hostC1, .hostChangedNs, .hostChangedZones, .hostCtxs] } t)
  ∧ (∀ (s t : State) (ctx : Fin 16384), exec (.getLogFwSlot ctx) s = .next t →
      s.onlyTouches
        { parts := [.freeCount, .hostC0, .hostC1, .hostChangedNs, .hostChangedZones, .hostCtxs] } t)
  ∧ (∀ (s t : State) (ctx : Fin 16384), exec (.getLogChangedNs ctx) s = .next t →
      s.onlyTouches
        { parts := [.freeCount, .hostC0, .hostC1, .hostChangedNs, .hostChangedZones, .hostCtxs] } t)
  ∧ (∀ (s t : State) (ctx : Fin 16384), exec (.getLogEffects ctx) s = .next t →
      s.onlyTouches
        { parts := [.freeCount, .hostC0, .hostC1, .hostChangedNs, .hostChangedZones, .hostCtxs] } t)
  ∧ (∀ (s t : State) (ctx : Fin 16384), exec (.getLogTelemetry ctx) s = .next t →
      s.onlyTouches
        { parts := [.freeCount, .hostC0, .hostC1, .hostChangedNs, .hostChangedZones, .hostCtxs] } t)
  ∧ (∀ (s t : State) (ctx : Fin 16384), exec (.getLogChangedZones ctx) s = .next t →
      s.onlyTouches
        { parts := [.freeCount, .hostC0, .hostC1, .hostChangedNs, .hostChangedZones, .hostCtxs] } t)
  ∧ (∀ (s t : State) (ctx : Fin 16384) (media : List (List Byte)), exec (.getLogEvents ctx media) s = .next t →
      s.onlyTouches
        { parts := [.freeCount, .hostC0, .hostC1, .hostChangedNs, .hostChangedZones, .hostCtxs] } t)
  ∧ (∀ (s t : State) (ctx : Fin 16384), exec (.getLogMediaStatus ctx) s = .next t →
      s.onlyTouches
        { parts := [.freeCount, .hostC0, .hostC1, .hostChangedNs, .hostChangedZones, .hostCtxs] } t)
  ∧ (∀ (s t : State) (ctx : Fin 16384), exec (.getLogAudit ctx) s = .next t →
      s.onlyTouches
        { parts := [.freeCount, .hostC0, .hostC1, .hostChangedNs, .hostChangedZones, .hostCtxs] } t)
  ∧ (∀ (s t : State) (ctx : Fin 16384), exec (.setArbitration ctx) s = .next t →
      s.onlyTouches
        { parts := [.hostCtxs, .hostFeats, .hostSaved] } t)
  ∧ (∀ (s t : State) (ctx : Fin 16384), exec (.setPowerManagement ctx) s = .next t →
      s.onlyTouches
        { parts := [.freeCount, .hostC0, .hostC1, .hostCtxs, .hostFeats, .hostSaved, .pwr], fields := [R.HQE_SCHED_CFG_max_lanes,
          R.PWR_ARB_STAT_queued, R.PWR_AVS_STAT_vdone, R.PWR_CAP_cap, R.PWR_PLVL_STAT_busy, R.PWR_PLVL_req] } t)
  ∧ (∀ (s t : State) (ctx : Fin 16384), exec (.setTempThreshold ctx) s = .next t →
      s.onlyTouches
        { parts := [.hostCtxs, .hostFeats, .hostSaved] } t)
  ∧ (∀ (s t : State) (ctx : Fin 16384), exec (.setErrorRecovery ctx) s = .next t →
      s.onlyTouches
        { parts := [.hostCtxs, .hostFeats, .hostSaved] } t)
  ∧ (∀ (s t : State) (ctx : Fin 16384), exec (.setVolatileWriteCache ctx) s = .next t →
      s.onlyTouches
        { parts := [.hostCtxs, .hostFeats, .hostSaved] } t)
  ∧ (∀ (s t : State) (ctx : Fin 16384), exec (.setNumberOfQueues ctx) s = .next t →
      s.onlyTouches
        { parts := [.hostCtxs, .hostFeats, .hostSaved] } t)
  ∧ (∀ (s t : State) (ctx : Fin 16384), exec (.setInterruptCoalescing ctx) s = .next t →
      s.onlyTouches
        { parts := [.hostCtxs, .hostFeats, .hostSaved] } t)
  ∧ (∀ (s t : State) (ctx : Fin 16384), exec (.setInterruptVectorCfg ctx) s = .next t →
      s.onlyTouches
        { parts := [.hostCtxs, .hostFeats, .hostSaved] } t)
  ∧ (∀ (s t : State) (ctx : Fin 16384), exec (.setAsyncEventConfig ctx) s = .next t →
      s.onlyTouches
        { parts := [.hostCtxs, .hostFeats, .hostSaved] } t)
  ∧ (∀ (s t : State) (ctx : Fin 16384), exec (.setApst ctx) s = .next t →
      s.onlyTouches
        { parts := [.hostCtxs, .hostFeats, .hostSaved], fields := [R.PWR_IDLE_ms] } t)
  ∧ (∀ (s t : State) (ctx : Fin 16384), exec (.setTimestamp ctx) s = .next t →
      s.onlyTouches
        { parts := [.hostC0, .hostC1, .hostCtxs] } t)
  ∧ (∀ (s t : State) (ctx : Fin 16384), exec (.setKeepAliveTimer ctx) s = .next t →
      s.onlyTouches
        { parts := [.hostCtxs, .hostFeats, .hostSaved] } t)
  ∧ (∀ (s t : State) (ctx : Fin 16384), exec (.setIoCommandSetProfile ctx) s = .next t →
      s.onlyTouches
        { parts := [.hostCtxs, .hostFeats, .hostSaved] } t)
  ∧ (∀ (s t : State) (ctx : Fin 16384), exec (.getFeatures ctx) s = .next t →
      s.onlyTouches
        { parts := [.hostCtxs] } t)
  ∧ (∀ (s t : State) (ctx : Fin 16384), exec (.abortCommand ctx) s = .next t →
      s.onlyTouches
        { parts := [.hostCmds, .hostCtxs, .hostKv, .hostPend, .hostUnits, .hostZones] } t)
  ∧ (∀ (s t : State) (ctx : Fin 16384), exec (.asyncEventRequest ctx) s = .next t →
      s.onlyTouches
        { parts := [.hostC0, .hostC1, .hostCtxs] } t)
  ∧ (∀ (s t : State) (ctx : Fin 16384), exec (.unsupportedCommand ctx) s = .next t →
      s.onlyTouches
        { parts := [.hostCtxs] } t)
  ∧ (∀ (s t : State) (ctx : Fin 16384) (handler : Option Word), exec (.vendorCommand ctx handler) s = .next t →
      s.onlyTouches
        { parts := [.hostCtxs] } t)
  ∧ (∀ (s t : State) (ctrl : Fin 2) (crime : Bool), exec (.ccEnSet ctrl crime) s = .next t →
      s.onlyTouches
        { parts := [.hostC0, .hostC1], fields := [R.HQE_CTL_fetch0, R.HQE_CTL_fetch1, R.HQE_STAT_fetching] } t)
  ∧ (∀ (s t : State) (ctrl : Fin 2), exec (.ccEnClear ctrl) s = .next t →
      s.onlyTouches
        { parts := [.hostActivation, .hostC0, .hostC1, .hostClamps, .hostCmds, .hostCtxs, .hostKv, .hostPend, .hostReady, .hostUnits,
          .hostZones, .irq], fields := Touch.clamp ++ Touch.retry ++ [R.HQE_CNT_DISC_count, R.HQE_STAT_ctx_used, R.PWR_IDLE_STAT_count] } t)
  ∧ (∀ (s t : State) (port : Fin 2), exec (.functionLevelReset port) s = .next t →
      s.onlyTouches
        { parts := [.hostActivation, .hostC0, .hostC1, .hostClamps, .hostCmds, .hostCtxs, .hostKv, .hostPend, .hostReady, .hostUnits,
          .hostZones, .irq], fields := Touch.clamp ++ Touch.retry ++ [R.HQE_CNT_DISC_count, R.HQE_STAT_ctx_used, R.PWR_IDLE_STAT_count] } t)
  ∧ (∀ (s t : State) (port : Fin 2) (kind : PcieReset), exec (.pcieConventionalReset port kind) s = .next t →
      s.onlyTouches
        { parts := [.dram, .drc, .hostActivation, .hostC0, .hostC1, .hostClamps, .hostCmds, .hostCtxs, .hostKv, .hostPend, .hostReady,
          .hostUnits, .hostZones, .irq], fields := Touch.clamp ++ Touch.retry ++ [R.HIF_LINK_dstate, R.HIF_LINK_ltssm, R.HIF_LINK_pm,
          R.HIF_LINK_speed, R.HIF_LINK_width, R.HIF_STAT_up0, R.HIF_STAT_up1, R.HQE_CNT_DISC_count, R.HQE_STAT_ctx_used,
          R.JIG_GOLD_BASE_stage_lock, R.PWR_IDLE_STAT_count] } t)
  ∧ (∀ (s t : State) (ctrl : Fin 2) (abrupt : Bool), exec (.ccShnWrite ctrl abrupt) s = .next t →
      s.onlyTouches
        { parts := Touch.actuatorParts, fields := Touch.actuator ++ Touch.retry } t)
  ∧ (∀ (s t : State) (who : Init), exec (.hifCfgReady who) s = .next t →
      s.onlyTouches
        { parts := [.irq], fields := Touch.cfgErr ++ [R.HIF_CTL_cfg_ready] } t)
  ∧ (∀ (s t : State) (port : Fin 2) (up : Bool) (speed : BitVec 4) (width : BitVec 4) (pm dstate : BitVec 2) (ltssm : BitVec 6), exec (.linkChange port up speed width pm dstate ltssm) s = .next t →
      s.onlyTouches
        { parts := [.dram, .drc, .hostActivation, .hostC0, .hostC1, .hostClamps, .hostCmds, .hostCtxs, .hostKv, .hostPend, .hostReady,
          .hostUnits, .hostZones, .irq], fields := Touch.clamp ++ Touch.retry ++ [R.HIF_LINK_dstate, R.HIF_LINK_ltssm, R.HIF_LINK_pm,
          R.HIF_LINK_speed, R.HIF_LINK_width, R.HIF_STAT_up0, R.HIF_STAT_up1, R.HQE_CNT_DISC_count, R.HQE_STAT_ctx_used,
          R.JIG_GOLD_BASE_stage_lock, R.PWR_IDLE_STAT_count] } t)
  ∧ (∀ (s t : State), exec .miReadDataStructure s = .next t →
      s.onlyTouches
        { parts := [.hostMi, .irq], fields := [R.HIF_MI_CNT_msgs] } t)
  ∧ (∀ (s t : State), exec .miSubsystemHealthPoll s = .next t →
      s.onlyTouches
        { parts := [.hostMi, .irq], fields := [R.HIF_MI_CNT_msgs] } t)
  ∧ (∀ (s t : State) (ctrl : Fin 2), exec (.miControllerHealthPoll ctrl) s = .next t →
      s.onlyTouches
        { parts := [.hostMi, .irq], fields := [R.HIF_MI_CNT_msgs] } t)
  ∧ (∀ (s t : State) (frequency : Bool), exec (.miConfigurationGet frequency) s = .next t →
      s.onlyTouches
        { parts := [.hostMi, .irq], fields := [R.HIF_MI_CNT_msgs] } t)
  ∧ (∀ (s t : State) (frequency : Bool) (value : BitVec 16), exec (.miConfigurationSet frequency value) s = .next t →
      s.onlyTouches
        { parts := [.hostMctpUnit, .hostMi, .hostSmbusKhz, .irq], fields := [R.HIF_MI_CNT_msgs] } t)
  ∧ (∀ (s t : State) (offset count : BitVec 16), exec (.miVpdRead offset count) s = .next t →
      s.onlyTouches
        { parts := [.hostMi, .irq], fields := [R.HIF_MI_CNT_msgs] } t)
  ∧ (∀ (s t : State) (ctrl : Fin 2) (cmd : HostCmd) (media : List (List Byte)), exec (.miTunnelledAdmin ctrl cmd media) s = .next t →
      s.onlyTouches
        { parts := [.freeCount, .hostC0, .hostC1, .hostChangedNs, .hostChangedZones, .hostMi, .irq], fields := [R.HIF_MI_CNT_msgs] } t)
  ∧ (∀ (s t : State) (z : BitVec 20) (complete : Nat), exec (.tailScan z complete) s = .next t →
      s.onlyTouches
        { parts := [.dram, .drc, .hostC0, .hostC1, .hostChangedNs, .hostCtxs, .hostDigests, .hostMedia, .hostTorn, .hostZones, .irq],
          fields := [R.HQE_CTL_fetch0, R.HQE_CTL_fetch1, R.HQE_STAT_fetching, R.JIG_GOLD_STAT_refused] } t)
  ∧ (∀ (s t : State) (seq : BitVec 64) (items : List ItemSpec), exec (.journalEntryComplete seq items) s = .next t →
      s.onlyTouches
        { parts := [.hostCmds, .hostCtxs, .hostPend, .hostSlots, .hostUnits] } t)
  ∧ (∀ (s t : State) (found : List Nat), exec (.journalReplay found) s = .next t →
      s.onlyTouches
        { parts := [.hostApplied, .hostC0, .hostC1, .hostChangedNs, .hostCtxs, .hostJSeq, .hostMedia, .hostReplayed, .hostSlots, .hostUnits],
          fields := [R.HQE_CTL_fetch0, R.HQE_CTL_fetch1, R.HQE_STAT_fetching] } t)
  ∧ (∀ (s t : State) (x : Act), exec (.zoneStateFlush x) s = .next t →
      s.onlyTouches
        { parts := Touch.actuatorParts ++ [.hostAudit, .hostTable, .hostUnsaved], fields := Touch.actuator } t)
  ∧ (∀ (s t : State), exec .indexJournalBatch s = .next t →
      s.onlyTouches
        { parts := [.hostKv] } t)
  ∧ (∀ (s t : State), exec .indexCheckpoint s = .next t →
      s.onlyTouches
        { parts := [.hostKv] } t)
  ∧ (∀ (s t : State), exec .indexRebuild s = .next t →
      s.onlyTouches
        { parts := [.hostC0, .hostC1, .hostChangedNs, .hostCtxs, .hostIndexed, .hostKv], fields := [R.HQE_CTL_fetch0, R.HQE_CTL_fetch1,
          R.HQE_STAT_fetching] } t)
  ∧ (∀ (s t : State) (zones : List Nat) (got : List (Nat × Option Block)), exec (.compaction zones got) s = .next t →
      s.onlyTouches
        { parts := Touch.recordParts ++ [.dram, .drc, .hostAudit, .hostCmds, .hostDigests, .hostKv, .hostMedia, .hostNextId, .hostPend,
          .hostUnsaved, .hostZones], fields := Touch.record ++ [R.JIG_GOLD_STAT_refused] } t)
  ∧ (∀ (s t : State) (got : List (Nat × Option Block)), exec (.auditZone got) s = .next t →
      s.onlyTouches
        { parts := Touch.recordParts ++ [.hostAudit], fields := Touch.record } t)
  ∧ (∀ (s t : State) (z : BitVec 20) (got : List (Nat × Option Block)), exec (.zoneDigestReadback z got) s = .next t →
      s.onlyTouches
        { parts := Touch.recordParts ++ [.hostAudit, .hostDigests], fields := Touch.record } t)

/-- What read and write channel, Head Link and parity commands leave as they were. For every state and all operands, each of these commands
that answers a next state leaves everything as it was but the parts of the state, the register fields, the register blocks and the single
registers that its clause lists; State.onlyTouches says so over the whole state but the queue. A DRAM part in the list is narrowed to
addresses by MemoryStores. Each clause's list is the model's (assumptions 3 and 11). -/
def Obligations.MediaFrames : Prop :=
  (∀ (s t : State) (ch : Fin 8) (cands : List SyncCand) (samples : List (BitVec 7)) (slotEcc sumEcc : Bool), exec (.sectorRead ch cands samples slotEcc sumEcc) s = .next t →
      s.onlyTouches
        { parts := [.combine, .copy, .hostHeads, .irq, .msq, .rch, .shadows], fields := [R.MSQ_LANE_SEC_remaining, R.MSQ_LANE_SEC_sector,
          R.RCH_CNT_CAND_multi, R.RCH_CNT_MISC_ecc, R.RCH_CNT_SECT_count, R.RCH_RCV_STAT_open, R.RCH_RSET_A_captures, R.RCH_RSET_A_samples,
          R.RCH_STAT_rcv_open, R.RCH_STAT_sb_frozen, R.RCH_STAT_stored_dec], keys := s.shadowKeys } t)
  ∧ (∀ (s t : State) (ch : Fin 8) (d : Decoded) (m : SectorMeasure), exec (.sectorDecodeDone ch d m) s = .next t →
      s.onlyTouches
        { parts := Touch.recoveryParts ++ [.dram, .drc, .hostDamaged], fields := Touch.recovery ++ Touch.damage ++ [R.GCK_EVT_CNT_clamp,
          R.GCK_HCORR_C0_value, R.GCK_HCORR_C1_value, R.GCK_HCORR_S1_value, R.GCK_STAT_clamp, R.JIG_GOLD_STAT_refused, R.MSQ_LANE_PROG_progress,
          R.PAR_ACC_STAT_hw, R.PAR_CNT_ADD_count, R.RCH_CMB_CNT_refused, R.RCH_CNT_CAND_alt_ok, R.RCH_CNT_GUARD_count, R.RCH_CNT_MISC_sb_none,
          R.RCH_CNT_OTF_FAIL_count, R.RCH_CNT_SYNC_forced_fail, R.RCH_CNT_SYNC_forced_ok, R.RCH_RCV_STAT_repeat, R.RCH_RCV_STAT_revs,
          R.RCH_RCV_STAT_rung, R.RCH_RCV_STAT_skipped, R.RCH_RSET_A_captures, R.RCH_RSET_A_valid, R.RCH_RSET_B_sector, R.RCH_RSET_B_track,
          R.RCH_RSET_OVF_sector, R.RCH_RSET_OVF_track, R.RCH_STAT_reading, R.RCH_STAT_rset_ovf, R.RCH_TRK_STAT_mra, R.RCH_TRK_STAT_offset,
          R.RCH_TRK_STAT_vga] } t)
  ∧ (∀ (s t : State) (ch : Fin 8) (d : Decoded) (ecc : Bool), exec (.storedDecodeDone ch d ecc) s = .next t →
      s.onlyTouches
        { parts := Touch.recoveryParts ++ [.dram, .drc, .hostDamaged], fields := Touch.recovery ++ Touch.damage ++ [R.JIG_GOLD_STAT_refused,
          R.PAR_ACC_STAT_hw, R.PAR_CNT_ADD_count, R.RCH_CMB_CNT_combined, R.RCH_CNT_CAND_alt_ok, R.RCH_CNT_GUARD_count, R.RCH_CNT_MISC_ecc,
          R.RCH_RCV_STAT_skipped, R.RCH_RSET_A_captures] } t)
  ∧ (∀ (s t : State) (who : Init) (ch : Fin 8), exec (.reportPop who ch) s = .next t →
      s.onlyTouches
        { parts := [.irq, .rch, .reply], fields := Touch.cfgErr ++ [R.RCH_RPT_HI_captures, R.RCH_RPT_HI_head, R.RCH_RPT_HI_iter,
          R.RCH_RPT_HI_outcome, R.RCH_RPT_HI_rung, R.RCH_RPT_HI_valid, R.RCH_RPT_LO_sector, R.RCH_RPT_LO_track] } t)
  ∧ (∀ (s t : State) (who : Init) (ch : Fin 8) (srst : Bool), exec (.rchDisable who ch srst) s = .next t →
      s.onlyTouches
        { parts := Touch.recoveryParts ++ [.copy, .holding, .shadows], fields := Touch.recovery ++ Touch.cfgErr ++ [R.RCH_CTL_en, R.RCH_CTL_srst,
          R.RCH_STAT_reading], blocks := [8 + ch.val], keys := s.shadowKeys } t)
  ∧ (∀ (s t : State) (ch : Fin 8) (ready : Bool), exec (.sectorAssemble ch ready) s = .next t →
      s.onlyTouches
        { parts := [.copy, .hl, .hostC0, .hostC1, .hostCtxs, .hostDamaged, .irq, .msq, .shadows, .wch], fields := Touch.writeRun ++ Touch.damage
          ++ [R.WCH_HL_CNT_merged, R.WCH_HL_STAT_depth, R.WCH_HL_STAT_fw_busy], keys := s.shadowKeys } t)
  ∧ (∀ (s t : State) (ch : Fin 8), exec (.writeRunGrant ch) s = .next t →
      s.onlyTouches
        { parts := [.irq, .msq, .wch], fields := Touch.writeRun } t)
  ∧ (∀ (s t : State) (ch : Fin 8), exec (.sectorComplete ch) s = .next t →
      s.onlyTouches
        { parts := [.dram, .drc, .hostC0, .hostC1, .hostCtxs, .hostDamaged, .irq, .msq, .par, .wch], fields := Touch.damage ++
          [R.JIG_GOLD_STAT_refused, R.MSQ_LANE_PROG_progress, R.MSQ_LANE_SEC_remaining, R.MSQ_LANE_SEC_sector, R.PAR_ACC_STAT_hw,
          R.PAR_CNT_ADD_count, R.PAR_CNT_SRC_count, R.WCH_BWP_ptr, R.WCH_CNT_SECT_count, R.WCH_STAT_lane_active, R.WCH_STAT_strobe,
          R.WCH_STAT_writing] } t)
  ∧ (∀ (s t : State) (x : Act), exec (.preampFaultLine x) s = .next t →
      s.onlyTouches
        { parts := [.hl, .irq, .msq, .wch], fields := Touch.writeRun ++ [R.WCH_HL_CNT_merged, R.WCH_HL_STAT_depth, R.WCH_HL_STAT_fault_line,
          R.WCH_HL_STAT_fw_busy] } t)
  ∧ (∀ (s t : State) (ch : Fin 8), exec (.preheatDone ch) s = .next t →
      s.onlyTouches
        { fields := [R.WCH_STAT_preheat_done] } t)
  ∧ (∀ (s t : State) (who : Init) (ch : Fin 8), exec (.wchEnable who ch) s = .next t →
      s.onlyTouches
        { parts := [.hl, .irq], fields := Touch.cfgErr ++ [R.WCH_CTL_en, R.WCH_HL_STAT_depth, R.WCH_HL_STAT_fw_busy] } t)
  ∧ (∀ (s t : State) (x : Act) (data : BitVec 16) (crc : BitVec 8), exec (.hlFrameDone x data crc) s = .next t →
      s.onlyTouches
        { parts := Touch.recordParts ++ [.hl, .msq, .wch], fields := Touch.writeRun ++ Touch.record ++ [R.WCH_HL_CNT_crc_err,
          R.WCH_HL_CNT_merged, R.WCH_HL_RDATA_crc_err, R.WCH_HL_RDATA_data, R.WCH_HL_RDATA_valid, R.WCH_HL_STAT_depth, R.WCH_HL_STAT_fw_busy,
          R.WCH_HL_STAT_init_done, R.WCH_HL_STAT_link_err, R.WCH_HL_STAT_pa_fault, R.WCH_HL_STAT_pa_stat, R.WCH_STAT_preheat_done] } t)
  ∧ (∀ (s t : State) (who : Init) (x : Act) (cmd : Word), exec (.hlCmd who x cmd) s = .next t →
      s.onlyTouches
        { parts := [.hl, .irq], fields := Touch.cfgErr ++ [R.WCH_HL_CMD_cmd, R.WCH_HL_CNT_merged, R.WCH_HL_STAT_depth, R.WCH_HL_STAT_fw_busy] } t)
  ∧ (∀ (s t : State) (who : Init) (k : Fin 8) (x : Act) (slot : BitVec 17), exec (.accAttach who k x slot) s = .next t →
      s.onlyTouches
        { parts := [.hostAttached, .irq, .par], fields := Touch.acc ++ [R.PAR_ACC_CTL_act, R.PAR_ACC_CTL_slot] } t)
  ∧ (∀ (s t : State) (who : Init) (k : Fin 8) (x : Act) (slot : BitVec 17), exec (.accRebuild who k x slot) s = .next t →
      s.onlyTouches
        { parts := [.hostAttached, .irq, .par], fields := Touch.acc ++ [R.PAR_ACC_CTL_act, R.PAR_ACC_CTL_slot] } t)
  ∧ (∀ (s t : State) (who : Init) (k : Fin 8), exec (.accReady who k) s = .next t →
      s.onlyTouches
        { parts := [.hostAttached, .irq, .par], fields := Touch.acc } t)
  ∧ (∀ (s t : State) (who : Init) (k : Fin 8), exec (.accSeal who k) s = .next t →
      s.onlyTouches
        { parts := [.hostAttached, .irq, .par], fields := Touch.acc } t)
  ∧ (∀ (s t : State) (who : Init) (k : Fin 8) (x : Act) (slot : BitVec 17), exec (.accCheck who k x slot) s = .next t →
      s.onlyTouches
        { parts := [.hostAttached, .irq, .par], fields := Touch.acc ++ [R.PAR_ACC_CTL_act, R.PAR_ACC_CTL_slot] } t)
  ∧ (∀ (s t : State) (who : Init) (k : Fin 8), exec (.accScan who k) s = .next t →
      s.onlyTouches
        { parts := [.hostAttached, .irq, .par], fields := Touch.acc } t)
  ∧ (∀ (s t : State) (k : Fin 8), exec (.scanDone k) s = .next t →
      s.onlyTouches
        { parts := [.irq], fields := [R.PAR_ACC_SCAN_first, R.PAR_ACC_SCAN_nonzero, R.PAR_ACC_STAT_scan_busy] } t)
  ∧ (∀ (s t : State) (who : Init) (k : Fin 8), exec (.accRelease who k) s = .next t →
      s.onlyTouches
        { parts := [.hostAttached, .irq, .par], fields := Touch.acc } t)
  ∧ (∀ (s t : State) (x : Act) (reads : List SurvivorRead), exec (.walkerRound x reads) s = .next t →
      s.onlyTouches
        { parts := Touch.seqStopParts ++ Touch.recoveryParts ++ [.dram, .drc, .hostDamaged], fields := Touch.recovery ++ Touch.selected ++
          Touch.damage ++ [R.ACT_CNT_seeks, R.ACT_CNT_settles, R.ACT_STAT_count, R.ACT_STAT_settle, R.ACT_STAT_state, R.ACT_TGT_c,
          R.GCK_CH_SEL_annulus, R.GCK_CH_SEL_head, R.GCK_CH_SEL_self, R.JIG_GOLD_STAT_refused, R.MSQ_LANE_PROG_progress, R.PAR_ACC_STAT_hw,
          R.PAR_CNT_ADD_count, R.PAR_CNT_MISC_surv_fail, R.PAR_CNT_RBLD_fail, R.PAR_CNT_RBLD_ok, R.PAR_STAT_wlk_a, R.PAR_STAT_wlk_b,
          R.PAR_WLK_STAT_busy, R.PAR_WLK_STAT_erasures, R.PAR_WLK_STAT_range, R.PAR_WLK_STAT_remaining, R.PAR_WLK_STAT_survivors,
          R.PWR_IDLE_STAT_count, R.SRV_WIN_STAT_over_a, R.SRV_WIN_STAT_over_b, R.SRV_WIN_STAT_span], keys := s.shadowKeys } t)
  ∧ (∀ (s t : State) (who : Init) (srst : Bool), exec (.parDisable who srst) s = .next t →
      s.onlyTouches
        { parts := Touch.selectedParts ++ [.holding, .par], fields := Touch.selected ++ [R.GCK_CH_SEL_annulus, R.GCK_CH_SEL_head,
          R.GCK_CH_SEL_self, R.PAR_ACC_STAT_lanes, R.PAR_ACC_STAT_scan_busy, R.PAR_ACC_STAT_state, R.PAR_CTL_en, R.PAR_CTL_srst,
          R.PAR_STAT_bound, R.PAR_STAT_wlk_a, R.PAR_STAT_wlk_b, R.PAR_WLK_STAT_busy, R.PAR_WLK_STAT_erasures, R.PAR_WLK_STAT_range,
          R.PAR_WLK_STAT_remaining, R.PAR_WLK_STAT_survivors, R.PWR_IDLE_STAT_count], blocks := [30], keys := s.shadowKeys } t)
  ∧ (∀ (s t : State) (h : Fin 32), exec (.headRetire h) s = .next t →
      s.onlyTouches
        { parts := [.dram, .drc, .hostC0, .hostC1, .hostChangedNs, .hostChangedZones, .hostCtxs, .hostDigests, .hostRemapSaved, .hostUnsaved,
          .hostZones, .irq], fields := [R.JIG_GOLD_STAT_refused, R.PAR_RET_ret] } t)
  ∧ (∀ (s t : State) (index : BitVec 21) (surface : BitVec 4) (position : BitVec 17), exec (.bandRelocation index surface position) s = .next t →
      s.onlyTouches
        { parts := [.dram, .drc, .hostC0, .hostC1, .hostCtxs, .hostRelocate, .hostRemapSaved, .irq], fields := [R.JIG_GOLD_STAT_refused] } t)
  ∧ (∀ (s t : State) (k : Fin 8) (x : Act) (slot : BitVec 17) (step : ScrubStep), exec (.scrubGroup k x slot step) s = .next t →
      s.onlyTouches
        { parts := Touch.recordParts ++ [.hostAttached, .hostRelocate, .par], fields := Touch.acc ++ Touch.record ++ [R.PAR_ACC_CTL_act,
          R.PAR_ACC_CTL_slot] } t)
  ∧ (∀ (s t : State) (k : Fin 8) (x : Act) (slot : BitVec 17) (step : RecoverStep), exec (.accumulatorRecovery k x slot step) s = .next t →
      s.onlyTouches
        { parts := [.hostAttached, .hostC0, .hostC1, .hostChangedNs, .hostCtxs, .hostGroups, .irq, .par], fields := Touch.acc ++
          [R.HQE_CTL_fetch0, R.HQE_CTL_fetch1, R.HQE_STAT_fetching, R.PAR_ACC_CTL_act, R.PAR_ACC_CTL_slot] } t)
  ∧ (∀ (s t : State) (who : Init) (v : BitVec 12), exec (.objFeedPost who v) s = .next t →
      s.onlyTouches
        { parts := [.irq], fields := Touch.cfgErr ++ [R.OBJ_RING_TAIL_tail] } t)
  ∧ (∀ (s t : State), exec .objFeed s = .next t →
      s.onlyTouches
        { parts := [.dram, .drc, .hostObjUe, .irq], fields := [R.JIG_GOLD_STAT_refused, R.OBJ_CNT_BYTES_bytes, R.OBJ_CNT_EVT_err,
          R.OBJ_CNT_EVT_finals, R.OBJ_CNT_EVT_mism, R.OBJ_DONE_done, R.OBJ_ERR_cause, R.OBJ_ERR_ctx, R.OBJ_ERR_entry, R.OBJ_ERR_overflow,
          R.OBJ_ERR_valid, R.OBJ_MISM_mism, R.OBJ_RING_HEAD_head, R.OBJ_STAT_open] } t)
  ∧ (∀ (s t : State) (who : Init) (c : Fin 64), exec (.objCtxOpen who c) s = .next t →
      s.onlyTouches
        { parts := [.dram, .drc, .freeCount, .hostObjUe, .irq], fields := Touch.cfgErr ++ [R.JIG_GOLD_STAT_refused, R.OBJ_CNT_EVT_err,
          R.OBJ_CTX_CMD_op, R.OBJ_ERR_cause, R.OBJ_ERR_ctx, R.OBJ_ERR_entry, R.OBJ_ERR_overflow, R.OBJ_ERR_valid, R.OBJ_STAT_open] } t)
  ∧ (∀ (s t : State) (who : Init) (c : Fin 64), exec (.objCtxAbort who c) s = .next t →
      s.onlyTouches
        { parts := [.dram, .drc, .irq], fields := Touch.cfgErr ++ [R.JIG_GOLD_STAT_refused, R.OBJ_CTX_CMD_op, R.OBJ_STAT_open] } t)
  ∧ (∀ (s t : State) (who : Init) (srst : Bool), exec (.objDisable who srst) s = .next t →
      s.onlyTouches
        { parts := [.copy, .dram, .drc, .holding, .irq, .shadows], fields := [R.JIG_GOLD_STAT_refused, R.OBJ_CTL_en, R.OBJ_CTL_srst,
          R.OBJ_RING_HEAD_head, R.OBJ_STAT_open], blocks := [33] } t)
  ∧ (∀ (s t : State) (who : BufSrc) (spad : Bool) (a : BitVec 34) (op : LineOp) (err : SramErr), exec (.bufRequest who spad a op err) s = .next t →
      s.onlyTouches
        { parts := Touch.maintParts, fields := [R.BUF_CNT_EVT_merges, R.BUF_CNT_EVT_sram_ce, R.BUF_CNT_EVT_tw, R.BUF_CNT_EVT_waits,
          R.BUF_CNT_HIT_count, R.BUF_CNT_MISS_count, R.BUF_ERR_bank, R.BUF_ERR_cause, R.BUF_ERR_overflow, R.BUF_ERR_set, R.BUF_ERR_valid,
          R.BUF_ERR_way, R.BUF_STAT_victims, R.JIG_GOLD_STAT_refused] } t)
  ∧ (∀ (s t : State) (k : Fin 16), exec (.victimWritebackIssue k) s = .next t →
      s.onlyTouches
        { parts := [.buf], fields := [R.BUF_STAT_victims] } t)
  ∧ (∀ (s t : State) (k : Fin 16), exec (.victimWritebackAccept k) s = .next t →
      s.onlyTouches
        { parts := [.buf, .dram, .drc, .irq], fields := [R.BUF_STAT_victims, R.JIG_GOLD_STAT_refused] } t)
  ∧ (∀ (s t : State) (who : Init) (sw all : Bool) (count : BitVec 16), exec (.maintZero who sw all count) s = .next t →
      s.onlyTouches
        { parts := Touch.maintParts, fields := Touch.maint } t)
  ∧ (∀ (s t : State) (who : Init) (sw all : Bool) (count : BitVec 16), exec (.maintClean who sw all count) s = .next t →
      s.onlyTouches
        { parts := Touch.maintParts, fields := Touch.maint } t)
  ∧ (∀ (s t : State) (who : Init) (sw all : Bool) (count : BitVec 16), exec (.maintInval who sw all count) s = .next t →
      s.onlyTouches
        { parts := Touch.maintParts, fields := Touch.maint } t)
  ∧ (∀ (s t : State) (who : Init) (sw all : Bool) (count : BitVec 16), exec (.maintCleanInval who sw all count) s = .next t →
      s.onlyTouches
        { parts := Touch.maintParts, fields := Touch.maint } t)
  ∧ (∀ (s t : State), exec .maintDone s = .next t →
      s.onlyTouches
        { parts := [.irq], fields := [R.BUF_STAT_maint_busy] } t)
  ∧ (∀ (s t : State) (who : Init) (k : BitVec 4), exec (.scratchpadWrite who k) s = .next t →
      s.onlyTouches
        { parts := [.buf, .dram, .drc, .irq], fields := Touch.cfgErr ++ [R.BUF_SPAD_ways, R.BUF_STAT_spad_busy, R.JIG_GOLD_STAT_refused] } t)
  ∧ (∀ (s t : State), exec .scratchpadDone s = .next t →
      s.onlyTouches
        { parts := [.buf, .irq], fields := [R.BUF_STAT_spad_busy] } t)
  ∧ (∀ (s t : State) (who : Init), exec (.bufDrainStart who) s = .next t →
      s.onlyTouches
        { parts := [.irq], fields := Touch.cfgErr ++ [R.BUF_CTL_en, R.BUF_STAT_draining] } t)
  ∧ (∀ (s t : State), exec .bufDrainDone s = .next t →
      s.onlyTouches
        { parts := [.buf, .dram, .drc, .irq], fields := [R.BUF_STAT_draining, R.BUF_STAT_victims, R.JIG_GOLD_STAT_refused] } t)
  ∧ (∀ (s t : State) (who : Init), exec (.bufSoftReset who) s = .next t →
      s.onlyTouches
        { parts := [.buf, .copy, .dram, .drc, .holding, .shadows], fields := [R.BUF_CTL_srst, R.BUF_STAT_victims], blocks := [34] } t)
  ∧ (∀ (s t : State) (l2 : Bool) (word : BitVec 29) (op : WordOp) (err : DramErr), exec (.drcRequest l2 word op err) s = .next t →
      s.onlyTouches
        { parts := [.buf, .dram, .drc, .hostC0, .hostC1, .hostCtxs, .hostDamaged, .irq, .jig, .reply], fields := Touch.damage ++
          [R.BUF_STAT_victims, R.DRC_CNT_CE_count, R.DRC_CNT_UE_poison, R.DRC_CNT_UE_ue, R.DRC_ERR_ADDR_addr, R.DRC_ERR_cause,
          R.DRC_ERR_overflow, R.DRC_ERR_source, R.DRC_ERR_valid, R.DRC_INJ_arm, R.JIG_GOLD_STAT_refused, R.JIG_STAT_gold_ok] } t)
  ∧ (∀ (s t : State) (err : DramErr), exec (.patrolScrubRead err) s = .next t →
      s.onlyTouches
        { parts := [.drc, .hostC0, .hostC1, .hostCtxs, .hostDamaged, .irq, .jig], fields := Touch.damage ++ [R.DRC_CNT_CE_count,
          R.DRC_CNT_UE_poison, R.DRC_CNT_UE_ue, R.DRC_ERR_ADDR_addr, R.DRC_ERR_cause, R.DRC_ERR_overflow, R.DRC_ERR_source, R.DRC_ERR_valid,
          R.JIG_STAT_gold_ok] } t)
  ∧ (∀ (s t : State), exec .patrolPassDone s = .next t →
      s.onlyTouches
        { parts := [.drc, .irq] } t)
  ∧ (∀ (s t : State), exec .retrainPeriodic s = .next t →
      s.onlyTouches
        { parts := [.drc] } t)
  ∧ (∀ (s t : State) (who : Init), exec (.drcRetrainCmd who) s = .next t →
      s.onlyTouches
        { parts := [.drc, .irq], fields := Touch.cfgErr ++ [R.DRC_CTL_retrain] } t)
  ∧ (∀ (s t : State) (ok : Bool), exec (.retrainDone ok) s = .next t →
      s.onlyTouches
        { parts := [.drc, .irq], fields := [R.DRC_STAT_trn_fail] } t)
  ∧ (∀ (s t : State) (mr4 : BitVec 8), exec (.refreshRateRead mr4) s = .next t →
      s.onlyTouches
        { parts := [.drc] } t)
  ∧ (∀ (s t : State) (x : Act), exec (.faultLineDeasserted x) s = .next t →
      s.onlyTouches
        { fields := [R.WCH_HL_STAT_fault_line] } t)

/-- What media sequencer commands leave as they were. For every state and all operands, each of these commands that answers a next state
leaves everything as it was but the parts of the state, the register fields, the register blocks and the single registers that its clause
lists; State.onlyTouches says so over the whole state but the queue. A DRAM part in the list is narrowed to addresses by MemoryStores.
Each clause's list is the model's (assumptions 3 and 11). -/
def Obligations.SequencerFrames : Prop :=
  (∀ (s t : State) (who : Init) (x : Act) (v : BitVec 10), exec (.ringTailWrite who x v) s = .next t →
      s.onlyTouches
        { parts := [.irq], fields := Touch.cfgErr ++ [R.MSQ_RING_TAIL_tail, R.PWR_IDLE_STAT_count] } t)
  ∧ (∀ (s t : State) (x : Act) (flip flipFe : BitVec 14) (flipW : BitVec 128), exec (.dispatch x flip flipFe flipW) s = .next t →
      s.onlyTouches
        { parts := Touch.seqRunParts, fields := Touch.seqRun ++ [R.MSQ_CNT_EVT_preempts, R.MSQ_CTL_run, R.MSQ_STAT_held], keys := s.shadowKeys } t)
  ∧ (∀ (s t : State) (x : Act) (flip : BitVec 128), exec (.waitEnd x flip) s = .next t →
      s.onlyTouches
        { parts := Touch.wordParts, fields := Touch.word ++ Touch.seqRun ++ [R.MSQ_CNT_EVT_preempts, R.MSQ_STAT_held], keys := s.shadowKeys } t)
  ∧ (∀ (s t : State) (x : Act) (flip : BitVec 128), exec (.waitTimeout x flip) s = .next t →
      s.onlyTouches
        { parts := Touch.wordParts, fields := Touch.word ++ Touch.seqRun ++ [R.MSQ_CNT_EVT_preempts, R.MSQ_CNT_EVT_wto, R.MSQ_STAT_held,
          R.MSQ_STAT_wto], keys := s.shadowKeys } t)
  ∧ (∀ (s t : State) (x : Act), exec (.commitOpen x) s = .next t →
      s.onlyTouches
        { parts := [.msq], fields := [R.MSQ_STAT_state, R.PWR_IDLE_STAT_count] } t)
  ∧ (∀ (s t : State) (x : Act), exec (.commitClose x) s = .next t →
      s.onlyTouches
        { parts := Touch.wordParts, fields := Touch.word ++ Touch.seqRun ++ [R.MSQ_CNT_EVT_preempts, R.MSQ_STAT_held], keys := s.shadowKeys } t)
  ∧ (∀ (s t : State) (x : Act) (flip : BitVec 128), exec (.commitBoundExceeded x flip) s = .next t →
      s.onlyTouches
        { parts := Touch.seqRunParts, fields := Touch.seqRun ++ [R.MSQ_CNT_EVT_preempts, R.MSQ_STAT_held], keys := s.shadowKeys } t)
  ∧ (∀ (s t : State) (x : Act), exec (.chopSelect x) s = .next t →
      s.onlyTouches
        { parts := Touch.selectedParts, fields := Touch.selected ++ [R.GCK_CH_SEL_annulus, R.GCK_CH_SEL_head, R.GCK_CH_SEL_self,
          R.SRV_STAT_demod], keys := s.shadowKeys } t)
  ∧ (∀ (s t : State) (x : Act), exec (.chopReadOn x) s = .next t →
      s.onlyTouches
        { parts := [.irq, .msq, .par, .rch], fields := [R.PAR_ACC_STAT_lanes, R.PAR_CNT_MISC_nobind, R.PAR_ERR_acc, R.PAR_ERR_cause,
          R.PAR_ERR_index, R.PAR_ERR_overflow, R.PAR_ERR_valid, R.PAR_STAT_bound, R.RCH_STAT_reading] } t)
  ∧ (∀ (s t : State) (x : Act), exec (.chopReadOff x) s = .next t →
      s.onlyTouches
        { parts := [.msq, .rch], fields := [R.RCH_STAT_reading] } t)
  ∧ (∀ (s t : State) (x : Act), exec (.chopArm x) s = .next t →
      s.onlyTouches
        { parts := [.irq, .msq, .par], fields := [R.PAR_ACC_STAT_lanes, R.PAR_CNT_MISC_nobind, R.PAR_ERR_acc, R.PAR_ERR_cause, R.PAR_ERR_index,
          R.PAR_ERR_overflow, R.PAR_ERR_valid, R.PAR_STAT_bound, R.WCH_BWP_ptr, R.WCH_BWP_valid] } t)
  ∧ (∀ (s t : State) (x : Act), exec (.chopWriteOn x) s = .next t →
      s.onlyTouches
        { parts := [.irq, .msq, .par, .wch], fields := [R.PAR_ACC_STAT_lanes, R.PAR_CNT_MISC_nobind, R.PAR_ERR_acc, R.PAR_ERR_cause,
          R.PAR_ERR_index, R.PAR_ERR_overflow, R.PAR_ERR_valid, R.PAR_STAT_bound, R.WCH_STAT_writing] } t)
  ∧ (∀ (s t : State) (x : Act), exec (.chopWriteOff x) s = .next t →
      s.onlyTouches
        { parts := [.msq, .wch], fields := [R.WCH_STAT_lane_active, R.WCH_STAT_strobe, R.WCH_STAT_writing] } t)
  ∧ (∀ (s t : State) (x : Act), exec (.chopRelease x) s = .next t →
      s.onlyTouches
        { parts := [.msq, .rch, .srv, .wch], fields := [R.RCH_RCV_STAT_open, R.RCH_RSET_A_samples, R.RCH_STAT_rcv_open, R.RCH_STAT_reading,
          R.RCH_STAT_sb_frozen, R.RCH_STAT_stored_dec, R.SRV_STAT_demod, R.WCH_STAT_gate_req, R.WCH_STAT_lane_active, R.WCH_STAT_strobe,
          R.WCH_STAT_writing] } t)
  ∧ (∀ (s t : State) (x : Act), exec (.hmodeFrame x) s = .next t →
      s.onlyTouches
        { parts := [.hl, .msq], fields := [R.WCH_HL_CNT_merged, R.WCH_HL_STAT_depth, R.WCH_HL_STAT_fw_busy] } t)
  ∧ (∀ (s t : State) (x : Act), exec (.writeGateRequest x) s = .next t →
      s.onlyTouches
        { parts := [.msq], fields := [R.WCH_STAT_gate_req] } t)
  ∧ (∀ (s t : State) (x : Act), exec (.fmtLoad x) s = .next t →
      s.onlyTouches
        { parts := [.msq], fields := [R.MSQ_LANE_SEC_remaining, R.MSQ_LANE_SEC_sector, R.MSQ_LANE_TRK_track] } t)
  ∧ (∀ (s t : State) (x : Act), exec (.fmtNextTrack x) s = .next t →
      s.onlyTouches
        { parts := [.msq], fields := [R.MSQ_LANE_SEC_remaining, R.MSQ_LANE_SEC_sector, R.MSQ_LANE_TRK_track] } t)
  ∧ (∀ (s t : State) (x : Act), exec (.fmtHalt x) s = .next t →
      s.onlyTouches
        { parts := [.msq] } t)
  ∧ (∀ (s t : State) (x : Act), exec (.fmtRcvFirst x) s = .next t →
      s.onlyTouches
        { parts := [.msq], fields := [R.MSQ_LANE_SEC_remaining, R.MSQ_LANE_SEC_sector, R.MSQ_LANE_TRK_track] } t)
  ∧ (∀ (s t : State) (x : Act), exec (.fmtRcvNext x) s = .next t →
      s.onlyTouches
        { parts := [.msq], fields := [R.MSQ_LANE_SEC_remaining, R.MSQ_LANE_SEC_sector, R.MSQ_LANE_TRK_track] } t)
  ∧ (∀ (s t : State) (x : Act), exec (.fmtOvf x) s = .next t →
      s.onlyTouches
        { parts := [.msq], fields := [R.MSQ_LANE_PROG_progress, R.MSQ_LANE_SEC_remaining, R.MSQ_LANE_SEC_sector, R.MSQ_LANE_TRK_track,
          R.RCH_STAT_rset_ovf] } t)
  ∧ (∀ (s t : State) (x : Act), exec (.posSeek x) s = .next t →
      s.onlyTouches
        { parts := [.act, .irq, .msq], fields := [R.ACT_CNT_seeks, R.ACT_CNT_settles, R.ACT_STAT_count, R.ACT_STAT_settle, R.ACT_STAT_state,
          R.ACT_TGT_c, R.MSQ_LANE_PROG_progress, R.MSQ_LANE_SEC_remaining, R.MSQ_LANE_SEC_sector, R.MSQ_LANE_TRK_track, R.RCH_STAT_rset_ovf,
          R.SRV_WIN_STAT_over_a, R.SRV_WIN_STAT_over_b, R.SRV_WIN_STAT_span] } t)
  ∧ (∀ (s t : State) (x : Act), exec (.posTrackStep x) s = .next t →
      s.onlyTouches
        { parts := [.act, .irq, .msq], fields := [R.ACT_CNT_seeks, R.ACT_CNT_settles, R.ACT_STAT_count, R.ACT_STAT_settle, R.ACT_STAT_state,
          R.ACT_TGT_c, R.MSQ_LANE_PROG_progress, R.MSQ_LANE_SEC_remaining, R.MSQ_LANE_SEC_sector, R.MSQ_LANE_TRK_track, R.RCH_STAT_rset_ovf,
          R.SRV_WIN_STAT_over_a, R.SRV_WIN_STAT_over_b, R.SRV_WIN_STAT_span] } t)
  ∧ (∀ (s t : State) (x : Act), exec (.posOfftrackSet x) s = .next t →
      s.onlyTouches
        { parts := [.act, .irq, .msq], fields := [R.ACT_CNT_seeks, R.ACT_CNT_settles, R.ACT_STAT_count, R.ACT_STAT_settle, R.ACT_STAT_state,
          R.MSQ_LANE_PROG_progress, R.MSQ_LANE_SEC_remaining, R.MSQ_LANE_SEC_sector, R.MSQ_LANE_TRK_track, R.RCH_STAT_rset_ovf] } t)
  ∧ (∀ (s t : State) (x : Act), exec (.posOfftrackClr x) s = .next t →
      s.onlyTouches
        { parts := [.act, .irq, .msq], fields := [R.ACT_CNT_seeks, R.ACT_CNT_settles, R.ACT_STAT_count, R.ACT_STAT_settle, R.ACT_STAT_state,
          R.MSQ_LANE_PROG_progress, R.MSQ_LANE_SEC_remaining, R.MSQ_LANE_SEC_sector, R.MSQ_LANE_TRK_track, R.RCH_STAT_rset_ovf] } t)
  ∧ (∀ (s t : State) (x : Act), exec (.posRetract x) s = .next t →
      s.onlyTouches
        { parts := [.act, .freeCount, .irq, .msq], fields := Touch.actuator ++ [R.MSQ_LANE_PROG_progress, R.MSQ_LANE_SEC_remaining,
          R.MSQ_LANE_SEC_sector, R.MSQ_LANE_TRK_track, R.RCH_STAT_rset_ovf] } t)
  ∧ (∀ (s t : State) (x : Act), exec (.parOpOpen x) s = .next t →
      s.onlyTouches
        { parts := [.irq, .msq, .par], fields := [R.PAR_ACC_STAT_lanes, R.PAR_CNT_MISC_nobind, R.PAR_ERR_acc, R.PAR_ERR_cause, R.PAR_ERR_index,
          R.PAR_ERR_overflow, R.PAR_ERR_valid, R.PAR_STAT_bound] } t)
  ∧ (∀ (s t : State) (x : Act), exec (.parOpClose x) s = .next t →
      s.onlyTouches
        { parts := [.msq, .par, .wch], fields := [R.PAR_ACC_STAT_lanes, R.PAR_STAT_bound] } t)
  ∧ (∀ (s t : State) (x : Act), exec (.parOpSource x) s = .next t →
      s.onlyTouches
        { parts := [.irq, .msq, .par, .wch], fields := [R.PAR_ACC_STAT_lanes, R.PAR_ERR_acc, R.PAR_ERR_cause, R.PAR_ERR_index,
          R.PAR_ERR_overflow, R.PAR_ERR_valid, R.PAR_STAT_bound] } t)
  ∧ (∀ (s t : State) (x : Act), exec (.parOpRebuild x) s = .next t →
      s.onlyTouches
        { parts := Touch.seqStopParts ++ Touch.recoveryParts ++ [.dram, .drc, .hostDamaged], fields := Touch.recovery ++ Touch.selected ++
          Touch.damage ++ [R.ACT_CNT_seeks, R.ACT_CNT_settles, R.ACT_STAT_count, R.ACT_STAT_settle, R.ACT_STAT_state, R.ACT_TGT_c,
          R.GCK_CH_SEL_annulus, R.GCK_CH_SEL_head, R.GCK_CH_SEL_self, R.JIG_GOLD_STAT_refused, R.MSQ_LANE_PROG_progress, R.PAR_ACC_STAT_hw,
          R.PAR_CNT_ADD_count, R.PAR_CNT_RBLD_fail, R.PAR_CNT_RBLD_ok, R.PAR_STAT_wlk_a, R.PAR_STAT_wlk_b, R.PAR_WLK_STAT_busy,
          R.PAR_WLK_STAT_erasures, R.PAR_WLK_STAT_range, R.PAR_WLK_STAT_remaining, R.PAR_WLK_STAT_survivors, R.PWR_IDLE_STAT_count,
          R.SRV_WIN_STAT_over_a, R.SRV_WIN_STAT_over_b, R.SRV_WIN_STAT_span], keys := s.shadowKeys } t)
  ∧ (∀ (s t : State) (x : Act), exec (.bopLoad x) s = .next t →
      s.onlyTouches
        { parts := [.msq] } t)
  ∧ (∀ (s t : State) (x : Act), exec (.ctrLoad x) s = .next t →
      s.onlyTouches
        { parts := [.msq] } t)
  ∧ (∀ (s t : State) (x : Act), exec (.ctrDec x) s = .next t →
      s.onlyTouches
        { parts := [.msq] } t)
  ∧ (∀ (s t : State) (x : Act), exec (.postWback x) s = .next t →
      s.onlyTouches
        { parts := [.dram, .drc, .irq, .msq], fields := [R.JIG_GOLD_STAT_refused] } t)
  ∧ (∀ (s t : State) (x : Act), exec (.postStatus x) s = .next t →
      s.onlyTouches
        { parts := Touch.recordParts ++ [.act, .dram, .drc, .hostApplied, .hostAttached, .hostCmds, .hostDigests, .hostMedia, .hostPend,
          .hostPosted, .hostUnits, .hostUnsaved, .hostZones, .msq, .par, .wch], fields := Touch.actuator ++ Touch.record ++
          [R.JIG_GOLD_STAT_refused, R.MSQ_CNT_OPS_count, R.MSQ_RING_HEAD_head, R.MSQ_STAT_urgent, R.MSQ_URG_CTL_busy, R.PAR_ACC_STAT_lanes,
          R.PAR_STAT_bound] } t)
  ∧ (∀ (s t : State) (x : Act), exec (.postWbackStatus x) s = .next t →
      s.onlyTouches
        { parts := Touch.recordParts ++ [.act, .dram, .drc, .hostApplied, .hostAttached, .hostCmds, .hostDigests, .hostMedia, .hostPend,
          .hostPosted, .hostUnits, .hostUnsaved, .hostZones, .msq, .par, .wch], fields := Touch.actuator ++ Touch.record ++
          [R.JIG_GOLD_STAT_refused, R.MSQ_CNT_OPS_count, R.MSQ_RING_HEAD_head, R.MSQ_STAT_urgent, R.MSQ_URG_CTL_busy, R.PAR_ACC_STAT_lanes,
          R.PAR_STAT_bound] } t)
  ∧ (∀ (s t : State) (x : Act), exec (.ropNext x) s = .next t →
      s.onlyTouches
        { parts := [.msq, .rch], fields := [R.RCH_RCV_STAT_repeat, R.RCH_RCV_STAT_rung, R.RCH_RSET_A_rung] } t)
  ∧ (∀ (s t : State) (x : Act), exec (.ropApply x) s = .next t →
      s.onlyTouches
        { parts := [.hl, .msq, .rch], fields := [R.WCH_HL_CNT_merged, R.WCH_HL_STAT_depth, R.WCH_HL_STAT_fw_busy] } t)
  ∧ (∀ (s t : State) (x : Act), exec (.ropRepeat x) s = .next t →
      s.onlyTouches
        { parts := [.act, .msq], fields := [R.RCH_RCV_STAT_repeat] } t)
  ∧ (∀ (s t : State) (x : Act), exec (.ropStored x) s = .next t →
      s.onlyTouches
        { parts := [.msq, .rch], fields := [R.RCH_RCV_STAT_open, R.RCH_RCV_STAT_skipped, R.RCH_RSET_A_samples, R.RCH_STAT_rcv_open,
          R.RCH_STAT_sb_frozen, R.RCH_STAT_stored_dec] } t)
  ∧ (∀ (s t : State) (x : Act), exec (.ropRestore x) s = .next t →
      s.onlyTouches
        { parts := [.act, .hl, .msq, .rch], fields := [R.WCH_HL_CNT_merged, R.WCH_HL_STAT_depth, R.WCH_HL_STAT_fw_busy] } t)
  ∧ (∀ (s t : State) (x : Act), exec (.ropClose x) s = .next t →
      s.onlyTouches
        { parts := Touch.seqStopParts ++ Touch.recoveryParts, fields := Touch.recovery ++ Touch.selected ++ [R.GCK_CH_SEL_annulus,
          R.GCK_CH_SEL_head, R.GCK_CH_SEL_self, R.MSQ_LANE_PROG_progress, R.PAR_STAT_wlk_a, R.PAR_STAT_wlk_b, R.PAR_WLK_STAT_busy,
          R.PAR_WLK_STAT_erasures, R.PAR_WLK_STAT_range, R.PAR_WLK_STAT_remaining, R.PAR_WLK_STAT_survivors, R.PWR_IDLE_STAT_count],
          keys := s.shadowKeys } t)
  ∧ (∀ (s t : State) (who : Init) (x : Act), exec (.msqAbort who x) s = .next t →
      s.onlyTouches
        { parts := Touch.seqRunParts, fields := Touch.seqRun ++ Touch.cfgErr ++ [R.MSQ_CNT_EVT_preempts, R.MSQ_CTL_abort, R.MSQ_STAT_held],
          keys := s.shadowKeys } t)
  ∧ (∀ (s t : State) (who : Init) (x : Act), exec (.msqFlush who x) s = .next t →
      s.onlyTouches
        { parts := Touch.seqRunParts, fields := Touch.seqRun ++ Touch.cfgErr ++ [R.MSQ_CNT_EVT_preempts, R.MSQ_CTL_flush, R.MSQ_STAT_held],
          keys := s.shadowKeys } t)
  ∧ (∀ (s t : State) (who : Init) (x : Act) (v : Bool), exec (.msqRunWrite who x v) s = .next t →
      s.onlyTouches
        { parts := [.irq], fields := Touch.cfgErr ++ [R.MSQ_CTL_run, R.MSQ_STAT_state, R.PWR_IDLE_STAT_count] } t)
  ∧ (∀ (s t : State) (who : Init) (x : Act) (srst en : Bool), exec (.msqEnableWrite who x srst en) s = .next t →
      s.onlyTouches
        { parts := Touch.seqStopParts ++ [.holding], fields := Touch.seqStop ++ [R.MSQ_CTL_en, R.MSQ_CTL_srst], blocks := [24 + x.idx],
          keys := s.shadowKeys } t)
  ∧ (∀ (s t : State) (who : Init) (x : Act), exec (.urgentGo who x) s = .next t →
      s.onlyTouches
        { parts := [.irq, .msq], fields := Touch.cfgErr ++ [R.MSQ_URG_CTL_busy, R.MSQ_URG_CTL_go] } t)
  ∧ (∀ (s t : State) (x : Act) (flip flipFe : BitVec 14) (flipW : BitVec 128), exec (.preemption x flip flipFe flipW) s = .next t →
      s.onlyTouches
        { parts := Touch.seqRunParts, fields := Touch.seqRun ++ [R.MSQ_CNT_EVT_preempts, R.MSQ_STAT_held], keys := s.shadowKeys } t)
  ∧ (∀ (s t : State) (x : Act) (flip : BitVec 14) (flipW : BitVec 128), exec (.retractCountReached x flip flipW) s = .next t →
      s.onlyTouches
        { parts := Touch.seqRunParts, fields := Touch.seqRun ++ [R.MSQ_CNT_EVT_preempts, R.MSQ_STAT_held], keys := s.shadowKeys } t)
  ∧ (∀ (s t : State) (who : Init) (x : Act), exec (.csWrite who x) s = .next t →
      s.onlyTouches
        { parts := [.irq, .msq], fields := Touch.cfgErr ++ [R.MSQ_CS_CTL_wr] } t)
  ∧ (∀ (s t : State) (who : Init) (x : Act), exec (.csRead who x) s = .next t →
      s.onlyTouches
        { parts := [.irq], fields := Touch.cfgErr ++ [R.MSQ_CS_CTL_rd, R.MSQ_CS_DATA_data] } t)

/-- What gauge, servo, control, actuator, spindle and ring commands leave as they were. For every state and all operands, each of these
commands that answers a next state leaves everything as it was but the parts of the state, the register fields, the register blocks and
the single registers that its clause lists; State.onlyTouches says so over the whole state but the queue. A DRAM part in the list is
narrowed to addresses by MemoryStores. Each clause's list is the model's (assumptions 3 and 11). -/
def Obligations.MotionFrames : Prop :=
  (∀ (s t : State), exec .gaugeLoadSpeed s = .next t →
      s.onlyTouches
        { parts := Touch.gaugeParts ++ [.gck], fields := Touch.gauge ++ [R.GCK_STAT_active, R.GCK_STAT_tries_left], keys := s.shadowKeys } t)
  ∧ (∀ (s t : State), exec .gaugeUnloadSpeed s = .next t →
      s.onlyTouches
        { parts := Touch.gaugeParts ++ [.gck], fields := Touch.gauge ++ [R.GCK_STAT_prim_fly, R.GCK_STAT_spare_fly, R.GCK_STAT_spare_ok],
          keys := s.shadowKeys } t)
  ∧ (∀ (s t : State) (who : Init), exec (.gckLoadCmd who) s = .next t →
      s.onlyTouches
        { parts := Touch.gaugeParts ++ [.gck], fields := Touch.gauge ++ Touch.cfgErr ++ [R.GCK_CTL_load, R.GCK_STAT_active,
          R.GCK_STAT_tries_left], keys := s.shadowKeys } t)
  ∧ (∀ (s t : State) (who : Init), exec (.gckUnloadCmd who) s = .next t →
      s.onlyTouches
        { parts := Touch.gaugeParts ++ [.gck], fields := Touch.gauge ++ Touch.cfgErr ++ [R.GCK_CTL_unload, R.GCK_STAT_prim_fly,
          R.GCK_STAT_spare_fly, R.GCK_STAT_spare_ok], keys := s.shadowKeys } t)
  ∧ (∀ (s t : State) (who : Init), exec (.gckSwapCmd who) s = .next t →
      s.onlyTouches
        { parts := Touch.gaugeParts ++ [.gck], fields := Touch.gauge ++ Touch.cfgErr ++ [R.GCK_CTL_swap], keys := s.shadowKeys } t)
  ∧ (∀ (s t : State) (who : Init), exec (.gckRelockCmd who) s = .next t →
      s.onlyTouches
        { parts := Touch.gaugeParts ++ [.gck], fields := Touch.gauge ++ Touch.cfgErr ++ [R.GCK_CTL_relock, R.GCK_STAT_active,
          R.GCK_STAT_tries_left], keys := s.shadowKeys } t)
  ∧ (∀ (s t : State) (who : Init) (srst : Bool), exec (.gckDisable who srst) s = .next t →
      s.onlyTouches
        { parts := Touch.gaugeParts ++ [.gck, .holding], fields := Touch.gauge ++ [R.GCK_CTL_en, R.GCK_CTL_srst, R.GCK_STAT_prim_fly,
          R.GCK_STAT_spare_fly, R.GCK_STAT_spare_ok], blocks := [7], keys := s.shadowKeys } t)
  ∧ (∀ (s t : State) (head : GaugeHead), exec (.gaugeHeadFlying head) s = .next t →
      s.onlyTouches
        { fields := [R.GCK_STAT_prim_fly, R.GCK_STAT_spare_fly] } t)
  ∧ (∀ (s t : State) (amp : BitVec 8), exec (.gaugeAmplitudeOk amp) s = .next t →
      s.onlyTouches
        { parts := Touch.gaugeParts ++ [.gck], fields := Touch.gauge ++ [R.GCK_AMP_prim_amp, R.GCK_AMP_spare_amp], keys := s.shadowKeys } t)
  ∧ (∀ (s t : State), exec .gaugeLoadTimeout s = .next t →
      s.onlyTouches
        { parts := Touch.gaugeParts ++ [.gck], fields := Touch.gauge ++ [R.GCK_STAT_active], keys := s.shadowKeys } t)
  ∧ (∀ (s t : State), exec .gaugePhaseLock s = .next t →
      s.onlyTouches
        { parts := Touch.gaugeParts ++ [.gck], fields := Touch.gauge, keys := s.shadowKeys } t)
  ∧ (∀ (s t : State) (amp : BitVec 8), exec (.gaugeAcqTimeout amp) s = .next t →
      s.onlyTouches
        { parts := Touch.gaugeParts ++ [.gck], fields := Touch.gauge ++ [R.GCK_AMP_prim_amp, R.GCK_AMP_spare_amp, R.GCK_SPARE_MEAS_fresh,
          R.GCK_STAT_tries_left], keys := s.shadowKeys } t)
  ∧ (∀ (s t : State) (count : BitVec 16) (phase step : Word) (ns : BitVec 32), exec (.gaugeIndex count phase step ns) s = .next t →
      s.onlyTouches
        { parts := Touch.gaugeParts ++ [.frk, .gck, .pwr, .rch, .spm], fields := Touch.gauge ++ Touch.token ++ [R.CLE_CNT_ovr, R.CLE_OVR_ovr,
          R.GCK_DPHASE_dphase, R.GCK_EVT_CNT_loss, R.GCK_EVT_CNT_switch, R.GCK_IDX_DT_dt, R.GCK_REV_PERIOD_period, R.GCK_SPARE_MEAS_fresh,
          R.GCK_STAT_active, R.GCK_STAT_tries_left, R.PWR_DT_dt, R.RCH_RCV_STAT_revs, R.SPM_STAT_lock], keys := s.shadowKeys } t)
  ∧ (∀ (s t : State) (amp : BitVec 8), exec (.gaugeIndexTimeout amp) s = .next t →
      s.onlyTouches
        { parts := Touch.gaugeParts ++ [.gck], fields := Touch.gauge ++ [R.GCK_AMP_prim_amp, R.GCK_AMP_spare_amp, R.GCK_SPARE_MEAS_fresh,
          R.GCK_STAT_tries_left], keys := s.shadowKeys } t)
  ∧ (∀ (s t : State), exec .gaugeIndexMissing s = .next t →
      s.onlyTouches
        { parts := Touch.gaugeParts ++ [.gck], fields := Touch.gauge ++ [R.GCK_EVT_CNT_idx_miss, R.GCK_EVT_CNT_loss], keys := s.shadowKeys } t)
  ∧ (∀ (s t : State) (amp : BitVec 8), exec (.gaugeLoss amp) s = .next t →
      s.onlyTouches
        { parts := Touch.gaugeParts, fields := Touch.gauge ++ [R.GCK_AMP_prim_amp, R.GCK_AMP_spare_amp, R.GCK_EVT_CNT_loss], keys := s.shadowKeys
          } t)
  ∧ (∀ (s t : State) (amp : BitVec 8) (phaseOk : Bool), exec (.gaugeHoldEnd amp phaseOk) s = .next t →
      s.onlyTouches
        { parts := Touch.gaugeParts ++ [.gck], fields := Touch.gauge ++ [R.GCK_AMP_prim_amp, R.GCK_AMP_spare_amp, R.GCK_STAT_tries_left],
          keys := s.shadowKeys } t)
  ∧ (∀ (s t : State) (step : Word), exec (.switchPhaseLock step) s = .next t →
      s.onlyTouches
        { parts := [.gck], fields := [R.GCK_DP_STEP_step] } t)
  ∧ (∀ (s t : State), exec .switchTimeout s = .next t →
      s.onlyTouches
        { parts := Touch.gaugeParts ++ [.gck], fields := Touch.gauge ++ [R.GCK_SPARE_MEAS_fresh], keys := s.shadowKeys } t)
  ∧ (∀ (s t : State), exec .gaugeUnloadDone s = .next t →
      s.onlyTouches
        { parts := [.irq], fields := [R.GCK_STAT_state] } t)
  ∧ (∀ (s t : State) (phase : Word) (apart : BitVec 32), exec (.spareIndex phase apart) s = .next t →
      s.onlyTouches
        { parts := [.gck], fields := [R.GCK_SPARE_MEAS_fresh, R.GCK_SPARE_MEAS_meas_ofs, R.GCK_STAT_spare_ok] } t)
  ∧ (∀ (s t : State) (h : Fin 32) (w : Nat), exec (.wedgeBoundary h w) s = .next t →
      s.onlyTouches
        { parts := Touch.selectedParts, fields := Touch.selected ++ Touch.servoTick ++ [R.ACT_OFT_disp, R.SRV_STAT_state_a, R.SRV_STAT_state_b],
          keys := s.shadowKeys } t)
  ∧ (∀ (s t : State) (ch : Fin 8) (f : ServoField), exec (.servoFieldSample ch f) s = .next t →
      s.onlyTouches
        { parts := [.act, .cle, .freeCount, .irq, .srv], fields := Touch.servoTick ++ [R.SRV_CH_FLG_invcnt, R.SRV_CH_FLG_quality,
          R.SRV_CH_FLG_reason, R.SRV_CH_FLG_valid, R.SRV_CH_FLG_wedge, R.SRV_CH_NQ_n, R.SRV_CH_NQ_q, R.SRV_CH_PES_pes, R.SRV_CH_PES_sum,
          R.SRV_CH_POS_pos, R.SRV_CNT0_missing, R.SRV_CNT0_wedge, R.SRV_CNT1_range, R.SRV_CNT1_stale, R.SRV_CNT2_amp, R.SRV_CNT2_forced_ok,
          R.SRV_SFE_vga] } t)
  ∧ (∀ (s t : State) (ch : Fin 8) (code : BitVec 12) (apart : BitVec 32), exec (.huntSync ch code apart) s = .next t →
      s.onlyTouches
        { parts := Touch.selectedParts, fields := Touch.selected ++ [R.SRV_STAT_state_a, R.SRV_STAT_state_b], keys := s.shadowKeys } t)
  ∧ (∀ (s t : State) (x : Act), exec (.huntMissingTick x) s = .next t →
      s.onlyTouches
        { parts := [.act, .cle, .freeCount, .irq, .srv], fields := Touch.servoTick ++ [R.SRV_CH_FLG_invcnt, R.SRV_CH_FLG_quality,
          R.SRV_CH_FLG_reason, R.SRV_CH_FLG_valid, R.SRV_CH_FLG_wedge, R.SRV_CNT0_missing, R.SRV_CNT0_wedge, R.SRV_CNT1_range, R.SRV_CNT1_stale,
          R.SRV_CNT2_amp] } t)
  ∧ (∀ (s t : State) (x : Act), exec (.followMiss x) s = .next t →
      s.onlyTouches
        { parts := Touch.selectedParts, fields := Touch.selected ++ [R.SRV_STAT_state_a, R.SRV_STAT_state_b], keys := s.shadowKeys } t)
  ∧ (∀ (s t : State) (who : Init) (srst en actA actB : Bool), exec (.srvActWrite who srst en actA actB) s = .next t →
      s.onlyTouches
        { parts := Touch.selectedParts ++ [.holding], fields := Touch.selected ++ [R.SRV_ACT_FLG_chan, R.SRV_ACT_FLG_invcnt,
          R.SRV_ACT_FLG_quality, R.SRV_ACT_FLG_reason, R.SRV_ACT_FLG_valid, R.SRV_ACT_FLG_wedge, R.SRV_ACT_POS_pos, R.SRV_CH_FLG_quality,
          R.SRV_CH_FLG_reason, R.SRV_CH_FLG_valid, R.SRV_CH_FLG_wedge, R.SRV_CH_NQ_n, R.SRV_CH_NQ_q, R.SRV_CH_PES_pes, R.SRV_CH_PES_sum,
          R.SRV_CH_POS_pos, R.SRV_CTL_act_a, R.SRV_CTL_act_b, R.SRV_CTL_en, R.SRV_CTL_srst, R.SRV_STAT_demod, R.SRV_STAT_state_a,
          R.SRV_STAT_state_b], blocks := [26], keys := s.shadowKeys } t)
  ∧ (∀ (s t : State) (k : Fin 24) (wrap : Bool), exec (.loopTrigger k wrap) s = .next t →
      s.onlyTouches
        { parts := [.cle, .irq], fields := [R.CLE_CNT_ovr, R.CLE_OVR_ovr] } t)
  ∧ (∀ (s t : State), exec .loopCompute s = .next t →
      s.onlyTouches
        { parts := [.cle, .copy, .freeCount, .hl, .irq, .shadows], fields := [R.ACT_MA_CLAMP_clamp, R.ACT_MA_CMD_dac, R.ACT_MA_CMD_m,
          R.CLE_CNT_swaps, R.CLE_REF_ref, R.CLE_SSTAT_bank, R.CLE_SSTAT_invcnt, R.CLE_SSTAT_ramping, R.CLE_SSTAT_sat, R.CLE_SSTAT_xsat,
          R.CLE_STATE_state, R.CLE_SWAP_swap, R.CLE_S_HI_s, R.CLE_S_LO_s, R.CLE_U_u, R.CLE_VEL_vel, R.CLE_Y_y, R.SPM_VDQ_v_d, R.SPM_VDQ_v_q,
          R.WCH_HL_CNT_merged, R.WCH_HL_STAT_depth, R.WCH_HL_STAT_fw_busy], keys := s.shadowKeys } t)
  ∧ (∀ (s t : State) (who : Init) (bits : BitVec 24), exec (.bankSwapRequest who bits) s = .next t →
      s.onlyTouches
        { parts := [.irq], fields := Touch.cfgErr ++ [R.CLE_CNT_swaps, R.CLE_SSTAT_bank, R.CLE_SWAP_swap, R.CLE_S_HI_s, R.CLE_S_LO_s] } t)
  ∧ (∀ (s t : State) (who : Init) (k : Fin 24) (on : Bool), exec (.slotEnable who k on) s = .next t →
      s.onlyTouches
        { parts := [.cle, .copy, .freeCount, .hl, .irq, .shadows], fields := Touch.cfgErr ++ [R.ACT_MA_CLAMP_clamp, R.ACT_MA_CMD_dac,
          R.ACT_MA_CMD_m, R.CLE_CFG_en, R.CLE_SSTAT_invcnt, R.CLE_SSTAT_sat, R.CLE_SSTAT_xsat, R.CLE_STATE_state, R.CLE_S_HI_s, R.CLE_S_LO_s,
          R.CLE_U_u, R.SPM_VDQ_v_d, R.SPM_VDQ_v_q, R.WCH_HL_CNT_merged, R.WCH_HL_STAT_depth, R.WCH_HL_STAT_fw_busy], keys := s.shadowKeys } t)
  ∧ (∀ (s t : State) (who : Init) (k : Fin 24) (v : Word), exec (.slotTargetWrite who k v) s = .next t →
      s.onlyTouches
        { parts := [.cle, .irq], fields := Touch.cfgErr ++ [R.CLE_SSTAT_ramping, R.CLE_TGT_tgt] } t)
  ∧ (∀ (s t : State) (who : Init) (k : Fin 24) (v : Word), exec (.measWrite who k v) s = .next t →
      s.onlyTouches
        { parts := [.cle, .irq], fields := Touch.cfgErr ++ [R.CLE_CNT_ovr, R.CLE_MEAS_meas, R.CLE_OVR_ovr] } t)
  ∧ (∀ (s t : State), exec .cleTimerTick s = .next t →
      s.onlyTouches
        { parts := [.cle, .irq], fields := [R.CLE_CNT_ovr, R.CLE_OVR_ovr] } t)
  ∧ (∀ (s t : State) (ns : BitVec 32), exec (.spdRefEdge ns) s = .next t →
      s.onlyTouches
        { parts := [.cle, .freeCount], fields := [R.CLE_SPD_MEAS_rpm] } t)
  ∧ (∀ (s t : State), exec .spdRefLost s = .next t →
      s.onlyTouches
        { parts := [.cle, .irq], fields := [R.CLE_STAT_spd_lost] } t)
  ∧ (∀ (s t : State) (who : Init) (slot : BitVec 5), exec (.auxFollowStart who slot) s = .next t →
      s.onlyTouches
        { parts := [.cle, .irq], fields := Touch.cfgErr ++ [R.ACT_CNT_seeks, R.ACT_CNT_settles, R.ACT_STAT_count, R.ACT_STAT_settle,
          R.ACT_STAT_state, R.CLE_REF_CFG_aux_ext, R.CLE_REF_CFG_aux_slot, R.CLE_STAT_aux_active] } t)
  ∧ (∀ (s t : State) (x : Act) (code : BitVec 12) (mV mA : BitVec 16) (aux : BitVec 12) (vib : List (BitVec 12)), exec (.vcmPwmPeriod x code mV mA aux vib) s = .next t →
      s.onlyTouches
        { parts := [.act, .cle, .freeCount, .irq], fields := [R.ACT_IMEAS_code, R.ACT_VEST_vest, R.CLE_AUX_MEAS_code, R.CLE_CNT_ovr,
          R.CLE_OVR_ovr, R.CLE_VEL_vel, R.SYS_VIB_hi, R.SYS_VIB_lo] } t)
  ∧ (∀ (s t : State) (who : Init) (srst en actA actB : Bool), exec (.actEnableWrite who srst en actA actB) s = .next t →
      s.onlyTouches
        { parts := [.act, .copy, .freeCount, .holding, .irq, .shadows], fields := Touch.actuator ++ [R.ACT_CTL_act_a, R.ACT_CTL_act_b,
          R.ACT_CTL_en, R.ACT_CTL_srst], blocks := [29], keys := s.shadowKeys } t)
  ∧ (∀ (s t : State) (who : Init) (x : Act), exec (.actLoadCmd who x) s = .next t →
      s.onlyTouches
        { parts := [.act, .irq], fields := Touch.cfgErr ++ [R.ACT_CMD_load, R.ACT_CNT_seeks, R.ACT_CNT_settles, R.ACT_STAT_count,
          R.ACT_STAT_settle, R.ACT_STAT_state] } t)
  ∧ (∀ (s t : State) (who : Init) (x : Act), exec (.actRetractCmd who x) s = .next t →
      s.onlyTouches
        { parts := [.act, .freeCount, .irq], fields := Touch.cfgErr ++ Touch.actuator ++ [R.ACT_CMD_retract] } t)
  ∧ (∀ (s t : State) (x : Act), exec (.actLoadTimeout x) s = .next t →
      s.onlyTouches
        { parts := [.act, .freeCount, .irq], fields := Touch.actuator ++ [R.ACT_STAT_load_fail] } t)
  ∧ (∀ (s t : State) (x : Act), exec (.retractParked x) s = .next t →
      s.onlyTouches
        { parts := Touch.actuatorParts, fields := Touch.actuator } t)
  ∧ (∀ (s t : State) (x : Act), exec (.retractTimeout x) s = .next t →
      s.onlyTouches
        { parts := Touch.actuatorParts, fields := Touch.actuator ++ [R.ACT_STAT_ret_to] } t)
  ∧ (∀ (s t : State) (p : SpmPeriod), exec (.spmPwmPeriod p) s = .next t →
      s.onlyTouches
        { parts := [.cle, .freeCount, .hostC0, .hostC1, .hostChangedNs, .hostCtxs, .irq, .msq, .spm, .wch], fields := Touch.writeRun ++
          [R.CLE_CNT_ovr, R.CLE_OVR_ovr, R.HQE_CTL_fetch0, R.HQE_CTL_fetch1, R.HQE_STAT_fetching, R.SPM_ANGLE_theta, R.SPM_CNT2_missing,
          R.SPM_CNT2_shifted, R.SPM_IDQ_i_d, R.SPM_IDQ_i_q, R.SPM_IDREF_id_ref, R.SPM_SPEED_obs_rpm, R.SPM_SPEED_rpm, R.SPM_STAT_ang_src,
          R.SPM_STAT_fw, R.SPM_STAT_lock, R.SPM_STAT_sector] } t)
  ∧ (∀ (s t : State), exec .observerConverged s = .next t →
      s.onlyTouches
        { parts := Touch.spindleParts ++ [.cle], fields := Touch.spindle ++ [R.CLE_SSTAT_invcnt, R.CLE_SSTAT_sat, R.CLE_SSTAT_xsat,
          R.CLE_STATE_state, R.CLE_S_HI_s, R.CLE_S_LO_s, R.SPM_IDREF_id_ref, R.SPM_STAT_pending] } t)
  ∧ (∀ (s t : State), exec .observerLoss s = .next t →
      s.onlyTouches
        { parts := Touch.spindleParts ++ [.evr], fields := Touch.spindle ++ Touch.record ++ [R.SPM_CNT_coasts, R.SPM_CNT_obs_loss] } t)
  ∧ (∀ (s t : State), exec .observerMark s = .next t →
      s.onlyTouches
        { parts := Touch.spindleParts ++ [.cle, .copy, .rch, .shadows], fields := Touch.token ++ Touch.writeRun ++ [R.CLE_CNT_ovr, R.CLE_OVR_ovr,
          R.GCK_DPHASE_dphase, R.HQE_CTL_fetch0, R.HQE_CTL_fetch1, R.HQE_STAT_fetching, R.RCH_RCV_STAT_revs, R.SPM_STAT_lock],
          keys := s.shadowKeys } t)
  ∧ (∀ (s t : State) (who : Init), exec (.spmStart who) s = .next t →
      s.onlyTouches
        { parts := Touch.spindleParts, fields := Touch.spindle ++ Touch.cfgErr ++ [R.SPM_CTL_start, R.SPM_STAT_pending] } t)
  ∧ (∀ (s t : State) (who : Init), exec (.spmStop who) s = .next t →
      s.onlyTouches
        { parts := Touch.spindleParts, fields := Touch.spindle ++ Touch.cfgErr ++ [R.SPM_CTL_stop, R.SPM_STAT_pending] } t)
  ∧ (∀ (s t : State), exec .spmStill s = .next t →
      s.onlyTouches
        { parts := Touch.spindleParts ++ [.cle], fields := Touch.spindle ++ [R.SPM_ANGLE_theta, R.SPM_IDREF_id_ref] } t)
  ∧ (∀ (s t : State) (forward : Bool) (rpm : BitVec 16) (theta : Word), exec (.measureOrderFound forward rpm theta) s = .next t →
      s.onlyTouches
        { parts := Touch.spindleParts ++ [.cle], fields := Touch.spindle ++ [R.CLE_SSTAT_invcnt, R.CLE_SSTAT_sat, R.CLE_SSTAT_xsat,
          R.CLE_STATE_state, R.CLE_S_HI_s, R.CLE_S_LO_s, R.SPM_CNT_catches, R.SPM_CNT_reverses, R.SPM_IDREF_id_ref, R.SPM_SPEED_obs_rpm,
          R.SPM_STAT_pending, R.SPM_STAT_reverse] } t)
  ∧ (∀ (s t : State), exec .measureTimeout s = .next t →
      s.onlyTouches
        { parts := Touch.spindleParts, fields := Touch.spindle } t)
  ∧ (∀ (s t : State) (rpm : BitVec 16), exec (.reverseCheck rpm) s = .next t →
      s.onlyTouches
        { parts := Touch.spindleParts, fields := Touch.spindle } t)
  ∧ (∀ (s t : State), exec .brakeTimeout s = .next t →
      s.onlyTouches
        { parts := Touch.spindleParts, fields := Touch.spindle ++ [R.SPM_STAT_pending, R.SPM_STAT_start_fail] } t)
  ∧ (∀ (s t : State), exec .alignDone s = .next t →
      s.onlyTouches
        { parts := Touch.spindleParts ++ [.cle], fields := Touch.spindle ++ [R.SPM_IDREF_id_ref] } t)
  ∧ (∀ (s t : State), exec .openTimeout s = .next t →
      s.onlyTouches
        { parts := Touch.spindleParts, fields := Touch.spindle ++ [R.SPM_STAT_pending, R.SPM_STAT_start_fail] } t)
  ∧ (∀ (s t : State), exec .coastEnd s = .next t →
      s.onlyTouches
        { parts := Touch.spindleParts, fields := Touch.spindle ++ [R.SPM_STAT_pending] } t)
  ∧ (∀ (s t : State), exec .gaugeAngleValid s = .next t →
      s.onlyTouches
        { parts := [.spm] } t)
  ∧ (∀ (s t : State) (mean : Word), exec (.gaugeOffsetMeasured mean) s = .next t →
      s.onlyTouches
        { parts := [.spm], fields := [R.SPM_GANG_MEAS_meas] } t)
  ∧ (∀ (s t : State), exec .gaugeAngleWithdrawn s = .next t →
      s.onlyTouches
        { parts := Touch.spindleParts ++ [.evr], fields := Touch.spindle ++ Touch.record ++ [R.SPM_CNT_coasts] } t)
  ∧ (∀ (s t : State) (who : Init) (srst : Bool), exec (.spmDisable who srst) s = .next t →
      s.onlyTouches
        { parts := Touch.spindleParts ++ [.copy, .holding, .shadows], fields := Touch.spindle ++ [R.SPM_CTL_en, R.SPM_CTL_srst,
          R.SPM_STAT_pending], blocks := [28], keys := s.shadowKeys } t)
  ∧ (∀ (s t : State) (amp : BitVec 8), exec (.spareGaugeLoss amp) s = .next t →
      s.onlyTouches
        { parts := [.gck, .irq], fields := [R.GCK_AMP_prim_amp, R.GCK_AMP_spare_amp, R.GCK_STAT_spare_ok] } t)

/-- Every byte of DRAM outside the addresses that a storing command computes keeps its value. For each command that may store to DRAM, the
clause computes from the state and the operands the areas that it may store to; every byte outside them reads as before. The commands that
reset or reload the part or apply an arbitrary posted write are not in this statement: BRIDGE_WRITE_APPLY, DEBUG_PORT_ACCESS,
POWER_ON_RESET, AON_POWER_UP, RESET_N_LOW, WARM_ASSERT, IMAGE_STREAM_DONE, UART_RECOVERY_IMAGE, LOAD_DONE, ACTIVATION_RESUME,
BIST_SOFT_RESET, BSCAN_GRANT and BSCAN_PRECOND_RELEASE; nor are those whose frame leaves the part dram out, which store nothing. DRAM
reads 0 where nothing is written (assumption 5). -/
def Obligations.MemoryStores : Prop :=
  (∀ (s t : State) (x : Act), Memory.wf s.dram = true → exec (.postWback x) s = .next t → s.bytesKept (s.pointerAreas x) t)
  ∧ (∀ (s t : State) (x : Act), Memory.wf s.dram = true → exec (.postStatus x) s = .next t → s.bytesKept ((s.statusAreas x ++ s.faultAreas)) t)
  ∧ (∀ (s t : State) (x : Act), Memory.wf s.dram = true → exec (.postWbackStatus x) s = .next t → s.bytesKept ((s.pointerAreas x ++ s.statusAreas x ++ s.faultAreas)) t)
  ∧ (∀ (s t : State) (x : Act), Memory.wf s.dram = true → exec (.parOpRebuild x) s = .next t → s.bytesKept ((s.rangeAreas x)) t)
  ∧ (∀ (s t : State) (x : Act) (reads : List SurvivorRead), Memory.wf s.dram = true → exec (.walkerRound x reads) s = .next t → s.bytesKept ((s.walkAreas x)) t)
  ∧ (∀ (s t : State) (x : Act) (flip flipFe : BitVec 14) (flipW : BitVec 128), Memory.wf s.dram = true → exec (.dispatch x flip flipFe flipW) s = .next t → s.bytesKept ((s.postAreas x)) t)
  ∧ (∀ (s t : State) (x : Act) (flip : BitVec 128), Memory.wf s.dram = true → exec (.commitBoundExceeded x flip) s = .next t → s.bytesKept ((s.postAreas x)) t)
  ∧ (∀ (s t : State) (who : Init) (x : Act), Memory.wf s.dram = true → exec (.msqAbort who x) s = .next t → s.bytesKept ((s.postAreas x)) t)
  ∧ (∀ (s t : State) (who : Init) (x : Act), Memory.wf s.dram = true → exec (.msqFlush who x) s = .next t → s.bytesKept ((s.postAreas x)) t)
  ∧ (∀ (s t : State) (x : Act) (flip flipFe : BitVec 14) (flipW : BitVec 128), Memory.wf s.dram = true → exec (.preemption x flip flipFe flipW) s = .next t → s.bytesKept ((s.postAreas x)) t)
  ∧ (∀ (s t : State) (x : Act) (flip : BitVec 14) (flipW : BitVec 128), Memory.wf s.dram = true → exec (.retractCountReached x flip flipW) s = .next t → s.bytesKept ((s.postAreas x)) t)
  ∧ (∀ (s t : State) (x : Act) (flip : BitVec 128), Memory.wf s.dram = true → exec (.waitEnd x flip) s = .next t → s.bytesKept ((s.postAreas x ++ s.rangeAreas x)) t)
  ∧ (∀ (s t : State) (x : Act) (flip : BitVec 128), Memory.wf s.dram = true → exec (.waitTimeout x flip) s = .next t → s.bytesKept ((s.postAreas x ++ s.rangeAreas x)) t)
  ∧ (∀ (s t : State) (x : Act), Memory.wf s.dram = true → exec (.commitClose x) s = .next t → s.bytesKept ((s.postAreas x ++ s.rangeAreas x)) t)
  ∧ (∀ (s t : State) (ch : Fin 8) (d : Decoded) (m : SectorMeasure), Memory.wf s.dram = true → exec (.sectorDecodeDone ch d m) s = .next t → s.bytesKept (((s.rch[ch].flight.map (·.k)).flatMap (s.sectorAreas ch))) t)
  ∧ (∀ (s t : State) (ch : Fin 8) (d : Decoded) (ecc : Bool), Memory.wf s.dram = true → exec (.storedDecodeDone ch d ecc) s = .next t → s.bytesKept (((List.range 16).flatMap (fun e => s.sectorAreas ch (s.entryLaneK ch e)))) t)
  ∧ (∀ (s t : State) (ch : Fin 8), Memory.wf s.dram = true → exec (.sectorComplete ch) s = .next t → s.bytesKept (((s.wch[ch].asm.map (·.k)).flatMap (s.sectorAreas ch))) t)
  ∧ (∀ (s t : State), Memory.wf s.dram = true → exec .objFeed s = .next t → s.bytesKept (((List.range 64).flatMap s.objAreas)) t)
  ∧ (∀ (s t : State) (who : Init) (c : Fin 64), Memory.wf s.dram = true → exec (.objCtxOpen who c) s = .next t → s.bytesKept ((s.objAreas c.val)) t)
  ∧ (∀ (s t : State) (who : Init) (c : Fin 64), Memory.wf s.dram = true → exec (.objCtxAbort who c) s = .next t → s.bytesKept ((s.objAreas c.val)) t)
  ∧ (∀ (s t : State) (who : Init) (srst : Bool), Memory.wf s.dram = true → exec (.objDisable who srst) s = .next t → s.bytesKept (((List.range 64).flatMap s.objAreas)) t)
  ∧ (∀ (s t : State) (f : RingFrame), Memory.wf s.dram = true → exec (.frameEvt f) s = .next t → s.bytesKept ((s.frameAreas f)) t)
  ∧ (∀ (s t : State) (f : RingFrame), Memory.wf s.dram = true → exec (.frameMbx f) s = .next t → s.bytesKept ((s.frameAreas f)) t)
  ∧ (∀ (s t : State) (x : Act), Memory.wf s.dram = true → exec (.itemPost x) s = .next t → s.bytesKept ([(s.rd (msqF R.MSQ_RING_BASE_base x) * 256 + 256 * s.rd (msqF R.MSQ_RING_TAIL_tail x), 256)]) t)
  ∧ (∀ (s t : State) (ctx : Fin 16384), Memory.wf s.dram = true → exec (.firmwareImageDownload ctx) s = .next t → s.bytesKept ((s.host.ctxs.flatMap (fun c => match c.cmd with | .download off bs => [(s.goldSlot 1 + off.toNat, bs.length)] | _ => []))) t)
  ∧ (∀ (s t : State), Memory.wf s.dram = true → exec .goldRepairDone s = .next t → s.bytesKept ((match s.jig.repair with | (half, type) :: _ => (match imgFind (imgOfList (s.flashDev (s.rd R.JIG_STAT_boot_copy)).copy) type with | some x => [(s.goldBase + goldSlotBytes * half + x.off, x.len)] | none => []) | [] => [])) t)
  ∧ (∀ (s t : State) (port : Fin 2) (kind : PcieReset), Memory.wf s.dram = true → exec (.pcieConventionalReset port kind) s = .next t → s.bytesKept (s.imageAreas) t)
  ∧ (∀ (s t : State) (port : Fin 2) (up : Bool) (speed : BitVec 4) (width : BitVec 4) (pm dstate : BitVec 2) (ltssm : BitVec 6), Memory.wf s.dram = true → exec (.linkChange port up speed width pm dstate ltssm) s = .next t → s.bytesKept (s.imageAreas) t)
  ∧ (∀ (s t : State) (l2 : Bool) (word : BitVec 29) (op : WordOp) (err : DramErr), Memory.wf s.dram = true → exec (.drcRequest l2 word op err) s = .next t → s.bytesKept ([(32 * word.toNat, 32)]) t)
  ∧ (∀ (s t : State) (who : BufSrc) (spad : Bool) (a : BitVec 34) (op : LineOp) (err : SramErr), Memory.wf s.dram = true → exec (.bufRequest who spad a op err) s = .next t → s.bytesKept ((reqAreas a.toNat op ++ s.heldAreas)) t)
  ∧ (∀ (s t : State) (k : Fin 16), Memory.wf s.dram = true → exec (.victimWritebackAccept k) s = .next t → s.bytesKept (s.heldAreas) t)
  ∧ (∀ (s t : State) (who : Init) (k : BitVec 4), Memory.wf s.dram = true → exec (.scratchpadWrite who k) s = .next t → s.bytesKept (s.heldAreas) t)
  ∧ (∀ (s t : State), Memory.wf s.dram = true → exec .bufDrainDone s = .next t → s.bytesKept (s.heldAreas) t)
  ∧ (∀ (s t : State) (who : Init), Memory.wf s.dram = true → exec (.bufSoftReset who) s = .next t → s.bytesKept (s.heldAreas) t)
  ∧ (∀ (s t : State) (who : Init) (sw all : Bool) (count : BitVec 16), Memory.wf s.dram = true → exec (.maintZero who sw all count) s = .next t → s.bytesKept (((s.maintBase, 128 * (count.toNat + 1)) :: s.heldAreas)) t)
  ∧ (∀ (s t : State) (who : Init) (sw all : Bool) (count : BitVec 16), Memory.wf s.dram = true → exec (.maintClean who sw all count) s = .next t → s.bytesKept (s.heldAreas) t)
  ∧ (∀ (s t : State) (who : Init) (sw all : Bool) (count : BitVec 16), Memory.wf s.dram = true → exec (.maintInval who sw all count) s = .next t → s.bytesKept (s.heldAreas) t)
  ∧ (∀ (s t : State) (who : Init) (sw all : Bool) (count : BitVec 16), Memory.wf s.dram = true → exec (.maintCleanInval who sw all count) s = .next t → s.bytesKept (s.heldAreas) t)
  ∧ (∀ (s t : State) (index : BitVec 21) (surface : BitVec 4) (position : BitVec 17), Memory.wf s.dram = true → exec (.bandRelocation index surface position) s = .next t → s.bytesKept ((s.remapAreas [index.toNat])) t)
  ∧ (∀ (s t : State) (h : Fin 32), Memory.wf s.dram = true → exec (.headRetire h) s = .next t → s.bytesKept ((s.remapAreas (s.bandsOf .a ++ s.bandsOf .b ++ s.bandsOfZones (List.range s.allZones)))) t)
  ∧ (∀ (s t : State) (z : BitVec 20) (complete : Nat), Memory.wf s.dram = true → exec (.tailScan z complete) s = .next t → s.bytesKept ((s.bandAreas (s.bandsOfZones [z.toNat]))) t)
  ∧ (∀ (s t : State) (ctx : Fin 16384), Memory.wf s.dram = true → exec (.zoneReset ctx) s = .next t → s.bytesKept ((s.bandAreas (s.host.zones.flatMap (fun e => s.bandsOfZones [e.1] ++ s.resetBands e.1)))) t)
  ∧ (∀ (s t : State) (zones : List Nat) (got : List (Nat × Option Block)), Memory.wf s.dram = true → exec (.compaction zones got) s = .next t → s.bytesKept ((s.bandAreas (s.host.zones.flatMap (fun e => s.bandsOfZones [e.1] ++ s.resetBands e.1)))) t)

/-- A step runs the command at the front of the queue on the state with the rest of the queue; an empty queue idles. For every state whose
queue begins with a command, step is exec of that command on the state with the rest of the queue; with an empty queue step answers the
same state. The queue and the idle step are the model's choice (assumptions 37 and 100). -/
def Obligations.StepRunsFront : Prop :=
  (∀ (c : Instr) (s : State) (rest : List Instr), s.pending = c :: rest → step s = exec c { s with pending := rest })
  ∧ (∀ s : State, s.pending = [] → step s = .next s)

/-- After reset these registers of each block hold the reset values of the register maps. State.reset holds, in fields of many blocks whose
map gives a reset value other than 0, that value: SYS_ID_part = 17424, SYS_RST_CAUSE_por = 1, SYS_UART_STAT_tx_free = 16, PWR_PLVL_req =
2, PWR_ARB_CFG_window = 1000, PWR_AVS_CFG_tmo = 200, THM_LIMITS_warn = 95, THM_THR_CFG_step_ms = 500, THM_SQ_CFG_dgl = 4, EVR_CFG_flush_ms
= 100, EVR_CFG_irq_sev = 4, CAL_CFG_quiet = 4, CAL_VMON_DIV_div12 = 1088, GCK_CTL_auto_load = 1, GCK_PLL_CFG_bw = 6, GCK_CORR_CFG_en = 1,
RCH_SYNC_CFG_force_en = 1, RCH_TRK_CFG_kg = 6, RCH_TRK_CFG_m_en = 1, WCH_CFG_wr_retry = 4, WCH_CFG_lead = 32, MSQ_CFG_wait_lim = 20,
MSQ_CFG_inv_limit = 7, SRV_CTL_force_en = 1, SRV_WIN_CFG_sync_win = 8, SRV_REF_CFG_ref_b = 16, CLE_REF_CFG_aux_span = 1, CLE_TIMER_period
= 1000, SPM_CFG_pp = 4, SPM_BRAKE_brake_max = 30, SPM_SQ_v_hold = 10000, ACT_SEEK_v_max = 1000, ACT_RET_ret_v = 5120, ACT_MA_GAIN_gain =
4096, HQE_CTX_CFG_lim1 = 16384, HQE_SCHED_CFG_max_lanes = 8, HQE_STAMP_stamp = 1, OBJ_RING_SIZE_log2 = 8, BUF_TW_CFG_thresh = 64,
BUF_TW_CFG_tw_en = 1, DRC_CFG_dbi = 1, DRC_SCRUB_CFG_en = 1, FRK_STAT_brk_at = 255, FRK_LOCAL_pwr_en = 1, FRK_EVT_CFG_min_sev = 3,
HIF_PORT_CFG_max_rate = 3, HIF_MI_CFG_addr = 29. -/
def Obligations.ResetValues : Prop :=
  (State.reset.rd R.SYS_ID_part = 17424)
  ∧ (State.reset.rd R.SYS_RST_CAUSE_por = 1)
  ∧ (State.reset.rd R.SYS_UART_STAT_tx_free = 16)
  ∧ (State.reset.rd R.PWR_PLVL_req = 2)
  ∧ (State.reset.rd R.PWR_ARB_CFG_window = 1000)
  ∧ (State.reset.rd R.PWR_AVS_CFG_tmo = 200)
  ∧ (State.reset.rd R.THM_LIMITS_warn = 95)
  ∧ (State.reset.rd R.THM_THR_CFG_step_ms = 500)
  ∧ (State.reset.rd R.THM_SQ_CFG_dgl = 4)
  ∧ (State.reset.rd R.EVR_CFG_flush_ms = 100)
  ∧ (State.reset.rd R.EVR_CFG_irq_sev = 4)
  ∧ (State.reset.rd R.CAL_CFG_quiet = 4)
  ∧ (State.reset.rd R.CAL_VMON_DIV_div12 = 1088)
  ∧ (State.reset.rd R.GCK_CTL_auto_load = 1)
  ∧ (State.reset.rd R.GCK_PLL_CFG_bw = 6)
  ∧ (State.reset.rd R.GCK_CORR_CFG_en = 1)
  ∧ (State.reset.rd R.RCH_SYNC_CFG_force_en = 1)
  ∧ (State.reset.rd R.RCH_TRK_CFG_kg = 6)
  ∧ (State.reset.rd R.RCH_TRK_CFG_m_en = 1)
  ∧ (State.reset.rd R.WCH_CFG_wr_retry = 4)
  ∧ (State.reset.rd R.WCH_CFG_lead = 32)
  ∧ (State.reset.rd R.MSQ_CFG_wait_lim = 20)
  ∧ (State.reset.rd R.MSQ_CFG_inv_limit = 7)
  ∧ (State.reset.rd R.SRV_CTL_force_en = 1)
  ∧ (State.reset.rd R.SRV_WIN_CFG_sync_win = 8)
  ∧ (State.reset.rd R.SRV_REF_CFG_ref_b = 16)
  ∧ (State.reset.rd R.CLE_REF_CFG_aux_span = 1)
  ∧ (State.reset.rd R.CLE_TIMER_period = 1000)
  ∧ (State.reset.rd R.SPM_CFG_pp = 4)
  ∧ (State.reset.rd R.SPM_BRAKE_brake_max = 30)
  ∧ (State.reset.rd R.SPM_SQ_v_hold = 10000)
  ∧ (State.reset.rd R.ACT_SEEK_v_max = 1000)
  ∧ (State.reset.rd R.ACT_RET_ret_v = 5120)
  ∧ (State.reset.rd R.ACT_MA_GAIN_gain = 4096)
  ∧ (State.reset.rd R.HQE_CTX_CFG_lim1 = 16384)
  ∧ (State.reset.rd R.HQE_SCHED_CFG_max_lanes = 8)
  ∧ (State.reset.rd R.HQE_STAMP_stamp = 1)
  ∧ (State.reset.rd R.OBJ_RING_SIZE_log2 = 8)
  ∧ (State.reset.rd R.BUF_TW_CFG_thresh = 64)
  ∧ (State.reset.rd R.BUF_TW_CFG_tw_en = 1)
  ∧ (State.reset.rd R.DRC_CFG_dbi = 1)
  ∧ (State.reset.rd R.DRC_SCRUB_CFG_en = 1)
  ∧ (State.reset.rd R.FRK_STAT_brk_at = 255)
  ∧ (State.reset.rd R.FRK_LOCAL_pwr_en = 1)
  ∧ (State.reset.rd R.FRK_EVT_CFG_min_sev = 3)
  ∧ (State.reset.rd R.HIF_PORT_CFG_max_rate = 3)
  ∧ (State.reset.rd R.HIF_MI_CFG_addr = 29)

/-- The register store, the copies and the memories have their canonical form after reset. State.reset.storesWf: registers, copies, DRAM, the
cores' memories and the control stores are strictly rising lists without entries equal to what an unlisted key reads as. What an unlisted
key reads as is the model's choice (assumptions 5, 8 and 15). -/
def Obligations.StoresWfReset : Prop :=
  State.reset.storesWf

/-- Every step keeps the canonical form of the register store, the copies and the memories. For every state whose stores have their canonical
form, a step that answers a next state answers one whose stores have it, whatever the command and its operands. The form is the model's;
what unlisted keys read as is its choice (assumptions 5, 8 and 15). -/
def Obligations.StoresKept : Prop :=
  ∀ s t : State, s.storesWf → step s = .next t → t.storesWf

/-- Fuses are programmed one way: no command undoes a revocation or a value begun, or changes the UID, grade and trims. For every command and
state with a next state: the UID, the grade, the trims and the process monitor references stay; a revoked slot stays revoked; a key slot
whose program has begun keeps that value, and a program begun stays begun. That a begun value stays where a program ended with a fuse that
did not sense is the model's reading (assumption 65). -/
def Obligations.FusesOneWay : Prop :=
  ∀ (c : Instr) (s t : State), exec c s = .next t →
    t.fuses.uid = s.fuses.uid ∧ t.fuses.grade = s.fuses.grade ∧ t.fuses.trims = s.fuses.trims ∧ t.fuses.pmonRef = s.fuses.pmonRef
      ∧ (s.fuses.svcBegun = true → t.fuses.svcBegun = true)
      ∧ (∀ n : Fin 4, s.fuses.slots[n].revoked = true → t.fuses.slots[n].revoked = true)
      ∧ (∀ n : Fin 4, s.fuses.slots[n].begun = true → t.fuses.slots[n].begun = true ∧ t.fuses.slots[n].hash = s.fuses.slots[n].hash)
end

