-- ==== Sys2Proof/Laws/Complete.lean ====
section
/-! SUPPORT. No command of the model stops: exec answers a next state for every command in every state, and so does step. -/
namespace Sys2Proof.Machine

/-- Every command answers a next state. -/
theorem exec_next (c : Instr) (s : State) : ∃ t, exec c s = .next t := by
  cases c <;> exact ⟨_, rfl⟩

/-- Every step answers a next state. -/
theorem step_next (s : State) : ∃ t, step s = .next t := by
  cases h : s.pending with
  | nil => exact ⟨s, by simp [step, h]⟩
  | cons c rest => simpa [step, h] using exec_next c { s with pending := rest }

end Sys2Proof.Machine
end

