-- ==== Sys2Proof/Laws/Memory.lean ====
section
/-! SUPPORT. Laws of memory: a read after a write, and the canonical form kept by every operation on it. -/
namespace Sys2Proof.Machine

/-- Every address of a memory lies above a bound. -/
def memAbove (b : Nat) (m : Memory) : Prop := ∀ e ∈ m, b < e.1

/-- The form of a longer memory. -/
theorem Memory.wf_cons (e : Host.Cell) (r : Memory) :
    Memory.wf (e :: r) = true ↔ e.2 ≠ Memory.blank ∧ memAbove e.1 r ∧ Memory.wf r = true := by
  induction r generalizing e with
  | nil => obtain ⟨k, v⟩ := e; simp [Memory.wf, memAbove]
  | cons f r ih =>
    obtain ⟨k, v⟩ := e
    obtain ⟨q, u⟩ := f
    simp only [Memory.wf, Bool.and_eq_true, decide_eq_true_eq]
    constructor
    · rintro ⟨⟨h0, h1⟩, h2⟩
      refine ⟨h0, ?_, h2⟩
      intro g hg
      rcases List.mem_cons.mp hg with h | h
      · subst h
        exact h1
      · have := ((ih (q, u)).mp h2).2.1 g h
        simp at this ⊢
        omega
    · rintro ⟨h0, h1, h2⟩
      exact ⟨⟨h0, by simpa using h1 (q, u) (by simp)⟩, h2⟩

/-- An address at or below every listed one is blank or not listed. -/
theorem memRead_above (m : Memory) (a : Nat) (h : memAbove a m) : memRead m a = Memory.blank := by
  cases m with
  | nil => rfl
  | cons e r =>
    obtain ⟨k, u⟩ := e
    have hk : a < k := h (k, u) (by simp)
    have h1 : a ≠ k := by omega
    simp [memRead, h1, hk]

/-- A bound may be lowered. -/
theorem memAbove_mono {b c : Nat} {m : Memory} (h : memAbove c m) (hb : b ≤ c) : memAbove b m :=
  fun e he => Nat.lt_of_le_of_lt hb (h e he)

/-- A byte written reads what was written. -/
theorem memRead_memWrite_same (m : Memory) (a : Nat) (v : Byte) (h : Memory.wf m = true) :
    memRead (memWrite m a v) a = v := by
  induction m with
  | nil => by_cases hv : v = Memory.blank <;> simp [memWrite, memRead, hv]
  | cons e r ih =>
    obtain ⟨k, u⟩ := e
    have hw := (Memory.wf_cons (k, u) r).mp h
    simp only [memWrite]
    split
    · rename_i hk
      have h1 : a ≠ k := by omega
      by_cases hv : v = Memory.blank <;> simp [memRead, hv, h1, hk]
    · split
      · rename_i h1 h2
        subst h2
        by_cases hv : v = Memory.blank
        · simp only [hv, if_true]
          exact memRead_above r _ hw.2.1
        · simp [memRead, hv]
      · rename_i h1 h2
        simp only [memRead, if_neg h2, if_neg h1]
        exact ih hw.2.2

/-- A byte written leaves every other byte alone. -/
theorem memRead_memWrite_ne (m : Memory) {a b : Nat} (v : Byte) (hab : b ≠ a) (h : Memory.wf m = true) :
    memRead (memWrite m a v) b = memRead m b := by
  induction m with
  | nil => by_cases hv : v = Memory.blank <;> simp [memWrite, memRead, hv, hab]
  | cons e r ih =>
    obtain ⟨k, u⟩ := e
    have hw := (Memory.wf_cons (k, u) r).mp h
    simp only [memWrite]
    split
    · rename_i hk
      by_cases hv : v = Memory.blank
      · simp [hv]
      · simp only [hv, if_false, memRead, if_neg hab]
        split
        · have h1 : ¬ b = k := by omega
          have h2 : b < k := by omega
          simp [h1, h2]
        · rfl
    · split
      · rename_i h1 h2
        subst h2
        by_cases hv : v = Memory.blank
        · simp only [hv, if_true, memRead, if_neg hab]
          split
          · rename_i hb
            exact memRead_above r b (memAbove_mono hw.2.1 (by simpa using Nat.le_of_lt hb))
          · rfl
        · simp [memRead, hv, hab]
      · simp only [memRead]
        rw [ih hw.2.2]

/-- A write keeps addresses above a bound that its own lies above. -/
theorem memAbove_memWrite {b : Nat} {m : Memory} {a : Nat} (v : Byte) (hm : memAbove b m) (ha : b < a) :
    memAbove b (memWrite m a v) := by
  induction m with
  | nil =>
    intro e he
    by_cases hv : v = Memory.blank
    · simp [memWrite, hv] at he
    · simp [memWrite, hv] at he
      subst he
      exact ha
  | cons f r ih =>
    obtain ⟨k, u⟩ := f
    have hk : b < k := hm (k, u) (by simp)
    have hr : memAbove b r := fun e he => hm e (by simp [he])
    intro e he
    by_cases hv : v = Memory.blank <;> simp only [memWrite, hv, if_true, if_false] at he <;> split at he
    · exact hm e he
    · split at he
      · exact hr e he
      · rcases List.mem_cons.mp he with h | h
        · subst h
          exact hk
        · exact ih hr e (by simpa [hv] using h)
    · rcases List.mem_cons.mp he with h | h
      · subst h
        exact ha
      · exact hm e h
    · split at he
      · rcases List.mem_cons.mp he with h | h
        · subst h
          exact hk
        · exact hr e h
      · rcases List.mem_cons.mp he with h | h
        · subst h
          exact hk
        · exact ih hr e h

/-- A write keeps the canonical form. -/
theorem memWrite_wf (m : Memory) (a : Nat) (v : Byte) (h : Memory.wf m = true) : Memory.wf (memWrite m a v) = true := by
  induction m with
  | nil => by_cases hv : v = Memory.blank <;> simp [memWrite, hv, Memory.wf]
  | cons e r ih =>
    obtain ⟨k, u⟩ := e
    have hw := (Memory.wf_cons (k, u) r).mp h
    simp only [memWrite]
    split
    · rename_i hk
      by_cases hv : v = Memory.blank
      · simpa [hv] using h
      · simp only [hv, if_false]
        refine (Memory.wf_cons _ _).mpr ⟨hv, ?_, h⟩
        intro f hf
        rcases List.mem_cons.mp hf with h1 | h1
        · subst h1
          exact hk
        · exact Nat.lt_trans hk (hw.2.1 f h1)
    · split
      · by_cases hv : v = Memory.blank
        · simpa [hv] using hw.2.2
        · simp only [hv, if_false]
          exact (Memory.wf_cons _ _).mpr ⟨hv, hw.2.1, hw.2.2⟩
      · refine (Memory.wf_cons _ _).mpr ⟨hw.1, memAbove_memWrite v hw.2.1 ?_, ih hw.2.2⟩
        simp
        omega

/-- A write of consecutive bytes keeps the canonical form. -/
theorem memWriteBytes_wf (bs : List Byte) (m : Memory) (a : Nat) (h : Memory.wf m = true) :
    Memory.wf (memWriteBytes m a bs) = true := by
  induction bs generalizing m a with
  | nil => exact h
  | cons b bs ih => exact ih _ _ (memWrite_wf m a b h)

/-- Consecutive bytes written leave every address outside them alone. -/
theorem memRead_memWriteBytes_out (bs : List Byte) (m : Memory) (a q : Nat) (h : Memory.wf m = true)
    (hq : q < a ∨ a + bs.length ≤ q) : memRead (memWriteBytes m a bs) q = memRead m q := by
  induction bs generalizing m a with
  | nil => rfl
  | cons b bs ih =>
    simp only [memWriteBytes]
    simp only [List.length_cons] at hq
    rw [ih _ _ (memWrite_wf m a b h) (by omega)]
    exact memRead_memWrite_ne m b (by omega) h

/-- Consecutive bytes written read back. -/
theorem memRead_memWriteBytes_in (bs : List Byte) (m : Memory) (a i : Nat) (h : Memory.wf m = true) (hi : i < bs.length) :
    memRead (memWriteBytes m a bs) (a + i) = bs[i] := by
  induction bs generalizing m a i with
  | nil => simp at hi
  | cons b bs ih =>
    simp only [memWriteBytes]
    cases i with
    | zero =>
      rw [memRead_memWriteBytes_out bs _ (a + 1) (a + 0) (memWrite_wf m a b h) (by omega)]
      simpa using memRead_memWrite_same m a b h
    | succ i =>
      have := ih (memWrite m a b) (a + 1) i (memWrite_wf m a b h) (by simpa using hi)
      simpa [Nat.add_assoc, Nat.add_comm 1 i] using this

/-- A selection of the cells keeps the canonical form. -/
theorem memWf_filter (p : Host.Cell → Bool) (m : Memory) (h : Memory.wf m = true) : Memory.wf (m.filter p) = true := by
  induction m with
  | nil => rfl
  | cons f r ih =>
    have hf := (Memory.wf_cons f r).mp h
    simp only [List.filter]
    split
    · exact (Memory.wf_cons _ _).mpr ⟨hf.1, fun e he => hf.2.1 e (List.mem_filter.mp he).1, ih hf.2.2⟩
    · exact ih hf.2.2

end Sys2Proof.Machine
end

