-- ==== Sys2Proof/Laws/RegStore.lean ====
section
/-! SUPPORT. Laws of the register store: a read after a write, and the canonical form kept by every operation on it. -/
namespace Sys2Proof.Machine

@[simp] theorem regFind_nil (k : Nat) : regFind [] k = none := rfl

/-- A field written reads what was written. -/
@[simp] theorem regFind_regPut_same (l : RegStore) (k : Nat) (v : Word) : regFind (regPut l k v) k = some v := by
  induction l with
  | nil => simp [regPut, regFind]
  | cons e r ih =>
    obtain ⟨q, u⟩ := e
    simp only [regPut]
    split
    · simp [regFind]
    · split
      · simp_all [regFind]
      · rename_i h1 h2
        simp only [regFind]
        rw [if_neg h2, if_neg h1, ih]

/-- A field written leaves every other field alone. -/
theorem regFind_regPut_ne (l : RegStore) {k q : Nat} (v : Word) (h : k ≠ q) : regFind (regPut l q v) k = regFind l k := by
  induction l with
  | nil => simp [regPut, regFind, h]
  | cons e r ih =>
    obtain ⟨p, u⟩ := e
    simp only [regPut]
    split
    · rename_i hp
      simp only [regFind, if_neg h]
      split
      · have h1 : ¬ k = p := by omega
        have h2 : k < p := by omega
        simp [h1, h2]
      · rfl
    · split
      · rename_i h1 h2
        subst h2
        simp [regFind, h]
      · simp only [regFind]
        rw [ih]

/-- A read after a write, in one equation. -/
theorem regFind_regPut (l : RegStore) (k q : Nat) (v : Word) :
    regFind (regPut l q v) k = if k = q then some v else regFind l k := by
  split
  · rename_i h
    subst h
    exact regFind_regPut_same l k v
  · rename_i h
    exact regFind_regPut_ne l v h

/-- Every key of a store lies above a bound. -/
def regAbove (b : Nat) (l : RegStore) : Prop := ∀ e ∈ l, b < e.1

/-- The form of a longer store. -/
theorem regWf_cons (e : Nat × Word) (r : RegStore) : regWf (e :: r) = true ↔ regAbove e.1 r ∧ regWf r = true := by
  induction r generalizing e with
  | nil => simp [regWf, regAbove]
  | cons f r ih =>
    obtain ⟨k, v⟩ := e
    obtain ⟨q, u⟩ := f
    simp only [regWf, Bool.and_eq_true, decide_eq_true_eq]
    constructor
    · rintro ⟨h1, h2⟩
      refine ⟨?_, h2⟩
      intro g hg
      rcases List.mem_cons.mp hg with h | h
      · subst h
        exact h1
      · have := ((ih (q, u)).mp h2).1 g h
        simp at this ⊢
        omega
    · rintro ⟨h1, h2⟩
      exact ⟨by simpa using h1 (q, u) (by simp), h2⟩

/-- A write keeps the keys above a bound that its own key lies above. -/
theorem regAbove_regPut {b : Nat} {l : RegStore} {k : Nat} (v : Word) (hl : regAbove b l) (hk : b < k) :
    regAbove b (regPut l k v) := by
  induction l with
  | nil =>
    intro e he
    simp [regPut] at he
    subst he
    exact hk
  | cons f r ih =>
    obtain ⟨q, u⟩ := f
    have hq : b < q := hl (q, u) (by simp)
    have hr : regAbove b r := fun e he => hl e (by simp [he])
    intro e he
    simp only [regPut] at he
    split at he
    · rcases List.mem_cons.mp he with h | h
      · subst h
        exact hk
      · exact hl e h
    · split at he
      · rcases List.mem_cons.mp he with h | h
        · subst h
          exact hq
        · exact hr e h
      · rcases List.mem_cons.mp he with h | h
        · subst h
          exact hq
        · exact ih hr e h

/-- A write keeps the canonical form. -/
theorem regPut_wf (l : RegStore) (k : Nat) (v : Word) (h : regWf l = true) : regWf (regPut l k v) = true := by
  induction l with
  | nil => rfl
  | cons f r ih =>
    obtain ⟨q, u⟩ := f
    have hf := (regWf_cons (q, u) r).mp h
    simp only [regPut]
    split
    · rename_i hk
      refine (regWf_cons _ _).mpr ⟨?_, h⟩
      intro e he
      rcases List.mem_cons.mp he with h1 | h1
      · subst h1
        exact hk
      · have := hf.1 e h1
        simp at this ⊢
        omega
    · split
      · exact (regWf_cons _ _).mpr ⟨hf.1, hf.2⟩
      · refine (regWf_cons _ _).mpr ⟨regAbove_regPut v hf.1 ?_, ih hf.2⟩
        simp
        omega

/-- A selection of the entries keeps the canonical form. -/
theorem regWf_filter (p : Nat × Word → Bool) (l : RegStore) (h : regWf l = true) : regWf (l.filter p) = true := by
  induction l with
  | nil => rfl
  | cons f r ih =>
    have hf := (regWf_cons f r).mp h
    simp only [List.filter]
    split
    · refine (regWf_cons _ _).mpr ⟨?_, ih hf.2⟩
      intro e he
      exact hf.1 e ((List.mem_filter.mp he).1)
    · exact ih hf.2

end Sys2Proof.Machine
end

