-- ==== Sys2Proof/Laws/State.lean ====
section
/-! SUPPORT. Laws of State: what the named updates of Machine/Ops.lean do to each field. -/
namespace Sys2Proof.Machine

/-! ## Fields of registers -/

/-- A field's value is what the store lists for its key, or its reset value. -/
theorem State.rdW_eq (s : State) (f : Field) : s.rdW f = (regFind s.regs f.key).getD (BitVec.ofNat 32 f.rst) := rfl

/-- The value of a field depends on the register store alone. -/
theorem State.rd_congr {s t : State} (f : Field) (h : regFind t.regs f.key = regFind s.regs f.key) : t.rd f = s.rd f := by
  simp [State.rd, State.rdW, h]

/-- A field of at most 32 bits reads what was written, modulo its width. -/
theorem State.rd_wr_same (s : State) (f : Field) (n : Nat) (h : f.w ≤ 32) : (s.wr f n).rd f = n % 2 ^ f.w := by
  have h1 : n % 2 ^ f.w < 2 ^ f.w := Nat.mod_lt _ (Nat.two_pow_pos _)
  have h2 : 2 ^ f.w ≤ 2 ^ 32 := Nat.pow_le_pow_right (by decide) h
  simp only [State.rd, State.rdW, State.wr, regFind_regPut_same, Option.getD_some, BitVec.toNat_ofNat]
  rw [Nat.mod_eq_of_lt (Nat.lt_of_lt_of_le h1 h2), Nat.mod_mod]

/-- A field's value fits its width. -/
theorem State.rd_lt (s : State) (f : Field) : s.rd f < 2 ^ f.w := Nat.mod_lt _ (Nat.two_pow_pos _)

/-- A field written with what it reads reads the same. -/
theorem State.rd_mod (s : State) (f : Field) : s.rd f % 2 ^ f.w = s.rd f := Nat.mod_eq_of_lt (s.rd_lt f)

/-- A field written leaves every other field as it was. -/
theorem State.rd_wr_ne (s : State) {f g : Field} (n : Nat) (h : g.key ≠ f.key) : (s.wr f n).rd g = s.rd g :=
  State.rd_congr g (regFind_regPut_ne s.regs _ h)

/-- A read after a write, in one equation. -/
theorem State.rd_wr (s : State) (f g : Field) (n : Nat) (h : f.w ≤ 32) :
    (s.wr f n).rd g = if g.key = f.key then n % 2 ^ f.w % 2 ^ g.w else s.rd g := by
  split
  · rename_i hk
    have h1 : n % 2 ^ f.w < 2 ^ 32 :=
      Nat.lt_of_lt_of_le (Nat.mod_lt _ (Nat.two_pow_pos _)) (Nat.pow_le_pow_right (by decide) h)
    simp only [State.rd, State.rdW, hk, State.wr, regFind_regPut_same, Option.getD_some, BitVec.toNat_ofNat]
    rw [Nat.mod_eq_of_lt h1]
  · rename_i hk
    exact State.rd_wr_ne s n hk

/-- A write of a field keeps the store's form. -/
theorem State.wr_regWf (s : State) (f : Field) (n : Nat) (h : regWf s.regs = true) : regWf (s.wr f n).regs = true :=
  regPut_wf _ _ _ h

/-! ## What a write of a field leaves alone -/

@[simp] theorem State.wr_copy (s : State) (f : Field) (n : Nat) : (s.wr f n).copy = s.copy := rfl
@[simp] theorem State.wr_bridges (s : State) (f : Field) (n : Nat) : (s.wr f n).bridges = s.bridges := rfl
@[simp] theorem State.wr_shadows (s : State) (f : Field) (n : Nat) : (s.wr f n).shadows = s.shadows := rfl
@[simp] theorem State.wr_holding (s : State) (f : Field) (n : Nat) : (s.wr f n).holding = s.holding := rfl
@[simp] theorem State.wr_warmPending (s : State) (f : Field) (n : Nat) : (s.wr f n).warmPending = s.warmPending := rfl
@[simp] theorem State.wr_cores (s : State) (f : Field) (n : Nat) : (s.wr f n).cores = s.cores := rfl
@[simp] theorem State.wr_irq (s : State) (f : Field) (n : Nat) : (s.wr f n).irq = s.irq := rfl
@[simp] theorem State.wr_sram (s : State) (f : Field) (n : Nat) : (s.wr f n).sram = s.sram := rfl
@[simp] theorem State.wr_uart (s : State) (f : Field) (n : Nat) : (s.wr f n).uart = s.uart := rfl
@[simp] theorem State.wr_fuses (s : State) (f : Field) (n : Nat) : (s.wr f n).fuses = s.fuses := rfl
@[simp] theorem State.wr_jig (s : State) (f : Field) (n : Nat) : (s.wr f n).jig = s.jig := rfl
@[simp] theorem State.wr_flash (s : State) (f : Field) (n : Nat) : (s.wr f n).flash = s.flash := rfl
@[simp] theorem State.wr_evr (s : State) (f : Field) (n : Nat) : (s.wr f n).evr = s.evr := rfl
@[simp] theorem State.wr_cal (s : State) (f : Field) (n : Nat) : (s.wr f n).cal = s.cal := rfl
@[simp] theorem State.wr_gck (s : State) (f : Field) (n : Nat) : (s.wr f n).gck = s.gck := rfl
@[simp] theorem State.wr_positions (s : State) (f : Field) (n : Nat) : (s.wr f n).positions = s.positions := rfl
@[simp] theorem State.wr_presence (s : State) (f : Field) (n : Nat) : (s.wr f n).presence = s.presence := rfl
@[simp] theorem State.wr_geom (s : State) (f : Field) (n : Nat) : (s.wr f n).geom = s.geom := rfl
@[simp] theorem State.wr_rch (s : State) (f : Field) (n : Nat) : (s.wr f n).rch = s.rch := rfl
@[simp] theorem State.wr_combine (s : State) (f : Field) (n : Nat) : (s.wr f n).combine = s.combine := rfl
@[simp] theorem State.wr_wch (s : State) (f : Field) (n : Nat) : (s.wr f n).wch = s.wch := rfl
@[simp] theorem State.wr_hl (s : State) (f : Field) (n : Nat) : (s.wr f n).hl = s.hl := rfl
@[simp] theorem State.wr_msq (s : State) (f : Field) (n : Nat) : (s.wr f n).msq = s.msq := rfl
@[simp] theorem State.wr_par (s : State) (f : Field) (n : Nat) : (s.wr f n).par = s.par := rfl
@[simp] theorem State.wr_srv (s : State) (f : Field) (n : Nat) : (s.wr f n).srv = s.srv := rfl
@[simp] theorem State.wr_cle (s : State) (f : Field) (n : Nat) : (s.wr f n).cle = s.cle := rfl
@[simp] theorem State.wr_act (s : State) (f : Field) (n : Nat) : (s.wr f n).act = s.act := rfl
@[simp] theorem State.wr_spm (s : State) (f : Field) (n : Nat) : (s.wr f n).spm = s.spm := rfl
@[simp] theorem State.wr_pwr (s : State) (f : Field) (n : Nat) : (s.wr f n).pwr = s.pwr := rfl
@[simp] theorem State.wr_thm (s : State) (f : Field) (n : Nat) : (s.wr f n).thm = s.thm := rfl
@[simp] theorem State.wr_frk (s : State) (f : Field) (n : Nat) : (s.wr f n).frk = s.frk := rfl
@[simp] theorem State.wr_tap (s : State) (f : Field) (n : Nat) : (s.wr f n).tap = s.tap := rfl
@[simp] theorem State.wr_isolated (s : State) (f : Field) (n : Nat) : (s.wr f n).isolated = s.isolated := rfl
@[simp] theorem State.wr_bistFull (s : State) (f : Field) (n : Nat) : (s.wr f n).bistFull = s.bistFull := rfl
@[simp] theorem State.wr_dram (s : State) (f : Field) (n : Nat) : (s.wr f n).dram = s.dram := rfl
@[simp] theorem State.wr_buf (s : State) (f : Field) (n : Nat) : (s.wr f n).buf = s.buf := rfl
@[simp] theorem State.wr_drc (s : State) (f : Field) (n : Nat) : (s.wr f n).drc = s.drc := rfl
@[simp] theorem State.wr_host (s : State) (f : Field) (n : Nat) : (s.wr f n).host = s.host := rfl
@[simp] theorem State.wr_freeCount (s : State) (f : Field) (n : Nat) : (s.wr f n).freeCount = s.freeCount := rfl
@[simp] theorem State.wr_reply (s : State) (f : Field) (n : Nat) : (s.wr f n).reply = s.reply := rfl
@[simp] theorem State.wr_pending (s : State) (f : Field) (n : Nat) : (s.wr f n).pending = s.pending := rfl

/-! ## Interrupt sources -/

/-- Raising a source touches the distributor alone (R573). -/
theorem State.raise_only (s : State) (n : Nat) : s.raise n = { s with irq := (s.raise n).irq } := by
  unfold State.raise State.deliverNmi
  split
  · rfl
  · split <;> rfl

/-- A status condition that turns true touches the distributor alone (R47). -/
theorem State.statusRise_only (s : State) (n : Nat) : s.statusRise n = { s with irq := (s.statusRise n).irq } := by
  unfold State.statusRise State.deliverNmi
  split <;> rfl

@[simp] theorem State.raise_regs (s : State) (n : Nat) : (s.raise n).regs = s.regs := by rw [State.raise_only]
@[simp] theorem State.raise_copy (s : State) (n : Nat) : (s.raise n).copy = s.copy := by rw [State.raise_only]
@[simp] theorem State.raise_bridges (s : State) (n : Nat) : (s.raise n).bridges = s.bridges := by rw [State.raise_only]
@[simp] theorem State.raise_shadows (s : State) (n : Nat) : (s.raise n).shadows = s.shadows := by rw [State.raise_only]
@[simp] theorem State.raise_holding (s : State) (n : Nat) : (s.raise n).holding = s.holding := by rw [State.raise_only]
@[simp] theorem State.raise_warmPending (s : State) (n : Nat) : (s.raise n).warmPending = s.warmPending := by rw [State.raise_only]
@[simp] theorem State.raise_cores (s : State) (n : Nat) : (s.raise n).cores = s.cores := by rw [State.raise_only]
@[simp] theorem State.raise_sram (s : State) (n : Nat) : (s.raise n).sram = s.sram := by rw [State.raise_only]
@[simp] theorem State.raise_uart (s : State) (n : Nat) : (s.raise n).uart = s.uart := by rw [State.raise_only]
@[simp] theorem State.raise_fuses (s : State) (n : Nat) : (s.raise n).fuses = s.fuses := by rw [State.raise_only]
@[simp] theorem State.raise_jig (s : State) (n : Nat) : (s.raise n).jig = s.jig := by rw [State.raise_only]
@[simp] theorem State.raise_flash (s : State) (n : Nat) : (s.raise n).flash = s.flash := by rw [State.raise_only]
@[simp] theorem State.raise_evr (s : State) (n : Nat) : (s.raise n).evr = s.evr := by rw [State.raise_only]
@[simp] theorem State.raise_cal (s : State) (n : Nat) : (s.raise n).cal = s.cal := by rw [State.raise_only]
@[simp] theorem State.raise_gck (s : State) (n : Nat) : (s.raise n).gck = s.gck := by rw [State.raise_only]
@[simp] theorem State.raise_positions (s : State) (n : Nat) : (s.raise n).positions = s.positions := by rw [State.raise_only]
@[simp] theorem State.raise_presence (s : State) (n : Nat) : (s.raise n).presence = s.presence := by rw [State.raise_only]
@[simp] theorem State.raise_geom (s : State) (n : Nat) : (s.raise n).geom = s.geom := by rw [State.raise_only]
@[simp] theorem State.raise_rch (s : State) (n : Nat) : (s.raise n).rch = s.rch := by rw [State.raise_only]
@[simp] theorem State.raise_combine (s : State) (n : Nat) : (s.raise n).combine = s.combine := by rw [State.raise_only]
@[simp] theorem State.raise_wch (s : State) (n : Nat) : (s.raise n).wch = s.wch := by rw [State.raise_only]
@[simp] theorem State.raise_hl (s : State) (n : Nat) : (s.raise n).hl = s.hl := by rw [State.raise_only]
@[simp] theorem State.raise_msq (s : State) (n : Nat) : (s.raise n).msq = s.msq := by rw [State.raise_only]
@[simp] theorem State.raise_par (s : State) (n : Nat) : (s.raise n).par = s.par := by rw [State.raise_only]
@[simp] theorem State.raise_srv (s : State) (n : Nat) : (s.raise n).srv = s.srv := by rw [State.raise_only]
@[simp] theorem State.raise_cle (s : State) (n : Nat) : (s.raise n).cle = s.cle := by rw [State.raise_only]
@[simp] theorem State.raise_act (s : State) (n : Nat) : (s.raise n).act = s.act := by rw [State.raise_only]
@[simp] theorem State.raise_spm (s : State) (n : Nat) : (s.raise n).spm = s.spm := by rw [State.raise_only]
@[simp] theorem State.raise_pwr (s : State) (n : Nat) : (s.raise n).pwr = s.pwr := by rw [State.raise_only]
@[simp] theorem State.raise_thm (s : State) (n : Nat) : (s.raise n).thm = s.thm := by rw [State.raise_only]
@[simp] theorem State.raise_frk (s : State) (n : Nat) : (s.raise n).frk = s.frk := by rw [State.raise_only]
@[simp] theorem State.raise_tap (s : State) (n : Nat) : (s.raise n).tap = s.tap := by rw [State.raise_only]
@[simp] theorem State.raise_isolated (s : State) (n : Nat) : (s.raise n).isolated = s.isolated := by rw [State.raise_only]
@[simp] theorem State.raise_bistFull (s : State) (n : Nat) : (s.raise n).bistFull = s.bistFull := by rw [State.raise_only]
@[simp] theorem State.raise_dram (s : State) (n : Nat) : (s.raise n).dram = s.dram := by rw [State.raise_only]
@[simp] theorem State.raise_buf (s : State) (n : Nat) : (s.raise n).buf = s.buf := by rw [State.raise_only]
@[simp] theorem State.raise_drc (s : State) (n : Nat) : (s.raise n).drc = s.drc := by rw [State.raise_only]
@[simp] theorem State.raise_host (s : State) (n : Nat) : (s.raise n).host = s.host := by rw [State.raise_only]
@[simp] theorem State.raise_freeCount (s : State) (n : Nat) : (s.raise n).freeCount = s.freeCount := by rw [State.raise_only]
@[simp] theorem State.raise_reply (s : State) (n : Nat) : (s.raise n).reply = s.reply := by rw [State.raise_only]
@[simp] theorem State.raise_pending (s : State) (n : Nat) : (s.raise n).pending = s.pending := by rw [State.raise_only]
@[simp] theorem State.statusRise_regs (s : State) (n : Nat) : (s.statusRise n).regs = s.regs := by rw [State.statusRise_only]
@[simp] theorem State.statusRise_copy (s : State) (n : Nat) : (s.statusRise n).copy = s.copy := by rw [State.statusRise_only]
@[simp] theorem State.statusRise_bridges (s : State) (n : Nat) : (s.statusRise n).bridges = s.bridges := by rw [State.statusRise_only]
@[simp] theorem State.statusRise_shadows (s : State) (n : Nat) : (s.statusRise n).shadows = s.shadows := by rw [State.statusRise_only]
@[simp] theorem State.statusRise_holding (s : State) (n : Nat) : (s.statusRise n).holding = s.holding := by rw [State.statusRise_only]
@[simp] theorem State.statusRise_warmPending (s : State) (n : Nat) : (s.statusRise n).warmPending = s.warmPending := by rw [State.statusRise_only]
@[simp] theorem State.statusRise_cores (s : State) (n : Nat) : (s.statusRise n).cores = s.cores := by rw [State.statusRise_only]
@[simp] theorem State.statusRise_sram (s : State) (n : Nat) : (s.statusRise n).sram = s.sram := by rw [State.statusRise_only]
@[simp] theorem State.statusRise_uart (s : State) (n : Nat) : (s.statusRise n).uart = s.uart := by rw [State.statusRise_only]
@[simp] theorem State.statusRise_fuses (s : State) (n : Nat) : (s.statusRise n).fuses = s.fuses := by rw [State.statusRise_only]
@[simp] theorem State.statusRise_jig (s : State) (n : Nat) : (s.statusRise n).jig = s.jig := by rw [State.statusRise_only]
@[simp] theorem State.statusRise_flash (s : State) (n : Nat) : (s.statusRise n).flash = s.flash := by rw [State.statusRise_only]
@[simp] theorem State.statusRise_evr (s : State) (n : Nat) : (s.statusRise n).evr = s.evr := by rw [State.statusRise_only]
@[simp] theorem State.statusRise_cal (s : State) (n : Nat) : (s.statusRise n).cal = s.cal := by rw [State.statusRise_only]
@[simp] theorem State.statusRise_gck (s : State) (n : Nat) : (s.statusRise n).gck = s.gck := by rw [State.statusRise_only]
@[simp] theorem State.statusRise_positions (s : State) (n : Nat) : (s.statusRise n).positions = s.positions := by rw [State.statusRise_only]
@[simp] theorem State.statusRise_presence (s : State) (n : Nat) : (s.statusRise n).presence = s.presence := by rw [State.statusRise_only]
@[simp] theorem State.statusRise_geom (s : State) (n : Nat) : (s.statusRise n).geom = s.geom := by rw [State.statusRise_only]
@[simp] theorem State.statusRise_rch (s : State) (n : Nat) : (s.statusRise n).rch = s.rch := by rw [State.statusRise_only]
@[simp] theorem State.statusRise_combine (s : State) (n : Nat) : (s.statusRise n).combine = s.combine := by rw [State.statusRise_only]
@[simp] theorem State.statusRise_wch (s : State) (n : Nat) : (s.statusRise n).wch = s.wch := by rw [State.statusRise_only]
@[simp] theorem State.statusRise_hl (s : State) (n : Nat) : (s.statusRise n).hl = s.hl := by rw [State.statusRise_only]
@[simp] theorem State.statusRise_msq (s : State) (n : Nat) : (s.statusRise n).msq = s.msq := by rw [State.statusRise_only]
@[simp] theorem State.statusRise_par (s : State) (n : Nat) : (s.statusRise n).par = s.par := by rw [State.statusRise_only]
@[simp] theorem State.statusRise_srv (s : State) (n : Nat) : (s.statusRise n).srv = s.srv := by rw [State.statusRise_only]
@[simp] theorem State.statusRise_cle (s : State) (n : Nat) : (s.statusRise n).cle = s.cle := by rw [State.statusRise_only]
@[simp] theorem State.statusRise_act (s : State) (n : Nat) : (s.statusRise n).act = s.act := by rw [State.statusRise_only]
@[simp] theorem State.statusRise_spm (s : State) (n : Nat) : (s.statusRise n).spm = s.spm := by rw [State.statusRise_only]
@[simp] theorem State.statusRise_pwr (s : State) (n : Nat) : (s.statusRise n).pwr = s.pwr := by rw [State.statusRise_only]
@[simp] theorem State.statusRise_thm (s : State) (n : Nat) : (s.statusRise n).thm = s.thm := by rw [State.statusRise_only]
@[simp] theorem State.statusRise_frk (s : State) (n : Nat) : (s.statusRise n).frk = s.frk := by rw [State.statusRise_only]
@[simp] theorem State.statusRise_tap (s : State) (n : Nat) : (s.statusRise n).tap = s.tap := by rw [State.statusRise_only]
@[simp] theorem State.statusRise_isolated (s : State) (n : Nat) : (s.statusRise n).isolated = s.isolated := by rw [State.statusRise_only]
@[simp] theorem State.statusRise_bistFull (s : State) (n : Nat) : (s.statusRise n).bistFull = s.bistFull := by rw [State.statusRise_only]
@[simp] theorem State.statusRise_dram (s : State) (n : Nat) : (s.statusRise n).dram = s.dram := by rw [State.statusRise_only]
@[simp] theorem State.statusRise_buf (s : State) (n : Nat) : (s.statusRise n).buf = s.buf := by rw [State.statusRise_only]
@[simp] theorem State.statusRise_drc (s : State) (n : Nat) : (s.statusRise n).drc = s.drc := by rw [State.statusRise_only]
@[simp] theorem State.statusRise_host (s : State) (n : Nat) : (s.statusRise n).host = s.host := by rw [State.statusRise_only]
@[simp] theorem State.statusRise_freeCount (s : State) (n : Nat) : (s.statusRise n).freeCount = s.freeCount := by rw [State.statusRise_only]
@[simp] theorem State.statusRise_reply (s : State) (n : Nat) : (s.statusRise n).reply = s.reply := by rw [State.statusRise_only]
@[simp] theorem State.statusRise_pending (s : State) (n : Nat) : (s.statusRise n).pending = s.pending := by rw [State.statusRise_only]

/-- Raising a source leaves every register field alone. -/
@[simp] theorem State.rd_raise (s : State) (n : Nat) (f : Field) : (s.raise n).rd f = s.rd f :=
  State.rd_congr f (by rw [State.raise_regs])

/-- A status condition that turns true leaves every register field alone. -/
@[simp] theorem State.rd_statusRise (s : State) (n : Nat) (f : Field) : (s.statusRise n).rd f = s.rd f :=
  State.rd_congr f (by rw [State.statusRise_regs])

/-- An update made where the condition holds. -/
theorem State.when_pos (s : State) {c : Prop} [Decidable c] (f : State → State) (h : c) : s.when c f = f s := if_pos h

/-- An update not made. -/
theorem State.when_neg (s : State) {c : Prop} [Decidable c] (f : State → State) (h : ¬ c) : s.when c f = s := if_neg h

/-- An update for each member of a list keeps what each of its updates keeps. -/
theorem State.forEach_keeps {α : Type} (P : State → Prop) (l : List α) (f : α → State → State) (s : State)
    (hs : P s) (hf : ∀ x ∈ l, ∀ t, P t → P (f x t)) : P (s.forEach l f) := by
  unfold State.forEach
  induction l generalizing s with
  | nil => exact hs
  | cons a l ih => exact ih (f a s) (hf a (by simp) s hs) (fun x hx => hf x (by simp [hx]))

end Sys2Proof.Machine
end

