-- ==== Sys2Proof/Machine/Pins.lean ====
section
/-! DEFINITION. The state of every output ball (spec/21_pins_package.md R546, R547, R551): what holds it in reset, on an unused slot and with
the core supplies off, and otherwise the block that drives it. -/
namespace Sys2Proof.Machine

/-- The outputs of R551. -/
inductive Output where
  | spmGate (n : Fin 6)
  | vcmGate (x : Act)
  | strobeLane (c : Fin 8)
  | writeLane (c : Fin 8)
  | laserRef (x : Act)
  | hlClock (x : Act)
  | hlSelect (x : Act)
  | gaugeLoad (g : Fin 2)
  | milliactuator (h : Fin 32)
  | milliactuatorRef
  | pcieTx (lane : Fin 4)
  | ringOut
  | flashSelect (d : Fin 2)
  | flashReset (d : Fin 2)
  | dramClockCommand (c : Fin 4)
  | dramReset
  | avsClock
  | pmbus
  | smbus
  | uartTx
  | gpio (n : Fin 16)
  | tdo
  | coreEnable
  deriving DecidableEq, Repr

/-- What stands at an output: a level or condition of R551, the bypassed ring input, a GPIO's pull, the state kept by the AON domain,
or what the block drives. -/
inductive Pad where
  | low
  | high
  | pullDown
  | zeroVolts
  | negative
  | idle
  | refLevel
  | midScale
  | electricalIdle
  | highZ
  | ringIn
  | released
  | inputPullDown
  | inputPullUp
  | driven
  deriving DecidableEq, Repr

/-- The port slots that carry an output (R546): every one of them must be unused for the pad to hold its reset state. MA_VREF stands beside
the milliactuator outputs and DDR_RESET_N beside the DRAM channels. -/
def Output.slots : Output → List Nat
  | .spmGate n => [73 + n.val]
  | .vcmGate x => [69 + 2 * x.idx]
  | .strobeLane c => [23 + c.val]
  | .writeLane c => [15 + c.val]
  | .laserRef x => [33 + x.idx]
  | .hlClock x | .hlSelect x => [31 + x.idx]
  | .gaugeLoad g => [35 + g.val]
  | .milliactuator h => [37 + h.val]
  | .milliactuatorRef => (List.range 32).map (· + 37)
  | .pcieTx l => [l.val]
  | .ringOut => [6]
  | .flashSelect d | .flashReset d => [95 + d.val]
  | .dramClockCommand c => [91 + c.val]
  | .dramReset => [91, 92, 93, 94]
  | .avsClock | .pmbus => [97]
  | .smbus => [4]
  | .uartTx => [106]
  | .gpio n => [108 + n.val]
  | .tdo => [104]
  | .coreEnable => [126]

/-- The column "In reset" of R551; PWR_CORE_EN has its own rule there. -/
def Output.inReset : Output → Pad
  | .spmGate _ | .vcmGate _ => .pullDown
  | .strobeLane _ => .negative
  | .writeLane _ => .idle
  | .laserRef _ => .zeroVolts
  | .hlClock _ => .low
  | .hlSelect _ => .high
  | .gaugeLoad _ => .low
  | .milliactuator _ => .refLevel
  | .milliactuatorRef => .midScale
  | .pcieTx _ => .electricalIdle
  | .ringOut => .ringIn
  | .flashSelect _ => .high
  | .flashReset _ => .low
  | .dramClockCommand _ => .low
  | .dramReset => .low
  | .avsClock => .low
  | .pmbus | .smbus => .released
  | .uartTx => .high
  | .gpio _ => .inputPullDown
  | .tdo => .highZ
  | .coreEnable => .high

/-- The column "Unpowered" of R551; what the AON domain keeps is driven on. -/
def Output.unpowered : Output → Pad
  | .spmGate _ | .vcmGate _ | .gaugeLoad _ => .pullDown
  | .strobeLane _ | .writeLane _ | .laserRef _ | .hlClock _ | .hlSelect _ => .zeroVolts
  | .milliactuator _ | .milliactuatorRef => .zeroVolts
  | .pcieTx _ | .flashSelect _ | .flashReset _ | .tdo => .highZ
  | .ringOut => .ringIn
  | .dramClockCommand _ | .dramReset | .uartTx => .zeroVolts
  | .avsClock | .pmbus | .smbus => .released
  | .gpio n => if n.val < 4 then .driven else .highZ
  | .coreEnable => .low

/-- Whether the core supplies are off: PWR has lowered PWR_CORE_EN in Doldrums (R458, R551). -/
def State.coreOff (s : State) : Bool := !s.pwr.coreEn && s.phaseIs .asleep

/-- Whether an output lies on unused slots alone (R547). -/
def State.padUnused (s : State) (o : Output) : Bool := o.slots.all (fun n => !s.slotUsed n)

/-- What an output in service carries where one register alone says so (R486, R551, R566). -/
def State.padOp (s : State) (o : Output) : Pad :=
  match o with
  | .ringOut => if s.rdB R.FRK_STAT_bypass then .driven else .ringIn
  | .gpio n =>
    if s.rdBit R.SYS_GPIO_DIR_dir n.val then (if s.rdBit R.SYS_GPIO_OUT_out n.val then .high else .low)
    else if s.rdBit R.SYS_GPIO_PULL_down n.val then .inputPullDown
    else if s.rdBit R.SYS_GPIO_PULL_up n.val then .inputPullUp else .highZ
  | .coreEnable => if s.pwr.coreEn then .high else .low
  | .laserRef x => if s.rd (R.CAL_TRIM_active.at (26 + x.idx)) = 0 then .zeroVolts else .driven
  | _ => .driven

/-- R551: what stands at an output. -/
def State.pad (s : State) (o : Output) : Pad :=
  if o = .coreEnable then s.padOp o
  else if s.coreOff then o.unpowered
  else if s.jig.boot = .reset ∨ s.padUnused o = true then o.inReset
  else s.padOp o

end Sys2Proof.Machine
end

