-- ==== Sys2Proof/WellFormed.lean ====
section
/-! DEFINITION. When a command is well formed: what the spec asks of operands whose Lean types are wider than the hardware's. -/
namespace Sys2Proof

/-- A 32-bit address of a 32-bit register (R4). -/
def addrOk (a : Nat) : Bool := decide (a < 2 ^ 32) && a % 4 == 0

/-- A decode delivers 4,096 user bytes and 16 metadata bytes (R90, R92). -/
def Decoded.wf (d : Decoded) : Bool := decide (d.info.length = 4112)

/-- A logical block has 4,096 bytes (R339). -/
def blockOk (b : Block) : Bool := decide (b.length = 4096)

/-- Data of a command: 1 to 65,536 blocks. -/
def dataOk (l : List Block) : Bool := decide (1 ≤ l.length ∧ l.length ≤ 65536) && l.all blockOk

/-- What a read finds on the media: whole blocks. -/
def gotOk (l : List (Nat × Option Block)) : Bool := l.all (fun p => match p.2 with
  | some b => blockOk b
  | none => true)

/-- An operation descriptor has 256 bytes and names one to four lanes (R212). -/
def ItemSpec.wf (i : ItemSpec) : Bool := decide (i.desc.length = 256 ∧ 1 ≤ i.lanes ∧ i.lanes ≤ 4)

/-- A ring frame's fields fit their widths (R488). -/
def RingFrame.wf (f : RingFrame) : Bool :=
  decide (f.type < 256 ∧ f.dst < 256 ∧ f.src < 256 ∧ f.hops < 256 ∧ f.seq < 65536 ∧ f.payload.length ≤ 256)

/-- A request of a cache line reads or writes at most its 128 bytes (R422). -/
def LineOp.wf : LineOp → Bool
  | .read n => decide (1 ≤ n ∧ n ≤ 128)
  | .write bytes => decide (1 ≤ bytes.length ∧ bytes.length ≤ 128)
  | .zero => true

/-- A write of a DRAM word brings its 32 bytes (R439). -/
def WordOp.wf : WordOp → Bool
  | .read => true
  | .write _ bytes => decide (bytes.length = 32)

/-- A host command as a controller can fetch it: whole blocks of data, and a key whose length fits its byte; a length outside
1 to 16 is the command's to answer (R407). -/
def HostCmd.wf : HostCmd → Bool
  | .write _ _ data _ => dataOk data
  | .append _ _ data _ => dataOk data
  | .store key _ _ => decide (key.length ≤ 255)
  | .retrieve key _ => decide (key.length ≤ 255)
  | .delete key => decide (key.length ≤ 255)
  | .exist key => decide (key.length ≤ 255)
  | .list key _ => decide (key.length ≤ 255)
  | .download _ data => data.length % 4 == 0
  | .flush .. | .read .. | .writeZeroes .. | .verify .. | .zoneSend .. | .reportZones .. | .identify .. | .getLog ..
  | .setFeature .. | .getFeature .. | .abort .. | .asyncEvent | .commit .. | .other .. => true

/-- A command is well formed. -/
def Instr.wf : Instr → Bool
  | .registerWrite _ addr _ => addrOk addr
  | .unmappedAccess _ _ addr => addrOk addr
  | .debugPortAccess _ addr _ => addrOk addr
  | .pairLowRead _ addr => addrOk addr
  | .rcFieldRead _ addr => addrOk addr
  | .uartRecoveryImage bytes => decide (bytes.length ≤ 0x2000000)
  | .sectorDecodeDone _ d _ => d.wf
  | .storedDecodeDone _ d _ => d.wf
  | .wedgeBoundary _ w => decide (w < 4096)
  | .vcmPwmPeriod _ _ _ _ _ vib => decide (vib.length = 8)
  | .walkerRound _ reads => reads.all (fun r => r.dec.wf)
  | .commandFetch _ _ cmd => cmd.wf
  | .appendAssign _ items => items.all (fun l => l.all ItemSpec.wf)
  | .nvmWrite _ items => items.all (fun l => l.all ItemSpec.wf)
  | .nvmRead _ items got => items.all ItemSpec.wf && gotOk got
  | .writeZeroes _ items => items.all (fun l => l.all ItemSpec.wf)
  | .nvmVerify _ items got => items.all ItemSpec.wf && gotOk got
  | .kvStore _ _ items _ => items.all (fun l => l.all ItemSpec.wf)
  | .kvRetrieve _ items got => items.all ItemSpec.wf && gotOk got
  | .kvDelete _ _ items => items.all (fun l => l.all ItemSpec.wf)
  | .getLogEvents _ media => media.all (fun r => decide (r.length = 64))
  | .miTunnelledAdmin _ cmd media => cmd.wf && media.all (fun r => decide (r.length = 64))
  | .journalEntryComplete _ items => items.all ItemSpec.wf
  | .compaction _ got => gotOk got
  | .auditZone got => gotOk got
  | .zoneDigestReadback _ got => gotOk got
  | .bufRequest _ _ _ op _ => op.wf
  | .drcRequest _ _ op _ => op.wf
  | .thmConversion conv => decide (conv.length = 20)
  | .frameForward f _ _ => f.wf
  | .frameBcn f _ _ _ => f.wf
  | .frameEnum f => f.wf
  | .frameElect f _ => f.wf
  | .frameJoin f => f.wf
  | .frameLeave f => f.wf
  | .frameReq f => f.wf
  | .frameGrant f => f.wf
  | .frameRel f => f.wf
  | .frameRevoke f => f.wf
  | .frameTokrpt f => f.wf
  | .frameEvt f => f.wf
  | .frameMbx f => f.wf
  | .frameAck f => f.wf
  | .frameNak f => f.wf
  | .frameBrk f => f.wf
  | .pmonCount mhz => decide (mhz.length = 7)
  | .tapSamplePreload pads load => pads.length == load.length
  | .tapExtest pads load => pads.length == load.length
  | .tapExtestPulse pads load => pads.length == load.length
  | .tapExtestTrain pads load => pads.length == load.length
  | .bridgeWriteApply .. | .writeTimeout .. | .powerOnReset | .aonPowerUp | .resetNLow | .warmRequest ..
  | .warmAssert | .porRelease .. | .dramTrainingDone .. | .dramTrainingRetry | .imageStreamDone | .coreRunWrite ..
  | .irqClaim .. | .irqComplete .. | .keyProgramSlot .. | .keyRevokeSlot .. | .keyProgramService ..
  | .fuseProgramDone .. | .rollbackRaise .. | .rollbackProgramDone | .loadSection .. | .loadWord .. | .loadDone
  | .goldLock .. | .goldSwap .. | .goldSwapEffect | .goldRepairDone | .lcRequest .. | .challenge .. | .nonceExpire
  | .lcTransitionDone .. | .firmwareImageDownload .. | .fwCommitReplace .. | .fwCommitReplaceActivate ..
  | .fwCommitActivate .. | .fwCommitImmediate .. | .activationDrainDeadline | .activationFlushDone
  | .activationFlushDeadline | .activationResume | .gaugeLoadSpeed | .gaugeUnloadSpeed | .gckLoadCmd ..
  | .gckUnloadCmd .. | .gckSwapCmd .. | .gckRelockCmd .. | .gckDisable .. | .gaugeHeadFlying ..
  | .gaugeAmplitudeOk .. | .gaugeLoadTimeout | .gaugePhaseLock | .gaugeAcqTimeout .. | .gaugeIndex ..
  | .gaugeIndexTimeout .. | .gaugeIndexMissing | .gaugeLoss .. | .gaugeHoldEnd .. | .switchPhaseLock ..
  | .switchTimeout | .gaugeUnloadDone | .spareIndex .. | .sectorRead .. | .reportPop .. | .rchDisable ..
  | .sectorAssemble .. | .writeRunGrant .. | .sectorComplete .. | .preampFaultLine .. | .preheatDone ..
  | .wchEnable .. | .hlFrameDone .. | .hlCmd .. | .ringTailWrite .. | .dispatch .. | .waitEnd .. | .waitTimeout ..
  | .commitOpen .. | .commitClose .. | .commitBoundExceeded .. | .chopSelect .. | .chopReadOn .. | .chopReadOff ..
  | .chopArm .. | .chopWriteOn .. | .chopWriteOff .. | .chopRelease .. | .hmodeFrame .. | .writeGateRequest ..
  | .fmtLoad .. | .fmtNextTrack .. | .fmtHalt .. | .fmtRcvFirst .. | .fmtRcvNext .. | .fmtOvf .. | .posSeek ..
  | .posTrackStep .. | .posOfftrackSet .. | .posOfftrackClr .. | .posRetract .. | .parOpOpen .. | .parOpClose ..
  | .parOpSource .. | .parOpRebuild .. | .bopLoad .. | .ctrLoad .. | .ctrDec .. | .postWback .. | .postStatus ..
  | .postWbackStatus .. | .ropNext .. | .ropApply .. | .ropRepeat .. | .ropStored .. | .ropRestore .. | .ropClose ..
  | .msqAbort .. | .msqFlush .. | .msqRunWrite .. | .msqEnableWrite .. | .urgentGo .. | .preemption ..
  | .retractCountReached .. | .csWrite .. | .csRead .. | .servoFieldSample .. | .huntSync .. | .huntMissingTick ..
  | .followMiss .. | .srvActWrite .. | .loopTrigger .. | .loopCompute | .bankSwapRequest .. | .slotEnable ..
  | .slotTargetWrite .. | .measWrite .. | .cleTimerTick | .spdRefEdge .. | .spdRefLost | .auxFollowStart ..
  | .actEnableWrite .. | .actLoadCmd .. | .actRetractCmd .. | .actLoadTimeout .. | .retractParked ..
  | .retractTimeout .. | .spmPwmPeriod .. | .observerConverged | .observerLoss | .observerMark | .spmStart ..
  | .spmStop .. | .spmStill | .measureOrderFound .. | .measureTimeout | .reverseCheck .. | .brakeTimeout | .alignDone
  | .openTimeout | .coastEnd | .gaugeAngleValid | .gaugeOffsetMeasured .. | .gaugeAngleWithdrawn | .spmDisable ..
  | .accAttach .. | .accRebuild .. | .accReady .. | .accSeal .. | .accCheck .. | .accScan .. | .scanDone ..
  | .accRelease .. | .parDisable .. | .headRetire .. | .bandRelocation .. | .scrubGroup .. | .accumulatorRecovery ..
  | .clampInsert | .readyPop .. | .completionPost .. | .clpAdd .. | .clpNarrow .. | .clpRelease .. | .itemPost ..
  | .nvmFlush .. | .zoneAppend .. | .zoneOpen .. | .zoneClose .. | .zoneFinish .. | .zoneReset .. | .zoneOffline ..
  | .reportZones .. | .kvExist .. | .kvList .. | .identify .. | .getLogErrorInfo .. | .getLogSmart ..
  | .getLogFwSlot .. | .getLogChangedNs .. | .getLogEffects .. | .getLogTelemetry .. | .getLogChangedZones ..
  | .getLogMediaStatus .. | .getLogAudit .. | .setArbitration .. | .setPowerManagement .. | .setTempThreshold ..
  | .setErrorRecovery .. | .setVolatileWriteCache .. | .setNumberOfQueues .. | .setInterruptCoalescing ..
  | .setInterruptVectorCfg .. | .setAsyncEventConfig .. | .setApst .. | .setTimestamp .. | .setKeepAliveTimer ..
  | .setIoCommandSetProfile .. | .getFeatures .. | .abortCommand .. | .asyncEventRequest .. | .unsupportedCommand ..
  | .vendorCommand .. | .ccEnSet .. | .ccEnClear .. | .functionLevelReset .. | .pcieConventionalReset ..
  | .ccShnWrite .. | .hifCfgReady .. | .linkChange .. | .miReadDataStructure | .miSubsystemHealthPoll
  | .miControllerHealthPoll .. | .miConfigurationGet .. | .miConfigurationSet .. | .miVpdRead .. | .tailScan ..
  | .journalReplay .. | .zoneStateFlush .. | .indexJournalBatch | .indexCheckpoint | .indexRebuild | .objFeedPost ..
  | .objFeed | .objCtxOpen .. | .objCtxAbort .. | .objDisable .. | .victimWritebackIssue ..
  | .victimWritebackAccept .. | .maintZero .. | .maintClean .. | .maintInval .. | .maintCleanInval .. | .maintDone
  | .scratchpadWrite .. | .scratchpadDone | .bufDrainStart .. | .bufDrainDone | .bufSoftReset ..
  | .patrolScrubRead .. | .patrolPassDone | .retrainPeriodic | .drcRetrainCmd .. | .retrainDone ..
  | .refreshRateRead .. | .levelRequest .. | .avsStatusPoll .. | .avsTimeout | .clockSwitchDone | .sleepGo ..
  | .voteYes .. | .commitDone | .voteWithdrawal .. | .prepareTimeout | .voterRelease | .backoffEnd | .wakeEvent ..
  | .sleepExitDone | .aonEdge .. | .aonAlarm | .idleThreshold .. | .arbRequest .. | .arbiterAdmit | .powerEstimate
  | .pmbusCommand .. | .pmbusDone .. | .thmShutdownRequest .. | .sensorTimeout | .shutdownRetract | .shutdownLatch
  | .flashOpEnd .. | .flashOpAbandon .. | .squallDetect | .squallRetracted | .squallRestored | .frkEnableWrite ..
  | .ringLock | .listenTimeout | .beaconLost | .soloTimeout | .ringLockLost | .brkTick | .beaconSend
  | .beaconSyncTimeout | .grantAckTimeout .. | .frameRetryTimer .. | .tokenLeaseExpire .. | .cabinetLeaseFree ..
  | .spinLeaseExpire .. | .censusTimeout | .tokReqSpin .. | .tokReqPwr .. | .tokRelPwr .. | .tokCancelSpin ..
  | .tokCancelPwr .. | .budgetLower .. | .mbxSend .. | .calRunGo .. | .calRunAbort .. | .calMeasureDone ..
  | .calPrecondFail .. | .calStrobeRequest .. | .trimStrobe .. | .calDisable .. | .vmonConversion .. | .eventPost ..
  | .aonRingWriteDrop | .flashPageProgram .. | .flashFlushTimer .. | .flashProgramDone .. | .flashProgramTimeout ..
  | .mediaStoreAge | .evrMediaFail .. | .evrStoreRetry .. | .evrEnable .. | .logClear .. | .logClearDone
  | .bistRunGo .. | .bistAbort .. | .bistPrecondFail | .bistSoftReset .. | .bistDone .. | .bscanGrant ..
  | .bscanPrecondRelease | .tapBypass | .tapIdcode | .uartTxWrite .. | .uartRxByte .. | .uartRxPop .. | .gpioWake
  | .spareGaugeLoss .. | .faultLineDeasserted .. | .uartTxByteSent => true

end Sys2Proof
end

