-- ==== Sys2Proof/Tests/Slice0.lean ====
section
/-! SUPPORT. The package's own tests: states that meet the conditions of each statement, ill-formed commands, and single steps whose outcome
the spec gives. -/
open Sys2Proof Sys2Proof.Machine

namespace Sys2Proof.Tests

set_option Elab.async false

/-! ## States for the witnesses -/

/-- A state after reset with some register fields set. -/
def rg (l : List (Field × Nat)) : State := State.forEach State.reset l (fun p s => s.wr p.1 p.2)
/-- An accepted and undecided context of a command. -/
def cx (cmd : HostCmd) : Context := ⟨0, 0, 0, false, cmd, true, false, true, false, false, false, 0, [], [], [], none⟩
/-- A state after reset that holds one context. -/
def hs (cmd : HostCmd) (l : List (Field × Nat)) : State := { rg l with host := { HostState.init with ctxs := [cx cmd] } }
/-- A lane record of four sectors on track 5. -/
def lr : LaneRec := ⟨0, 0, true, false, false, false, 5, 0, 4, 0, 0, 0, 0, 0, 0, 16, 0⟩
/-- A descriptor with two lanes. -/
def dsc : Desc := ⟨0, 0, 0, 3, 0, Vector.replicate 4 lr⟩
/-- A sequencer in the middle of that descriptor, its lanes presented. -/
def mq : MsqState := { MsqState.init with desc := some dsc, src := .ring, opDone := false, lanes := Vector.replicate 4 { LaneFmt.init with on := true, track := 5 } }
/-- A state after reset with that descriptor on both sequencers. -/
def ls (l : List (Field × Nat)) : State := { rg l with msq := ⟨mq, mq⟩ }
/-- A sector in flight. -/
def fl : InFlight := ⟨5, 0, 0, none, none, [], [], false, 1, true, false, 0, 0⟩
/-- A word that does nothing, on every lane. -/
def mw : Microword := { Microword.decode 0 with lanes := 15 }
/-- A state in which both sequencers run a word with everything still to do. -/
def lw (w : Microword) (l : List (Field × Nat)) : State :=
  { rg ([(R.MSQ_STAT_state, 2), (R.MSQ_STAT_state.inst 1, 2)] ++ l) with msq := ⟨{ mq with word := some w, todo := w.ops }, { mq with word := some w, todo := w.ops }⟩ }
/-- The same state with the word's operations done. -/
def lwd (w : Microword) (l : List (Field × Nat)) : State :=
  { rg ([(R.MSQ_STAT_state, 2), (R.MSQ_STAT_state.inst 1, 2)] ++ l) with msq := ⟨{ mq with word := some w, todo := [] }, { mq with word := some w, todo := [] }⟩ }
/-- A geometry of two heads in use on each actuator, with two zoned slots and two for the device. -/
def gm : Geometry := { Geometry.init with w := 512, n := 4, usable := 4, kvBase := 2, convSectors := 1000, annuli := [⟨0, 1000, 0, 0, 4, 4, 8, 4, 0, 0⟩] }
/-- A state with one accepted command, its media namespaces ready. -/
def nz (cmd : HostCmd) (l : List (Field × Nat)) : State :=
  let s := hs cmd ([(R.GCK_STAT_lock, 1), (R.SPM_STAT_lock, 1), (R.HIF_ID_VD_vid, 5), (R.JIG_STAT_lc_state, 2), (R.PAR_GEO_n, 4), (R.PAR_BPT_BASE_base, 1), (R.PAR_REMAP_BASE_base, 2)] ++ l)
  { s with geom := gm, positions := ⟨15, 15⟩, host := { s.host with replayed := true, indexed := true } }
/-- A block of one byte repeated. -/
def blk (b : Byte) : Block := List.replicate 8 b

/-! ## The conditions of the statements can be met -/

/-- The conditions of the clauses of RegisterAndDebugAccesses. -/
theorem wit_RegisterAndDebugAccesses :
  (∃ (s : State) (who : Init) (addr : Nat) (v : Word) (blk : Fin 38) (off : Nat) (f : Field), placeOf addr = some (blk.val, off) ∧ s.absent blk.val = false ∧ s.copyView.inSoftReset blk.val = false ∧ s.bridges[blk].fifo.length < 16 ∧ s.bridges[blk].stalled = [] ∧ fieldsAt blk.val off = [f] ∧ f.acc = .rw ∧ f.eff ≠ .stat ∧ f.of v ≠ s.copyView.rd f ∧ s.copyView.valueRefused who f v = false ∧ f.isGo = false)
  ∧ (∃ (s : State) (addr : Nat) (blk : Fin 38) (off : Nat), placeOf addr = some (blk.val, off) ∧ (16 ≤ s.bridges[blk].fifo.length ∨ s.bridges[blk].stalled ≠ []))
  ∧ (∃ (s : State) (addr : Nat) (v : Word) (blk : Fin 38) (off : Nat) (f : Field), placeOf addr = some (blk.val, off) ∧ s.absent blk.val = false ∧ s.copyView.inSoftReset blk.val = false ∧ s.bridges[blk].fifo.length < 16 ∧ s.bridges[blk].stalled = [] ∧ fieldsAt blk.val off = [f] ∧ f.acc = .rw ∧ f.eff = .stat ∧ s.copyView.ownerOn f = true ∧ f.of v ≠ s.copyView.rd f ∧ s.rdB R.SYS_CFG_ERR_valid = false)
  ∧ (∃ (s : State) (addr : Nat) (v : Word) (blk : Fin 38) (off : Nat) (f : Field), placeOf addr = some (blk.val, off) ∧ s.absent blk.val = false ∧ s.copyView.inSoftReset blk.val = false ∧ s.bridges[blk].fifo.length < 16 ∧ s.bridges[blk].stalled = [] ∧ fieldsAt blk.val off = [f] ∧ f.acc = .rwl ∧ f.unlock.contains s.copyView.lc.code = false ∧ f.of v ≠ s.copyView.rd f ∧ s.rdB R.SYS_CFG_ERR_valid = false)
  ∧ (∃ (s : State) (addr : Nat), placeOf addr = none ∧ s.rdB R.SYS_CFG_ERR_valid = false)
  ∧ (∃ (s : State) (blk : Fin 38) (p : Stalled) (r : List Stalled), s.bridges[blk].stalled = p :: r)
  ∧ (∃ (s : State) (blk : Fin 38) (p : Posted) (f : Field) (v : Nat) (o : Option Word), s.bridges[blk].fifo = [p] ∧ s.bridges[blk].stalled = [] ∧ s.clockStopped blk.val = false ∧ s.isolated.contains blk.val = false ∧ p.acts = [⟨f, v, o⟩] ∧ f ∈ fieldsAt blk.val p.off ∧ f.acc = .rw ∧ f.eff = .live ∧ f.own = false ∧ p.srst blk.val = none ∧ v < 2 ^ f.w ∧ s.shadows = [])
  ∧ (∃ (s : State) (blk : Fin 38) (p : Posted) (r : List Posted), s.bridges[blk].fifo = p :: r ∧ s.clockStopped blk.val = true)
  ∧ (∃ (s : State) (addr : Nat) (blk : Nat) (off : Nat), s.registerAt addr = some (blk, off) ∧ isPairLow blk off = true ∧ s.inSoftReset blk = false)
  ∧ (∃ (s : State) (addr : Nat) (blk : Nat) (off : Nat) (f : Field), s.registerAt addr = some (blk, off) ∧ s.inSoftReset blk = false ∧ fieldsAt blk off = [f] ∧ f.acc = .rc ∧ isPairLow blk off = false ∧ ((4 ≤ off → isPairLow blk (off - 4) = false)) ∧ (¬ (blk = 0 ∧ 0x140 ≤ off ∧ off < 0x158)) ∧ (¬ (blk = 0 ∧ off = 0x103C)) ∧ (¬ (blk = 0 ∧ 0x20 ≤ off ∧ off < 0x120)) ∧ (¬ (blk = 31 ∧ off = 0x18)) ∧ (¬ (8 ≤ blk ∧ blk < 16 ∧ off = 0x54)))
  ∧ (∃ (s : State), (s.lc = .deployed ∨ s.lc = .retired))
  ∧ (∃ (s : State), s.lc = .service ∧ s.rdB R.SYS_CFG_ERR_valid = false)
  ∧ (∃ (s : State) (addr : Nat), (s.lc = .blank ∨ s.lc = .manufacture) ∧ (0x8000000 ≤ addr ∧ addr < 0x8030000) ∧ addr % 4 = 0 ∧ Memory.wf s.sram.aon = true)
  ∧ (∃ (s : State) (addr : Nat), (s.lc = .blank ∨ s.lc = .manufacture ∨ s.lc = .service) ∧ (0x8000000 ≤ addr ∧ addr < 0x8030000) ∧ addr % 4 = 0) :=
  ⟨⟨rg [], .ac0, 0x40000180, 1, 0, 0x180, (((fieldsAt 0 0x180)[0]?).getD R.SYS_CFG_ERR_CNT_count), by decide +kernel⟩,
    ⟨{ rg [] with bridges := Vector.replicate 38 ⟨[], [⟨.ac0, 0, 0⟩]⟩ }, 0x40000000, 0, 0, by decide +kernel⟩,
    ⟨rg [(R.EVR_CTL_en, 1)], 0x4004000C, 1, 4, 0xC, (((fieldsAt 4 0xC)[0]?).getD R.SYS_CFG_ERR_CNT_count), by decide +kernel⟩,
    ⟨rg [], 0x40040030, 0x80000000, 4, 0x30, (((fieldsAt 4 0x30)[0]?).getD R.SYS_CFG_ERR_CNT_count), by decide +kernel⟩,
    ⟨rg [], 0x40070000, by decide +kernel⟩,
    ⟨{ rg [] with bridges := Vector.replicate 38 ⟨[], [⟨.ac0, 0, 0⟩]⟩ }, 3, ⟨.ac0, 0, 0⟩, [], by decide +kernel⟩,
    ⟨{ rg [] with bridges := Vector.replicate 38 ⟨[⟨.ac0, 0x30, [⟨((fieldsAt 0 0x30)[0]?).getD R.SYS_CFG_ERR_CNT_count, 1, none⟩]⟩], []⟩ }, 0, ⟨.ac0, 0x30, [⟨((fieldsAt 0 0x30)[0]?).getD R.SYS_CFG_ERR_CNT_count, 1, none⟩]⟩, (((fieldsAt 0 0x30)[0]?).getD R.SYS_CFG_ERR_CNT_count), 1, none, by decide +kernel⟩,
    ⟨{ rg [(R.PWR_SLEEP_STAT_phase, 3)] with pwr := { PwrState.init with target := 2 }, bridges := Vector.replicate 38 ⟨[⟨.ac0, 0, []⟩], []⟩ }, 9, ⟨.ac0, 0, []⟩, [], by decide +kernel⟩,
    ⟨rg [], 0x40020110, 2, 0x110, by decide +kernel⟩,
    ⟨rg [(R.SYS_CFG_ERR_CNT_count, 5)], 0x40000014, 0, 0x14, (((fieldsAt 0 0x14)[0]?).getD R.SYS_CFG_ERR_CNT_count), by decide +kernel⟩,
    ⟨rg [(R.JIG_STAT_lc_state, 2)], by decide +kernel⟩,
    ⟨rg [(R.JIG_STAT_lc_state, 3)], by decide +kernel⟩,
    ⟨rg [], 0x8000100, by decide +kernel⟩,
    ⟨rg [], 0x8000100, by decide +kernel⟩⟩

/-- The conditions of the clauses of UnmappedAccesses. -/
theorem wit_UnmappedAccesses :
  (∃ (s : State) (addr : Nat), addr / 0x10000000 = 4 ∧ (placeOf addr = none ∨ ((placeOf addr).any (fun p => (fieldsAt p.1 p.2).isEmpty || s.absent p.1)) = true))
  ∧ (∃ (addr : Nat), addr / 0x10000000 = 4 ∧ (placeOf addr).any (fun p => (fieldsAt p.1 p.2).isEmpty) = true) :=
  ⟨⟨rg [], 0x40070000, by decide +kernel⟩,
    ⟨0x40020ffc, by decide +kernel⟩⟩

/-- The conditions of the clauses of CoresAndPorts. -/
theorem wit_CoresAndPorts :
  (∃ (s : State) (run : BitVec 6), s.reaches 0 ∧ run ≠ 0)
  ∧ (∃ (s : State), s.reaches 0 ∧ s.rdB R.SYS_CFG_ERR_valid = false)
  ∧ (∃ (s : State) (core : Fin 6) (source : BitVec 8), (source.toNat, core.val) ∈ s.irq.service)
  ∧ (∃ (s : State) (core : Fin 6) (source : BitVec 8), (source.toNat, core.val) ∉ s.irq.service ∧ s.rdB R.SYS_CFG_ERR_valid = false)
  ∧ (∃ (s : State), s.uart.tx.length < 16)
  ∧ (∃ (s : State), 16 ≤ s.uart.tx.length ∧ s.rdB R.SYS_CFG_ERR_valid = false)
  ∧ (∃ (s : State), s.slotUsed 107 = true ∧ s.uart.rx.length < 16)
  ∧ (∃ (s : State), s.slotUsed 107 = true ∧ 16 ≤ s.uart.rx.length)
  ∧ (∃ (s : State), s.slotUsed 107 = false)
  ∧ (∃ (s : State) (v : Byte) (o : Bool) (l : List (Byte × Bool)), s.uart.rx = (v, o) :: l ∧ l.length < 16 ∧ s.rd R.SYS_UART_RX_valid = 1 ∧ s.rd R.SYS_UART_RX_data = v.toNat ∧ s.rdB R.SYS_UART_RX_ovr = o)
  ∧ (∃ (s : State) (v : Byte) (l : List Byte), s.uart.tx = v :: l ∧ l.length < 16) :=
  ⟨⟨rg [], 3, by decide +kernel⟩,
    ⟨rg [], by decide +kernel⟩,
    ⟨{ rg [] with irq := ⟨[5], [(5, 0)], []⟩ }, 0, 5, by decide +kernel⟩,
    ⟨rg [], 0, 5, by decide +kernel⟩,
    ⟨rg [], by decide +kernel⟩,
    ⟨{ rg [] with uart := ⟨List.replicate 16 0, [], false⟩ }, by decide +kernel⟩,
    ⟨rg [], by decide +kernel⟩,
    ⟨{ rg [] with uart := ⟨[], List.replicate 16 (0, false), false⟩ }, by decide +kernel⟩,
    ⟨rg [(R.SYS_SLOT_USED_used.at 3, 0)], by decide +kernel⟩,
    ⟨{ rg [(R.SYS_UART_RX_valid, 1), (R.SYS_UART_RX_data, 65)] with uart := ⟨[], [(65, false)], false⟩ }, 65, false, [], by decide +kernel⟩,
    ⟨{ rg [] with uart := ⟨[65], [], false⟩ }, 65, [], by decide +kernel⟩⟩

/-- The conditions of the clauses of InterruptClaims. -/
theorem wit_InterruptClaims :
  (∃ (s : State) (core : Fin 6) (n : Nat), s.irqPending n = true ∧ s.irqFor n core.val = true ∧ n < 256 ∧ ((∀ m ∈ List.range 256, s.irqPending m = true → s.irqFor m core.val = true → s.rd (R.SYS_IRQ_CFG_prio.at m) < s.rd (R.SYS_IRQ_CFG_prio.at n) ∨ (s.rd (R.SYS_IRQ_CFG_prio.at m) = s.rd (R.SYS_IRQ_CFG_prio.at n) ∧ n ≤ m))))
  ∧ (∃ (s : State) (core : Fin 6), ((∀ m ∈ List.range 256, s.irqPending m = true → s.irqFor m core.val = false))) :=
  ⟨⟨{ rg [(R.SYS_IRQ_CFG_prio.at 5, 3), (R.SYS_IRQ_CFG_target.at 5, 1)] with irq := ⟨[5], [], []⟩ }, 0, 5, by decide +kernel⟩,
    ⟨rg [], 0, by decide +kernel⟩⟩

/-- The conditions of the clauses of ResetDomains. -/
theorem wit_ResetDomains :
  (∃ (s : State), s.reaches 0)
  ∧ (∃ (s : State), s.warmPending = true) :=
  ⟨⟨rg [], by decide +kernel⟩,
    ⟨{ rg [] with warmPending := true }, by decide +kernel⟩⟩

/-- The conditions of the clauses of BootSequence. -/
theorem wit_BootSequence :
  (∃ (s : State), s.jig.boot = .reset)
  ∧ (∃ (s : State), s.jig.boot = .training ∧ s.cores[0] ≠ .held)
  ∧ (∃ (s : State) (fast : BitVec 4), s.jig.boot = .training ∧ s.cores[0] ≠ .held ∧ fast ≠ 0)
  ∧ (∃ (s : State), s.jig.boot = .retry)
  ∧ (∃ (s : State), s.jig.boot = .stream)
  ∧ (∃ (s : State), s.jig.boot = .uart) :=
  ⟨⟨rg [], by decide +kernel⟩,
    ⟨{ rg [] with jig := { JigState.init with boot := .training }, cores := Vector.replicate 6 (.running 0) }, by decide +kernel⟩,
    ⟨{ rg [] with jig := { JigState.init with boot := .training }, cores := Vector.replicate 6 (.running 0) }, 2, by decide +kernel⟩,
    ⟨{ rg [] with jig := { JigState.init with boot := .retry } }, by decide +kernel⟩,
    ⟨{ rg [] with jig := { JigState.init with boot := .stream } }, by decide +kernel⟩,
    ⟨{ rg [] with jig := { JigState.init with boot := .uart } }, by decide +kernel⟩⟩

/-- The conditions of FusePatterns. -/
theorem wit_FusePatterns : ∃ (s : State), s.jig.boot = .reset ∧ s.fuses.lifecycle ≠ 0 ∧ s.fuses.lifecycle ≠ 1 ∧ s.fuses.lifecycle ≠ 2 :=
  ⟨{ rg [] with fuses := { Fuses.init with lifecycle := 77 } }, by decide +kernel⟩

/-- The conditions of the clauses of KeysAndRollback. -/
theorem wit_KeysAndRollback :
  (∃ (s : State) (slot : Fin 4), s.reaches 1 ∧ s.lc = .manufacture ∧ s.rdB R.JIG_STAT_busy = false ∧ (s.keySlot slot).programmed = false)
  ∧ (∃ (s : State) (slot : Fin 4), s.reaches 1 ∧ (s.lc = .manufacture ∨ s.lc = .service) ∧ s.rdB R.JIG_STAT_busy = false ∧ s.rd R.JIG_IMG_INFO_key_slot ≠ slot.val)
  ∧ (∃ (s : State), s.reaches 1 ∧ s.lc = .manufacture ∧ s.rdB R.JIG_STAT_busy = false ∧ s.fuses.svcProgrammed = false)
  ∧ (∃ (s : State) (n : Fin 4) (v : BitVec 384), s.jig.fuseOp = some (.keySlot n v) ∧ (s.keySlot n).begun = false)
  ∧ (∃ (s : State) (n : Fin 4), s.jig.fuseOp = some (.revoke n))
  ∧ (∃ (s : State) (target : BitVec 7), s.reaches 1 ∧ s.fuses.floor < target.toNat ∧ target.toNat ≤ s.rd R.JIG_IMG_INFO_sec_ver ∧ target.toNat ≤ 64 ∧ s.lc ≠ .blank ∧ s.lc ≠ .retired ∧ s.rdB R.JIG_STAT_busy = false)
  ∧ (∃ (s : State) (v : Nat), s.jig.fuseOp = some (.rollback v) ∧ v ≤ 64) :=
  ⟨⟨rg [(R.JIG_STAT_lc_state, 1)], 2, by decide +kernel⟩,
    ⟨rg [(R.JIG_STAT_lc_state, 3)], 2, by decide +kernel⟩,
    ⟨rg [(R.JIG_STAT_lc_state, 1)], by decide +kernel⟩,
    ⟨{ rg [] with jig := { JigState.init with fuseOp := some (.keySlot 1 7) } }, 1, 7, by decide +kernel⟩,
    ⟨{ rg [] with jig := { JigState.init with fuseOp := some (.revoke 1) } }, 1, by decide +kernel⟩,
    ⟨rg [(R.JIG_STAT_lc_state, 2), (R.JIG_IMG_INFO_sec_ver, 9)], 5, by decide +kernel⟩,
    ⟨{ rg [] with jig := { JigState.init with fuseOp := some (.rollback 4) } }, 4, by decide +kernel⟩⟩

/-- The conditions of the clauses of GoldenCopyAndLoader. -/
theorem wit_GoldenCopyAndLoader :
  (∃ (s : State) (type : BitVec 16) (src : Bool), s.reaches 1 ∧ s.loadRefused type.toNat src none = false)
  ∧ (∃ (s : State) (type : BitVec 16) (src : Bool) (index : BitVec 12), s.reaches 1 ∧ s.loadRefused type.toNat src (some index.toNat) = false)
  ∧ (∃ (s : State) (l : LoadOp), s.jig.load = some l)
  ∧ (∃ (s : State), s.reaches 1)
  ∧ (∃ (s : State), s.reaches 1 ∧ s.rdB R.JIG_STAT_busy = false ∧ s.rdB R.JIG_GOLD_BASE_stage_lock = true ∧ imgPart (s.imgOfSlot 1) = true)
  ∧ (∃ (s : State) (m : Option BootRecord) (n : Option BootRecord), s.jig.swap = some (m, n))
  ∧ (∃ (s : State) (half : Nat) (type : Nat), s.jig.repair = [(half, type)] ∧ 2 ≤ s.rd R.JIG_STAT_boot_copy) :=
  ⟨⟨rg [], 0x13, false, by decide +kernel⟩,
    ⟨rg [], 0x20, false, 5, by decide +kernel⟩,
    ⟨{ rg [] with jig := { JigState.init with load := some ⟨0x13, none, false⟩ } }, ⟨0x13, none, false⟩, by decide +kernel⟩,
    ⟨rg [], by decide +kernel⟩,
    ⟨{ rg [(R.JIG_GOLD_BASE_stage_lock, 1)] with dram := memWriteBytes [] 0x2000000 [0x4A, 0x49, 0x47, 0x31, 1, 0, 0, 0x10, 0, 0, 0, 0, 0x10, 0x44] }, by decide +kernel⟩,
    ⟨{ rg [] with jig := { JigState.init with swap := some (none, none) } }, none, none, by decide +kernel⟩,
    ⟨{ rg [(R.JIG_STAT_boot_copy, 2)] with jig := { JigState.init with repair := [(0, 0x13)] } }, 0, 0x13, by decide +kernel⟩⟩

/-- The conditions of the clauses of LifeCycle. -/
theorem wit_LifeCycle :
  (∃ (s : State), s.reaches 1 ∧ s.lc = .manufacture ∧ s.quiescing = false ∧ s.rdB R.JIG_STAT_busy = false)
  ∧ (∃ (s : State), s.reaches 1 ∧ s.lc = .service ∧ s.quiescing = false ∧ s.rdB R.JIG_STAT_busy = false)
  ∧ (∃ (s : State), s.reaches 1 ∧ s.lc = .deployed ∧ s.quiescing = false ∧ s.rdB R.JIG_STAT_busy = false ∧ s.rdB R.JIG_STAT_lockout = false ∧ s.responseOk = false)
  ∧ (∃ (s : State), s.reaches 1)
  ∧ (∃ (s : State), s.jig.nonce = .fresh)
  ∧ (∃ (s : State), s.jig.fuseOp = some (.lifecycle 2))
  ∧ (∃ (s : State), s.jig.fuseOp = some (.lifecycle 4)) :=
  ⟨⟨rg [(R.JIG_STAT_lc_state, 1)], by decide +kernel⟩,
    ⟨rg [(R.JIG_STAT_lc_state, 3)], by decide +kernel⟩,
    ⟨rg [(R.JIG_STAT_lc_state, 2)], by decide +kernel⟩,
    ⟨rg [], by decide +kernel⟩,
    ⟨{ rg [] with jig := { JigState.init with nonce := .fresh } }, by decide +kernel⟩,
    ⟨{ rg [(R.JIG_STAT_lc_state, 1)] with jig := { JigState.init with fuseOp := some (.lifecycle 2) } }, by decide +kernel⟩,
    ⟨{ rg [(R.JIG_STAT_lc_state, 3)] with jig := { JigState.init with fuseOp := some (.lifecycle 4) } }, by decide +kernel⟩⟩

/-- The conditions of the clauses of FirmwareCommits. -/
theorem wit_FirmwareCommits :
  (∃ (s : State) (ctx : Fin 16384) (c : Context) (off : BitVec 32) (bs : List Byte), s.adminLive ctx.val = some c ∧ c.cmd = .download off bs ∧ off.toNat + bs.length ≤ goldSlotBytes ∧ s.goldForbids .outside (s.goldSlot 1 + off.toNat) bs.length = false)
  ∧ (∃ (s : State) (ctx : Fin 16384) (c : Context) (off : BitVec 32) (bs : List Byte), s.adminLive ctx.val = some c ∧ c.cmd = .download off bs ∧ off.toNat + bs.length ≤ goldSlotBytes ∧ s.goldForbids .outside (s.goldSlot 1 + off.toNat) bs.length = true)
  ∧ (∃ (s : State) (ctx : Fin 16384) (c : Context) (slot : BitVec 3) (copy : Nat), s.adminLive ctx.val = some c ∧ c.cmd = .commit 0 slot ∧ copyOfSlot slot.toNat = some copy)
  ∧ (∃ (s : State) (ctx : Fin 16384) (c : Context) (slot : BitVec 3), s.adminLive ctx.val = some c ∧ c.cmd = .commit 0 slot ∧ copyOfSlot slot.toNat = none)
  ∧ (∃ (s : State) (ctx : Fin 16384) (c : Context) (slot : BitVec 3) (copy : Nat), s.adminLive ctx.val = some c ∧ c.cmd = .commit 1 slot ∧ copyOfSlot slot.toNat = some copy)
  ∧ (∃ (s : State) (ctx : Fin 16384) (c : Context) (slot : BitVec 3) (copy : Nat), s.adminLive ctx.val = some c ∧ c.cmd = .commit 2 slot ∧ copyOfSlot slot.toNat = some copy)
  ∧ (∃ (s : State) (ctx : Fin 16384) (c : Context) (slot : BitVec 3) (copy : Nat), s.adminLive ctx.val = some c ∧ c.cmd = .commit 3 slot ∧ copyOfSlot slot.toNat = some copy ∧ s.rd R.JIG_STAT_boot_copy ≠ copy) :=
  ⟨⟨hs (.download 0 [1, 2]) [], 0, cx (.download 0 [1, 2]), 0, [1, 2], by decide +kernel⟩,
    ⟨hs (.download 0 [1, 2]) [(R.JIG_GOLD_BASE_lock, 1), (R.JIG_GOLD_BASE_stage_lock, 1)], 0, cx (.download 0 [1, 2]), 0, [1, 2], by decide +kernel⟩,
    ⟨hs (.commit 0 1) [], 0, cx (.commit 0 1), 1, 0, by decide +kernel⟩,
    ⟨hs (.commit 0 3) [], 0, cx (.commit 0 3), 3, by decide +kernel⟩,
    ⟨hs (.commit 1 1) [], 0, cx (.commit 1 1), 1, 0, by decide +kernel⟩,
    ⟨hs (.commit 2 1) [], 0, cx (.commit 2 1), 1, 0, by decide +kernel⟩,
    ⟨hs (.commit 3 1) [(R.JIG_STAT_boot_copy, 2)], 0, cx (.commit 3 1), 1, 0, by decide +kernel⟩⟩

/-- The conditions of the clauses of ImmediateActivation. -/
theorem wit_ImmediateActivation :
  (∃ (s : State) (a : Activation), s.host.activation = some a ∧ a.step = .drain ∧ s.host.ctxs = [])
  ∧ (∃ (s : State) (a : Activation) (c : Context), s.host.activation = some a ∧ a.step = .drain ∧ s.host.ctxs = [c] ∧ adminCmd c.cmd = false ∧ c.result = none ∧ c.started = true ∧ s.host.cmds = [])
  ∧ (∃ (s : State) (a : Activation), s.host.activation = some a ∧ a.step = .flush ∧ s.host.cmds.all (fun m => !m.completed) = true)
  ∧ (∃ (s : State) (a : Activation) (n : Nat) (c : Context), s.host.activation = some a ∧ a.step = .flush ∧ a.ctx = some n ∧ a.held = [] ∧ s.ctx n = some c ∧ c.result = none)
  ∧ (∃ (s : State) (a : Activation), s.host.activation = some a ∧ a.step = .committed) :=
  ⟨⟨{ rg [] with host := { HostState.init with activation := some ⟨none, 0, .drain, 0, []⟩ } }, ⟨none, 0, .drain, 0, []⟩, by decide +kernel⟩,
    ⟨{ hs (.flush 1) [] with host := { HostState.init with ctxs := [cx (.flush 1)], activation := some ⟨none, 0, .drain, 0, []⟩ } }, ⟨none, 0, .drain, 0, []⟩, cx (.flush 1), by decide +kernel⟩,
    ⟨{ rg [] with host := { HostState.init with activation := some ⟨none, 0, .flush, 0, []⟩ } }, ⟨none, 0, .flush, 0, []⟩, by decide +kernel⟩,
    ⟨{ rg [] with host := { HostState.init with ctxs := [cx (.commit 3 1)], activation := some ⟨some 0, 0, .flush, 0, []⟩ } }, ⟨some 0, 0, .flush, 0, []⟩, 0, cx (.commit 3 1), by decide +kernel⟩,
    ⟨{ rg [] with host := { HostState.init with activation := some ⟨none, 0, .committed, 0, []⟩ } }, ⟨none, 0, .committed, 0, []⟩, by decide +kernel⟩⟩

/-- The conditions of the clauses of PowerLevelsAndRails. -/
theorem wit_PowerLevelsAndRails :
  (∃ (s : State) (n : BitVec 2), s.reaches 2 ∧ s.levelFinal = n.toNat)
  ∧ (∃ (s : State) (n : BitVec 2), s.reaches 2 ∧ s.levelFinal ≠ n.toNat ∧ s.pwr.change = none ∧ s.pwr.held = false ∧ s.inSleep = false ∧ s.pwr.thmP3 = false ∧ s.level < n.toNat)
  ∧ (∃ (s : State) (n : BitVec 2), s.reaches 2 ∧ s.levelFinal ≠ n.toNat ∧ s.pwr.change = none ∧ s.inSleep = false ∧ s.pwr.thmP3 = false ∧ n.toNat < s.level ∧ s.arbOpen 0 = true)
  ∧ (∃ (s : State) (n : BitVec 2), s.reaches 2 ∧ s.levelFinal ≠ n.toNat ∧ (s.pwr.change.isSome = true ∨ s.inSleep = true ∨ s.pwr.thmP3 = true))
  ∧ (∃ (s : State) (c : LevelChange), s.pwr.change = some c ∧ c.wait = .vdone ∧ c.dst < c.src)
  ∧ (∃ (s : State) (c : LevelChange), s.pwr.change = some c ∧ c.wait = .vdone)
  ∧ (∃ (s : State) (c : LevelChange), s.pwr.change = some c ∧ c.wait = .vdone ∧ c.repeated = false)
  ∧ (∃ (s : State) (c : LevelChange), s.pwr.change = some c ∧ c.wait = .vdone ∧ c.repeated = true ∧ s.pwr.held = false ∧ s.wantP3 = false)
  ∧ (∃ (s : State) (c : LevelChange), s.pwr.change = some c ∧ c.wait = .clock ∧ c.src ≤ c.dst ∧ c.dst < 4)
  ∧ (∃ (s : State) (c : LevelChange), s.pwr.change = some c ∧ c.wait = .clock ∧ c.dst < c.src ∧ c.dst < 4 ∧ s.pwr.held = false ∧ s.wantP3 = false)
  ∧ (∃ (s : State) (rail : BitVec 2), s.reaches 2 ∧ rail.toNat ≤ 2 ∧ s.rd R.PWR_ARB_REQ_granted = 1 ∧ s.arbOpen rail.toNat = true)
  ∧ (∃ (s : State) (rail : BitVec 2), s.reaches 2 ∧ rail.toNat ≤ 2 ∧ s.rd R.PWR_ARB_REQ_granted = 1 ∧ s.arbOpen rail.toNat = false)
  ∧ (∃ (s : State), s.reaches 2 ∧ s.rdB R.PWR_ARB_REQ_granted = false ∧ s.rdB R.SYS_CFG_ERR_valid = false)
  ∧ (∃ (s : State) (q : ArbReq) (l : List ArbReq), s.pwr.queue = q :: l ∧ q.who = .firmware ∧ (s.arbCan q).1 = true)
  ∧ (∃ (s : State) (q : ArbReq) (l : List ArbReq), s.pwr.queue = q :: l ∧ (s.arbCan q).1 = false)
  ∧ (∃ (s : State), s.reaches 2 ∧ s.rdB R.PWR_PMB_CMD_busy = false)
  ∧ (∃ (s : State), s.rdB R.PWR_PMB_CMD_busy = true)
  ∧ (∃ (s : State), s.shadows = [] ∧ s.timeRuns = true)
  ∧ (∃ (s : State), s.shadows = [] ∧ s.pwr.bridge = true)
  ∧ (∃ (s : State), s.shadows = [] ∧ s.pwr.bridge = false ∧ s.timeRuns = false)
  ∧ (∃ (s : State) (k : Fin 3), s.deviceIdle = true ∧ s.rd (R.PWR_IDLE_ms.at k.val) ≠ 0)
  ∧ (∃ (s : State) (k : Fin 3), (s.deviceIdle = false ∨ s.rd (R.PWR_IDLE_ms.at k.val) = 0))
  ∧ (∃ (s : State), s.powerMw ≤ s.rd R.PWR_CAP_cap * 10)
  ∧ (∃ (s : State), s.rd R.PWR_CAP_cap * 10 < s.powerMw) :=
  ⟨⟨rg [], 2, by decide +kernel⟩,
    ⟨{ rg [] with pwr := PwrState.init }, 3, by decide +kernel⟩,
    ⟨{ rg [] with pwr := PwrState.init }, 0, by decide +kernel⟩,
    ⟨rg [], 1, by decide +kernel⟩,
    ⟨{ rg [] with pwr := { PwrState.init with change := some ⟨2, 0, .vdone, false, false⟩ } }, ⟨2, 0, .vdone, false, false⟩, by decide +kernel⟩,
    ⟨rg [], ⟨2, 2, .vdone, false, true⟩, by decide +kernel⟩,
    ⟨rg [], ⟨2, 2, .vdone, false, true⟩, by decide +kernel⟩,
    ⟨{ rg [] with pwr := { PwrState.init with change := some ⟨2, 0, .vdone, true, false⟩ } }, ⟨2, 0, .vdone, true, false⟩, by decide +kernel⟩,
    ⟨{ rg [] with pwr := { PwrState.init with change := some ⟨2, 3, .clock, false, false⟩ } }, ⟨2, 3, .clock, false, false⟩, by decide +kernel⟩,
    ⟨{ rg [] with pwr := { PwrState.init with change := some ⟨2, 0, .clock, false, false⟩ } }, ⟨2, 0, .clock, false, false⟩, by decide +kernel⟩,
    ⟨rg [], 1, by decide +kernel⟩,
    ⟨rg [(R.PWR_ARB_CFG_step_max.at 1, 1500)], 1, by decide +kernel⟩,
    ⟨rg [(R.PWR_ARB_REQ_granted, 0)], by decide +kernel⟩,
    ⟨{ rg [(R.PWR_ARB_REQ_granted, 0)] with pwr := { PwrState.init with queue := [⟨.firmware, 1, 500⟩] } }, ⟨.firmware, 1, 500⟩, [], by decide +kernel⟩,
    ⟨{ rg [(R.PWR_ARB_CFG_step_max.at 1, 100), (R.PWR_ARB_CFG_window.at 1, 1000)] with pwr := { PwrState.init with queue := [⟨.firmware, 1, 50⟩], admitted := [(1, 80, 0)] } }, ⟨.firmware, 1, 50⟩, [], by decide +kernel⟩,
    ⟨rg [], by decide +kernel⟩,
    ⟨rg [(R.PWR_PMB_CMD_busy, 1), (R.PWR_PMB_CMD_read, 1)], by decide +kernel⟩,
    ⟨rg [], by decide +kernel⟩,
    ⟨{ rg [] with pwr := { PwrState.init with bridge := true, aon := 9, capDt := 700 } }, by decide +kernel⟩,
    ⟨{ rg [(R.PWR_SLEEP_STAT_phase, 3)] with pwr := { PwrState.init with target := 1 } }, by decide +kernel⟩,
    ⟨rg [(R.PWR_IDLE_ms.at 1, 50), (R.MSQ_STAT_state, 1), (R.MSQ_STAT_state.inst 1, 1)], 1, by decide +kernel⟩,
    ⟨rg [], 1, by decide +kernel⟩,
    ⟨rg [(R.PWR_CAP_cap, 1150)], by decide +kernel⟩,
    ⟨{ rg [(R.PWR_CAP_cap, 10), (R.PWR_LVL_base.at 2, 60)] with pwr := { PwrState.init with overRun := 1 } }, by decide +kernel⟩⟩

/-- The conditions of the clauses of SleepAndWake. -/
theorem wit_SleepAndWake :
  (∃ (s : State) (target : BitVec 2) (inL2 : BitVec 2), s.reaches 2 ∧ target.toNat ≠ 3 ∧ s.phaseIs .run = true ∧ s.sleepMay target.toNat inL2.toNat = true)
  ∧ (∃ (s : State) (target : BitVec 2) (inL2 : BitVec 2), s.reaches 2 ∧ target.toNat ≠ 3 ∧ (s.phaseIs .run = false ∨ s.sleepMay target.toNat inL2.toNat = false) ∧ s.rdB R.SYS_CFG_ERR_valid = false)
  ∧ (∃ (s : State) (voter : Fin 11) (inL2 : BitVec 2), s.phaseIs .prepare = true ∧ s.withdrawn inL2.toNat = none ∧ (List.range voter.val).all (fun i => s.voted i) = true ∧ s.voted voter.val = false ∧ s.voteHolds inL2.toNat voter.val = true ∧ voter.val < 10 ∧ s.rd R.PWR_SLEEP_STAT_votes < 2 ^ (voter.val + 1))
  ∧ (∃ (s : State) (voter : Fin 11) (inL2 : BitVec 2), s.phaseIs .prepare = true ∧ s.withdrawn inL2.toNat = none ∧ s.rd R.PWR_SLEEP_STAT_votes = 0x3FF ∧ voter.val = 10 ∧ s.voteHolds inL2.toNat 10 = true)
  ∧ (∃ (s : State) (voter : Fin 11) (inL2 : BitVec 2), s.phaseIs .prepare = true ∧ s.voted voter.val = true ∧ s.voteHolds inL2.toNat voter.val = false ∧ s.pwr.draining = false)
  ∧ (∃ (s : State) (voter : Fin 11), (s.phaseIs .prepare = false ∨ s.voted voter.val = false))
  ∧ (∃ (s : State), s.phaseIs .prepare = true ∧ s.pwr.draining = true)
  ∧ (∃ (s : State), s.phaseIs .backoff = true ∧ s.rdB R.BUF_STAT_draining = false ∧ s.pwr.releasing ≠ [])
  ∧ (∃ (s : State), (s.phaseIs .backoff = false ∨ s.rdB R.BUF_STAT_draining = true))
  ∧ (∃ (s : State), s.phaseIs .backoff = true)
  ∧ (∃ (s : State), s.phaseIs .backoff = false)
  ∧ (∃ (s : State), s.phaseIs .commit = true ∧ s.pwr.target = 2 ∧ s.pwr.wakeKept = none)
  ∧ (∃ (s : State), s.phaseIs .commit = true ∧ s.pwr.target = 1 ∧ s.level = 3 ∧ s.pwr.change = none ∧ s.pwr.wakeKept = none)
  ∧ (∃ (s : State), s.phaseIs .commit = true ∧ s.pwr.target = 0 ∧ s.level = 3 ∧ s.pwr.change = none ∧ s.pwr.wakeKept = none)
  ∧ (∃ (s : State) (g : Fin 8), s.wakeActs (some g.val) = true ∧ s.phaseIs .asleep = true ∧ s.pwr.target = 2)
  ∧ (∃ (s : State) (g : Fin 8), s.wakeActs (some g.val) = true ∧ s.phaseIs .commit = true)
  ∧ (∃ (s : State) (g : Fin 8), s.wakeActs (some g.val) = false)
  ∧ (∃ (s : State), s.phaseIs .exit = true ∧ s.pwr.target = 0 ∧ s.pwr.queue = [] ∧ s.pwr.bridge = false)
  ∧ (∃ (s : State), s.phaseIs .exit = true ∧ s.pwr.target = 1 ∧ s.pwr.queue = [])
  ∧ (∃ (s : State), s.rd64 R.PWR_ALARM_cnt ≠ 0 ∧ s.rd64 R.PWR_ALARM_cnt % 2 ^ 48 = s.pwr.aon ∧ s.pwr.target = 2 ∧ s.rdBit R.PWR_WAKE_EN_en 3 = true ∧ s.phaseIs .asleep = true)
  ∧ (∃ (s : State), s.rd64 R.PWR_ALARM_cnt = 0)
  ∧ (∃ (s : State) (g : Nat), s.presence.wakeGpio = some g ∧ g < 16 ∧ s.slotUsed (108 + g) = true ∧ s.pwr.target = 2 ∧ s.rdBit R.PWR_WAKE_EN_en 6 = true ∧ s.phaseIs .asleep = true)
  ∧ (∃ (s : State), s.presence.wakeGpio = none) :=
  ⟨⟨rg [], 0, 0, by decide +kernel⟩,
    ⟨rg [(R.ACT_STAT_state.at 0, 3), (R.PWR_SLEEP_STAT_phase, 5)], 0, 0, by decide +kernel⟩,
    ⟨rg [(R.PWR_SLEEP_STAT_phase, 1), (R.PWR_VOTE_yes, 63)], 0, 0, by decide +kernel⟩,
    ⟨{ rg [(R.PWR_SLEEP_STAT_phase, 1), (R.PWR_SLEEP_STAT_votes, 0x3FF), (R.PWR_VOTE_yes, 63), (R.MSQ_STAT_state, 1), (R.MSQ_STAT_state.inst 1, 1)] with pwr := PwrState.init }, 10, 0, by decide +kernel⟩,
    ⟨{ rg [(R.PWR_SLEEP_STAT_phase, 1), (R.PWR_SLEEP_STAT_votes, 3), (R.PWR_VOTE_yes, 63)] with pwr := { PwrState.init with doorbell := true } }, 1, 0, by decide +kernel⟩,
    ⟨rg [], 1, by decide +kernel⟩,
    ⟨{ rg [(R.PWR_SLEEP_STAT_phase, 1), (R.PWR_SLEEP_STAT_votes, 255)] with pwr := { PwrState.init with draining := true } }, by decide +kernel⟩,
    ⟨{ rg [(R.PWR_SLEEP_STAT_phase, 5), (R.PWR_SLEEP_STAT_votes, 255)] with pwr := { PwrState.init with draining := true, releasing := [7, 0] } }, by decide +kernel⟩,
    ⟨rg [], by decide +kernel⟩,
    ⟨rg [(R.PWR_SLEEP_STAT_phase, 5)], by decide +kernel⟩,
    ⟨rg [], by decide +kernel⟩,
    ⟨{ rg [(R.PWR_SLEEP_STAT_phase, 2)] with pwr := { PwrState.init with target := 2 } }, by decide +kernel⟩,
    ⟨{ rg [(R.PWR_SLEEP_STAT_phase, 2), (R.PWR_PLVL_STAT_cur, 3), (R.MSQ_RING_BASE_base, 9)] with pwr := { PwrState.init with target := 1 } }, by decide +kernel⟩,
    ⟨{ rg [(R.PWR_SLEEP_STAT_phase, 2), (R.PWR_PLVL_STAT_cur, 3)] with pwr := { PwrState.init with target := 0 } }, by decide +kernel⟩,
    ⟨{ rg [(R.PWR_SLEEP_STAT_phase, 3), (R.PWR_WAKE_EN_en, 255)] with pwr := { PwrState.init with target := 2 } }, 1, by decide +kernel⟩,
    ⟨{ rg [(R.PWR_SLEEP_STAT_phase, 2), (R.PWR_WAKE_EN_en, 255)] with pwr := { PwrState.init with target := 2 } }, 1, by decide +kernel⟩,
    ⟨{ rg [(R.PWR_SLEEP_STAT_phase, 3), (R.PWR_WAKE_EN_en, 0)] with pwr := { PwrState.init with target := 2 } }, 1, by decide +kernel⟩,
    ⟨{ rg [(R.PWR_SLEEP_STAT_phase, 4)] with pwr := PwrState.init }, by decide +kernel⟩,
    ⟨{ rg [(R.PWR_SLEEP_STAT_phase, 4), (R.SYS_RST_CTL_core_run, 1)] with pwr := { PwrState.init with target := 1, bridge := true } }, by decide +kernel⟩,
    ⟨{ rg [(R.PWR_SLEEP_STAT_phase, 3), (R.PWR_ALARM_cnt, 9), (R.PWR_WAKE_EN_en, 8)] with pwr := { PwrState.init with target := 2, aon := 9 } }, by decide +kernel⟩,
    ⟨rg [], by decide +kernel⟩,
    ⟨{ rg [(R.PWR_SLEEP_STAT_phase, 3), (R.PWR_WAKE_EN_en, 64), (R.SYS_SLOT_USED_used.at 3, 0x4000)] with pwr := { PwrState.init with target := 2 }, presence := { Presence.init with wakeGpio := some 2 } }, 2, by decide +kernel⟩,
    ⟨rg [], by decide +kernel⟩⟩

/-- The conditions of the clauses of ThermalAndSquall. -/
theorem wit_ThermalAndSquall :
  (∃ (s : State) (conv : List (Option Int)) (j : Fin 16) (v : Int), s.islandOff .system = false ∧ conv.getD j.val none = some v ∧ (-640 ≤ v ∧ v ≤ 2400) ∧ (s.thm.inputs[j.val]).conv = [] ∧ (s.thm.inputs[j.val]).good = 7)
  ∧ (∃ (s : State) (conv : List (Option Int)) (j : Fin 16), s.islandOff .system = false ∧ conv.getD j.val none = none ∧ s.rdB (R.THM_SENS_valid.at j.val) = true)
  ∧ (∃ (s : State), s.islandOff .system = false)
  ∧ (∃ (s : State) (conv : List (Option Int)), s.islandOff .system = false ∧ s.thm.inputs = Vector.replicate 20 ⟨[], 7⟩ ∧ s.thm.hist = [] ∧ (List.range 4).all (fun d => !s.rdB (R.THM_DIODE_valid.at d) && !s.rdB (R.THM_DIODE_CFG_en.at d)) = true ∧ s.rdB R.THM_STAT_sd_seq = false ∧ s.rdB R.THM_STAT_latched = false ∧ conv = List.replicate 16 (some (s.limit R.THM_LIMITS_shutdown)) ∧ s.rd R.THM_LIMITS_shutdown ≤ 150 ∧ s.rd R.THM_LIMITS_throttle ≤ s.rd R.THM_LIMITS_shutdown ∧ s.rd R.THM_LIMITS_warn ≤ s.rd R.THM_LIMITS_shutdown)
  ∧ (∃ (s : State), s.islandOff .system = true)
  ∧ (∃ (s : State), s.reaches 3 ∧ (s.lc = .manufacture ∨ s.lc = .service) ∧ s.rdB R.THM_STAT_sd_seq = false ∧ s.rdB R.THM_STAT_latched = false)
  ∧ (∃ (s : State), s.reaches 3 ∧ s.lc ≠ .manufacture ∧ s.lc ≠ .service ∧ s.rdB R.SYS_CFG_ERR_valid = false)
  ∧ (∃ (s : State), (List.range 16).all (fun j => !s.rdB (inputValid j)) = true ∧ s.rdB R.THM_STAT_sd_seq = false ∧ s.rdB R.THM_STAT_latched = false)
  ∧ (∃ (s : State), ((List.range 16).any (fun j => s.rdB (inputValid j)) = true ∨ s.rdB R.THM_STAT_latched = true))
  ∧ (∃ (s : State), s.rdB R.THM_STAT_sd_seq = true ∧ s.thm.sdRetract = false ∧ s.flashBusy = false ∧ s.lanesBusy = false)
  ∧ (∃ (s : State), (s.flashBusy = true ∨ s.lanesBusy = true))
  ∧ (∃ (s : State), s.rdB R.THM_STAT_sd_seq = true ∧ s.thm.sdRetract = true ∧ s.headsParked = true)
  ∧ (∃ (s : State), s.headsParked = false)
  ∧ (∃ (s : State) (d : Fin 2) (l : List EventRecord), s.flashWatched = true ∧ (s.evr.log d.val).job = some (.program l))
  ∧ (∃ (s : State) (d : Fin 2), s.flashWatched = true ∧ (s.evr.log d.val).job = some .erase)
  ∧ (∃ (s : State) (d : Fin 2), s.flashWatched = true ∧ (s.evr.log d.val).job.isSome = true)
  ∧ (∃ (s : State) (d : Fin 2), (s.flashWatched = false ∨ (s.evr.log d.val).job = none))
  ∧ (∃ (s : State), s.rdB R.THM_STAT_squall = false ∧ s.islandOff .system = false)
  ∧ (∃ (s : State), s.rdB R.THM_STAT_squall = true)
  ∧ (∃ (s : State), s.rdB R.THM_STAT_squall = true ∧ s.thm.sqSeq = true ∧ s.headsParked = true)
  ∧ (∃ (s : State), s.rdB R.THM_STAT_squall = true ∧ s.thm.sqSeq = false ∧ 11400 ≤ s.rd (R.CAL_VMON_mv.at 7) ∧ 4750 ≤ s.rd (R.CAL_VMON_mv.at 8))
  ∧ (∃ (s : State), (s.rdB R.THM_STAT_squall = false ∨ s.thm.sqSeq = true ∨ s.rd (R.CAL_VMON_mv.at 7) < 11400 ∨ s.rd (R.CAL_VMON_mv.at 8) < 4750)) :=
  ⟨⟨{ rg [] with thm := { ThmState.init with inputs := Vector.replicate 20 ⟨[], 7⟩ } }, [none, some 400], 1, 400, by decide +kernel⟩,
    ⟨rg [(R.THM_SENS_valid.at 2, 1)], [], 2, by decide +kernel⟩,
    ⟨rg [(R.THM_SENS_valid, 1)], by decide +kernel⟩,
    ⟨{ rg [(R.THM_LIMITS_shutdown, 115)] with thm := { ThmState.init with inputs := Vector.replicate 20 ⟨[], 7⟩ } }, List.replicate 16 (some 1840), by decide +kernel⟩,
    ⟨{ rg [(R.PWR_SLEEP_STAT_phase, 3)] with pwr := { PwrState.init with target := 2 } }, by decide +kernel⟩,
    ⟨rg [(R.JIG_STAT_lc_state, 3)], by decide +kernel⟩,
    ⟨rg [(R.JIG_STAT_lc_state, 2)], by decide +kernel⟩,
    ⟨rg [], by decide +kernel⟩,
    ⟨rg [(R.THM_SENS_valid.at 3, 1)], by decide +kernel⟩,
    ⟨rg [(R.THM_STAT_sd_seq, 1), (R.ACT_STAT_state.at 0, 4)], by decide +kernel⟩,
    ⟨rg [(R.THM_STAT_sd_seq, 1), (R.WCH_STAT_lane_active, 1)], by decide +kernel⟩,
    ⟨{ rg [(R.THM_STAT_sd_seq, 1)] with thm := { ThmState.init with sdRetract := true } }, by decide +kernel⟩,
    ⟨rg [(R.ACT_STAT_state.at 0, 4)], by decide +kernel⟩,
    ⟨{ rg [(R.THM_STAT_sd_seq, 1)] with evr := { EvrState.init with log0 := ⟨[], some (.program []), true⟩ } }, 0, [], by decide +kernel⟩,
    ⟨{ rg [(R.THM_STAT_squall, 1)] with evr := { EvrState.init with log0 := ⟨[], some .erase, true⟩ } }, 0, by decide +kernel⟩,
    ⟨{ rg [(R.THM_STAT_squall, 1)] with evr := { EvrState.init with log0 := ⟨[], some .erase, true⟩ } }, 0, by decide +kernel⟩,
    ⟨rg [], 0, by decide +kernel⟩,
    ⟨rg [(R.ACT_STAT_state.at 0, 4)], by decide +kernel⟩,
    ⟨rg [(R.THM_STAT_squall, 1)], by decide +kernel⟩,
    ⟨{ rg [(R.THM_STAT_squall, 1)] with thm := { ThmState.init with sqSeq := true } }, by decide +kernel⟩,
    ⟨rg [(R.THM_STAT_squall, 1), (R.CAL_VMON_mv.at 7, 12000), (R.CAL_VMON_mv.at 8, 5000)], by decide +kernel⟩,
    ⟨rg [], by decide +kernel⟩⟩

/-- The conditions of the clauses of CalibrationAndMonitors. -/
theorem wit_CalibrationAndMonitors :
  (∃ (s : State) (inst : BitVec 5), s.reaches 5 ∧ s.rdB R.CAL_STAT_busy = false ∧ s.rdBit R.CAL_PEND_pend inst.toNat = false ∧ inst.toNat ≠ 26 ∧ inst.toNat ≠ 27 ∧ s.rdB R.CAL_CTL_en = true ∧ s.rdBit R.PWR_SLEEP_STAT_votes 6 = false ∧ s.preFails inst.toNat true = 0)
  ∧ (∃ (s : State) (inst : BitVec 5), s.reaches 5 ∧ s.rdB R.CAL_STAT_busy = false ∧ s.rdBit R.CAL_PEND_pend inst.toNat = false ∧ inst.toNat ≠ 26 ∧ inst.toNat ≠ 27 ∧ s.rdB R.CAL_CTL_en = true ∧ s.rdBit R.PWR_SLEEP_STAT_votes 6 = false ∧ s.preFails inst.toNat true ≠ 0 ∧ s.preFails inst.toNat true < 2 ^ R.CAL_STAT_fail.w)
  ∧ (∃ (s : State) (inst : BitVec 5), s.reaches 5 ∧ (s.rdB R.CAL_CTL_en = false ∨ inst.toNat = 26 ∨ s.rdB R.CAL_STAT_busy = true) ∧ s.rdB R.SYS_CFG_ERR_valid = false)
  ∧ (∃ (s : State), s.reaches 5 ∧ s.rdB R.CAL_STAT_busy = true)
  ∧ (∃ (s : State), s.reaches 5 ∧ s.rdB R.CAL_STAT_busy = false)
  ∧ (∃ (s : State) (v : BitVec 16), s.rdB R.CAL_STAT_busy = true ∧ s.rd R.CAL_STAT_inst < 31 ∧ s.rdBit R.CAL_PEND_pend (s.rd R.CAL_STAT_inst) = false ∧ s.preFails (s.rd R.CAL_STAT_inst) true = 0 ∧ trimOk (s.rd R.CAL_STAT_inst) (trimValue (s.rd R.CAL_STAT_inst) v.toNat) = true ∧ s.strobeNow (s.rd R.CAL_STAT_inst) = true)
  ∧ (∃ (s : State) (v : BitVec 16), s.rdB R.CAL_STAT_busy = true ∧ s.rd R.CAL_STAT_inst < 31 ∧ s.rdBit R.CAL_PEND_pend (s.rd R.CAL_STAT_inst) = false ∧ s.preFails (s.rd R.CAL_STAT_inst) true = 0 ∧ trimOk (s.rd R.CAL_STAT_inst) (trimValue (s.rd R.CAL_STAT_inst) v.toNat) = false)
  ∧ (∃ (s : State) (quiet : Bool), s.rdB R.CAL_STAT_busy = true ∧ s.preFails (s.rd R.CAL_STAT_inst) quiet ≠ 0 ∧ s.preFails (s.rd R.CAL_STAT_inst) quiet < 2 ^ R.CAL_STAT_fail.w)
  ∧ (∃ (s : State) (quiet : Bool), (s.rdB R.CAL_STAT_busy = false ∨ s.preFails (s.rd R.CAL_STAT_inst) quiet = 0))
  ∧ (∃ (s : State) (inst : BitVec 5), s.reaches 5 ∧ s.instBusy inst.toNat = false ∧ inst.toNat < 31 ∧ s.rdB R.CAL_STAT_busy = false ∧ s.strobeNow inst.toNat = true)
  ∧ (∃ (s : State) (inst : BitVec 5), s.reaches 5 ∧ s.instBusy inst.toNat = false ∧ s.strobeNow inst.toNat = false)
  ∧ (∃ (s : State) (inst : BitVec 5), s.reaches 5 ∧ s.instBusy inst.toNat = true ∧ s.rdB R.SYS_CFG_ERR_valid = false)
  ∧ (∃ (s : State) (inst : BitVec 5), s.rdBit R.CAL_PEND_pend inst.toNat = true ∧ s.rdB R.CAL_STAT_busy = false ∧ inst.toNat < 31)
  ∧ (∃ (s : State) (inst : BitVec 5), s.rdBit R.CAL_PEND_pend inst.toNat = false)
  ∧ (∃ (s : State), s.rdB R.CAL_STAT_busy = false ∧ s.rd R.CAL_PEND_pend = 0)
  ∧ (∃ (s : State), s.rdB R.CAL_STAT_busy = true)
  ∧ (∃ (s : State) (m : Fin 9) (raw : BitVec 16), m.val < 7 ∧ s.rd (R.CAL_VMON_LIM_lo.at m.val) ≤ raw.toNat ∧ raw.toNat ≤ s.rd (R.CAL_VMON_LIM_hi.at m.val))
  ∧ (∃ (s : State) (m : Fin 9) (raw : BitVec 16), m.val < 7 ∧ (raw.toNat < s.rd (R.CAL_VMON_LIM_lo.at m.val) ∨ s.rd (R.CAL_VMON_LIM_hi.at m.val) < raw.toNat) ∧ s.cal.outRun[m.val] = 1)
  ∧ (∃ (s : State) (mhz : List (BitVec 16)), s.phaseIs .asleep = false ∧ mhz.length = 7) :=
  ⟨⟨rg [(R.CAL_CTL_en, 1)], 31, by decide +kernel⟩,
    ⟨rg [(R.CAL_CTL_en, 1)], 24, by decide +kernel⟩,
    ⟨rg [], 24, by decide +kernel⟩,
    ⟨rg [(R.CAL_STAT_busy, 1), (R.CAL_STAT_inst, 4)], by decide +kernel⟩,
    ⟨rg [], by decide +kernel⟩,
    ⟨rg [(R.CAL_STAT_busy, 1), (R.CAL_STAT_inst, 3), (R.CAL_CTL_en, 1)], 9, by decide +kernel⟩,
    ⟨rg [(R.CAL_STAT_busy, 1), (R.CAL_STAT_inst, 3)], 0x4000, by decide +kernel⟩,
    ⟨rg [(R.CAL_STAT_busy, 1), (R.CAL_STAT_inst, 3)], false, by decide +kernel⟩,
    ⟨rg [], true, by decide +kernel⟩,
    ⟨rg [(R.CAL_TRIM_shadow.at 3, 5)], 3, by decide +kernel⟩,
    ⟨rg [(R.CAL_CTL_en, 1), (R.RCH_STAT_reading.inst 3, 1)], 3, by decide +kernel⟩,
    ⟨rg [(R.CAL_PEND_pend, 8)], 3, by decide +kernel⟩,
    ⟨rg [(R.CAL_PEND_pend, 8), (R.CAL_TRIM_shadow.at 3, 5)], 3, by decide +kernel⟩,
    ⟨rg [], 3, by decide +kernel⟩,
    ⟨rg [(R.CAL_CTL_en, 1)], by decide +kernel⟩,
    ⟨rg [(R.CAL_CTL_en, 1), (R.CAL_STAT_busy, 1)], by decide +kernel⟩,
    ⟨rg [(R.CAL_VMON_LIM_hi.at 2, 900)], 2, 700, by decide +kernel⟩,
    ⟨{ rg [(R.CAL_VMON_LIM_lo.at 2, 900)] with cal := ⟨Vector.replicate 9 1⟩ }, 2, 700, by decide +kernel⟩,
    ⟨rg [], [1, 2, 3, 4, 5, 6, 7], by decide +kernel⟩⟩

/-- The conditions of the clauses of EventRecorder. -/
theorem wit_EventRecorder :
  (∃ (s : State) (who : Init) (c : Fin 6) (sev : BitVec 3), s.reaches 4 ∧ who.code = c.val ∧ sev.toNat ≠ 7 ∧ (List.range 3).all (fun k => s.storeFailed k || decide (s.evrPending k < 1023)) = true)
  ∧ (∃ (s : State) (who : Init) (c : Fin 6), s.reaches 4 ∧ who.code ≠ c.val ∧ s.rdB R.SYS_CFG_ERR_valid = false)
  ∧ (∃ (s : State) (d : Fin 2), s.storeReady d.val = true ∧ 4 ≤ s.evrPending d.val ∧ (s.rd (posF d.val) % 0x10000 ≠ 0 ∨ (s.evr.log d.val).erased = true))
  ∧ (∃ (s : State) (d : Fin 2), s.storeReady d.val = true ∧ 4 ≤ s.evrPending d.val ∧ s.rd (posF d.val) % 0x10000 = 0 ∧ (s.evr.log d.val).erased = false)
  ∧ (∃ (s : State) (d : Fin 2), (s.storeReady d.val = false ∨ s.evrPending d.val < 4))
  ∧ (∃ (s : State) (d : Fin 2), s.storeReady d.val = true ∧ 1 ≤ s.evrPending d.val ∧ (s.rd (posF d.val) % 0x10000 ≠ 0 ∨ (s.evr.log d.val).erased = true))
  ∧ (∃ (s : State), s.evrHeldOff = true)
  ∧ (∃ (s : State) (d : Fin 2) (l : List EventRecord), (s.evr.log d.val).job = some (.program l) ∧ s.evr.clearTo = none)
  ∧ (∃ (s : State) (d : Fin 2) (l : List EventRecord), (s.evr.log d.val).job = some (.program l) ∧ s.evr.clearTo = none ∧ (List.range 3).all (fun k => s.storeFailed k || decide (s.evrPending k < 1000)) = true)
  ∧ (∃ (s : State) (d : Fin 2), (s.evr.log d.val).job.isSome = true ∧ s.evr.clearTo = none)
  ∧ (∃ (s : State) (d : Fin 2), (s.evr.log d.val).job = none)
  ∧ (∃ (s : State), s.reaches 4 ∧ s.storeFailed 2 = false)
  ∧ (∃ (s : State), s.reaches 4 ∧ s.storeFailed 2 = true)
  ∧ (∃ (s : State), s.reaches 4 ∧ (List.range 3).all (fun k => decide (s.evrPending k < 1024)) = true)
  ∧ (∃ (s : State), s.reaches 4)
  ∧ (∃ (s : State), s.reaches 4 ∧ s.lc = .service ∧ s.rdB R.EVR_STAT_clearing = false ∧ s.evrHeldOff = false ∧ s.storeFailed 0 = false ∧ s.storeFailed 1 = false ∧ s.evr.log0.job = none ∧ s.evr.log1.job = none ∧ (List.range 3).all (fun k => s.storeFailed k || decide (s.evrPending k < 1000)) = true)
  ∧ (∃ (s : State), s.reaches 4 ∧ s.lc ≠ .service ∧ s.rdB R.SYS_CFG_ERR_valid = false)
  ∧ (∃ (s : State), s.evr.clearTo.isSome = true ∧ s.evr.log0.job = some .clear ∧ s.evr.log1.job = some .clear ∧ s.evrHeldOff = false ∧ s.storeFailed 0 = false ∧ s.storeFailed 1 = false)
  ∧ (∃ (s : State), s.evr.clearTo = none) :=
  ⟨⟨rg [], .ac0, 0, 3, by decide +kernel⟩,
    ⟨rg [], .ac1, 0, by decide +kernel⟩,
    ⟨rg [(R.EVR_CTL_en, 1), (R.EVR_SEQ_seq, 5), (R.EVR_FLASH_POS_pos.at 0, 0x2010100)], 0, by decide +kernel⟩,
    ⟨rg [(R.EVR_CTL_en, 1), (R.EVR_SEQ_seq, 5), (R.EVR_FLASH_POS_pos.at 0, 0x2010000)], 0, by decide +kernel⟩,
    ⟨rg [], 0, by decide +kernel⟩,
    ⟨rg [(R.EVR_CTL_en, 1), (R.EVR_SEQ_seq, 1), (R.EVR_FLASH_POS_pos.at 0, 0x2010100)], 0, by decide +kernel⟩,
    ⟨rg [(R.THM_STAT_sd_seq, 1)], by decide +kernel⟩,
    ⟨{ rg [(R.EVR_FLASH_POS_pos.at 0, 0x2010100)] with evr := { EvrState.init with log0 := ⟨[], some (.program []), true⟩ } }, 0, [], by decide +kernel⟩,
    ⟨{ rg [(R.EVR_FLASH_POS_pos.at 0, 0x2010100)] with evr := { EvrState.init with log0 := ⟨[], some (.program []), true⟩ } }, 0, [], by decide +kernel⟩,
    ⟨{ rg [(R.EVR_FLASH_POS_pos.at 0, 0x2010100)] with evr := { EvrState.init with log0 := ⟨[], some .erase, true⟩ } }, 0, by decide +kernel⟩,
    ⟨rg [], 0, by decide +kernel⟩,
    ⟨rg [], by decide +kernel⟩,
    ⟨rg [(R.EVR_STAT_store_fail, 4)], by decide +kernel⟩,
    ⟨rg [(R.EVR_STAT_store_fail, 7)], by decide +kernel⟩,
    ⟨rg [], by decide +kernel⟩,
    ⟨rg [(R.JIG_STAT_lc_state, 3), (R.EVR_SEQ_seq, 9)], by decide +kernel⟩,
    ⟨rg [(R.JIG_STAT_lc_state, 2), (R.EVR_SEQ_seq, 9)], by decide +kernel⟩,
    ⟨{ rg [(R.EVR_STAT_clearing, 1)] with evr := { EvrState.init with log0 := ⟨[], some .clear, true⟩, log1 := ⟨[], some .clear, true⟩, clearTo := some 3 } }, by decide +kernel⟩,
    ⟨rg [], by decide +kernel⟩⟩

/-- The conditions of the clauses of SelfTestAndBoundaryScan. -/
theorem wit_SelfTestAndBoundaryScan :
  (∃ (s : State) (target : BitVec 5), s.reaches 6 ∧ R.BST_RUN_go.unlock.contains s.lc.code = true ∧ s.rdB R.BST_CTL_en = true ∧ s.rdB R.BST_STAT_busy = false ∧ s.bstMay = true ∧ s.bstTargetOk target.toNat = true)
  ∧ (∃ (s : State), s.reaches 6 ∧ R.BST_RUN_go.unlock.contains s.lc.code = true ∧ s.rdB R.BST_CTL_en = true ∧ s.rdB R.BST_STAT_busy = false ∧ s.bstMay = false ∧ s.rdB R.SYS_CFG_ERR_valid = false)
  ∧ (∃ (s : State), s.reaches 6 ∧ R.BST_RUN_go.unlock.contains s.lc.code = false ∧ s.rdB R.SYS_CFG_ERR_valid = false)
  ∧ (∃ (s : State), s.reaches 6 ∧ s.rdB R.BST_STAT_busy = true)
  ∧ (∃ (s : State), s.reaches 6 ∧ s.rdB R.BST_STAT_busy = false)
  ∧ (∃ (s : State), s.bstMay = false ∧ s.rdB R.BST_STAT_busy = true)
  ∧ (∃ (s : State), (s.bstMay = true ∨ s.rdB R.BST_STAT_busy = false))
  ∧ (∃ (s : State), s.rdB R.BST_STAT_busy = true ∧ s.rdB R.BST_BSCAN_groups = false)
  ∧ (∃ (s : State), s.rdB R.BST_STAT_busy = true ∧ s.bstMay = true ∧ s.rd R.BST_STAT_target < 19)
  ∧ (∃ (s : State), s.rdB R.BST_STAT_busy = false)
  ∧ (∃ (s : State), s.reaches 6 ∧ R.BST_BSCAN_groups.unlock.contains s.lc.code = true ∧ s.rdB R.BST_CTL_en = true ∧ s.bstMay = true ∧ ([8, 9, 10, 11, 12, 13, 14, 15, 16, 17, 18, 19, 20, 21, 22, 23, 29, 35, 36].any s.blockOn) = false)
  ∧ (∃ (s : State), s.rdB R.BST_BSCAN_groups = true ∧ s.bstMay = false)
  ∧ (∃ (s : State), (s.rdB R.BST_BSCAN_groups = false ∨ s.bstMay = true))
  ∧ (∃ (s : State), s.rdB R.BST_BSCAN_groups = true)
  ∧ (∃ (s : State), s.rdB R.BST_BSCAN_groups = false)
  ∧ (∃ (s : State), s.rdB R.BST_BSCAN_groups = true)
  ∧ (∃ (s : State), s.rdB R.BST_BSCAN_groups = true) :=
  ⟨⟨rg [(R.JIG_STAT_lc_state, 3), (R.BST_CTL_en, 1), (R.PWR_PLVL_STAT_cur, 1), (R.CAL_VMON_STAT_in3, 1)], 8, by decide +kernel⟩,
    ⟨rg [(R.JIG_STAT_lc_state, 3), (R.BST_CTL_en, 1), (R.PWR_PLVL_STAT_cur, 2), (R.CAL_VMON_STAT_in3, 1)], by decide +kernel⟩,
    ⟨rg [(R.JIG_STAT_lc_state, 2), (R.BST_CTL_en, 1)], by decide +kernel⟩,
    ⟨rg [(R.BST_STAT_busy, 1), (R.BST_STAT_target, 8)], by decide +kernel⟩,
    ⟨rg [], by decide +kernel⟩,
    ⟨rg [(R.BST_STAT_busy, 1), (R.BST_STAT_target, 8)], by decide +kernel⟩,
    ⟨rg [], by decide +kernel⟩,
    ⟨rg [(R.BST_STAT_busy, 1), (R.BST_STAT_target, 8)], by decide +kernel⟩,
    ⟨rg [(R.JIG_STAT_lc_state, 3), (R.BST_STAT_busy, 1), (R.BST_STAT_target, 8), (R.PWR_PLVL_STAT_cur, 1), (R.CAL_VMON_STAT_in3, 1)], by decide +kernel⟩,
    ⟨rg [], by decide +kernel⟩,
    ⟨rg [(R.JIG_STAT_lc_state, 3), (R.BST_CTL_en, 1), (R.PWR_PLVL_STAT_cur, 1), (R.CAL_VMON_STAT_in3, 1)], by decide +kernel⟩,
    ⟨rg [(R.BST_BSCAN_groups, 3)], by decide +kernel⟩,
    ⟨rg [], by decide +kernel⟩,
    ⟨rg [(R.BST_BSCAN_groups, 1)], by decide +kernel⟩,
    ⟨rg [], by decide +kernel⟩,
    ⟨rg [(R.BST_BSCAN_groups, 1)], by decide +kernel⟩,
    ⟨rg [(R.BST_BSCAN_groups, 1)], by decide +kernel⟩⟩

/-- The conditions of the clauses of DigestEngine. -/
theorem wit_DigestEngine :
  (∃ (s : State) (v : BitVec 12), s.reaches 33 ∧ v.toNat < s.objSize ∧ (v.toNat + s.objSize - s.rd R.OBJ_RING_HEAD_head % s.objSize) % s.objSize < s.objSize - 1)
  ∧ (∃ (s : State) (v : BitVec 12), s.reaches 33 ∧ (s.objSize ≤ v.toNat ∨ s.objSize - 1 ≤ (v.toNat + s.objSize - s.rd R.OBJ_RING_HEAD_head % s.objSize) % s.objSize) ∧ s.rdB R.SYS_CFG_ERR_valid = false)
  ∧ (∃ (s : State) (addr : Nat) (len : Nat) (c : Nat), s.objOn = true ∧ s.rd R.OBJ_RING_HEAD_head ≠ s.rd R.OBJ_RING_TAIL_tail ∧ s.rdBit R.PWR_SLEEP_STAT_votes 5 = false ∧ s.dramLe (s.rd R.OBJ_RING_BASE_base * 4096 + 16 * s.rd R.OBJ_RING_HEAD_head) 8 = addr ∧ s.dramLe (s.rd R.OBJ_RING_BASE_base * 4096 + 16 * s.rd R.OBJ_RING_HEAD_head + 8) 4 = len ∧ s.dramLe (s.rd R.OBJ_RING_BASE_base * 4096 + 16 * s.rd R.OBJ_RING_HEAD_head + 12) 1 = c ∧ bitAt (s.dramLe (s.rd R.OBJ_RING_BASE_base * 4096 + 16 * s.rd R.OBJ_RING_HEAD_head + 13) 1) 0 = false ∧ len ≤ 0x1000000 ∧ c < 64 ∧ c ∉ s.host.objUe ∧ s.objStatus c = 1 ∧ s.poisonIn addr len = false ∧ s.poisonIn (s.objCtx c) 256 = false ∧ s.rdB R.JIG_GOLD_BASE_lock = false ∧ Memory.wf s.dram = true)
  ∧ (∃ (s : State), s.objOn = true ∧ s.rd R.OBJ_RING_HEAD_head ≠ s.rd R.OBJ_RING_TAIL_tail ∧ s.rdBit R.PWR_SLEEP_STAT_votes 5 = false ∧ 0x1000000 < s.dramLe (s.rd R.OBJ_RING_BASE_base * 4096 + 16 * s.rd R.OBJ_RING_HEAD_head + 8) 4 ∧ s.rdB R.OBJ_ERR_valid = false)
  ∧ (∃ (s : State), (s.objOn = false ∨ s.rd R.OBJ_RING_HEAD_head = s.rd R.OBJ_RING_TAIL_tail ∨ s.rdBit R.PWR_SLEEP_STAT_votes 5 = true))
  ∧ (∃ (s : State) (c : Fin 64), s.reaches 33 ∧ s.objOn = true ∧ s.objStatus c.val ≠ 1 ∧ s.rdB R.JIG_GOLD_BASE_lock = false ∧ Memory.wf s.dram = true)
  ∧ (∃ (s : State) (c : Fin 64), s.reaches 33 ∧ s.objOn = true ∧ s.objStatus c.val = 1 ∧ s.rdB R.OBJ_ERR_valid = false)
  ∧ (∃ (s : State), s.reaches 33 ∧ s.objOn = true ∧ s.rdB R.JIG_GOLD_BASE_lock = false ∧ Memory.wf s.dram = true)
  ∧ (∃ (s : State), s.rdB R.JIG_GOLD_BASE_lock = false ∧ Memory.wf s.dram = true) :=
  ⟨⟨rg [(R.OBJ_RING_SIZE_log2, 4)], 3, by decide +kernel⟩,
    ⟨rg [(R.OBJ_RING_SIZE_log2, 4)], 15, by decide +kernel⟩,
    ⟨{ rg [(R.OBJ_CTL_en, 1), (R.OBJ_RING_SIZE_log2, 4), (R.OBJ_RING_TAIL_tail, 3), (R.OBJ_CTX_BASE_base, 2)] with dram := [(2, 1), (8, 70), (12, 1), (8616, 1), (65536, 9)] }, 65536, 70, 1, by decide +kernel⟩,
    ⟨{ rg [(R.OBJ_CTL_en, 1), (R.OBJ_RING_SIZE_log2, 4), (R.OBJ_RING_TAIL_tail, 3), (R.OBJ_CTX_BASE_base, 2)] with dram := [(11, 9)] }, by decide +kernel⟩,
    ⟨rg [], by decide +kernel⟩,
    ⟨{ rg [(R.OBJ_CTL_en, 1), (R.OBJ_CTX_BASE_base, 2)] with dram := [(8192, 7), (8230, 9)] }, 0, by decide +kernel⟩,
    ⟨{ rg [(R.OBJ_CTL_en, 1), (R.OBJ_CTX_BASE_base, 2)] with dram := [(8360, 1)] }, 0, by decide +kernel⟩,
    ⟨{ rg [(R.OBJ_CTL_en, 1), (R.OBJ_CTX_BASE_base, 2)] with dram := [(8360, 1)] }, by decide +kernel⟩,
    ⟨{ rg [(R.OBJ_CTL_en, 1), (R.OBJ_CTX_BASE_base, 2)] with dram := [(8360, 1)] }, by decide +kernel⟩⟩

/-- The conditions of the clauses of BufferCache. -/
theorem wit_BufferCache :
  (∃ (s : State) (a : BitVec 34), s.usableBytes ≤ a.toNat)
  ∧ (∃ (s : State) (a : BitVec 34), a.toNat < s.buf.spadReady * 0x100000)
  ∧ (∃ (s : State) (a : BitVec 34), a.toNat < s.buf.spadReady * 0x100000)
  ∧ (∃ (s : State) (a : BitVec 34), a.toNat < s.usableBytes ∧ s.rdB R.BUF_CTL_en = false ∧ s.rdB R.BUF_STAT_draining = false ∧ s.rdB R.JIG_GOLD_BASE_lock = false)
  ∧ (∃ (s : State) (a : BitVec 34) (x : BufLine), a.toNat < s.usableBytes ∧ s.bufOn = true ∧ s.cached (a.toNat / 128) = some x)
  ∧ (∃ (s : State) (a : BitVec 34) (x : BufLine), a.toNat < s.usableBytes ∧ s.bufOn = true ∧ s.cached (a.toNat / 128) = some x ∧ s.rdB R.JIG_GOLD_BASE_lock = false)
  ∧ (∃ (s : State) (a : BitVec 34), a.toNat < s.usableBytes ∧ s.bufOn = true ∧ s.cached (a.toNat / 128) = none ∧ s.victim (a.toNat / 128) = none)
  ∧ (∃ (s : State) (k : Fin 16) (v : Victim), s.buf.victims[k.val]? = some v ∧ v.started = true ∧ s.rdB R.JIG_GOLD_BASE_lock = false)
  ∧ (∃ (s : State) (all : Bool) (count : BitVec 16), s.reaches 34 ∧ s.maintRefused .zero false all count.toNat = false ∧ s.rdB R.JIG_GOLD_BASE_lock = false ∧ Memory.wf s.dram = true)
  ∧ (∃ (s : State), s.reaches 34 ∧ s.rdB R.SYS_CFG_ERR_valid = false)
  ∧ (∃ (s : State) (all : Bool) (count : BitVec 16), s.reaches 34 ∧ s.maintRefused .clean false all count.toNat = false ∧ s.rdB R.BUF_CTL_en = true ∧ s.rdB R.JIG_GOLD_BASE_lock = false)
  ∧ (∃ (s : State) (all : Bool) (x : BufLine), s.reaches 34 ∧ s.maintRefused .inval false all 0 = false ∧ s.rdB R.BUF_CTL_en = true ∧ s.cached (s.maintBase / 128) = some x)
  ∧ (∃ (s : State) (all : Bool) (x : BufLine), s.reaches 34 ∧ s.maintRefused .cleanInval false all 0 = false ∧ s.rdB R.BUF_CTL_en = true ∧ s.cached (s.maintBase / 128) = some x ∧ x.dirty = true ∧ s.rdB R.JIG_GOLD_BASE_lock = false)
  ∧ (∃ (s : State), s.rdB R.BUF_STAT_maint_busy = true)
  ∧ (∃ (s : State) (k : BitVec 4), s.reaches 34 ∧ k.toNat ≤ 8 ∧ k.toNat ≠ s.rd R.BUF_SPAD_ways ∧ s.rdB R.BUF_STAT_spad_busy = false ∧ s.rdB R.BUF_STAT_maint_busy = false ∧ s.rdB R.BUF_STAT_draining = false)
  ∧ (∃ (s : State) (k : BitVec 4), s.reaches 34 ∧ 8 < k.toNat ∧ k.toNat ≠ s.rd R.BUF_SPAD_ways ∧ s.rdB R.SYS_CFG_ERR_valid = false)
  ∧ (∃ (s : State), s.rdB R.BUF_STAT_spad_busy = true)
  ∧ (∃ (s : State), s.reaches 34 ∧ s.rdB R.BUF_CTL_en = true)
  ∧ (∃ (s : State), s.rdB R.BUF_STAT_draining = true) :=
  ⟨⟨rg [], 0x3FFFFFFFF, by decide +kernel⟩,
    ⟨{ rg [] with buf := { BufState.init with spadReady := 1, spad := [(5, 9)] } }, 5, by decide +kernel⟩,
    ⟨{ rg [] with buf := { BufState.init with spadReady := 1, spad := [(5, 9)] } }, 5, by decide +kernel⟩,
    ⟨rg [(R.DRC_CFG_density, 2)], 5, by decide +kernel⟩,
    ⟨{ rg [(R.BUF_CTL_en, 1), (R.DRC_CFG_density, 2)] with buf := { BufState.init with lines := [⟨2, 0, 0, false, [], [], .hif⟩] }, dram := [(260, 9)] }, 260, ⟨2, 0, 0, false, [], [], .hif⟩, by decide +kernel⟩,
    ⟨{ rg [(R.BUF_CTL_en, 1), (R.DRC_CFG_density, 2)] with buf := { BufState.init with lines := [⟨2, 0, 0, false, [], [], .hif⟩] }, dram := [(260, 9)] }, 260, ⟨2, 0, 0, false, [], [], .hif⟩, by decide +kernel⟩,
    ⟨{ rg [(R.BUF_CTL_en, 1), (R.DRC_CFG_density, 2)] with dram := [(260, 9)] }, 260, by decide +kernel⟩,
    ⟨{ rg [] with buf := { BufState.init with victims := [⟨2, [], [], true, .hif⟩] } }, 0, ⟨2, [], [], true, .hif⟩, by decide +kernel⟩,
    ⟨{ rg [(R.BUF_CTL_en, 1), (R.DRC_CFG_density, 2), (R.BUF_MAINT_ADDR_addr, 256)] with dram := [(260, 9)] }, false, 1, by decide +kernel⟩,
    ⟨rg [], by decide +kernel⟩,
    ⟨{ rg [(R.BUF_CTL_en, 1), (R.DRC_CFG_density, 2), (R.BUF_MAINT_ADDR_addr, 256)] with buf := { BufState.init with lines := [⟨2, 0, 0, true, [1], [], .hif⟩, ⟨9, 0, 0, true, [1], [], .hif⟩] } }, false, 1, by decide +kernel⟩,
    ⟨{ rg [(R.BUF_CTL_en, 1), (R.DRC_CFG_density, 2), (R.BUF_MAINT_ADDR_addr, 256)] with buf := { BufState.init with lines := [⟨2, 0, 0, true, [1], [], .hif⟩, ⟨9, 0, 0, true, [1], [], .hif⟩] } }, false, ⟨2, 0, 0, true, [1], [], .hif⟩, by decide +kernel⟩,
    ⟨{ rg [(R.BUF_CTL_en, 1), (R.DRC_CFG_density, 2), (R.BUF_MAINT_ADDR_addr, 256)] with buf := { BufState.init with lines := [⟨2, 0, 0, true, [1], [], .hif⟩, ⟨9, 0, 0, true, [1], [], .hif⟩] } }, false, ⟨2, 0, 0, true, [1], [], .hif⟩, by decide +kernel⟩,
    ⟨rg [(R.BUF_STAT_maint_busy, 1)], by decide +kernel⟩,
    ⟨{ rg [(R.BUF_CTL_en, 1), (R.BUF_SPAD_ways, 3)] with buf := { BufState.init with lines := [⟨2, 15, 0, true, [1], [], .hif⟩, ⟨9, 0, 0, true, [1], [], .hif⟩], spadReady := 3, spad := [(5, 1), (2097152, 2)] } }, 2, by decide +kernel⟩,
    ⟨rg [], 9, by decide +kernel⟩,
    ⟨rg [(R.BUF_STAT_spad_busy, 1), (R.BUF_SPAD_ways, 2)], by decide +kernel⟩,
    ⟨rg [(R.BUF_CTL_en, 1)], by decide +kernel⟩,
    ⟨{ rg [(R.BUF_STAT_draining, 1)] with buf := { BufState.init with lines := [⟨2, 15, 0, true, [1], [], .hif⟩, ⟨9, 0, 0, true, [1], [], .hif⟩], victims := [⟨2, [], [], true, .hif⟩] } }, by decide +kernel⟩⟩

/-- The conditions of the clauses of DramController. -/
theorem wit_DramController :
  (∃ (s : State) (word : BitVec 29), s.usableBytes ≤ 32 * word.toNat)
  ∧ (∃ (s : State) (word : BitVec 29), 32 * word.toNat < s.usableBytes ∧ s.drcServes (drcChannel (32 * word.toNat)) = false)
  ∧ (∃ (s : State) (word : BitVec 29), 32 * word.toNat < s.usableBytes ∧ s.drcServes (drcChannel (32 * word.toNat)) = true ∧ word.toNat ∉ s.drc.poison ∧ s.flipsOf word.toNat = 0)
  ∧ (∃ (s : State) (word : BitVec 29), 32 * word.toNat < s.usableBytes ∧ s.drcServes (drcChannel (32 * word.toNat)) = true ∧ word.toNat ∉ s.drc.poison ∧ s.rdB R.DRC_ERR_valid = false)
  ∧ (∃ (s : State) (l2 : Bool) (word : BitVec 29) (bytes : List Byte), 32 * word.toNat < s.usableBytes ∧ s.drcServes (drcChannel (32 * word.toNat)) = true ∧ (l2 = false ∨ s.rdB R.JIG_GOLD_BASE_lock = false) ∧ s.cached (word.toNat / 4) = none ∧ s.victim (word.toNat / 4) = none ∧ bytes.length = 32 ∧ s.rdB R.DRC_INJ_arm = false)
  ∧ (∃ (s : State), s.rdB R.DRC_SCRUB_CFG_en = true ∧ s.drcServes (drcChannel (32 * s.drc.scrubAt)) = true ∧ 32 * s.drc.scrubAt < s.usableBytes)
  ∧ (∃ (s : State), s.usableBytes ≤ 32 * s.drc.scrubAt)
  ∧ (∃ (s : State), s.rdB R.DRC_CTL_en = true ∧ s.rdB R.DRC_TRN_CFG_period = true)
  ∧ (∃ (s : State), s.reaches 35)
  ∧ (∃ (s : State) (c : Nat) (r : List Nat), s.drc.retrain = c :: r ∧ c < 4)
  ∧ (∃ (s : State), s.rdB R.DRC_CTL_en = true) :=
  ⟨⟨rg [], 0x1FFFFFFF, by decide +kernel⟩,
    ⟨rg [(R.DRC_CFG_density, 2)], 5, by decide +kernel⟩,
    ⟨{ rg [(R.DRC_CFG_density, 2), (R.DRC_CTL_en, 1), (R.DRC_STAT_ready, 15)] with dram := [(160, 7)] }, 5, by decide +kernel⟩,
    ⟨{ rg [(R.DRC_CFG_density, 2), (R.DRC_CTL_en, 1), (R.DRC_STAT_ready, 15)] with dram := [(160, 7)] }, 5, by decide +kernel⟩,
    ⟨{ rg [(R.DRC_CFG_density, 2), (R.DRC_CTL_en, 1), (R.DRC_STAT_ready, 15)] with dram := [(160, 7)] }, true, 5, List.replicate 32 6, by decide +kernel⟩,
    ⟨rg [(R.DRC_CFG_density, 2), (R.DRC_CTL_en, 1), (R.DRC_STAT_ready, 15), (R.DRC_SCRUB_CFG_en, 1)], by decide +kernel⟩,
    ⟨{ rg [] with drc := { DrcState.init with scrubAt := 0x40000000 } }, by decide +kernel⟩,
    ⟨rg [(R.DRC_CTL_en, 1), (R.DRC_TRN_CFG_period, 1), (R.DRC_STAT_ready, 15)], by decide +kernel⟩,
    ⟨rg [(R.DRC_CTL_en, 1), (R.DRC_STAT_ready, 15)], by decide +kernel⟩,
    ⟨{ rg [] with drc := { DrcState.init with retrain := [1, 2] } }, 1, [2], by decide +kernel⟩,
    ⟨rg [(R.DRC_CTL_en, 1)], by decide +kernel⟩⟩

/-- The conditions of the clauses of ControllersAndLinks. -/
theorem wit_ControllersAndLinks :
  (∃ (s : State) (ctrl : Fin 2), s.ctrlThere ctrl.val = true ∧ (s.ctrl ctrl.val).en = false ∧ (s.ctrl ctrl.val).rdy = false)
  ∧ (∃ (s : State) (ctrl : Fin 2), s.ctrlThere ctrl.val = true ∧ (s.ctrl ctrl.val).en = true)
  ∧ (∃ (s : State) (port : Fin 2), s.portThere port.val = true ∧ s.rdB (upF port.val) = true)
  ∧ (∃ (s : State) (port : Fin 2), s.portThere port.val = true ∧ s.host.pendingCommit = none)
  ∧ (∃ (s : State) (ctrl : Fin 2), s.ctrlThere ctrl.val = true ∧ (s.ctrl ctrl.val).en = true)
  ∧ (∃ (s : State), s.reaches 37)
  ∧ (∃ (s : State) (port : Fin 2) (speed : BitVec 4) (width : BitVec 4), s.linkMay port.val speed.toNat width.toNat = true)
  ∧ (∃ (s : State) (port : Fin 2), s.rdB (upF port.val) = true ∧ s.host.pendingCommit = none) :=
  ⟨⟨rg [(R.HIF_STAT_up0, 1), (R.HIF_CTL_cfg_ready, 1)], 0, by decide +kernel⟩,
    ⟨{ hs (.exist [1]) [(R.HIF_STAT_up0, 1), (R.HIF_CTL_cfg_ready, 1), (R.HQE_CTL_fetch0, 1)] with host := { (hs (.exist [1]) []).host with c0 := { Ctrl.init with en := true, aers := [3] } } }, 0, by decide +kernel⟩,
    ⟨hs (.exist [1]) [(R.HIF_STAT_up0, 1), (R.HQE_CTL_fetch0, 1)], 0, by decide +kernel⟩,
    ⟨hs (.exist [1]) [(R.HIF_STAT_up0, 1), (R.HQE_CTL_fetch0, 1)], 0, by decide +kernel⟩,
    ⟨{ rg [(R.HIF_STAT_up0, 1), (R.HIF_CTL_cfg_ready, 1), (R.HQE_CTL_fetch0, 1)] with host := { HostState.init with c0 := { Ctrl.init with en := true } } }, 0, by decide +kernel⟩,
    ⟨rg [], by decide +kernel⟩,
    ⟨rg [(R.HIF_CTL_en, 1), (R.HIF_ID_VD_vid, 5), (R.HIF_PORT_CFG_max_rate, 3)], 0, 4, 2, by decide +kernel⟩,
    ⟨hs (.exist [1]) [(R.HIF_STAT_up0, 1), (R.HQE_CTL_fetch0, 1)], 0, by decide +kernel⟩⟩

/-- The conditions of the clauses of ManagementEndpoint. -/
theorem wit_ManagementEndpoint :
  (∃ (s : State), s.rdB R.HIF_MI_CFG_en = true ∧ s.inSoftReset 37 = false)
  ∧ (∃ (s : State), (s.rdB R.HIF_MI_CFG_en = false ∨ s.inSoftReset 37 = true))
  ∧ (∃ (s : State), s.rdB R.HIF_MI_CFG_en = true ∧ s.inSoftReset 37 = false)
  ∧ (∃ (s : State), s.rdB R.HIF_MI_CFG_en = true ∧ s.inSoftReset 37 = false)
  ∧ (∃ (s : State), s.rdB R.HIF_MI_CFG_en = true ∧ s.inSoftReset 37 = false)
  ∧ (∃ (s : State), s.rdB R.HIF_MI_CFG_en = true ∧ s.inSoftReset 37 = false)
  ∧ (∃ (s : State), s.rdB R.HIF_MI_CFG_en = true ∧ s.inSoftReset 37 = false)
  ∧ (∃ (s : State), s.rdB R.HIF_MI_CFG_en = true ∧ s.inSoftReset 37 = false)
  ∧ (∃ (s : State), s.rdB R.HIF_MI_CFG_en = true ∧ s.inSoftReset 37 = false) :=
  ⟨⟨rg [(R.HIF_MI_CFG_en, 1)], by decide +kernel⟩,
    ⟨rg [(R.HIF_MI_CFG_en, 0)], by decide +kernel⟩,
    ⟨rg [(R.HIF_MI_CFG_en, 1)], by decide +kernel⟩,
    ⟨rg [(R.HIF_MI_CFG_en, 1)], by decide +kernel⟩,
    ⟨rg [(R.HIF_MI_CFG_en, 1)], by decide +kernel⟩,
    ⟨rg [(R.HIF_MI_CFG_en, 1)], by decide +kernel⟩,
    ⟨rg [(R.HIF_MI_CFG_en, 1)], by decide +kernel⟩,
    ⟨rg [(R.HIF_MI_CFG_en, 1)], by decide +kernel⟩,
    ⟨rg [(R.HIF_MI_CFG_en, 1)], by decide +kernel⟩⟩

/-- The conditions of the clauses of BaseFirmwareRecovery. -/
theorem wit_BaseFirmwareRecovery :
  (∃ (s : State) (z : BitVec 20), (s.zone z.toNat).st = .unscanned ∧ s.rdB R.GCK_STAT_lock = true)
  ∧ (∃ (s : State) (seq : BitVec 64) (u : JUnit), s.host.units.find? (fun u => u.seq == seq.toNat && !u.written) = some u ∧ (s.host.units.filter (·.written)).length < 32 ∧ (∀ w ∈ s.host.units, w.written = true → jSlotOf w.seq ≠ jSlotOf u.seq))
  ∧ (∃ (s : State), s.host.replayed = false ∧ s.rdB R.GCK_STAT_lock = true)
  ∧ (∃ (s : State), 2 ^ 30 < s.host.kv.journalLen)
  ∧ (∃ (s : State), s.host.indexed = false ∧ s.scanned = true)
  ∧ (∃ (s : State), s.kvEmpty.length < 64 ∧ s.nsReady 2 = true ∧ s.kvVictim = none)
  ∧ (∃ (s : State) (z : Nat), s.kvEmpty.length < 64 ∧ s.nsReady 2 = true ∧ s.kvVictim = some z ∧ s.kvLiveIn z = [] ∧ ∀ c ∈ s.host.cmds, c.space ≠ .kv ∧ s.bandsQuiet (s.zoneActOf z) (s.resetBands z) = true)
  ∧ (∃ (s : State), s.mediaReady = false)
  ∧ (∃ (s : State), s.mediaReady = true ∧ s.auditNext = none ∧ s.host.audit.running = true)
  ∧ (∃ (s : State) (z : Nat), s.mediaReady = true ∧ s.auditNext = some z ∧ s.host.audit.running = true ∧ s.zoneClamped z = false)
  ∧ (∃ (s : State) (z : BitVec 20) (got : List (Nat × Option Block)) (d : ZoneDigest), s.digestOf z.toNat = some d ∧ (s.zone z.toNat).st = .full ∧ d.digest = none ∧ s.mediaReady = true ∧ ∀ b ∈ List.range (s.zone z.toNat).wp, s.blockGot (s.zoneSpace z.toNat) got (blockAt z.toNat b) ≠ none) :=
  ⟨⟨{ nz .asyncEvent [] with host := { HostState.init with zones := [(1, { Zone.init with st := .unscanned, wp := 100 })], torn := [(1, 100, 180)] } }, 1, by decide +kernel⟩,
    ⟨{ rg [] with host := { HostState.init with units := [⟨5, 100, [blk 1], 3, false⟩] } }, 5, ⟨5, 100, [blk 1], 3, false⟩, by decide +kernel⟩,
    ⟨{ nz .asyncEvent [] with host := { HostState.init with slots := [⟨4, 2, 100, [blk 1]⟩, ⟨5, 2, 200, [blk 2]⟩] } }, by decide +kernel⟩,
    ⟨{ rg [] with host := { HostState.init with kv := { HostState.init.kv with journalLen := 2 ^ 31, index := [⟨[1], 1, 4, 0, false⟩] } } }, by decide +kernel⟩,
    ⟨{ nz .asyncEvent [] with host := { HostState.init with zones := [(4, { Zone.init with st := .implicit, wp := 8 })], kv := { HostState.init.kv with recs := [⟨[1], 1, false, [9, 9], 0, 0, [⟨4, 0, 3⟩]⟩] } } }, by decide +kernel⟩,
    ⟨nz .asyncEvent [], by decide +kernel⟩,
    ⟨{ nz .asyncEvent [] with host := { (nz .asyncEvent []).host with zones := [(5, { Zone.init with st := .full, wp := 65536, epoch := 2 })] } }, 5, by decide +kernel⟩,
    ⟨rg [], by decide +kernel⟩,
    ⟨{ nz .asyncEvent [] with host := { (nz .asyncEvent []).host with audit := { HostState.init.audit with running := true } } }, by decide +kernel⟩,
    ⟨{ nz .asyncEvent [] with host := { (nz .asyncEvent []).host with audit := { HostState.init.audit with running := true }, zones := [(1, { Zone.init with st := .full, wp := 2 })] } }, 1, by decide +kernel⟩,
    ⟨{ nz .asyncEvent [] with host := { (nz .asyncEvent []).host with zones := [(1, { Zone.init with st := .full, wp := 2 })], digests := [⟨1, none, false⟩] } }, 1, [], ⟨1, none, false⟩, by decide +kernel⟩⟩

/-- The conditions of the clauses of AdminFeatures. -/
theorem wit_AdminFeatures :
  (∃ (s : State) (ctx : Fin 16384) (c : Context) (sel : IdentSel), s.adminLive ctx.val = some c ∧ c.cmd = .identify sel)
  ∧ (∃ (s : State) (ctx : Fin 16384) (c : Context), s.adminLive ctx.val = some c ∧ c.cmd = .identify (.zonedController))
  ∧ (∃ (s : State) (ctx : Fin 16384) (c : Context) (fid : BitVec 8) (nsid : BitVec 32) (save : Bool) (value : Word) (data : List Nat), s.adminLive ctx.val = some c ∧ c.cmd = .setFeature fid nsid save value data ∧ fid.toNat = 0x01)
  ∧ (∃ (s : State) (ctx : Fin 16384) (c : Context) (fid : BitVec 8) (nsid : BitVec 32) (save : Bool) (value : Word) (data : List Nat), s.adminLive ctx.val = some c ∧ c.cmd = .setFeature fid nsid save value data ∧ fid.toNat = 0x02 ∧ value.toNat % 32 ≤ 4)
  ∧ (∃ (s : State) (ctx : Fin 16384) (c : Context) (fid : BitVec 8) (nsid : BitVec 32) (save : Bool) (value : Word) (data : List Nat), s.adminLive ctx.val = some c ∧ c.cmd = .setFeature fid nsid save value data ∧ fid.toNat = 0x02 ∧ 4 < value.toNat % 32)
  ∧ (∃ (s : State) (ctx : Fin 16384) (c : Context) (fid : BitVec 8) (nsid : BitVec 32) (save : Bool) (value : Word) (data : List Nat), s.adminLive ctx.val = some c ∧ c.cmd = .setFeature fid nsid save value data ∧ fid.toNat = 0x04 ∧ value.toNat / 2 ^ 16 % 16 ≤ 8)
  ∧ (∃ (s : State) (ctx : Fin 16384) (c : Context) (fid : BitVec 8) (nsid : BitVec 32) (save : Bool) (value : Word) (data : List Nat), s.adminLive ctx.val = some c ∧ c.cmd = .setFeature fid nsid save value data ∧ fid.toNat = 0x05 ∧ (nsid.toNat = 1 ∨ nsid.toNat = 2 ∨ nsid.toNat = 3) ∧ bitAt value.toNat 16 = false)
  ∧ (∃ (s : State) (ctx : Fin 16384) (c : Context) (fid : BitVec 8) (nsid : BitVec 32) (save : Bool) (value : Word) (data : List Nat), s.adminLive ctx.val = some c ∧ c.cmd = .setFeature fid nsid save value data ∧ fid.toNat = 0x05 ∧ nsid.toNat = 0xFFFFFFFF ∧ bitAt value.toNat 16 = false)
  ∧ (∃ (s : State) (ctx : Fin 16384) (c : Context) (fid : BitVec 8) (nsid : BitVec 32) (save : Bool) (value : Word) (data : List Nat), s.adminLive ctx.val = some c ∧ c.cmd = .setFeature fid nsid save value data ∧ fid.toNat = 0x06)
  ∧ (∃ (s : State) (ctx : Fin 16384) (c : Context) (fid : BitVec 8) (nsid : BitVec 32) (save : Bool) (value : Word) (data : List Nat), s.adminLive ctx.val = some c ∧ c.cmd = .setFeature fid nsid save value data ∧ fid.toNat = 0x07)
  ∧ (∃ (s : State) (ctx : Fin 16384) (c : Context) (fid : BitVec 8) (nsid : BitVec 32) (save : Bool) (value : Word) (data : List Nat), s.adminLive ctx.val = some c ∧ c.cmd = .setFeature fid nsid save value data ∧ fid.toNat = 0x08)
  ∧ (∃ (s : State) (ctx : Fin 16384) (c : Context) (fid : BitVec 8) (nsid : BitVec 32) (save : Bool) (value : Word) (data : List Nat), s.adminLive ctx.val = some c ∧ c.cmd = .setFeature fid nsid save value data ∧ fid.toNat = 0x09)
  ∧ (∃ (s : State) (ctx : Fin 16384) (c : Context) (fid : BitVec 8) (nsid : BitVec 32) (save : Bool) (value : Word) (data : List Nat), s.adminLive ctx.val = some c ∧ c.cmd = .setFeature fid nsid save value data ∧ fid.toNat = 0x0B)
  ∧ (∃ (s : State) (ctx : Fin 16384) (c : Context) (fid : BitVec 8) (nsid : BitVec 32) (save : Bool) (value : Word) (data : List Nat), s.adminLive ctx.val = some c ∧ c.cmd = .setFeature fid nsid save value data ∧ fid.toNat = 0x0C)
  ∧ (∃ (s : State) (ctx : Fin 16384) (c : Context) (fid : BitVec 8) (nsid : BitVec 32) (save : Bool) (value : Word) (data : List Nat), s.adminLive ctx.val = some c ∧ c.cmd = .setFeature fid nsid save value data ∧ fid.toNat = 0x0E ∧ save = false ∧ s.driveTime < 2 ^ 64)
  ∧ (∃ (s : State) (ctx : Fin 16384) (c : Context) (fid : BitVec 8) (nsid : BitVec 32) (save : Bool) (value : Word) (data : List Nat), s.adminLive ctx.val = some c ∧ c.cmd = .setFeature fid nsid save value data ∧ fid.toNat = 0x0F ∧ save = false)
  ∧ (∃ (s : State) (ctx : Fin 16384) (c : Context) (fid : BitVec 8) (nsid : BitVec 32) (save : Bool) (value : Word) (data : List Nat), s.adminLive ctx.val = some c ∧ c.cmd = .setFeature fid nsid save value data ∧ fid.toNat = 0x19 ∧ value.toNat % 512 = 0)
  ∧ (∃ (s : State) (ctx : Fin 16384) (c : Context) (fid : BitVec 8) (nsid : BitVec 32) (save : Bool) (value : Word) (data : List Nat), s.adminLive ctx.val = some c ∧ c.cmd = .setFeature fid nsid save value data ∧ fid.toNat = 0x19 ∧ value.toNat % 512 ≠ 0)
  ∧ (∃ (s : State) (ctx : Fin 16384) (c : Context) (fid : BitVec 8) (nsid : BitVec 32) (sel : FeatSel) (dw11 : Word), s.adminLive ctx.val = some c ∧ c.cmd = .getFeature fid nsid sel dw11) :=
  ⟨⟨hs (.identify .controller) [], 0, cx (.identify .controller), .controller, by decide +kernel⟩,
    ⟨hs (.identify .zonedController) [], 0, cx (.identify .zonedController), by decide +kernel⟩,
    ⟨hs (.setFeature 0x01 0 false 5 []) [], 0, cx (.setFeature 0x01 0 false 5 []), 0x01, 0, false, 5, [], by decide +kernel⟩,
    ⟨hs (.setFeature 0x02 0 false 1 []) [], 0, cx (.setFeature 0x02 0 false 1 []), 0x02, 0, false, 1, [], by decide +kernel⟩,
    ⟨hs (.setFeature 0x02 0 false 7 []) [], 0, cx (.setFeature 0x02 0 false 7 []), 0x02, 0, false, 7, [], by decide +kernel⟩,
    ⟨hs (.setFeature 0x04 0 false 65541 []) [], 0, cx (.setFeature 0x04 0 false 65541 []), 0x04, 0, false, 65541, [], by decide +kernel⟩,
    ⟨hs (.setFeature 0x05 1 false 5 []) [], 0, cx (.setFeature 0x05 1 false 5 []), 0x05, 1, false, 5, [], by decide +kernel⟩,
    ⟨hs (.setFeature 0x05 0xFFFFFFFF false 5 []) [], 0, cx (.setFeature 0x05 0xFFFFFFFF false 5 []), 0x05, 0xFFFFFFFF, false, 5, [], by decide +kernel⟩,
    ⟨hs (.setFeature 0x06 0 false 0 []) [], 0, cx (.setFeature 0x06 0 false 0 []), 0x06, 0, false, 0, [], by decide +kernel⟩,
    ⟨hs (.setFeature 0x07 0 false 13107700 []) [], 0, cx (.setFeature 0x07 0 false 13107700 []), 0x07, 0, false, 13107700, [], by decide +kernel⟩,
    ⟨hs (.setFeature 0x08 0 false 5 []) [], 0, cx (.setFeature 0x08 0 false 5 []), 0x08, 0, false, 5, [], by decide +kernel⟩,
    ⟨hs (.setFeature 0x09 0 false 5 []) [], 0, cx (.setFeature 0x09 0 false 5 []), 0x09, 0, false, 5, [], by decide +kernel⟩,
    ⟨hs (.setFeature 0x0B 0 false 5 []) [], 0, cx (.setFeature 0x0B 0 false 5 []), 0x0B, 0, false, 5, [], by decide +kernel⟩,
    ⟨hs (.setFeature 0x0C 0 false 1 [25616]) [], 0, cx (.setFeature 0x0C 0 false 1 [25616]), 0x0C, 0, false, 1, [25616], by decide +kernel⟩,
    ⟨hs (.setFeature 0x0E 0 false 5 [77]) [(R.PWR_DT_dt, 900)], 0, cx (.setFeature 0x0E 0 false 5 [77]), 0x0E, 0, false, 5, [77], by decide +kernel⟩,
    ⟨hs (.setFeature 0x0F 0 false 5 []) [], 0, cx (.setFeature 0x0F 0 false 5 []), 0x0F, 0, false, 5, [], by decide +kernel⟩,
    ⟨hs (.setFeature 0x19 0 false 0 []) [], 0, cx (.setFeature 0x19 0 false 0 []), 0x19, 0, false, 0, [], by decide +kernel⟩,
    ⟨hs (.setFeature 0x19 0 false 1 []) [], 0, cx (.setFeature 0x19 0 false 1 []), 0x19, 0, false, 1, [], by decide +kernel⟩,
    ⟨hs (.getFeature 6 0 .current 0) [], 0, cx (.getFeature 6 0 .current 0), 6, 0, .current, 0, by decide +kernel⟩⟩

/-- The conditions of the clauses of AdminLogs. -/
theorem wit_AdminLogs :
  (∃ (s : State) (ctx : Fin 16384) (c : Context) (lid : BitVec 8) (nsid : BitVec 32) (lsp : BitVec 7) (offset : BitVec 64) (index : BitVec 48) (rae : Bool) (bytes : Nat), s.adminLive ctx.val = some c ∧ c.cmd = .getLog lid nsid lsp offset index rae bytes ∧ lid.toNat = 0x01)
  ∧ (∃ (s : State) (ctx : Fin 16384) (c : Context) (lid : BitVec 8) (nsid : BitVec 32) (lsp : BitVec 7) (offset : BitVec 64) (index : BitVec 48) (rae : Bool) (bytes : Nat), s.adminLive ctx.val = some c ∧ c.cmd = .getLog lid nsid lsp offset index rae bytes ∧ lid.toNat = 0x02 ∧ (nsid.toNat ≤ 3 ∨ nsid.toNat = 0xFFFFFFFF))
  ∧ (∃ (s : State) (ctx : Fin 16384) (c : Context) (lid : BitVec 8) (nsid : BitVec 32) (lsp : BitVec 7) (offset : BitVec 64) (index : BitVec 48) (rae : Bool) (bytes : Nat), s.adminLive ctx.val = some c ∧ c.cmd = .getLog lid nsid lsp offset index rae bytes ∧ lid.toNat = 0x02 ∧ 3 < nsid.toNat ∧ nsid.toNat ≠ 0xFFFFFFFF)
  ∧ (∃ (s : State) (ctx : Fin 16384) (c : Context) (lid : BitVec 8) (nsid : BitVec 32) (lsp : BitVec 7) (offset : BitVec 64) (index : BitVec 48) (rae : Bool) (bytes : Nat), s.adminLive ctx.val = some c ∧ c.cmd = .getLog lid nsid lsp offset index rae bytes ∧ lid.toNat = 0x03)
  ∧ (∃ (s : State) (ctx : Fin 16384) (c : Context) (lid : BitVec 8) (nsid : BitVec 32) (lsp : BitVec 7) (offset : BitVec 64) (index : BitVec 48) (rae : Bool) (bytes : Nat), s.adminLive ctx.val = some c ∧ c.cmd = .getLog lid nsid lsp offset index rae bytes ∧ lid.toNat = 0x04)
  ∧ (∃ (s : State) (ctx : Fin 16384) (c : Context) (lid : BitVec 8) (nsid : BitVec 32) (lsp : BitVec 7) (offset : BitVec 64) (index : BitVec 48) (rae : Bool) (bytes : Nat), s.adminLive ctx.val = some c ∧ c.cmd = .getLog lid nsid lsp offset index rae bytes ∧ lid.toNat = 0x05)
  ∧ (∃ (s : State) (ctx : Fin 16384) (c : Context) (lid : BitVec 8) (nsid : BitVec 32) (lsp : BitVec 7) (offset : BitVec 64) (index : BitVec 48) (rae : Bool) (bytes : Nat), s.adminLive ctx.val = some c ∧ c.cmd = .getLog lid nsid lsp offset index rae bytes ∧ (lid.toNat = 0x07 ∨ lid.toNat = 0x08))
  ∧ (∃ (s : State) (ctx : Fin 16384) (c : Context) (lid : BitVec 8) (nsid : BitVec 32) (lsp : BitVec 7) (offset : BitVec 64) (index : BitVec 48) (rae : Bool) (bytes : Nat), s.adminLive ctx.val = some c ∧ c.cmd = .getLog lid nsid lsp offset index rae bytes ∧ lid.toNat = 0xBF ∧ nsid.toNat = 1)
  ∧ (∃ (s : State) (ctx : Fin 16384) (c : Context) (lid : BitVec 8) (nsid : BitVec 32) (lsp : BitVec 7) (offset : BitVec 64) (index : BitVec 48) (rae : Bool) (bytes : Nat), s.adminLive ctx.val = some c ∧ c.cmd = .getLog lid nsid lsp offset index rae bytes ∧ lid.toNat = 0xC0 ∧ offset.toNat % 64 = 0 ∧ lsp.toNat ≠ 1)
  ∧ (∃ (s : State) (ctx : Fin 16384) (c : Context) (lid : BitVec 8) (nsid : BitVec 32) (lsp : BitVec 7) (offset : BitVec 64) (index : BitVec 48) (rae : Bool) (bytes : Nat), s.adminLive ctx.val = some c ∧ c.cmd = .getLog lid nsid lsp offset index rae bytes ∧ lid.toNat = 0xC0 ∧ offset.toNat % 64 ≠ 0)
  ∧ (∃ (s : State) (ctx : Fin 16384) (c : Context) (lid : BitVec 8) (nsid : BitVec 32) (lsp : BitVec 7) (offset : BitVec 64) (index : BitVec 48) (rae : Bool) (bytes : Nat), s.adminLive ctx.val = some c ∧ c.cmd = .getLog lid nsid lsp offset index rae bytes ∧ lid.toNat = 0xC1)
  ∧ (∃ (s : State) (ctx : Fin 16384) (c : Context) (lid : BitVec 8) (nsid : BitVec 32) (lsp : BitVec 7) (offset : BitVec 64) (index : BitVec 48) (rae : Bool) (bytes : Nat), s.adminLive ctx.val = some c ∧ c.cmd = .getLog lid nsid lsp offset index rae bytes ∧ lid.toNat = 0xC2 ∧ offset.toNat % 128 = 0 ∧ lsp.toNat ≠ 1) :=
  ⟨⟨hs (.getLog 0x01 0 0 0 0 true 64) [], 0, cx (.getLog 0x01 0 0 0 0 true 64), 0x01, 0, 0, 0, 0, true, 64, by decide +kernel⟩,
    ⟨hs (.getLog 0x02 0 0 0 0 true 64) [], 0, cx (.getLog 0x02 0 0 0 0 true 64), 0x02, 0, 0, 0, 0, true, 64, by decide +kernel⟩,
    ⟨hs (.getLog 0x02 4 0 0 0 true 64) [], 0, cx (.getLog 0x02 4 0 0 0 true 64), 0x02, 4, 0, 0, 0, true, 64, by decide +kernel⟩,
    ⟨hs (.getLog 0x03 0 0 0 0 true 64) [], 0, cx (.getLog 0x03 0 0 0 0 true 64), 0x03, 0, 0, 0, 0, true, 64, by decide +kernel⟩,
    ⟨hs (.getLog 0x04 0 0 0 0 false 64) [], 0, cx (.getLog 0x04 0 0 0 0 false 64), 0x04, 0, 0, 0, 0, false, 64, by decide +kernel⟩,
    ⟨hs (.getLog 0x05 0 0 0 0 true 64) [], 0, cx (.getLog 0x05 0 0 0 0 true 64), 0x05, 0, 0, 0, 0, true, 64, by decide +kernel⟩,
    ⟨hs (.getLog 0x07 0 0 0 0 true 64) [], 0, cx (.getLog 0x07 0 0 0 0 true 64), 0x07, 0, 0, 0, 0, true, 64, by decide +kernel⟩,
    ⟨hs (.getLog 0xBF 1 0 0 0 false 64) [], 0, cx (.getLog 0xBF 1 0 0 0 false 64), 0xBF, 1, 0, 0, 0, false, 64, by decide +kernel⟩,
    ⟨hs (.getLog 0xC0 0 0 0 0 false 64) [], 0, cx (.getLog 0xC0 0 0 0 0 false 64), 0xC0, 0, 0, 0, 0, false, 64, by decide +kernel⟩,
    ⟨hs (.getLog 0xC0 0 0 5 0 false 64) [], 0, cx (.getLog 0xC0 0 0 5 0 false 64), 0xC0, 0, 0, 5, 0, false, 64, by decide +kernel⟩,
    ⟨hs (.getLog 0xC1 0 0 0 0 true 64) [], 0, cx (.getLog 0xC1 0 0 0 0 true 64), 0xC1, 0, 0, 0, 0, true, 64, by decide +kernel⟩,
    ⟨hs (.getLog 0xC2 0 2 0 0 true 64) [], 0, cx (.getLog 0xC2 0 2 0 0 true 64), 0xC2, 0, 2, 0, 0, true, 64, by decide +kernel⟩⟩

/-- The conditions of the clauses of AdminOtherCommands. -/
theorem wit_AdminOtherCommands :
  (∃ (s : State) (ctx : Fin 16384) (c : Context) (d : Context) (n : BitVec 14), s.adminLive ctx.val = some c ∧ c.cmd = .abort n ∧ s.ctx n.toNat = some d ∧ d.ctrl = c.ctrl ∧ s.abortable d = true ∧ d.no ≠ c.no)
  ∧ (∃ (s : State) (ctx : Fin 16384) (c : Context) (n : BitVec 14), s.adminLive ctx.val = some c ∧ c.cmd = .abort n ∧ (∀ d ∈ s.ctx n.toNat, d.ctrl ≠ c.ctrl ∨ s.abortable d = false))
  ∧ (∃ (s : State) (ctx : Fin 16384) (c : Context) (v : AsyncEvent) (r : List AsyncEvent), s.adminLive ctx.val = some c ∧ c.cmd = .asyncEvent ∧ (s.ctrl c.ctrl).events = v :: r)
  ∧ (∃ (s : State) (ctx : Fin 16384) (c : Context), s.adminLive ctx.val = some c ∧ c.cmd = .asyncEvent ∧ (s.ctrl c.ctrl).events = [])
  ∧ (∃ (s : State) (ctx : Fin 16384) (c : Context) (v : Status), s.anyLive ctx.val = some c ∧ unsupported c.cmd = some v)
  ∧ (∃ (s : State) (ctx : Fin 16384) (c : Context) (v : Status), s.anyLive ctx.val = some c ∧ vendorNone c.cmd = some v) :=
  ⟨⟨{ rg [] with host := { HostState.init with ctxs := [cx (.abort 5), { cx (.exist [1]) with no := 5 }] } }, 0, cx (.abort 5), { cx (.exist [1]) with no := 5 }, 5, by decide +kernel⟩,
    ⟨hs (.abort 5) [], 0, cx (.abort 5), 5, by decide +kernel⟩,
    ⟨{ rg [] with host := { HostState.init with ctxs := [cx .asyncEvent], c0 := { Ctrl.init with events := [.error] } } }, 0, cx .asyncEvent, .error, [], by decide +kernel⟩,
    ⟨hs .asyncEvent [], 0, cx .asyncEvent, by decide +kernel⟩,
    ⟨hs (.other true 0 3) [], 0, cx (.other true 0 3), .invalidOpcode, by decide +kernel⟩,
    ⟨hs (.other true 0 200) [], 0, cx (.other true 0 200), .invalidOpcode, by decide +kernel⟩⟩

/-- The conditions of the clauses of BlockCommands. -/
theorem wit_BlockCommands :
  (∃ (s : State) (ctx : Fin 16384) (c : Context) (slba : BitVec 64) (data : List Block) (p : Prot), s.live ctx.val = some c ∧ c.cmd = .write 1 slba data p ∧ c.begun = false ∧ s.mediaDeny 1 true slba.toNat data.length = none ∧ protDeny p slba.toNat data = none ∧ slba.toNat % 65536 + data.length ≤ 65536 ∧ s.zoneDeny (slba.toNat / 65536) = none ∧ (s.zone (slba.toNat / 65536)).wp = slba.toNat % 65536)
  ∧ (∃ (s : State) (ctx : Fin 16384) (c : Context) (slba : BitVec 64) (data : List Block) (p : Prot), s.live ctx.val = some c ∧ c.cmd = .write 1 slba data p ∧ c.begun = false ∧ s.mediaDeny 1 true slba.toNat data.length = none ∧ protDeny p slba.toNat data = none ∧ slba.toNat % 65536 + data.length ≤ 65536 ∧ s.zoneDeny (slba.toNat / 65536) = none ∧ (s.zone (slba.toNat / 65536)).wp ≠ slba.toNat % 65536)
  ∧ (∃ (s : State) (ctx : Fin 16384) (c : Context) (slba : BitVec 64) (data : List Block) (p : Prot), s.live ctx.val = some c ∧ c.cmd = .write 3 slba data p ∧ c.begun = false ∧ s.mediaDeny 3 true slba.toNat data.length = none ∧ protDeny p slba.toNat data = none)
  ∧ (∃ (s : State) (ctx : Fin 16384) (c : Context) (zslba : BitVec 64) (data : List Block) (p : Prot), s.live ctx.val = some c ∧ c.cmd = .append 1 zslba data p ∧ c.begun = false ∧ s.mediaDeny 1 true zslba.toNat 1 = none ∧ zslba.toNat % 65536 = 0 ∧ data.length ≤ 256 ∧ (p.pract = true ∨ p.remap = true) ∧ protDeny p p.tag.toNat data = none ∧ s.zoneDeny (zslba.toNat / 65536) = none ∧ (s.zone (zslba.toNat / 65536)).wp + data.length ≤ 65536)
  ∧ (∃ (s : State) (ctx : Fin 16384) (c : Context) (zslba : BitVec 64) (data : List Block) (p : Prot), s.live ctx.val = some c ∧ c.cmd = .append 1 zslba data p ∧ c.begun = true ∧ c.moved = false ∧ s.zoneDeny (zslba.toNat / 65536) = none ∧ (s.zone (zslba.toNat / 65536)).wp + data.length ≤ 65536)
  ∧ (∃ (s : State) (ctx : Fin 16384) (c : Context) (slba : BitVec 64) (nlb : BitVec 16), s.live ctx.val = some c ∧ c.cmd = .writeZeroes 3 slba nlb ∧ c.begun = false ∧ s.mediaDeny 3 true slba.toNat (nlb.toNat + 1) = none)
  ∧ (∃ (s : State) (ctx : Fin 16384) (c : Context) (nsid : BitVec 32), s.live ctx.val = some c ∧ c.cmd = .flush nsid ∧ (nsid.toNat = 1 ∨ nsid.toNat = 2 ∨ nsid.toNat = 3 ∨ nsid.toNat = 0xFFFFFFFF) ∧ (s.nsReady 1 = true ∧ s.nsReady 2 = true ∧ s.nsReady 3 = true) ∧ ∀ m ∈ s.host.cmds, m.id ∉ c.before ∧ ∀ z ∈ s.host.unsaved, z ∉ c.zonesBefore)
  ∧ (∃ (s : State) (ctx : Fin 16384) (got : List (Nat × Option Block)) (c : Context) (nsid : BitVec 32) (slba : BitVec 64) (nlb : BitVec 16) (p : Prot), s.live ctx.val = some c ∧ c.cmd = .read nsid slba nlb p ∧ c.begun = true ∧ c.waits = [] ∧ (nsid.toNat = 3 ∨ s.wholeZone slba.toNat (nlb.toNat + 1) = none) ∧ ∀ b ∈ (List.range (nlb.toNat + 1)).map (fun j => s.blockGot (nsSpace nsid.toNat) got (slba.toNat + j)), b ≠ none)
  ∧ (∃ (s : State) (ctx : Fin 16384) (items : List ItemSpec) (c : Context) (slba : BitVec 64) (nlb : BitVec 16) (p : Prot), s.live ctx.val = some c ∧ c.cmd = .read 3 slba nlb p ∧ c.begun = false ∧ s.mediaDeny 3 false slba.toNat (nlb.toNat + 1) = none ∧ p.app = false ∧ p.ref = false ∧ items ≠ [] ∧ (List.range (nlb.toNat + 1)).any (fun j => (s.staged .conv (slba.toNat + j)).isNone) = true)
  ∧ (∃ (s : State) (ctx : Fin 16384) (got : List (Nat × Option Block)) (c : Context) (nsid : BitVec 32) (slba : BitVec 64) (nlb : BitVec 16), s.live ctx.val = some c ∧ c.cmd = .verify nsid slba nlb ∧ c.begun = true ∧ c.waits = [] ∧ ∀ b ∈ (List.range (nlb.toNat + 1)).map (fun j => s.blockGot (nsSpace nsid.toNat) got (slba.toNat + j)), b ≠ none)
  ∧ (∃ (s : State) (ctx : Fin 16384) (got : List (Nat × Option Block)) (c : Context) (slba : BitVec 64) (nlb : BitVec 16) (j : Nat), s.live ctx.val = some c ∧ c.cmd = .verify 3 slba nlb ∧ c.begun = true ∧ c.waits = [] ∧ firstBadOf ((List.range (nlb.toNat + 1)).map (fun j => s.blockGot .conv got (slba.toNat + j))) = some j) :=
  ⟨⟨nz (.write 1 65536 [blk 1, blk 2] ⟨true, false, false, false, false, 0, [], []⟩) [], 0, cx (.write 1 65536 [blk 1, blk 2] ⟨true, false, false, false, false, 0, [], []⟩), 65536, [blk 1, blk 2], ⟨true, false, false, false, false, 0, [], []⟩, by decide +kernel⟩,
    ⟨nz (.write 1 65537 [blk 1, blk 2] ⟨true, false, false, false, false, 0, [], []⟩) [], 0, cx (.write 1 65537 [blk 1, blk 2] ⟨true, false, false, false, false, 0, [], []⟩), 65537, [blk 1, blk 2], ⟨true, false, false, false, false, 0, [], []⟩, by decide +kernel⟩,
    ⟨nz (.write 3 10 [blk 1, blk 2] ⟨true, false, false, false, false, 0, [], []⟩) [], 0, cx (.write 3 10 [blk 1, blk 2] ⟨true, false, false, false, false, 0, [], []⟩), 10, [blk 1, blk 2], ⟨true, false, false, false, false, 0, [], []⟩, by decide +kernel⟩,
    ⟨nz (.append 1 65536 [blk 1] ⟨true, false, false, false, false, 0, [], []⟩) [], 0, cx (.append 1 65536 [blk 1] ⟨true, false, false, false, false, 0, [], []⟩), 65536, [blk 1], ⟨true, false, false, false, false, 0, [], []⟩, by decide +kernel⟩,
    ⟨{ nz (.append 1 65536 [blk 1] ⟨true, false, false, false, false, 0, [], []⟩) [] with host := { (nz .asyncEvent []).host with ctxs := [{ cx (.append 1 65536 [blk 1] ⟨true, false, false, false, false, 0, [], []⟩) with begun := true }] } }, 0, { cx (.append 1 65536 [blk 1] ⟨true, false, false, false, false, 0, [], []⟩) with begun := true }, 65536, [blk 1], ⟨true, false, false, false, false, 0, [], []⟩, by decide +kernel⟩,
    ⟨nz (.writeZeroes 3 5 2) [], 0, cx (.writeZeroes 3 5 2), 5, 2, by decide +kernel⟩,
    ⟨nz (.flush 1) [], 0, cx (.flush 1), 1, by decide +kernel⟩,
    ⟨{ nz .asyncEvent [] with host := { (nz .asyncEvent []).host with ctxs := [{ cx (.read 3 5 1 ⟨true, false, false, false, false, 0, [], []⟩) with begun := true }] } }, 0, [(5, some (blk 1)), (6, some (blk 2))], { cx (.read 3 5 1 ⟨true, false, false, false, false, 0, [], []⟩) with begun := true }, 3, 5, 1, ⟨true, false, false, false, false, 0, [], []⟩, by decide +kernel⟩,
    ⟨nz (.read 3 5 1 ⟨true, false, false, false, false, 0, [], []⟩) [], 0, [⟨.a, 2, 5, 9, [], [1, 2, 3]⟩], cx (.read 3 5 1 ⟨true, false, false, false, false, 0, [], []⟩), 5, 1, ⟨true, false, false, false, false, 0, [], []⟩, by decide +kernel⟩,
    ⟨{ nz .asyncEvent [] with host := { (nz .asyncEvent []).host with ctxs := [{ cx (.verify 3 5 1) with begun := true }] } }, 0, [(5, some (blk 1)), (6, some (blk 2))], { cx (.verify 3 5 1) with begun := true }, 3, 5, 1, by decide +kernel⟩,
    ⟨{ nz .asyncEvent [] with host := { (nz .asyncEvent []).host with ctxs := [{ cx (.verify 3 5 1) with begun := true }] } }, 0, [(5, some (blk 1)), (6, none)], { cx (.verify 3 5 1) with begun := true }, 5, 1, 1, by decide +kernel⟩⟩

/-- The conditions of the clauses of ZoneManagement. -/
theorem wit_ZoneManagement :
  (∃ (s : State) (ctx : Fin 16384) (c : Context) (zslba : BitVec 64), s.live ctx.val = some c ∧ c.cmd = .zoneSend 1 .open false zslba ∧ s.mediaDeny 1 true zslba.toNat 1 = none ∧ zslba.toNat % 65536 = 0 ∧ s.openDeny (zslba.toNat / 65536) = none)
  ∧ (∃ (s : State) (ctx : Fin 16384) (c : Context) (zslba : BitVec 64) (d : Status), s.live ctx.val = some c ∧ c.cmd = .zoneSend 1 .open false zslba ∧ s.mediaDeny 1 true zslba.toNat 1 = none ∧ zslba.toNat % 65536 = 0 ∧ s.openDeny (zslba.toNat / 65536) = some d)
  ∧ (∃ (s : State) (ctx : Fin 16384) (c : Context) (zslba : BitVec 64), s.live ctx.val = some c ∧ c.cmd = .zoneSend 1 .close true zslba ∧ s.mediaDeny 1 true 0 1 = none)
  ∧ (∃ (s : State) (ctx : Fin 16384) (c : Context) (zslba : BitVec 64), s.live ctx.val = some c ∧ c.cmd = .zoneSend 1 .finish false zslba ∧ s.mediaDeny 1 true zslba.toNat 1 = none ∧ zslba.toNat % 65536 = 0 ∧ s.finishDeny (zslba.toNat / 65536) = none)
  ∧ (∃ (s : State) (ctx : Fin 16384) (c : Context) (zslba : BitVec 64), s.live ctx.val = some c ∧ c.cmd = .zoneSend 1 .reset false zslba ∧ s.mediaDeny 1 true zslba.toNat 1 = none ∧ zslba.toNat % 65536 = 0 ∧ s.resetDeny (zslba.toNat / 65536) = none ∧ s.bandsQuiet (s.zoneActOf (zslba.toNat / 65536)) (s.resetBands (zslba.toNat / 65536)) = true ∧ (s.zone (zslba.toNat / 65536)).st ≠ .empty ∧ s.rdB R.JIG_GOLD_BASE_lock = false ∧ Memory.wf s.dram = true)
  ∧ (∃ (s : State) (ctx : Fin 16384) (c : Context) (zslba : BitVec 64), s.live ctx.val = some c ∧ c.cmd = .zoneSend 1 .offline false zslba ∧ s.mediaDeny 1 true zslba.toNat 1 = none ∧ zslba.toNat % 65536 = 0 ∧ (s.zone (zslba.toNat / 65536)).st = .readOnly)
  ∧ (∃ (s : State) (ctx : Fin 16384) (c : Context) (slba : BitVec 64) (option : BitVec 8) (part : Bool) (max : BitVec 16), s.live ctx.val = some c ∧ c.cmd = .reportZones 1 slba false option part max ∧ option.toNat ≤ 7 ∧ s.mediaDeny 1 false slba.toNat 1 = none) :=
  ⟨⟨nz (.zoneSend 1 .open false 65536) [], 0, cx (.zoneSend 1 .open false 65536), 65536, by decide +kernel⟩,
    ⟨{ nz .asyncEvent [] with host := { (nz (.zoneSend 1 .open false 65536) []).host with zones := [(1, { Zone.init with st := .full })] } }, 0, cx (.zoneSend 1 .open false 65536), 65536, .zoneTransition, by decide +kernel⟩,
    ⟨{ nz .asyncEvent [] with host := { (nz (.zoneSend 1 .close true 65536) []).host with zones := [(1, { Zone.init with st := .implicit }), (2, { Zone.init with st := .full })] } }, 0, cx (.zoneSend 1 .close true 65536), 65536, by decide +kernel⟩,
    ⟨nz (.zoneSend 1 .finish false 65536) [], 0, cx (.zoneSend 1 .finish false 65536), 65536, by decide +kernel⟩,
    ⟨{ nz .asyncEvent [] with dram := [(4108, 7)], host := { (nz (.zoneSend 1 .reset false 65536) []).host with zones := [(1, { Zone.init with st := .full, wp := 65536, epoch := 3 })], media := [⟨.zns, 65540, blk 1⟩] } }, 0, cx (.zoneSend 1 .reset false 65536), 65536, by decide +kernel⟩,
    ⟨{ nz .asyncEvent [] with host := { (nz (.zoneSend 1 .offline false 65536) []).host with zones := [(1, { Zone.init with st := .readOnly })] } }, 0, cx (.zoneSend 1 .offline false 65536), 65536, by decide +kernel⟩,
    ⟨nz (.reportZones 1 0 false 0 false 2) [], 0, cx (.reportZones 1 0 false 0 false 2), 0, 0, false, 2, by decide +kernel⟩⟩

/-- The conditions of the clauses of KeyValueCommands. -/
theorem wit_KeyValueCommands :
  (∃ (s : State) (ctx : Fin 16384) (zones : List Nat) (c : Context) (key : List Byte) (value : List Byte) (opt : StoreOpt) (ext : List Extent), s.live ctx.val = some c ∧ c.cmd = .store key value opt ∧ c.begun = false ∧ s.kvDeny true key = none ∧ value.length ≤ 0xFFFFFFFF ∧ (opt = .mustExist → s.kvHas key = true) ∧ (opt = .mustNotExist → s.kvHas key = false) ∧ (value.length + 4095) / 4096 + 2 ≤ s.kvFree ∧ s.host.kv.index.length < 33554432 ∧ s.kvPlace true ((value.length + 4095) / 4096 + 2) zones = some ext)
  ∧ (∃ (s : State) (ctx : Fin 16384) (c : Context) (key : List Byte) (value : List Byte), s.live ctx.val = some c ∧ c.cmd = .store key value .mustNotExist ∧ c.begun = false ∧ s.kvDeny true key = none ∧ value.length ≤ 0xFFFFFFFF ∧ s.kvHas key = true)
  ∧ (∃ (s : State) (ctx : Fin 16384) (got : List (Nat × Option Block)) (c : Context) (key : List Byte) (size : Nat) (r : KvRec), s.live ctx.val = some c ∧ c.cmd = .retrieve key size ∧ c.begun = true ∧ c.waits = [] ∧ s.kvHas key = true ∧ s.kvGet key = some r ∧ ∀ p ∈ r.places, s.blockGot .kv got (blockAt p.1 p.2) ≠ none ∧ size < r.value.length)
  ∧ (∃ (s : State) (ctx : Fin 16384) (items : List ItemSpec) (c : Context) (key : List Byte) (size : Nat) (r : KvRec), s.live ctx.val = some c ∧ c.cmd = .retrieve key size ∧ c.begun = false ∧ s.kvDeny false key = none ∧ s.kvHas key = true ∧ s.kvGet key = some r ∧ items ≠ [] ∧ (∃ p ∈ r.places, s.staged .kv (blockAt p.1 p.2) = none))
  ∧ (∃ (s : State) (ctx : Fin 16384) (zones : List Nat) (c : Context) (key : List Byte) (ext : List Extent), s.live ctx.val = some c ∧ c.cmd = .delete key ∧ c.begun = false ∧ s.kvDeny true key = none ∧ s.kvHas key = true ∧ s.kvFree ≠ 0 ∧ s.kvPlace true 1 zones = some ext)
  ∧ (∃ (s : State) (ctx : Fin 16384) (c : Context) (key : List Byte), s.live ctx.val = some c ∧ c.cmd = .delete key ∧ c.begun = false ∧ s.kvDeny true key = none ∧ s.kvHas key = false)
  ∧ (∃ (s : State) (ctx : Fin 16384) (c : Context) (key : List Byte), s.live ctx.val = some c ∧ c.cmd = .exist key ∧ s.kvDeny false key = none)
  ∧ (∃ (s : State) (ctx : Fin 16384) (c : Context) (key : List Byte) (max : Nat), s.live ctx.val = some c ∧ c.cmd = .list key max ∧ s.nsReady 2 = true ∧ key.length ≤ 16) :=
  ⟨⟨nz (.store [1] [9, 9] .any) [], 0, [4], cx (.store [1] [9, 9] .any), [1], [9, 9], .any, [⟨4, 0, 3⟩], by decide +kernel⟩,
    ⟨{ nz .asyncEvent [] with host := { (nz (.store [1] [9, 9] .mustNotExist) []).host with kv := { HostState.init.kv with index := [⟨[1], 1, 4, 0, false⟩] } } }, 0, cx (.store [1] [9, 9] .mustNotExist), [1], [9, 9], by decide +kernel⟩,
    ⟨{ nz .asyncEvent [] with host := { (nz .asyncEvent []).host with ctxs := [{ cx (.retrieve [1] 1) with begun := true }], kv := { HostState.init.kv with index := [⟨[1], 1, 4, 0, false⟩], recs := [⟨[1], 1, false, [9, 9], 0, 0, [⟨4, 0, 3⟩]⟩] } } }, 0, [], { cx (.retrieve [1] 1) with begun := true }, [1], 1, ⟨[1], 1, false, [9, 9], 0, 0, [⟨4, 0, 3⟩]⟩, by decide +kernel⟩,
    ⟨{ nz .asyncEvent [] with host := { (nz (.retrieve [1] 1) []).host with kv := { HostState.init.kv with index := [⟨[1], 1, 4, 0, false⟩], recs := [⟨[1], 1, false, [9, 9], 0, 0, [⟨4, 0, 3⟩]⟩] } } }, 0, [⟨.a, 2, 5, 9, [], [1, 2, 3]⟩], cx (.retrieve [1] 1), [1], 1, ⟨[1], 1, false, [9, 9], 0, 0, [⟨4, 0, 3⟩]⟩, by decide +kernel⟩,
    ⟨{ nz .asyncEvent [] with host := { (nz (.delete [1]) []).host with kv := { HostState.init.kv with index := [⟨[1], 1, 4, 0, false⟩], recs := [⟨[1], 1, false, [9, 9], 0, 0, [⟨4, 0, 3⟩]⟩] } } }, 0, [4], cx (.delete [1]), [1], [⟨4, 0, 1⟩], by decide +kernel⟩,
    ⟨nz (.delete [1]) [], 0, cx (.delete [1]), [1], by decide +kernel⟩,
    ⟨nz (.exist [1]) [], 0, cx (.exist [1]), [1], by decide +kernel⟩,
    ⟨nz (.list [] 3) [], 0, cx (.list [] 3), [], 3, by decide +kernel⟩⟩

/-- The conditions of the clauses of QueueEngine. -/
theorem wit_QueueEngine :
  (∃ (s : State) (ctrl : Fin 2), s.fetches ctrl.val = true ∧ s.host.ctxs.length < 16384 ∧ s.ctxHeld ctrl.val < s.ctxLimit ctrl.val)
  ∧ (∃ (s : State) (ctrl : Fin 2), s.fetches ctrl.val = true ∧ (16384 ≤ s.host.ctxs.length ∨ s.ctxLimit ctrl.val ≤ s.ctxHeld ctrl.val))
  ∧ (∃ (s : State) (c : Context) (space : Nat) (lo : Nat) (hi : Nat) (append : Bool), s.hqeOn = true ∧ s.clpOn = true ∧ s.clampNext = some c ∧ s.clampOf c.cmd = some (space, lo, hi, append) ∧ s.host.clamps.length < 4096)
  ∧ (∃ (s : State) (c : Context), s.hqeOn = true ∧ s.clpOn = true ∧ s.clampNext = some c ∧ c.delayed = false ∧ 4096 ≤ s.host.clamps.length ∧ s.host.clamps.length ≤ 4096)
  ∧ (∃ (s : State) (n : Nat) (r : List Nat), s.inSoftReset 31 = false ∧ s.host.ready = n :: r)
  ∧ (∃ (s : State) (ctx : Fin 16384) (c : Context) (r : Result), s.hqeOn = true ∧ s.ctx ctx.val = some c ∧ c.result = some r)
  ∧ (∃ (s : State) (space : BitVec 3), s.reaches 32 ∧ s.rdB R.CLP_CTL_en = true ∧ space.toNat < 4 ∧ s.clampNext = none ∧ s.host.clamps.length < 4096)
  ∧ (∃ (s : State), s.reaches 32 ∧ s.rdB R.CLP_CTL_en = true ∧ s.clampNext = none ∧ s.host.clamps.length = 4096)
  ∧ (∃ (s : State) (x : Clamp), s.reaches 32 ∧ s.rdB R.CLP_CTL_en = true ∧ s.clpEnt = some x ∧ x.lo ≤ s.rd64 R.CLP_OP_START_addr ∧ s.rd64 R.CLP_OP_START_addr ≤ s.rd64 R.CLP_OP_END_addr ∧ s.rd64 R.CLP_OP_END_addr ≤ x.hi)
  ∧ (∃ (s : State), s.reaches 32 ∧ s.rdB R.CLP_CTL_en = true ∧ s.clpEnt = none)
  ∧ (∃ (s : State) (x : Clamp), s.reaches 32 ∧ s.rdB R.CLP_CTL_en = true ∧ s.clpEnt = some x)
  ∧ (∃ (s : State) (x : Act) (m : Item), s.bestItem x = some m ∧ s.hqeOn = true ∧ 1 ≤ (s.rd (msqF R.MSQ_RING_TAIL_tail x) + 1 + s.ringSize x - s.rd (msqF R.MSQ_RING_HEAD_head x) % s.ringSize x) % s.ringSize x ∧ (s.rd (msqF R.MSQ_RING_TAIL_tail x) + 1 + s.ringSize x - s.rd (msqF R.MSQ_RING_HEAD_head x) % s.ringSize x) % s.ringSize x < s.ringSize x - 1 ∧ (s.host.posted.get x).length < s.rd R.HQE_SCHED_CFG_depth ∧ s.rdB R.JIG_GOLD_BASE_lock = false ∧ Memory.wf s.dram = true)
  ∧ (∃ (s : State) (x : Act), s.bestItem x = none) :=
  ⟨⟨{ rg [(R.HQE_CTL_en, 1), (R.HQE_CTL_fetch0, 1), (R.CLP_CTL_en, 1), (R.HQE_CTX_CFG_lim0, 4)] with host := { HostState.init with c0 := { Ctrl.init with en := true } } }, 0, by decide +kernel⟩,
    ⟨{ rg [(R.HQE_CTL_en, 1), (R.HQE_CTL_fetch0, 1), (R.HQE_CTX_CFG_lim0, 0)] with host := { HostState.init with c0 := { Ctrl.init with en := true } } }, 0, by decide +kernel⟩,
    ⟨{ rg [(R.HQE_CTL_en, 1), (R.CLP_CTL_en, 1)] with host := { HostState.init with ctxs := [{ cx (.exist [1]) with inserted := false, started := false }] } }, { cx (.exist [1]) with inserted := false, started := false }, 2, 1, 1, false, by decide +kernel⟩,
    ⟨{ rg [(R.HQE_CTL_en, 1), (R.CLP_CTL_en, 1)] with host := { HostState.init with ctxs := [{ cx (.exist [1]) with inserted := false, started := false }], clamps := List.replicate 4096 ⟨0, 0, 0, 0, false, 0, 9, 0, 0⟩ } }, { cx (.exist [1]) with inserted := false, started := false }, by decide +kernel⟩,
    ⟨{ rg [(R.HQE_READY_valid, 1)] with host := { HostState.init with ctxs := [{ cx (.exist [1]) with started := false }], ready := [0, 3] } }, 0, [3], by decide +kernel⟩,
    ⟨{ rg [(R.HQE_CTL_en, 1)] with host := { HostState.init with ctxs := [{ cx (.exist [1]) with result := some (.of .ok) }], clamps := [⟨7, 2, 1, 1, false, 0, 0, 0, 0⟩, ⟨8, 2, 1, 1, false, 0, 3, 1, 1⟩] } }, 0, { cx (.exist [1]) with result := some (.of .ok) }, .of .ok, by decide +kernel⟩,
    ⟨rg [(R.CLP_CTL_en, 1)], 1, by decide +kernel⟩,
    ⟨{ rg [(R.CLP_CTL_en, 1)] with host := { HostState.init with clamps := List.replicate 4096 ⟨0, 0, 0, 0, false, 0, 9, 0, 0⟩ } }, by decide +kernel⟩,
    ⟨{ rg [(R.CLP_CTL_en, 1), (R.CLP_OP_ENT_entry, 7), (R.CLP_OP_START_addr, 5), (R.CLP_OP_END_addr, 6)] with host := { HostState.init with clamps := [⟨7, 2, 1, 9, false, 2, 0, 0, 0⟩, ⟨8, 2, 1, 1, false, 2, 3, 1, 1⟩] } }, ⟨7, 2, 1, 9, false, 2, 0, 0, 0⟩, by decide +kernel⟩,
    ⟨rg [(R.CLP_CTL_en, 1)], by decide +kernel⟩,
    ⟨{ rg [(R.CLP_CTL_en, 1), (R.CLP_OP_ENT_entry, 7)] with host := { HostState.init with clamps := [⟨7, 2, 1, 9, false, 2, 0, 0, 0⟩, ⟨8, 2, 1, 1, false, 2, 3, 1, 1⟩] } }, ⟨7, 2, 1, 9, false, 2, 0, 0, 0⟩, by decide +kernel⟩,
    ⟨{ rg [(R.HQE_CTL_en, 1), (R.MSQ_RING_SIZE_log2, 4), (R.HQE_SCHED_CFG_depth, 4), (R.HQE_SCHED_CFG_max_lanes, 8), (R.GCK_REV_PERIOD_period, 1000)] with host := { HostState.init with pend := ⟨[⟨⟨.a, 2, 5, 9, [], [1, 2, 3]⟩, 0, false, 0, 0, none⟩], []⟩ } }, .a, ⟨⟨.a, 2, 5, 9, [], [1, 2, 3]⟩, 0, false, 0, 0, none⟩, by decide +kernel⟩,
    ⟨rg [], .a, by decide +kernel⟩⟩

/-- The conditions of the clauses of RingNodeAndFrames. -/
theorem wit_RingNodeAndFrames :
  (∃ (s : State), s.frkIs .off = true ∧ s.rd R.JIG_STRAP_role ≠ 3)
  ∧ (∃ (s : State), s.rd R.JIG_STRAP_role = 3 ∧ s.rdB R.SYS_CFG_ERR_valid = false)
  ∧ (∃ (s : State), s.frkIs .off = false ∧ s.frkIs .cabinet = false ∧ s.frkLinked = true ∧ s.frk.tok.spin = .none ∧ s.frk.tok.power = .none)
  ∧ (∃ (s : State), s.frkIs .listen = true)
  ∧ (∃ (s : State), s.frkIs .cabinet = true ∧ s.rdB R.FRK_STAT_in_lock = false)
  ∧ (∃ (s : State), s.frkIs .listen = true)
  ∧ (∃ (s : State), s.frkIs .listen = false)
  ∧ (∃ (s : State), (s.frkIs .linked = true ∨ s.frkIs .drawer = true) ∧ 0 < s.frkRank)
  ∧ (∃ (s : State), s.frkRank = 0)
  ∧ (∃ (s : State), s.frkIs .linked = true ∧ s.rdB R.FRK_CFG_solo = true)
  ∧ (∃ (s : State), (s.frkIs .linked = false ∨ s.rdB R.FRK_CFG_solo = false))
  ∧ (∃ (s : State), s.rdB R.FRK_STAT_in_lock = true)
  ∧ (∃ (s : State), s.frkUp = true ∧ s.rdB R.FRK_STAT_in_lock = false)
  ∧ (∃ (s : State), (s.frkUp = false ∨ s.rdB R.FRK_STAT_in_lock = true))
  ∧ (∃ (s : State), s.frkIs .cabinet = true)
  ∧ (∃ (s : State), s.frkIs .cabinet = false)
  ∧ (∃ (s : State) (crcOk : Bool), s.frkUp = true ∧ crcOk = false)
  ∧ (∃ (s : State) (f : RingFrame) (crcOk : Bool), s.frkUp = true ∧ crcOk = true ∧ f.hops < 63 ∧ f.type ≠ 1 ∧ ((f.dst ≠ s.frkAddr ∧ (f.dst ≠ dstAll ∨ f.src ≠ s.frkAddr)) ∨ 64 ≤ s.frkAddr))
  ∧ (∃ (s : State) (f : RingFrame) (crcOk : Bool) (residence : BitVec 32), s.frkUp = true ∧ crcOk = true ∧ f.hops < 63 ∧ f.type = 1 ∧ f.payload.length = 40 ∧ f.src ≠ s.frkAddr ∧ f.dst = dstAll ∧ payLe f.payload 8 4 + residence.toNat < 2 ^ 32)
  ∧ (∃ (s : State) (f : RingFrame) (crcOk : Bool), s.frkUp = true ∧ crcOk = true ∧ ((f.dst = s.frkAddr ∧ s.frkAddr < 64) ∨ 63 ≤ f.hops))
  ∧ (∃ (s : State) (f : RingFrame), s.frkIs .linked = true ∧ f.type = 1 ∧ f.dst = dstAll ∧ f.payload.length = 40)
  ∧ (∃ (s : State) (f : RingFrame) (ns : BitVec 32), s.frkIs .drawer = true ∧ f.type = 1 ∧ f.dst = dstAll ∧ f.payload.length = 40 ∧ f.hops * payLe f.payload 12 4 = 0 ∧ s.driveTime + ns.toNat < 2 ^ 64 ∧ (((payLe f.payload 0 8 + payLe f.payload 8 4 : Nat) : Int) - ((s.driveTime + ns.toNat : Nat) : Int)).natAbs ≤ s.rd R.FRK_TB_CFG_step_ns ∧ (((payLe f.payload 0 8 + payLe f.payload 8 4 : Nat) : Int) - ((s.driveTime + ns.toNat : Nat) : Int)).natAbs ≤ 200 * s.rd R.FRK_TB_CFG_period)
  ∧ (∃ (s : State) (f : RingFrame), s.frkIs .elect = true ∧ f.type = 1 ∧ f.dst = dstAll ∧ f.payload.length = 40)
  ∧ (∃ (s : State) (f : RingFrame), s.frkIs .linked = true ∧ s.frk.joined = true ∧ f.type = 2 ∧ f.dst = dstAll ∧ f.payload.length = 4 ∧ payLe f.payload 0 1 < 64 ∧ s.rdB (tokQ .spin) = false ∧ s.rdB (tokQ .power) = false)
  ∧ (∃ (s : State) (f : RingFrame), s.frkIs .cabinet = true ∧ f.type = 2 ∧ f.dst = dstAll ∧ f.payload.length = 4 ∧ f.src = s.frkAddr ∧ s.frk.census = none)
  ∧ (∃ (s : State) (f : RingFrame) (loop : BitVec 8), s.frkIs .elect = true ∧ f.type = 3 ∧ f.dst = dstAll ∧ f.payload.length = 16 ∧ payLe f.payload 8 8 = s.uid ∧ f.hops = loop.toNat)
  ∧ (∃ (s : State) (f : RingFrame), s.frkUp = true ∧ f.type = 3 ∧ f.dst = dstAll ∧ f.payload.length = 16 ∧ payLe f.payload 8 8 ≠ s.uid ∧ 0 < s.frkRank ∧ s.ranksBefore f.payload = true)
  ∧ (∃ (s : State) (f : RingFrame), s.frkIs .cabinet = true ∧ f.type = 4 ∧ s.frkForMe f = true ∧ f.payload.length = 8)
  ∧ (∃ (s : State) (f : RingFrame), s.frkIs .cabinet = true ∧ f.type = 5 ∧ s.frkForMe f = true ∧ f.payload.length = 8)
  ∧ (∃ (s : State) (f : RingFrame), s.frkUp = true ∧ f.type = 0x21 ∧ s.frkForMe f = true ∧ f.dst ≠ dstAll ∧ 2 ≤ f.payload.length ∧ f.payload.length ≤ 256 ∧ (s.rd R.FRK_RX_TAIL_tail + 2) % 64 ≠ s.rd R.FRK_RX_HEAD_head ∧ s.rdB R.JIG_GOLD_BASE_lock = false ∧ Memory.wf s.dram = true)
  ∧ (∃ (s : State) (f : RingFrame), s.frkUp = true ∧ f.type = 0x21 ∧ s.frkForMe f = true ∧ f.dst ≠ dstAll ∧ 2 ≤ f.payload.length ∧ f.payload.length ≤ 256 ∧ (s.rd R.FRK_RX_TAIL_tail + 2) % 64 = s.rd R.FRK_RX_HEAD_head)
  ∧ (∃ (s : State) (f : RingFrame), s.frkIs .cabinet = true ∧ f.type = 0x20 ∧ s.frkForMe f = true ∧ f.dst ≠ dstAll ∧ f.payload.length = 72 ∧ (s.rd R.FRK_RX_TAIL_tail + 2) % 64 ≠ s.rd R.FRK_RX_HEAD_head)
  ∧ (∃ (s : State) (f : RingFrame) (a : AwaitAck), s.frkUp = true ∧ f.type = 0x30 ∧ s.frkForMe f = true ∧ f.payload.length = 4 ∧ s.awaiting (payLe f.payload 0 2) = some a ∧ a.frame.seq = payLe f.payload 0 2)
  ∧ (∃ (s : State) (f : RingFrame) (a : AwaitAck), s.frkUp = true ∧ f.type = 0x31 ∧ s.frkForMe f = true ∧ f.payload.length = 4 ∧ s.awaiting (payLe f.payload 0 2) = some a ∧ a.frame.seq = payLe f.payload 0 2 ∧ a.frame.type = 0x21 ∧ 2 ≤ a.naks)
  ∧ (∃ (s : State) (f : RingFrame), s.frkUp = true ∧ f.type = 0x3F ∧ f.dst = dstAll ∧ f.payload.length = 1)
  ∧ (∃ (s : State) (q : BitVec 16) (a : AwaitAck), s.awaiting q.toNat = some a ∧ a.frame.type ≠ 0x11 ∧ a.repeats < 3)
  ∧ (∃ (s : State) (q : BitVec 16) (a : AwaitAck), s.awaiting q.toNat = some a ∧ a.frame.type = 0x20 ∧ 3 ≤ a.repeats)
  ∧ (∃ (s : State), s.reaches 36 ∧ s.rdB R.FRK_TX_CTL_busy = false ∧ s.dramLe (s.rd R.FRK_TX_ADDR_addr * 16) 1 ≠ dstAll ∧ 1 ≤ s.dramLe (s.rd R.FRK_TX_ADDR_addr * 16 + 2) 2 ∧ s.dramLe (s.rd R.FRK_TX_ADDR_addr * 16 + 2) 2 ≤ 255)
  ∧ (∃ (s : State), s.reaches 36 ∧ s.rdB R.FRK_TX_CTL_busy = true ∧ s.rdB R.SYS_CFG_ERR_valid = false) :=
  ⟨⟨rg [], by decide +kernel⟩,
    ⟨rg [(R.JIG_STRAP_role, 3)], by decide +kernel⟩,
    ⟨rg [(R.FRK_STAT_state, 4), (R.FRK_STAT_bypass, 1), (R.FRK_CTL_en, 1)], by decide +kernel⟩,
    ⟨rg [(R.FRK_STAT_state, 1)], by decide +kernel⟩,
    ⟨rg [(R.FRK_STAT_state, 5)], by decide +kernel⟩,
    ⟨rg [(R.FRK_STAT_state, 1)], by decide +kernel⟩,
    ⟨rg [], by decide +kernel⟩,
    ⟨rg [(R.FRK_STAT_state, 4), (R.JIG_STRAP_role, 1)], by decide +kernel⟩,
    ⟨rg [(R.FRK_STAT_state, 4), (R.JIG_STRAP_role, 0)], by decide +kernel⟩,
    ⟨rg [(R.FRK_STAT_state, 2), (R.FRK_CFG_solo, 5), (R.FRK_TOK_STAT_spin_q, 1)], by decide +kernel⟩,
    ⟨rg [], by decide +kernel⟩,
    ⟨rg [(R.FRK_STAT_in_lock, 1)], by decide +kernel⟩,
    ⟨rg [(R.FRK_STAT_state, 2)], by decide +kernel⟩,
    ⟨rg [], by decide +kernel⟩,
    ⟨rg [(R.FRK_STAT_state, 5)], by decide +kernel⟩,
    ⟨rg [], by decide +kernel⟩,
    ⟨rg [(R.FRK_STAT_state, 2)], false, by decide +kernel⟩,
    ⟨rg [(R.FRK_STAT_state, 2)], ⟨0x20, 0, 3, 2, 9, []⟩, true, by decide +kernel⟩,
    ⟨rg [(R.FRK_STAT_state, 2)], ⟨1, 255, 0, 2, 9, List.replicate 40 0⟩, true, 190, by decide +kernel⟩,
    ⟨rg [(R.FRK_STAT_state, 4), (R.FRK_STAT_addr, 5)], ⟨0x21, 5, 0, 2, 9, []⟩, true, by decide +kernel⟩,
    ⟨rg [(R.FRK_STAT_state, 2)], ⟨1, 255, 0, 2, 9, List.replicate 40 0⟩, by decide +kernel⟩,
    ⟨rg [(R.FRK_STAT_state, 4), (R.FRK_TB_CFG_step_ns, 1000), (R.FRK_TB_CFG_period, 100)], ⟨1, 255, 0, 2, 9, List.replicate 40 0⟩, 5, by decide +kernel⟩,
    ⟨rg [(R.FRK_STAT_state, 3)], ⟨1, 255, 0, 2, 9, List.replicate 40 0⟩, by decide +kernel⟩,
    ⟨{ rg [(R.FRK_STAT_state, 2)] with frk := { FrkState.init with joined := true } }, ⟨2, 255, 0, 2, 9, [4, 0, 1, 0]⟩, by decide +kernel⟩,
    ⟨rg [(R.FRK_STAT_state, 5), (R.FRK_STAT_addr, 0)], ⟨2, 255, 0, 2, 9, [4, 0, 1, 0]⟩, by decide +kernel⟩,
    ⟨rg [(R.FRK_STAT_state, 3)], ⟨3, 255, 0, 4, 9, List.replicate 16 0⟩, 4, by decide +kernel⟩,
    ⟨rg [(R.FRK_STAT_state, 3), (R.JIG_STRAP_role, 2)], ⟨3, 255, 0, 4, 9, List.replicate 16 1⟩, by decide +kernel⟩,
    ⟨rg [(R.FRK_STAT_state, 5), (R.FRK_STAT_addr, 0)], ⟨4, 0, 3, 4, 9, List.replicate 8 1⟩, by decide +kernel⟩,
    ⟨rg [(R.FRK_STAT_state, 5), (R.FRK_STAT_addr, 0)], ⟨5, 0, 3, 4, 9, List.replicate 8 1⟩, by decide +kernel⟩,
    ⟨rg [(R.FRK_STAT_state, 4), (R.FRK_STAT_addr, 5), (R.FRK_RX_BASE_base, 2)], ⟨0x21, 5, 3, 4, 9, [0, 7]⟩, by decide +kernel⟩,
    ⟨rg [(R.FRK_STAT_state, 4), (R.FRK_STAT_addr, 5), (R.FRK_RX_HEAD_head, 2)], ⟨0x21, 5, 3, 4, 9, [0, 7]⟩, by decide +kernel⟩,
    ⟨rg [(R.FRK_STAT_state, 5), (R.FRK_STAT_addr, 0)], ⟨0x20, 0, 3, 4, 9, List.replicate 72 1⟩, by decide +kernel⟩,
    ⟨{ rg [(R.FRK_STAT_state, 4), (R.FRK_STAT_addr, 5)] with frk := { FrkState.init with await := [⟨⟨0x21, 0, 5, 0, 7, []⟩, 0, 0⟩] } }, ⟨0x30, 5, 0, 4, 9, [7, 0, 5, 0]⟩, ⟨⟨0x21, 0, 5, 0, 7, []⟩, 0, 0⟩, by decide +kernel⟩,
    ⟨{ rg [(R.FRK_STAT_state, 4), (R.FRK_STAT_addr, 5)] with frk := { FrkState.init with await := [⟨⟨0x21, 0, 5, 0, 7, []⟩, 0, 2⟩] } }, ⟨0x31, 5, 0, 4, 9, [7, 0, 5, 1]⟩, ⟨⟨0x21, 0, 5, 0, 7, []⟩, 0, 2⟩, by decide +kernel⟩,
    ⟨rg [(R.FRK_STAT_state, 4)], ⟨0x3F, 255, 0, 4, 9, [7]⟩, by decide +kernel⟩,
    ⟨{ rg [] with frk := { FrkState.init with await := [⟨⟨0x21, 0, 5, 0, 7, []⟩, 0, 0⟩] } }, 7, ⟨⟨0x21, 0, 5, 0, 7, []⟩, 0, 0⟩, by decide +kernel⟩,
    ⟨{ rg [] with frk := { FrkState.init with await := [⟨⟨0x20, 0, 5, 0, 7, []⟩, 3, 0⟩] } }, 7, ⟨⟨0x20, 0, 5, 0, 7, []⟩, 3, 0⟩, by decide +kernel⟩,
    ⟨{ rg [] with dram := [(0, 3), (2, 2)] }, by decide +kernel⟩,
    ⟨rg [(R.FRK_TX_CTL_busy, 1)], by decide +kernel⟩⟩

/-- The conditions of the clauses of RingTokens. -/
theorem wit_RingTokens :
  (∃ (s : State) (f : RingFrame), s.frkIs .cabinet = true ∧ s.frk.census.isSome = true ∧ f.type = 0x10 ∧ s.frkForMe f = true ∧ f.payload.length = 9 ∧ payLe f.payload 8 1 = 1 ∧ (s.frk.table ++ s.frk.queue).all (fun q => !(q.uid == payLe f.payload 0 8 && q.kind == .spin)) = true)
  ∧ (∃ (s : State) (f : RingFrame), s.frkIs .cabinet = true ∧ s.frk.census = none ∧ s.frk.queue = [] ∧ f.type = 0x10 ∧ s.frkForMe f = true ∧ f.payload.length = 9 ∧ payLe f.payload 8 1 = 1 ∧ payLe f.payload 0 8 ≠ s.uid ∧ s.frk.table.all (fun q => !(q.uid == payLe f.payload 0 8 && q.kind == .spin)) = true ∧ (s.tokInTable .spin).length < s.rd R.FRK_TOK_CFG_spin_max)
  ∧ (∃ (s : State) (f : RingFrame), s.frkUp = true ∧ f.type = 0x11 ∧ s.frkForMe f = true ∧ f.dst ≠ dstAll ∧ f.payload.length = 12 ∧ payLe f.payload 8 1 = 1 ∧ payLe f.payload 0 8 = s.uid ∧ s.rdB (tokQ .spin) = true)
  ∧ (∃ (s : State) (f : RingFrame), s.frkUp = true ∧ s.frkIs .cabinet = false ∧ s.frkLinked = true ∧ f.type = 0x11 ∧ s.frkForMe f = true ∧ f.payload.length = 12 ∧ payLe f.payload 8 1 = 2 ∧ payLe f.payload 0 8 = s.uid ∧ s.rdB (tokQ .power) = false ∧ (s.frk.tok.power == .ring) = false)
  ∧ (∃ (s : State) (f : RingFrame), s.frkIs .cabinet = true ∧ s.frk.census.isSome = true ∧ f.type = 0x12 ∧ s.frkForMe f = true ∧ f.payload.length = 9 ∧ payLe f.payload 8 1 = 1)
  ∧ (∃ (s : State) (f : RingFrame), s.frkUp = true ∧ s.frkIs .cabinet = false ∧ s.frkLinked = true ∧ f.type = 0x13 ∧ s.frkForMe f = true ∧ f.payload.length = 9 ∧ payLe f.payload 8 1 = 2 ∧ payLe f.payload 0 8 = s.uid ∧ s.frk.tok.power = .ring ∧ s.jig.boot ≠ .running)
  ∧ (∃ (s : State) (f : RingFrame), s.frkUp = true ∧ f.type = 0x13 ∧ f.dst = s.frkAddr ∧ s.frkAddr < 64 ∧ f.payload.length = 9 ∧ payLe f.payload 8 1 = 2 ∧ payLe f.payload 0 8 ≠ s.uid)
  ∧ (∃ (s : State) (f : RingFrame) (n : Nat) (l : List Nat), s.frkIs .cabinet = true ∧ f.type = 0x14 ∧ s.frkForMe f = true ∧ f.payload.length = 14 ∧ payLe f.payload 8 1 = 1 ∧ s.frk.table = [] ∧ s.frk.census = some (f.src :: n :: l) ∧ n ≠ f.src)
  ∧ (∃ (s : State), s.frkIs .cabinet = true ∧ s.frk.census.isSome = true ∧ s.frk.queue = [] ∧ (s.tokInTable .spin).length ≤ s.rd R.FRK_TOK_CFG_spin_max ∧ (s.tokInTable .power).length ≤ s.rd R.FRK_TOK_CFG_pwr_max)
  ∧ (∃ (s : State), (s.frkIs .cabinet = false ∨ s.frk.census = none))
  ∧ (∃ (s : State) (q : BitVec 16) (a : AwaitAck), s.awaiting q.toNat = some a ∧ a.frame.type = 0x11 ∧ a.repeats < 3)
  ∧ (∃ (s : State) (q : BitVec 16) (a : AwaitAck), s.awaiting q.toNat = some a ∧ a.frame.type = 0x11 ∧ 3 ≤ a.repeats ∧ payLe a.frame.payload 8 1 = 1 ∧ s.frk.queue = [] ∧ s.frkIs .drawer = false)
  ∧ (∃ (s : State), s.frkIs .drawer = true ∧ s.frk.tok.spin = .ring ∧ s.frkLinked = true)
  ∧ (∃ (s : State) (k : TokKind), s.frk.tok.get k ≠ .ring)
  ∧ (∃ (s : State) (uid : BitVec 64), s.frkIs .cabinet = true ∧ uid.toNat ≠ s.uid ∧ s.frk.queue = [])
  ∧ (∃ (s : State) (uid : BitVec 64), s.frkIs .cabinet = true ∧ uid.toNat ≠ s.uid ∧ s.frk.queue = [])
  ∧ (∃ (s : State), s.reaches 36 ∧ s.rdB R.SPM_TOK_held = false ∧ s.rdB R.FRK_TOK_STAT_spin_q = false ∧ s.frkIs .drawer = true ∧ s.localBudget = false)
  ∧ (∃ (s : State), s.reaches 36 ∧ (s.rdB R.SPM_TOK_held = true ∨ s.rdB R.FRK_TOK_STAT_spin_q = true) ∧ s.rdB R.SYS_CFG_ERR_valid = false)
  ∧ (∃ (s : State), s.reaches 36 ∧ s.rdB R.FRK_TOK_STAT_pwr = false ∧ s.rdB R.FRK_TOK_STAT_pwr_q = false ∧ s.localBudget = true ∧ s.rdB R.FRK_LOCAL_pwr_en = true ∧ s.frk.tok.power = .none ∧ s.jig.boot ≠ .running)
  ∧ (∃ (s : State), s.reaches 36 ∧ s.frk.tok.power = .ring ∧ s.frkIs .cabinet = false ∧ s.frkLinked = true ∧ s.jig.boot ≠ .running)
  ∧ (∃ (s : State), s.reaches 36 ∧ s.frk.tok.power = .none)
  ∧ (∃ (s : State), s.reaches 36 ∧ s.rdB R.FRK_TOK_STAT_spin_q = true ∧ s.localBudget = false ∧ s.frkIs .cabinet = false ∧ s.frkLinked = true)
  ∧ (∃ (s : State), s.reaches 36 ∧ s.rdB R.FRK_TOK_STAT_pwr_q = true ∧ s.localBudget = true)
  ∧ (∃ (s : State), s.reaches 36 ∧ s.frkIs .cabinet = false)
  ∧ (∃ (s : State) (v : BitVec 8) (x : TokEntry) (y : TokEntry), s.reaches 36 ∧ s.frkIs .cabinet = true ∧ s.frk.queue = [] ∧ s.frk.table = [x, y] ∧ x.kind = .power ∧ y.kind = .power ∧ y.uid ≠ s.uid ∧ v.toNat = 1) :=
  ⟨⟨{ rg [(R.FRK_STAT_state, 5), (R.FRK_STAT_addr, 0)] with frk := { FrkState.init with census := some [3] } }, ⟨0x10, 0, 3, 4, 9, [7, 0, 0, 0, 0, 0, 0, 0, 1]⟩, by decide +kernel⟩,
    ⟨rg [(R.FRK_STAT_state, 5), (R.FRK_STAT_addr, 0), (R.FRK_TOK_CFG_spin_max, 2)], ⟨0x10, 0, 3, 4, 9, [7, 0, 0, 0, 0, 0, 0, 0, 1]⟩, by decide +kernel⟩,
    ⟨rg [(R.FRK_STAT_state, 4), (R.FRK_STAT_addr, 5), (R.FRK_TOK_STAT_spin_q, 1)], ⟨0x11, 5, 0, 4, 9, [0, 0, 0, 0, 0, 0, 0, 0, 1, 0, 5, 0]⟩, by decide +kernel⟩,
    ⟨rg [(R.FRK_STAT_state, 4), (R.FRK_STAT_addr, 5), (R.FRK_STAT_bypass, 1)], ⟨0x11, 5, 0, 4, 9, [0, 0, 0, 0, 0, 0, 0, 0, 2, 0, 5, 0]⟩, by decide +kernel⟩,
    ⟨{ rg [(R.FRK_STAT_state, 5), (R.FRK_STAT_addr, 0)] with frk := { FrkState.init with census := some [3], table := [⟨7, .spin, 3⟩] } }, ⟨0x12, 0, 3, 4, 9, [7, 0, 0, 0, 0, 0, 0, 0, 1]⟩, by decide +kernel⟩,
    ⟨{ rg [(R.FRK_STAT_state, 4), (R.FRK_STAT_addr, 5), (R.FRK_STAT_bypass, 1), (R.FRK_TOK_STAT_pwr, 1)] with frk := { FrkState.init with tok := ⟨.none, .ring⟩ } }, ⟨0x13, 5, 0, 4, 9, [0, 0, 0, 0, 0, 0, 0, 0, 2]⟩, by decide +kernel⟩,
    ⟨rg [(R.FRK_STAT_state, 4), (R.FRK_STAT_addr, 5)], ⟨0x13, 5, 0, 4, 9, [9, 0, 0, 0, 0, 0, 0, 0, 2]⟩, by decide +kernel⟩,
    ⟨{ rg [(R.FRK_STAT_state, 5), (R.FRK_STAT_addr, 0)] with frk := { FrkState.init with census := some [3, 4] } }, ⟨0x14, 0, 3, 4, 9, [7, 0, 0, 0, 0, 0, 0, 0, 1, 0, 0, 0, 0, 0]⟩, 4, [], by decide +kernel⟩,
    ⟨{ rg [(R.FRK_STAT_state, 5)] with frk := { FrkState.init with census := some [3] } }, by decide +kernel⟩,
    ⟨rg [], by decide +kernel⟩,
    ⟨{ rg [] with frk := { FrkState.init with await := [⟨⟨0x11, 3, 0, 0, 7, []⟩, 0, 0⟩] } }, 7, ⟨⟨0x11, 3, 0, 0, 7, []⟩, 0, 0⟩, by decide +kernel⟩,
    ⟨{ rg [(R.FRK_STAT_state, 5)] with frk := { FrkState.init with await := [⟨⟨0x11, 3, 0, 0, 7, [7, 0, 0, 0, 0, 0, 0, 0, 1, 0, 5, 0]⟩, 3, 0⟩], table := [⟨7, .spin, 3⟩] } }, 7, ⟨⟨0x11, 3, 0, 0, 7, [7, 0, 0, 0, 0, 0, 0, 0, 1, 0, 5, 0]⟩, 3, 0⟩, by decide +kernel⟩,
    ⟨{ rg [(R.FRK_STAT_state, 4), (R.FRK_STAT_bypass, 1), (R.SPM_TOK_held, 1)] with frk := { FrkState.init with tok := ⟨.ring, .none⟩ } }, by decide +kernel⟩,
    ⟨rg [], .power, by decide +kernel⟩,
    ⟨{ rg [(R.FRK_STAT_state, 5)] with frk := { FrkState.init with table := [⟨7, .spin, 3⟩] } }, 7, by decide +kernel⟩,
    ⟨{ rg [(R.FRK_STAT_state, 5)] with frk := { FrkState.init with table := [⟨7, .spin, 3⟩] } }, 7, by decide +kernel⟩,
    ⟨rg [(R.FRK_STAT_state, 4)], by decide +kernel⟩,
    ⟨rg [(R.SPM_TOK_held, 1)], by decide +kernel⟩,
    ⟨rg [(R.JIG_STRAP_role, 3)], by decide +kernel⟩,
    ⟨{ rg [(R.FRK_STAT_state, 4), (R.FRK_STAT_bypass, 1), (R.FRK_TOK_STAT_pwr, 1)] with frk := { FrkState.init with tok := ⟨.none, .ring⟩ } }, by decide +kernel⟩,
    ⟨rg [], by decide +kernel⟩,
    ⟨rg [(R.FRK_STAT_state, 4), (R.FRK_STAT_bypass, 1), (R.FRK_TOK_STAT_spin_q, 1)], by decide +kernel⟩,
    ⟨rg [(R.JIG_STRAP_role, 3), (R.FRK_TOK_STAT_pwr_q, 1)], by decide +kernel⟩,
    ⟨rg [], by decide +kernel⟩,
    ⟨{ rg [(R.FRK_STAT_state, 5)] with frk := { FrkState.init with table := [⟨7, .power, 3⟩, ⟨8, .power, 4⟩] } }, 1, ⟨7, .power, 3⟩, ⟨8, .power, 4⟩, by decide +kernel⟩⟩

/-- The conditions of the clauses of GaugeTimebase. -/
theorem wit_GaugeTimebase :
  (∃ (s : State), s.gckIs .off = true ∧ s.rdB R.GCK_CTL_en = true ∧ s.rdB R.GCK_CTL_auto_load = true ∧ s.rd R.GCK_LOAD_CFG_load_rpm ≤ s.rd R.SPM_SPEED_rpm)
  ∧ (∃ (s : State), s.gckIs .off = false ∧ s.gckIs .unload = false ∧ s.rd R.SPM_SPEED_rpm < s.rd R.GCK_LOAD_CFG_unload_rpm)
  ∧ (∃ (s : State), s.reaches 7 ∧ s.gckIs .off = true ∧ s.rdB R.GCK_CTL_en = true ∧ s.rd R.GCK_LOAD_CFG_load_rpm ≤ s.rd R.SPM_SPEED_rpm)
  ∧ (∃ (s : State), s.reaches 7 ∧ s.gckIs .off = false ∧ s.gckIs .unload = false)
  ∧ (∃ (s : State), s.reaches 7 ∧ (s.gckIs .locked || s.gckIs .hold) = true ∧ s.gaugeFlying s.gckActive.other = true)
  ∧ (∃ (s : State), s.reaches 7 ∧ s.gckIs .fault = true ∧ s.gaugeFlying .primary = true)
  ∧ (∃ (s : State), s.gckIs .off = false ∧ s.gckIs .unload = false)
  ∧ (∃ (s : State), s.gckIs .unload = true)
  ∧ (∃ (s : State), s.gck.primDriven = true)
  ∧ (∃ (s : State) (amp : BitVec 8), s.gckIs .load = true ∧ s.rd R.GCK_LOSS_CFG_amp_min ≤ amp.toNat)
  ∧ (∃ (s : State), s.gckIs .load = true)
  ∧ (∃ (s : State), s.gckIs .acq = true)
  ∧ (∃ (s : State), s.gckIs .acq = true ∧ 0 < s.rd R.GCK_STAT_tries_left ∧ s.rdB R.GCK_CTL_auto_spare = false)
  ∧ (∃ (s : State) (count : BitVec 16), s.gckIs .index = true ∧ s.gck.dueCount = some count.toNat)
  ∧ (∃ (s : State) (count : BitVec 16), s.gckIs .locked = true ∧ count.toNat = s.frameCount)
  ∧ (∃ (s : State), s.gckIs .switch = true)
  ∧ (∃ (s : State), s.gckIs .locked = true ∧ s.gck.missing = 0)
  ∧ (∃ (s : State), s.gckIs .locked = true)
  ∧ (∃ (s : State) (amp : BitVec 8), s.gckIs .hold = true ∧ s.rd R.GCK_LOSS_CFG_amp_min ≤ amp.toNat)
  ∧ (∃ (s : State), s.gckIs .switch = true ∧ s.gck.switchHeld = false)
  ∧ (∃ (s : State), s.gckIs .switch = true)
  ∧ (∃ (s : State), s.gckIs .locked = true ∧ s.gckActive = .primary ∧ s.gaugeFlying .spare = true)
  ∧ (∃ (s : State), s.gckIs .locked = true ∧ s.gckActive = .primary ∧ s.gaugeFlying .spare = true) :=
  ⟨⟨rg [(R.GCK_CTL_en, 1), (R.GCK_CTL_auto_load, 1), (R.SPM_SPEED_rpm, 3000)], by decide +kernel⟩,
    ⟨rg [(R.GCK_STAT_state, 4), (R.GCK_STAT_prim_fly, 1)], by decide +kernel⟩,
    ⟨rg [(R.GCK_CTL_en, 1), (R.SPM_SPEED_rpm, 3000)], by decide +kernel⟩,
    ⟨rg [(R.GCK_STAT_state, 4)], by decide +kernel⟩,
    ⟨rg [(R.GCK_STAT_state, 4), (R.GCK_STAT_spare_fly, 1)], by decide +kernel⟩,
    ⟨rg [(R.GCK_STAT_state, 7), (R.GCK_STAT_prim_fly, 1)], by decide +kernel⟩,
    ⟨rg [(R.GCK_STAT_state, 4), (R.GCK_CTL_en, 1)], by decide +kernel⟩,
    ⟨rg [(R.GCK_STAT_state, 8), (R.SYS_IRQ_CFG_prio.at 62, 3)], by decide +kernel⟩,
    ⟨{ rg [] with gck := { GckState.init with primDriven := true } }, by decide +kernel⟩,
    ⟨rg [(R.GCK_STAT_state, 1)], 200, by decide +kernel⟩,
    ⟨rg [(R.GCK_STAT_state, 1)], by decide +kernel⟩,
    ⟨rg [(R.GCK_STAT_state, 2)], by decide +kernel⟩,
    ⟨rg [(R.GCK_STAT_state, 2), (R.GCK_STAT_tries_left, 2), (R.GCK_CTL_auto_spare, 0)], by decide +kernel⟩,
    ⟨{ rg [(R.GCK_STAT_state, 3)] with gck := { GckState.init with dueCount := some 65535 } }, 65535, by decide +kernel⟩,
    ⟨rg [(R.GCK_STAT_state, 4), (R.GCK_STAT_lock, 1)], 65535, by decide +kernel⟩,
    ⟨rg [(R.GCK_STAT_state, 6)], by decide +kernel⟩,
    ⟨rg [(R.GCK_STAT_state, 4)], by decide +kernel⟩,
    ⟨rg [(R.GCK_STAT_state, 4), (R.GCK_STAT_lock, 1)], by decide +kernel⟩,
    ⟨rg [(R.GCK_STAT_state, 5)], 255, by decide +kernel⟩,
    ⟨rg [(R.GCK_STAT_state, 6)], by decide +kernel⟩,
    ⟨rg [(R.GCK_STAT_state, 6)], by decide +kernel⟩,
    ⟨rg [(R.GCK_STAT_state, 4), (R.GCK_STAT_spare_fly, 1)], by decide +kernel⟩,
    ⟨rg [(R.GCK_STAT_state, 4), (R.GCK_STAT_spare_fly, 1), (R.GCK_STAT_spare_ok, 1)], by decide +kernel⟩⟩

/-- The conditions of the clauses of ReadChannels. -/
theorem wit_ReadChannels :
  (∃ (s : State) (ch : Fin 8) (r : LaneRec) (k : Nat) (track : Nat) (sector : Nat), s.rdB (rchF R.RCH_STAT_reading ch) = true ∧ s.rch[ch].stopAfter = false ∧ s.rch[ch].heatWait = false ∧ s.wch[ch].withheld = false ∧ (s.hlOn (chAct ch) = false ∨ s.wch[ch].settled = true) ∧ s.nextRead ch = some (r, k, track, sector, none) ∧ (s.lane (chAct ch) (chLane ch)).targets = none ∧ s.shadows = [])
  ∧ (∃ (s : State) (ch : Fin 8) (x : InFlight) (rest : List InFlight), s.rch[ch].flight = x :: rest ∧ x.target = none)
  ∧ (∃ (s : State) (ch : Fin 8) (x : StoredDecode), s.rch[ch].stored = some x ∧ x.suspended = false ∧ x.entry < 16 ∧ s.entryOpen ch x.entry = true ∧ s.rch[ch].todo = [] ∧ s.kindNow ch = .deep)
  ∧ (∃ (s : State) (ch : Fin 8) (x : StoredDecode), s.rch[ch].stored = some x ∧ x.suspended = true)
  ∧ (∃ (s : State) (ch : Fin 8), s.absent (8 + ch.val) = false ∧ s.inSoftReset (8 + ch.val) = false)
  ∧ (∃ (s : State) (ch : Fin 8), s.absent (8 + ch.val) = false) :=
  ⟨⟨ls [(R.RCH_STAT_reading, 1)], 0, lr, 0, 5, 0, by decide +kernel⟩,
    ⟨{ ls [] with rch := Vector.replicate 8 { RchState.init with flight := [fl] } }, 0, fl, [], by decide +kernel⟩,
    ⟨{ ls [(R.RCH_RSET_A_valid, 1), (R.RCH_LAD_W0_kind, 7)] with rch := Vector.replicate 8 { RchState.init with stored := some ⟨0, 2, false⟩, rung := some 0 } }, 0, ⟨0, 2, false⟩, by decide +kernel⟩,
    ⟨{ ls [] with rch := Vector.replicate 8 { RchState.init with stored := some ⟨0, 2, true⟩, rung := some 0 } }, 0, ⟨0, 2, true⟩, by decide +kernel⟩,
    ⟨{ rg [] with rch := Vector.replicate 8 { RchState.init with reports := [⟨5, 1, 1, 0, 0, 3, 0⟩, ⟨6, 1, 1, 0, 0, 3, 0⟩] } }, 2, by decide +kernel⟩,
    ⟨rg [(R.RCH_CTL_en, 1)], 0, by decide +kernel⟩⟩

/-- The conditions of the clauses of WriteChannels. -/
theorem wit_WriteChannels :
  (∃ (s : State) (ch : Fin 8) (r : LaneRec) (k : Nat), s.wchNext ch = some (r, k) ∧ s.wch[ch].source = false ∧ s.wchPoison ch r k = false ∧ s.shadows = [])
  ∧ (∃ (s : State) (ch : Fin 8) (r : LaneRec) (k : Nat), s.wchNext ch = some (r, k) ∧ s.wch[ch].source = false ∧ s.rdB (R.WCH_FLT_valid.inst ch.val) = false ∧ s.shadows = [])
  ∧ (∃ (s : State) (ch : Fin 8) (a : AsmSector) (l : List AsmSector), s.rdB (R.WCH_STAT_gate_req.inst ch.val) = true ∧ s.wch[ch].failed = false ∧ s.rdBit R.GCK_CH_STAT_rate_err ch.val = false ∧ s.wch[ch].asm = a :: l ∧ (s.wchConds ch).all id = true)
  ∧ (∃ (s : State) (ch : Fin 8) (a : AsmSector) (l : List AsmSector), s.rdB (R.WCH_STAT_gate_req.inst ch.val) = true ∧ s.wch[ch].failed = false ∧ s.rdBit R.GCK_CH_STAT_rate_err ch.val = false ∧ s.wch[ch].asm = a :: l ∧ (s.wchConds ch).all id = false)
  ∧ (∃ (s : State) (ch : Fin 8) (r : LaneRec) (a : AsmSector) (l : List AsmSector), s.wch[ch].inRun = true ∧ s.wch[ch].asm = a :: l ∧ s.chRec ch = some r ∧ s.par.bind[ch] = none ∧ s.wch[ch].stopAfter = false)
  ∧ (∃ (s : State) (ch : Fin 8), s.wchHctl ch % 4 = 2)
  ∧ (∃ (s : State) (ch : Fin 8), s.reaches (16 + ch.val) ∧ s.rdB (R.WCH_CTL_en.inst ch.val) = false) :=
  ⟨⟨{ ls [] with wch := Vector.replicate 8 { WchState.init with on := true } }, 0, lr, 0, by decide +kernel⟩,
    ⟨{ ls [] with wch := Vector.replicate 8 { WchState.init with on := true } }, 0, lr, 0, by decide +kernel⟩,
    ⟨{ ls [(R.WCH_STAT_gate_req, 1), (R.GCK_STAT_lock, 1), (R.SPM_STAT_lock, 1), (R.SRV_CH_FLG_valid.at 0, 1), (R.WCH_BWP_valid, 1), (R.WCH_CTL_wt_valid, 1), (R.WCH_STAT_preheat_done, 1)] with wch := Vector.replicate 8 { WchState.init with on := true, settled := true, asm := [⟨0, 5, 0, 0, []⟩] }, hl := ⟨{ HlState.init with lastZero := true, pa := [(0, 0x10, 6)] }, HlState.init⟩ }, 0, ⟨0, 5, 0, 0, []⟩, [], by decide +kernel⟩,
    ⟨{ ls [(R.WCH_STAT_gate_req, 1)] with wch := Vector.replicate 8 { WchState.init with on := true, asm := [⟨0, 5, 0, 0, []⟩] } }, 0, ⟨0, 5, 0, 0, []⟩, [], by decide +kernel⟩,
    ⟨{ ls [] with wch := Vector.replicate 8 { WchState.init with on := true, inRun := true, asm := [⟨0, 5, 0, 0, []⟩] } }, 0, lr, ⟨0, 5, 0, 0, []⟩, [], by decide +kernel⟩,
    ⟨{ rg [] with hl := ⟨{ HlState.init with pa := [(0, 0x10, 6)] }, HlState.init⟩ }, 0, by decide +kernel⟩,
    ⟨rg [], 4, by decide +kernel⟩⟩

/-- The conditions of the clauses of HeadLink. -/
theorem wit_HeadLink :
  (∃ (s : State) (x : Act), s.hlOn x = true ∧ (s.hl.get x).queue = [] ∧ (∀ c ∈ actChans x, s.wch[c].inRun = false))
  ∧ (∃ (s : State) (x : Act), ((∀ c ∈ actChans x, s.wch[c].inRun = true ∧ s.wch[c].stopAfter = false)))
  ∧ (∃ (s : State) (x : Act) (f : HlFrame) (l : List HlFrame), (s.hl.get x).queue = f :: l ∧ f.read = false ∧ f.init = false)
  ∧ (∃ (s : State) (x : Act) (data : BitVec 16) (crc : BitVec 8) (f : HlFrame) (l : List HlFrame), (s.hl.get x).queue = f :: l ∧ f.read = true ∧ f.init = false ∧ f.fw = true ∧ (¬ (f.target = 16 ∧ f.reg = 1)) ∧ crc.toNat = f.readCrc data)
  ∧ (∃ (s : State) (x : Act) (data : BitVec 16) (crc : BitVec 8) (f : HlFrame) (l : List HlFrame), (s.hl.get x).queue = f :: l ∧ f.read = true ∧ crc.toNat ≠ f.readCrc data ∧ f.tries < s.rd (hlField R.WCH_HL_CFG_rd_retry x))
  ∧ (∃ (s : State) (x : Act), s.reaches (16 + 4 * x.idx) ∧ s.rdB (hlField R.WCH_HL_STAT_fw_busy x) = false ∧ s.hlOn x = true ∧ (s.hl.get x).queue = [])
  ∧ (∃ (s : State) (x : Act), s.reaches (16 + 4 * x.idx) ∧ s.rdB (hlField R.WCH_HL_STAT_fw_busy x) = true ∧ s.rdB R.SYS_CFG_ERR_valid = false) :=
  ⟨⟨rg [(R.WCH_CTL_en, 1)], .a, by decide +kernel⟩,
    ⟨{ rg [] with wch := Vector.replicate 8 { WchState.init with inRun := true } }, .b, by decide +kernel⟩,
    ⟨{ rg [] with hl := ⟨{ HlState.init with queue := [hlWrite 2 3 0x11 9] }, HlState.init⟩ }, .a, hlWrite 2 3 0x11 9, [], by decide +kernel⟩,
    ⟨{ rg [] with hl := ⟨{ HlState.init with queue := [⟨7, true, 0, 0, 0, 0, false, true⟩] }, HlState.init⟩ }, .a, 5, BitVec.ofNat 8 ((⟨7, true, 0, 0, 0, 0, false, true⟩ : HlFrame).readCrc 5), ⟨7, true, 0, 0, 0, 0, false, true⟩, [], by decide +kernel⟩,
    ⟨{ rg [(R.WCH_HL_CFG_rd_retry, 1)] with hl := ⟨{ HlState.init with queue := [⟨7, true, 0, 0, 0, 0, false, true⟩] }, HlState.init⟩ }, .a, 5, BitVec.ofNat 8 ((⟨7, true, 0, 0, 0, 0, false, true⟩ : HlFrame).readCrc 5 + 1), ⟨7, true, 0, 0, 0, 0, false, true⟩, [], by decide +kernel⟩,
    ⟨rg [(R.WCH_CTL_en, 1)], .a, by decide +kernel⟩,
    ⟨rg [(R.WCH_CTL_en, 1), (R.WCH_HL_STAT_fw_busy, 1)], .a, by decide +kernel⟩⟩

/-- The conditions of the clauses of SequencerFlow. -/
theorem wit_SequencerFlow :
  (∃ (s : State) (x : Act) (v : BitVec 10), s.reaches (24 + x.idx) ∧ v.toNat < s.ringSize x ∧ (v.toNat + s.ringSize x - s.rd (msqF R.MSQ_RING_HEAD_head x) % s.ringSize x) % s.ringSize x < s.ringSize x - 1)
  ∧ (∃ (s : State) (x : Act) (v : BitVec 10), s.reaches (24 + x.idx) ∧ s.rdB R.SYS_CFG_ERR_valid = false ∧ (s.ringSize x ≤ v.toNat ∨ s.ringSize x - 1 ≤ (v.toNat + s.ringSize x - s.rd (msqF R.MSQ_RING_HEAD_head x) % s.ringSize x) % s.ringSize x))
  ∧ (∃ (s : State) (x : Act), (s.msqIs x .run = true ∨ s.msqIs x .commit = true) ∧ (s.msq.get x).heldBreaks = [] ∧ (s.msq.get x).dispatchDue = true ∧ (s.msq.get x).opDone = true ∧ (s.msq.get x).retracting = false ∧ (s.msq.get x).urgentWait = false ∧ (s.msq.get x).saved = none ∧ s.ringReady x = false)
  ∧ (∃ (s : State) (x : Act) (d : Desc), s.msqIs x .idle = true ∧ s.rdBit R.PWR_SLEEP_STAT_votes (2 + x.idx) = false ∧ (s.msq.get x).opDone = true ∧ (s.msq.get x).retracting = false ∧ (s.msq.get x).urgentWait = false ∧ (s.msq.get x).saved = none ∧ s.ringReady x = true ∧ s.shadows = [] ∧ d = s.readDesc (s.rd (msqF R.MSQ_RING_BASE_base x) * 256 + 256 * s.rd (msqF R.MSQ_RING_HEAD_head x)))
  ∧ (∃ (s : State) (x : Act) (w : Microword), (s.msq.get x).word = some w ∧ (s.msq.get x).todo = [] ∧ w.fin = false ∧ (if (if w.wait = 8 then !(s.msqCond x w.cond != w.inv) else (s.msqCond x w.cond != w.inv)) then w.alt else w.next) = 0xFFF)
  ∧ (∃ (s : State) (x : Act) (flip : BitVec 128) (w : Microword) (a : Nat), (s.msq.get x).word = some w ∧ (s.msq.get x).todo = [] ∧ w.fin = false ∧ a = (if (if w.wait = 8 then !(s.msqCond x w.cond != w.inv) else (s.msqCond x w.cond != w.inv)) then w.alt else w.next) ∧ a < 0xFFF ∧ s.msqMarked x R.MSQ_FAIL_bits a = false ∧ evenParity ((storeFind (s.msq.get x).store a ^^^ flip).toNat / 2 ^ 64) 64 = true ∧ evenParity (storeFind (s.msq.get x).store a ^^^ flip).toNat 64 = true ∧ (Microword.decode (storeFind (s.msq.get x).store a ^^^ flip).toNat).reserved = false ∧ (Microword.decode (storeFind (s.msq.get x).store a ^^^ flip).toNat).persistent = false)
  ∧ (∃ (s : State) (x : Act) (w : Microword), (s.msq.get x).word = some w ∧ (s.msq.get x).todo = [] ∧ (2 ≤ w.wait ∧ w.wait ≤ 7) ∧ w.fin = false ∧ w.alt = 0xFFF)
  ∧ (∃ (s : State) (x : Act) (w : Microword), (s.msq.get x).word = some w ∧ (s.msq.get x).todo = [] ∧ w.fin = true ∧ s.msqIs x .commit = true ∧ (s.msq.get x).heldBreaks = [])
  ∧ (∃ (s : State) (x : Act), s.msqIs x .commit = true ∧ s.rdB (msqF R.MSQ_MCHK_valid x) = false ∧ (s.msq.get x).heldBreaks = [] ∧ (s.msq.get x).opDone = false) :=
  ⟨⟨rg [(R.MSQ_RING_SIZE_log2, 4), (R.MSQ_RING_SIZE_log2.inst 1, 4)], .b, 3, by decide +kernel⟩,
    ⟨rg [(R.MSQ_RING_SIZE_log2, 4)], .a, 15, by decide +kernel⟩,
    ⟨{ rg [(R.MSQ_STAT_state, 2)] with msq := ⟨{ MsqState.init with dispatchDue := true }, MsqState.init⟩ }, .a, by decide +kernel⟩,
    ⟨rg [(R.MSQ_STAT_state, 1), (R.MSQ_CTL_run, 1), (R.MSQ_RING_TAIL_tail, 1)], .a, (rg [(R.MSQ_STAT_state, 1), (R.MSQ_CTL_run, 1), (R.MSQ_RING_TAIL_tail, 1)]).readDesc 0, by decide +kernel⟩,
    ⟨lwd { mw with next := 0xFFF, alt := 0xFFF } [], .a, { mw with next := 0xFFF, alt := 0xFFF }, by decide +kernel⟩,
    ⟨lwd mw [], .a, 0, mw, 0, by decide +kernel⟩,
    ⟨lwd { mw with wait := 3, alt := 0xFFF } [], .a, { mw with wait := 3, alt := 0xFFF }, by decide +kernel⟩,
    ⟨{ lwd { mw with fin := true } [(R.MSQ_STAT_state, 3)] with pending := [] }, .a, { mw with fin := true }, by decide +kernel⟩,
    ⟨lwd mw [(R.MSQ_STAT_state, 3)], .a, by decide +kernel⟩⟩

/-- The conditions of the clauses of SequencerControl. -/
theorem wit_SequencerControl :
  (∃ (s : State) (x : Act), s.reaches (24 + x.idx) ∧ s.msqIs x .run = true ∧ (s.msq.get x).opDone = false ∧ (s.msq.get x).flushHeld = false)
  ∧ (∃ (s : State) (x : Act), s.reaches (24 + x.idx) ∧ s.msqIs x .commit = true)
  ∧ (∃ (s : State) (x : Act), s.reaches (24 + x.idx) ∧ s.msqRunning x = false)
  ∧ (∃ (s : State) (x : Act), s.reaches (24 + x.idx))
  ∧ (∃ (s : State) (x : Act), s.msqIs x .off = true)
  ∧ (∃ (s : State) (x : Act), s.msqIs x .off = false ∧ s.shadows = [])
  ∧ (∃ (s : State) (x : Act), s.reaches (24 + x.idx) ∧ s.rdB (msqF R.MSQ_URG_CTL_busy x) = false)
  ∧ (∃ (s : State) (x : Act), s.reaches (24 + x.idx) ∧ s.rdB (msqF R.MSQ_URG_CTL_busy x) = true ∧ s.rdB R.SYS_CFG_ERR_valid = false)
  ∧ (∃ (s : State) (x : Act) (d : Desc), s.preemptible x = true ∧ s.msqIs x .run = true ∧ (s.msq.get x).desc = some d)
  ∧ (∃ (s : State) (x : Act), s.preemptible x = true ∧ s.msqIs x .commit = true)
  ∧ (∃ (s : State) (x : Act), s.retractDue x = true ∧ (s.msq.get x).retracting = false ∧ s.msqIs x .run = true)
  ∧ (∃ (s : State) (x : Act), s.retractDue x = true ∧ (s.msq.get x).retracting = false ∧ s.msqIs x .commit = true)
  ∧ (∃ (s : State) (x : Act), s.reaches (24 + x.idx) ∧ s.storeOpen x = true ∧ rising (s.msq.get x).store = true)
  ∧ (∃ (s : State) (x : Act), s.reaches (24 + x.idx) ∧ s.storeOpen x = false ∧ s.rdB R.SYS_CFG_ERR_valid = false)
  ∧ (∃ (s : State) (x : Act), s.reaches (24 + x.idx)) :=
  ⟨⟨lwd mw [], .a, by decide +kernel⟩,
    ⟨lwd mw [(R.MSQ_STAT_state, 3)], .a, by decide +kernel⟩,
    ⟨rg [(R.MSQ_RING_TAIL_tail, 5)], .a, by decide +kernel⟩,
    ⟨rg [(R.MSQ_STAT_state, 4)], .a, by decide +kernel⟩,
    ⟨rg [], .a, by decide +kernel⟩,
    ⟨lwd mw [], .a, by decide +kernel⟩,
    ⟨rg [], .b, by decide +kernel⟩,
    ⟨rg [(R.MSQ_URG_CTL_busy.inst 1, 1)], .b, by decide +kernel⟩,
    ⟨{ lwd mw [] with msq := ⟨{ mq with word := some mw, urgentWait := true }, mq⟩ }, .a, dsc, by decide +kernel⟩,
    ⟨{ lwd mw [(R.MSQ_STAT_state, 3)] with msq := ⟨{ mq with word := some mw, urgentWait := true }, mq⟩ }, .a, by decide +kernel⟩,
    ⟨lwd mw [(R.SRV_ACT_FLG_invcnt.at 0, 255)], .a, by decide +kernel⟩,
    ⟨lwd mw [(R.SRV_ACT_FLG_invcnt.at 0, 255), (R.MSQ_STAT_state, 3)], .a, by decide +kernel⟩,
    ⟨rg [], .a, by decide +kernel⟩,
    ⟨rg [(R.MSQ_STAT_state, 2)], .a, by decide +kernel⟩,
    ⟨rg [], .a, by decide +kernel⟩⟩

/-- The conditions of the clauses of SequencerChannelOperations. -/
theorem wit_SequencerChannelOperations :
  (∃ (s : State) (x : Act) (w : Microword), (s.msq.get x).word = some w ∧ MicroOp.commit ∈ (s.msq.get x).todo ∧ w.commit = true)
  ∧ (∃ (s : State) (x : Act) (w : Microword), (s.msq.get x).word = some w ∧ MicroOp.chop ∈ (s.msq.get x).todo ∧ w.chop = 1)
  ∧ (∃ (s : State) (x : Act) (w : Microword), (s.msq.get x).word = some w ∧ MicroOp.chop ∈ (s.msq.get x).todo ∧ w.chop = 2)
  ∧ (∃ (s : State) (x : Act) (w : Microword), (s.msq.get x).word = some w ∧ MicroOp.chop ∈ (s.msq.get x).todo ∧ w.chop = 3)
  ∧ (∃ (s : State) (x : Act) (w : Microword), (s.msq.get x).word = some w ∧ MicroOp.chop ∈ (s.msq.get x).todo ∧ w.chop = 4)
  ∧ (∃ (s : State) (x : Act) (w : Microword), (s.msq.get x).word = some w ∧ MicroOp.chop ∈ (s.msq.get x).todo ∧ w.chop = 5)
  ∧ (∃ (s : State) (x : Act) (w : Microword), (s.msq.get x).word = some w ∧ MicroOp.chop ∈ (s.msq.get x).todo ∧ w.chop = 6)
  ∧ (∃ (s : State) (x : Act) (w : Microword), (s.msq.get x).word = some w ∧ MicroOp.chop ∈ (s.msq.get x).todo ∧ w.chop = 7)
  ∧ (∃ (s : State) (x : Act) (w : Microword), (s.msq.get x).word = some w ∧ MicroOp.hmode ∈ (s.msq.get x).todo ∧ w.hmode ≠ 0 ∧ s.hlOn x = true)
  ∧ (∃ (s : State) (x : Act) (w : Microword), (s.msq.get x).word = some w ∧ MicroOp.wg ∈ (s.msq.get x).todo) :=
  ⟨⟨lw { mw with commit := true } [], .a, { mw with commit := true }, by decide +kernel⟩,
    ⟨lw { mw with chop := 1 } [], .a, { mw with chop := 1 }, by decide +kernel⟩,
    ⟨lw { mw with chop := 2 } [(R.RCH_CTL_en, 1)], .a, { mw with chop := 2 }, by decide +kernel⟩,
    ⟨lw { mw with chop := 3 } [], .a, { mw with chop := 3 }, by decide +kernel⟩,
    ⟨lw { mw with chop := 4 } [], .a, { mw with chop := 4 }, by decide +kernel⟩,
    ⟨lw { mw with chop := 5 } [(R.WCH_CTL_en, 1)], .a, { mw with chop := 5 }, by decide +kernel⟩,
    ⟨lw { mw with chop := 6 } [], .a, { mw with chop := 6 }, by decide +kernel⟩,
    ⟨lw { mw with chop := 7 } [], .a, { mw with chop := 7 }, by decide +kernel⟩,
    ⟨lw { mw with hmode := 2 } [(R.WCH_CTL_en, 1)], .a, { mw with hmode := 2 }, by decide +kernel⟩,
    ⟨lw { mw with wg := 3 } [], .a, { mw with wg := 3 }, by decide +kernel⟩⟩

/-- The conditions of the clauses of SequencerPositionOperations. -/
theorem wit_SequencerPositionOperations :
  (∃ (s : State) (x : Act) (w : Microword), (s.msq.get x).word = some w ∧ MicroOp.fmt ∈ (s.msq.get x).todo ∧ w.fmt = 1)
  ∧ (∃ (s : State) (x : Act) (w : Microword), (s.msq.get x).word = some w ∧ MicroOp.fmt ∈ (s.msq.get x).todo ∧ w.fmt = 2)
  ∧ (∃ (s : State) (x : Act) (w : Microword), (s.msq.get x).word = some w ∧ MicroOp.fmt ∈ (s.msq.get x).todo ∧ w.fmt = 3)
  ∧ (∃ (s : State) (x : Act) (w : Microword), (s.msq.get x).word = some w ∧ MicroOp.fmt ∈ (s.msq.get x).todo ∧ w.fmt = 4)
  ∧ (∃ (s : State) (x : Act) (w : Microword), (s.msq.get x).word = some w ∧ MicroOp.fmt ∈ (s.msq.get x).todo ∧ w.fmt = 5)
  ∧ (∃ (s : State) (x : Act) (w : Microword), (s.msq.get x).word = some w ∧ MicroOp.fmt ∈ (s.msq.get x).todo ∧ w.fmt = 6)
  ∧ (∃ (s : State) (x : Act) (w : Microword), (s.msq.get x).word = some w ∧ MicroOp.pos ∈ (s.msq.get x).todo ∧ w.pos = 1 ∧ w.fmt = 0)
  ∧ (∃ (s : State) (x : Act) (w : Microword), (s.msq.get x).word = some w ∧ MicroOp.pos ∈ (s.msq.get x).todo ∧ w.pos = 2 ∧ w.fmt = 0)
  ∧ (∃ (s : State) (x : Act) (w : Microword), (s.msq.get x).word = some w ∧ MicroOp.pos ∈ (s.msq.get x).todo ∧ w.pos = 3 ∧ w.fmt = 0)
  ∧ (∃ (s : State) (x : Act) (w : Microword), (s.msq.get x).word = some w ∧ MicroOp.pos ∈ (s.msq.get x).todo ∧ w.pos = 4 ∧ w.fmt = 0)
  ∧ (∃ (s : State) (x : Act) (w : Microword), (s.msq.get x).word = some w ∧ MicroOp.pos ∈ (s.msq.get x).todo ∧ w.pos = 5 ∧ w.fmt = 0) :=
  ⟨⟨lw { mw with fmt := 1 } [], .a, { mw with fmt := 1 }, by decide +kernel⟩,
    ⟨lw { mw with fmt := 2 } [], .a, { mw with fmt := 2 }, by decide +kernel⟩,
    ⟨lw { mw with fmt := 3 } [], .a, { mw with fmt := 3 }, by decide +kernel⟩,
    ⟨lw { mw with fmt := 4 } [(R.RCH_RSET_A_valid, 1)], .a, { mw with fmt := 4 }, by decide +kernel⟩,
    ⟨lw { mw with fmt := 5 } [(R.RCH_RSET_A_valid, 1)], .a, { mw with fmt := 5 }, by decide +kernel⟩,
    ⟨lw { mw with fmt := 6 } [], .a, { mw with fmt := 6 }, by decide +kernel⟩,
    ⟨lw { mw with pos := 1 } [(R.ACT_STAT_state.at 0, 5)], .a, { mw with pos := 1 }, by decide +kernel⟩,
    ⟨lw { mw with pos := 2 } [(R.ACT_STAT_state.at 0, 5)], .a, { mw with pos := 2 }, by decide +kernel⟩,
    ⟨lw { mw with pos := 3 } [(R.ACT_STAT_state.at 0, 5)], .a, { mw with pos := 3 }, by decide +kernel⟩,
    ⟨lw { mw with pos := 4 } [(R.ACT_STAT_state.at 0, 5)], .a, { mw with pos := 4 }, by decide +kernel⟩,
    ⟨lw { mw with pos := 5 } [(R.ACT_STAT_state.at 0, 5)], .a, { mw with pos := 5 }, by decide +kernel⟩⟩

/-- The conditions of the clauses of SequencerOtherOperations. -/
theorem wit_SequencerOtherOperations :
  (∃ (s : State) (x : Act) (w : Microword), (s.msq.get x).word = some w ∧ MicroOp.par ∈ (s.msq.get x).todo ∧ w.par = 1)
  ∧ (∃ (s : State) (x : Act) (w : Microword), (s.msq.get x).word = some w ∧ MicroOp.par ∈ (s.msq.get x).todo ∧ w.par = 2)
  ∧ (∃ (s : State) (x : Act) (w : Microword), (s.msq.get x).word = some w ∧ MicroOp.par ∈ (s.msq.get x).todo ∧ w.par = 3)
  ∧ (∃ (s : State) (x : Act) (w : Microword), (s.msq.get x).word = some w ∧ MicroOp.par ∈ (s.msq.get x).todo ∧ w.par = 4)
  ∧ (∃ (s : State) (x : Act) (w : Microword), (s.msq.get x).word = some w ∧ MicroOp.bop ∈ (s.msq.get x).todo ∧ w.bop = 1)
  ∧ (∃ (s : State) (x : Act) (w : Microword), (s.msq.get x).word = some w ∧ MicroOp.ctr ∈ (s.msq.get x).todo ∧ w.ctr = 1)
  ∧ (∃ (s : State) (x : Act) (w : Microword), (s.msq.get x).word = some w ∧ MicroOp.ctr ∈ (s.msq.get x).todo ∧ w.ctr = 2)
  ∧ (∃ (s : State) (x : Act) (w : Microword), (s.msq.get x).word = some w ∧ MicroOp.rop ∈ (s.msq.get x).todo ∧ w.rop = 1)
  ∧ (∃ (s : State) (x : Act) (w : Microword), (s.msq.get x).word = some w ∧ MicroOp.rop ∈ (s.msq.get x).todo ∧ w.rop = 2)
  ∧ (∃ (s : State) (x : Act) (w : Microword), (s.msq.get x).word = some w ∧ MicroOp.rop ∈ (s.msq.get x).todo ∧ w.rop = 3)
  ∧ (∃ (s : State) (x : Act) (w : Microword), (s.msq.get x).word = some w ∧ MicroOp.rop ∈ (s.msq.get x).todo ∧ w.rop = 4)
  ∧ (∃ (s : State) (x : Act) (w : Microword), (s.msq.get x).word = some w ∧ MicroOp.rop ∈ (s.msq.get x).todo ∧ w.rop = 5)
  ∧ (∃ (s : State) (x : Act) (w : Microword), (s.msq.get x).word = some w ∧ MicroOp.rop ∈ (s.msq.get x).todo ∧ w.rop = 6)
  ∧ (∃ (s : State) (x : Act) (w : Microword), (s.msq.get x).word = some w ∧ MicroOp.post ∈ (s.msq.get x).todo ∧ w.post = 1 ∧ (s.opRecs x).any (fun p => p.2.band && s.rdB (R.WCH_STAT_writing.inst (laneCh x p.1).val)) = false ∧ Memory.wf s.dram = true)
  ∧ (∃ (s : State) (x : Act) (w : Microword), (s.msq.get x).word = some w ∧ MicroOp.post ∈ (s.msq.get x).todo ∧ w.post = 2 ∧ Memory.wf s.dram = true)
  ∧ (∃ (s : State) (x : Act) (w : Microword), (s.msq.get x).word = some w ∧ MicroOp.post ∈ (s.msq.get x).todo ∧ w.post = 3 ∧ Memory.wf s.dram = true ∧ (s.opRecs x).any (fun p => p.2.band && s.rdB (R.WCH_STAT_writing.inst (laneCh x p.1).val)) = false) :=
  ⟨⟨lw { mw with par := 1 } [], .a, { mw with par := 1 }, by decide +kernel⟩,
    ⟨lw { mw with par := 2 } [], .a, { mw with par := 2 }, by decide +kernel⟩,
    ⟨lw { mw with par := 3 } [], .a, { mw with par := 3 }, by decide +kernel⟩,
    ⟨lw { mw with par := 4 } [], .a, { mw with par := 4 }, by decide +kernel⟩,
    ⟨lw { mw with bop := 1 } [], .a, { mw with bop := 1 }, by decide +kernel⟩,
    ⟨lw { mw with ctr := 1, imm := 9 } [], .a, { mw with ctr := 1, imm := 9 }, by decide +kernel⟩,
    ⟨lw { mw with ctr := 2 } [], .a, { mw with ctr := 2 }, by decide +kernel⟩,
    ⟨lw { mw with rop := 1 } [], .a, { mw with rop := 1 }, by decide +kernel⟩,
    ⟨lw { mw with rop := 2 } [], .a, { mw with rop := 2 }, by decide +kernel⟩,
    ⟨lw { mw with rop := 3 } [], .a, { mw with rop := 3 }, by decide +kernel⟩,
    ⟨lw { mw with rop := 4 } [], .a, { mw with rop := 4 }, by decide +kernel⟩,
    ⟨lw { mw with rop := 5 } [], .a, { mw with rop := 5 }, by decide +kernel⟩,
    ⟨lw { mw with rop := 6 } [(R.RCH_RSET_A_valid, 1)], .a, { mw with rop := 6 }, by decide +kernel⟩,
    ⟨lw { mw with post := 1 } [], .a, { mw with post := 1 }, by decide +kernel⟩,
    ⟨lw { mw with post := 2 } [], .a, { mw with post := 2 }, by decide +kernel⟩,
    ⟨lw { mw with post := 3 } [], .a, { mw with post := 3 }, by decide +kernel⟩⟩

/-- The conditions of the clauses of ServoDemodulation. -/
theorem wit_ServoDemodulation :
  (∃ (s : State) (h : Fin 32) (w : Nat), s.shadows = [] ∧ s.headFitted h.val = true ∧ s.srvTimed (s.headAct h.val) = true ∧ w < s.wedges (s.headAct h.val) ∧ h.val ≠ s.refHead (s.headAct h.val))
  ∧ (∃ (s : State) (h : Fin 32) (w : Nat), s.shadows = [] ∧ s.headFitted h.val = true ∧ s.srvIs (s.headAct h.val) .follow = true ∧ s.rdB R.GCK_STAT_lock = true ∧ w < s.wedges (s.headAct h.val) ∧ h.val = s.refHead (s.headAct h.val))
  ∧ (∃ (s : State) (ch : Fin 8) (f : ServoField), s.demodulates ch = true ∧ s.srvTimed (chAct ch) = true ∧ s.srv.chan[ch].windowOpen = true ∧ s.srv.chan[ch].switched = false ∧ s.rdB R.SRV_CTL_force_en = false ∧ (candRank (s.srvCfg (chAct ch) (if s.srvIs (chAct ch) .gauge then R.SRV_WIN_CFG_sync_win else R.SRV_WIN_CFG_follow_win)) (s.srvCfg (chAct ch) R.SRV_WIN_CFG_thr) f.cands).head? = none)
  ∧ (∃ (s : State) (ch : Fin 8) (f : ServoField) (b : SyncCand) (w : Nat), s.demodulates ch = true ∧ s.srvTimed (chAct ch) = true ∧ s.srv.chan[ch].windowOpen = true ∧ s.srv.chan[ch].switched = false ∧ (candRank (s.srvCfg (chAct ch) (if s.srvIs (chAct ch) .gauge then R.SRV_WIN_CFG_sync_win else R.SRV_WIN_CFG_follow_win)) (s.srvCfg (chAct ch) R.SRV_WIN_CFG_thr) f.cands).head? = some b ∧ s.act.wedgeOf[(s.chHead ch)]? = some w ∧ wedgeParityOk f.wedge.toNat = true ∧ wedgeNumber f.wedge.toNat = w ∧ (f.a.toNat ≠ f.b.toNat ∨ f.c.toNat ≠ f.d.toNat) ∧ s.srvCfg (chAct ch) R.SRV_Q_CFG_amp_min * 64 ≤ f.a.toNat + f.b.toNat + f.c.toNat + f.d.toNat ∧ s.srv.chan[ch].prev = none ∧ s.srv.chan[ch].noCheck = true)
  ∧ (∃ (s : State) (ch : Fin 8) (f : ServoField) (b : SyncCand) (w : Nat), s.demodulates ch = true ∧ s.srvTimed (chAct ch) = true ∧ s.srv.chan[ch].windowOpen = true ∧ s.srv.chan[ch].switched = false ∧ (candRank (s.srvCfg (chAct ch) (if s.srvIs (chAct ch) .gauge then R.SRV_WIN_CFG_sync_win else R.SRV_WIN_CFG_follow_win)) (s.srvCfg (chAct ch) R.SRV_WIN_CFG_thr) f.cands).head? = some b ∧ s.act.wedgeOf[(s.chHead ch)]? = some w ∧ (wedgeParityOk f.wedge.toNat = false ∨ wedgeNumber f.wedge.toNat ≠ w))
  ∧ (∃ (s : State) (ch : Fin 8) (code : BitVec 12), s.srvIs (chAct ch) .hunt = true ∧ s.demodulates ch = true ∧ wedgeParityOk code.toNat = true ∧ (s.srv.act.get (chAct ch)).cand = none)
  ∧ (∃ (s : State) (ch : Fin 8) (code : BitVec 12) (apart : BitVec 32) (c : Nat), s.shadows = [] ∧ s.srvIs (chAct ch) .hunt = true ∧ s.demodulates ch = true ∧ wedgeParityOk code.toNat = true ∧ (s.srv.act.get (chAct ch)).cand = some c ∧ wedgeNumber code.toNat = (c + 1) % s.wedges (chAct ch) ∧ apart.toNat * s.wedges (chAct ch) = 16 * 65536 * s.rd R.SRV_FIELD_CFG_ratio)
  ∧ (∃ (s : State) (ch : Fin 8) (code : BitVec 12), (s.srvIs (chAct ch) .hunt = false ∨ s.demodulates ch = false ∨ wedgeParityOk code.toNat = false))
  ∧ (∃ (s : State) (x : Act), s.srvIs x .hunt = true)
  ∧ (∃ (s : State) (x : Act), s.shadows = [] ∧ s.srvIs x .follow = true ∧ s.srvCfg x R.SRV_WIN_CFG_follow_miss ≤ (s.srv.act.get x).miss)
  ∧ (∃ (s : State), s.shadows = []) :=
  ⟨⟨{ rg [(R.SRV_STAT_state_a, 3), (R.SRV_STAT_state_b, 3), (R.MSQ_GEO_w, 512), (R.SRV_CTL_en, 1), (R.SRV_CTL_act_a, 1), (R.RCH_CTL_en, 1), (R.GCK_CH_SEL_head, 1)] with positions := ⟨15, 15⟩ }, 1, 20, by decide +kernel⟩,
    ⟨{ rg [(R.SRV_STAT_state_a, 2), (R.SRV_STAT_state_b, 2), (R.MSQ_GEO_w, 512), (R.GCK_STAT_lock, 1)] with positions := ⟨15, 15⟩ }, 0, 20, by decide +kernel⟩,
    ⟨{ rg [(R.SRV_CTL_force_en, 0), (R.SRV_STAT_state_a, 3), (R.SRV_STAT_state_b, 3), (R.SRV_CTL_en, 1), (R.SRV_CTL_act_a, 1), (R.RCH_CTL_en, 1)] with srv := { SrvState.init with chan := Vector.replicate 8 { SrvChan.init with windowOpen := true } } }, 0, ⟨[], 0, 0, 0, 0, 0, 0, 0⟩, by decide +kernel⟩,
    ⟨{ rg [(R.SRV_STAT_state_a, 3), (R.SRV_STAT_state_b, 3), (R.SRV_CTL_en, 1), (R.SRV_CTL_act_a, 1), (R.RCH_CTL_en, 1), (R.SRV_WIN_CFG_sync_win, 8), (R.SRV_WIN_CFG_thr, 8), (R.ACT_STAT_state, 5)] with srv := { SrvState.init with chan := Vector.replicate 8 { SrvChan.init with windowOpen := true } }, act := { ActAll.init with wedgeOf := Vector.replicate 32 3, laneTrack := Vector.replicate 32 (some 7) } }, 0, ⟨[⟨0, 0⟩], 7, 15, 40000, 20000, 30000, 25000, 90⟩, ⟨0, 0⟩, 3, by decide +kernel⟩,
    ⟨{ rg [(R.SRV_STAT_state_a, 3), (R.SRV_STAT_state_b, 3), (R.SRV_CTL_en, 1), (R.SRV_CTL_act_a, 1), (R.RCH_CTL_en, 1), (R.SRV_WIN_CFG_sync_win, 8), (R.SRV_WIN_CFG_thr, 8)] with srv := { SrvState.init with chan := Vector.replicate 8 { SrvChan.init with windowOpen := true } }, act := { ActAll.init with wedgeOf := Vector.replicate 32 3 } }, 0, ⟨[⟨0, 0⟩], 7, 12, 40000, 20000, 30000, 25000, 90⟩, ⟨0, 0⟩, 3, by decide +kernel⟩,
    ⟨rg [(R.SRV_STAT_state_a, 1), (R.SRV_STAT_state_b, 1), (R.SRV_CTL_en, 1), (R.SRV_CTL_act_a, 1), (R.RCH_CTL_en, 1)], 0, 15, by decide +kernel⟩,
    ⟨{ rg [(R.SRV_STAT_state_a, 1), (R.SRV_STAT_state_b, 1), (R.SRV_CTL_en, 1), (R.SRV_CTL_act_a, 1), (R.RCH_CTL_en, 1), (R.MSQ_GEO_w, 512), (R.SRV_FIELD_CFG_ratio, 50)] with srv := { SrvState.init with act := ⟨{ SrvAct.init with cand := some 2 }, SrvAct.init⟩ } }, 0, 15, 102400, 2, by decide +kernel⟩,
    ⟨rg [], 0, 15, by decide +kernel⟩,
    ⟨rg [(R.SRV_STAT_state_a, 1), (R.SRV_STAT_state_b, 1), (R.SRV_CTL_en, 1), (R.SRV_CTL_act_a, 1), (R.RCH_CTL_en, 1)], .a, by decide +kernel⟩,
    ⟨{ rg [(R.SRV_STAT_state_a, 2), (R.SRV_WIN_CFG_follow_miss, 4)] with srv := { SrvState.init with act := ⟨{ SrvAct.init with miss := 20 }, SrvAct.init⟩ } }, .a, by decide +kernel⟩,
    ⟨rg [(R.SRV_STAT_state_b, 3)], by decide +kernel⟩⟩

/-- The conditions of the clauses of ControlEngine. -/
theorem wit_ControlEngine :
  (∃ (s : State) (k : Fin 24), s.slotOn k = true)
  ∧ (∃ (s : State) (k : Fin 24), s.slotOn k = false)
  ∧ (∃ (s : State) (k : Fin 24) (p : PendSample), s.shadows = [] ∧ s.cle.slots[k].pend = some p ∧ (∀ j : Fin 24, j.val < k.val → s.cle.slots[j].pend = none) ∧ 19 ≤ k.val ∧ p.valid = true ∧ s.rdBit R.CLE_SWAP_swap k.val = false ∧ s.rd (R.CLE_CFG_law.at k.val) = 1 ∧ s.rd (R.CLE_CFG_nbq.at k.val) = 0 ∧ s.slotSat k = 0)
  ∧ (∃ (s : State), ∀ k : Fin 24, s.cle.slots[k].pend = none)
  ∧ (∃ (s : State), s.reaches 27)
  ∧ (∃ (s : State) (k : Fin 24), s.reaches 27 ∧ s.rdB R.CLE_CTL_en = true ∧ s.rdB (R.CLE_CFG_en.at k.val) = false)
  ∧ (∃ (s : State) (k : Fin 24), s.reaches 27 ∧ s.shadows = [] ∧ s.slotOn k = true)
  ∧ (∃ (s : State), s.reaches 27)
  ∧ (∃ (s : State), s.reaches 27)
  ∧ (∃ (s : State), s.rdB R.CLE_CTL_en = true ∧ s.rdB R.CLE_TIMER_period = true)
  ∧ (∃ (s : State) (ns : BitVec 32), ns.toNat * s.rd R.CLE_REF_CFG_spd_ppr ≠ 0 ∧ 60000000000 % (ns.toNat * s.rd R.CLE_REF_CFG_spd_ppr) = 0)
  ∧ (∃ (s : State), s.cle.spdFollow = true)
  ∧ (∃ (s : State) (slot : BitVec 5), s.reaches 27 ∧ (s.lc = .manufacture ∨ s.lc = .service) ∧ (slot.toNat = 0 ∨ slot.toNat = 1 ∨ slot.toNat = 12 ∨ slot.toNat = 13))
  ∧ (∃ (s : State) (slot : BitVec 5), s.reaches 27 ∧ ((s.lc ≠ .manufacture ∧ s.lc ≠ .service) ∨ (slot.toNat ≠ 0 ∧ slot.toNat ≠ 1 ∧ slot.toNat ≠ 12 ∧ slot.toNat ≠ 13)) ∧ s.rdB R.SYS_CFG_ERR_valid = false) :=
  ⟨⟨rg [(R.CLE_CTL_en, 1), (R.CLE_CFG_en.at 14, 1)], 14, by decide +kernel⟩,
    ⟨rg [], 14, by decide +kernel⟩,
    ⟨{ rg [(R.CLE_CFG_law.at 20, 1), (R.CLE_BANK_coef.at (128 * 20 + 40), 1000), (R.CLE_BANK_coef.at (128 * 20 + 42), 4000000000), (R.CLE_BANK_coef.at (128 * 20 + 43), 2000000000), (R.CLE_TGT_tgt.at 20, 100000000)] with cle := { CleState.init with slots := CleState.init.slots.set 20 { CleSlot.init with pend := some ⟨5000, true, false⟩, fromY := false } } }, 20, ⟨5000, true, false⟩, by decide +kernel⟩,
    ⟨rg [], by decide +kernel⟩,
    ⟨rg [(R.CLE_CTL_en, 1), (R.CLE_CFG_en.at 3, 1), (R.CLE_CFG_auto_bank.at 14, 1)], by decide +kernel⟩,
    ⟨rg [(R.CLE_CTL_en, 1)], 12, by decide +kernel⟩,
    ⟨rg [(R.CLE_CTL_en, 1), (R.CLE_CFG_en.at 12, 1)], 12, by decide +kernel⟩,
    ⟨rg [], by decide +kernel⟩,
    ⟨rg [(R.CLE_CTL_en, 1), (R.CLE_CFG_en.at 17, 1), (R.CLE_CFG_trig.at 17, 1)], by decide +kernel⟩,
    ⟨rg [(R.CLE_CTL_en, 1), (R.CLE_TIMER_period, 5), (R.CLE_CFG_en.at 17, 1), (R.CLE_CFG_trig.at 17, 2)], by decide +kernel⟩,
    ⟨rg [(R.CLE_REF_CFG_spd_ppr, 1)], 10000000, by decide +kernel⟩,
    ⟨{ rg [] with cle := { CleState.init with spdFollow := true } }, by decide +kernel⟩,
    ⟨rg [(R.JIG_STAT_lc_state, 1)], 12, by decide +kernel⟩,
    ⟨rg [(R.JIG_STAT_lc_state, 1)], 2, by decide +kernel⟩⟩

/-- The conditions of the clauses of Actuators. -/
theorem wit_Actuators :
  (∃ (s : State), s.shadows = [])
  ∧ (∃ (s : State) (x : Act), s.reaches 29 ∧ s.actIs x .parked = true ∧ s.rdB R.SPM_STAT_lock = true ∧ s.srvIs x .off = false)
  ∧ (∃ (s : State) (x : Act), s.reaches 29 ∧ s.actIs x .parked = true ∧ (s.rdB R.SPM_STAT_lock = false ∨ s.srvIs x .off = true) ∧ s.rdB R.SYS_CFG_ERR_valid = false)
  ∧ (∃ (s : State) (x : Act), s.reaches 29 ∧ (s.actIs x .loading = true ∨ s.actTracks x = true))
  ∧ (∃ (s : State) (x : Act), s.reaches 29 ∧ s.actIs x .loading = false ∧ s.actTracks x = false)
  ∧ (∃ (s : State) (x : Act), s.actIs x .loading = true)
  ∧ (∃ (s : State) (x : Act), s.actIs x .retract = true ∧ (s.act.act.get x).vestSeen = true)
  ∧ (∃ (s : State) (x : Act), (s.actIs x .retract = false ∨ (s.act.act.get x).vestSeen = false))
  ∧ (∃ (s : State) (x : Act), s.actIs x .retract = true) :=
  ⟨⟨rg [(R.ACT_STAT_state.at 1, 5)], by decide +kernel⟩,
    ⟨rg [(R.ACT_STAT_state, 1), (R.SPM_STAT_lock, 1), (R.SRV_STAT_state_a, 3)], .a, by decide +kernel⟩,
    ⟨rg [(R.ACT_STAT_state, 1)], .a, by decide +kernel⟩,
    ⟨{ rg [(R.ACT_STAT_state, 5)] with positions := ⟨3, 3⟩ }, .a, by decide +kernel⟩,
    ⟨rg [], .a, by decide +kernel⟩,
    ⟨rg [(R.ACT_STAT_state, 2)], .a, by decide +kernel⟩,
    ⟨{ rg [(R.ACT_STAT_state, 6)] with positions := ⟨3, 3⟩, act := { ActAll.init with act := ⟨{ ActState.init with vestSeen := true }, ActState.init⟩, laneTrack := Vector.replicate 32 (some 5) } }, .a, by decide +kernel⟩,
    ⟨rg [], .a, by decide +kernel⟩,
    ⟨{ rg [(R.ACT_STAT_state, 6)] with positions := ⟨3, 3⟩ }, .a, by decide +kernel⟩⟩

/-- The conditions of the clauses of SpindleStates. -/
theorem wit_SpindleStates :
  (∃ (s : State), s.spm.bridge = false)
  ∧ (∃ (s : State), s.spm.bridge = true ∧ s.spm.braking = true)
  ∧ (∃ (s : State), s.spm.bridge = true ∧ s.spm.braking = false)
  ∧ (∃ (s : State), 48 ≤ s.spm.convRun ∧ s.spmIs .open = true ∧ s.rd R.SPM_CATCH_catch_rpm * 4294967296 ≤ s.spm.forced)
  ∧ (∃ (s : State), 48 ≤ s.spm.convRun ∧ s.spmIs .open = false)
  ∧ (∃ (s : State), s.spmIs .run = true ∧ (s.rd R.SPM_OBS_LOSS_loss_n ≤ s.spm.lossRun ∨ s.rd R.SPM_OBS_LOSS_loss_n ≤ s.spm.xchkRun) ∧ s.spm.gaugeValid = false)
  ∧ (∃ (s : State), s.spmIs .run = true ∧ (s.rd R.SPM_OBS_LOSS_loss_n ≤ s.spm.lossRun ∨ s.rd R.SPM_OBS_LOSS_loss_n ≤ s.spm.xchkRun) ∧ s.spm.gaugeValid = true)
  ∧ (∃ (s : State), s.rdB R.GCK_STAT_lock = false ∧ s.shadows = [])
  ∧ (∃ (s : State), s.rdB R.GCK_STAT_lock = true)
  ∧ (∃ (s : State), s.reaches 28 ∧ s.rdB R.SPM_TOK_held = true ∧ s.spmIs .idle = true)
  ∧ (∃ (s : State), s.reaches 28 ∧ s.rdB R.SPM_TOK_held = true ∧ s.spmIs .brake = true)
  ∧ (∃ (s : State), s.reaches 28 ∧ (s.rdB R.SPM_TOK_held = false ∨ (s.spmIs .idle = false ∧ s.spmIs .brake = false)) ∧ s.rdB R.SYS_CFG_ERR_valid = false)
  ∧ (∃ (s : State), s.reaches 28 ∧ s.headsParked = true ∧ (s.spmIs .measure = true ∨ s.spmIs .align = true ∨ s.spmIs .open = true ∨ s.spmIs .run = true ∨ s.spmIs .coast = true))
  ∧ (∃ (s : State), s.reaches 28 ∧ s.headsParked = false ∧ s.spmIs .run = true ∧ s.rdB R.SYS_CFG_ERR_valid = false)
  ∧ (∃ (s : State), (s.spmIs .measure = true ∨ (s.spmIs .brake = true ∧ s.rdB R.SPM_STAT_pending = true)) ∧ s.spm.alignWait = false ∧ s.arbOpen 1 = true)
  ∧ (∃ (s : State), (s.spmIs .measure = true ∨ (s.spmIs .brake = true ∧ s.rdB R.SPM_STAT_pending = true)) ∧ s.spm.alignWait = false ∧ s.arbOpen 1 = false)
  ∧ (∃ (s : State), s.spmIs .brake = true ∧ s.rdB R.SPM_STAT_pending = false)
  ∧ (∃ (s : State) (forward : Bool) (rpm : BitVec 16), s.spmIs .measure = true ∧ forward = true ∧ s.rd R.SPM_CATCH_catch_rpm ≤ rpm.toNat)
  ∧ (∃ (s : State) (forward : Bool) (rpm : BitVec 16), s.spmIs .measure = true ∧ forward = false ∧ s.rd R.SPM_CATCH_rev_rpm ≤ rpm.toNat)
  ∧ (∃ (s : State) (forward : Bool) (rpm : BitVec 16), s.spmIs .measure = true ∧ rpm.toNat < (if forward then s.rd R.SPM_CATCH_catch_rpm else s.rd R.SPM_CATCH_rev_rpm))
  ∧ (∃ (s : State), s.spmIs .measure = true)
  ∧ (∃ (s : State) (rpm : BitVec 16), s.spmIs .reverse = true ∧ rpm.toNat < s.rd R.SPM_CATCH_rev_rpm)
  ∧ (∃ (s : State) (rpm : BitVec 16), (s.spmIs .reverse = false ∨ s.rd R.SPM_CATCH_rev_rpm ≤ rpm.toNat))
  ∧ (∃ (s : State), s.spmIs .brake = true)
  ∧ (∃ (s : State), s.spmIs .align = true)
  ∧ (∃ (s : State), s.spmIs .open = true)
  ∧ (∃ (s : State), s.spmIs .coast = true)
  ∧ (∃ (s : State), s.rdB R.GCK_STAT_lock = true)
  ∧ (∃ (s : State), s.spm.gaugeValid = true ∧ s.rdB R.SPM_GANG_CFG_ofs_src = true ∧ s.spmIs .run = true ∧ s.rd R.SPM_STAT_ang_src = 2)
  ∧ (∃ (s : State), s.spm.gaugeValid = true ∧ s.rdB R.GCK_STAT_lock = false)
  ∧ (∃ (s : State), s.shadows = [] ∧ s.spmIs .latched = false)
  ∧ (∃ (s : State), s.shadows = [] ∧ s.spmIs .latched = true) :=
  ⟨⟨rg [], by decide +kernel⟩,
    ⟨{ rg [(R.SPM_BRAKE_ilim, 100)] with spm := { SpmState.init with bridge := true, braking := true, short := 9 } }, by decide +kernel⟩,
    ⟨{ rg [(R.CLE_CTL_en, 1), (R.CLE_CFG_en.at 2, 1), (R.CLE_CFG_en.at 3, 1), (R.SPM_STAT_state, 7), (R.SPM_STAT_ang_src, 2)] with spm := { SpmState.init with bridge := true } }, by decide +kernel⟩,
    ⟨{ rg [(R.SPM_STAT_state, 6), (R.SPM_CATCH_catch_rpm, 300)] with spm := { SpmState.init with convRun := 48, forced := 4294967296000 } }, by decide +kernel⟩,
    ⟨{ rg [(R.SPM_STAT_state, 7)] with spm := { SpmState.init with convRun := 48 } }, by decide +kernel⟩,
    ⟨{ rg [(R.SPM_STAT_state, 7), (R.SPM_OBS_LOSS_loss_n, 4)] with spm := { SpmState.init with lossRun := 250 } }, by decide +kernel⟩,
    ⟨{ rg [(R.SPM_STAT_state, 7), (R.SPM_STAT_ang_src, 2), (R.SPM_OBS_LOSS_loss_n, 4)] with spm := { SpmState.init with lossRun := 250, gaugeValid := true } }, by decide +kernel⟩,
    ⟨rg [(R.GCK_STAT_dp_src, 2), (R.GCK_DPHASE_dphase, 99)], by decide +kernel⟩,
    ⟨rg [(R.GCK_STAT_lock, 1)], by decide +kernel⟩,
    ⟨rg [(R.SPM_TOK_held, 1), (R.SPM_STAT_state, 1)], by decide +kernel⟩,
    ⟨rg [(R.SPM_TOK_held, 1), (R.SPM_STAT_state, 3)], by decide +kernel⟩,
    ⟨rg [], by decide +kernel⟩,
    ⟨rg [(R.SPM_STAT_state, 7)], by decide +kernel⟩,
    ⟨rg [(R.SPM_STAT_state, 7), (R.ACT_STAT_state, 5)], by decide +kernel⟩,
    ⟨rg [(R.SPM_STAT_state, 2), (R.SPM_START_align_i, 5)], by decide +kernel⟩,
    ⟨{ rg [(R.SPM_STAT_state, 2), (R.SPM_START_align_i, 5)] with pwr := { PwrState.init with queue := [⟨.spm, 1, 5⟩] } }, by decide +kernel⟩,
    ⟨rg [(R.SPM_STAT_state, 3)], by decide +kernel⟩,
    ⟨rg [(R.SPM_STAT_state, 2)], true, 3000, by decide +kernel⟩,
    ⟨rg [(R.SPM_STAT_state, 2)], false, 3000, by decide +kernel⟩,
    ⟨rg [(R.SPM_STAT_state, 2), (R.SPM_CATCH_catch_rpm, 100)], true, 3, by decide +kernel⟩,
    ⟨rg [(R.SPM_STAT_state, 2)], by decide +kernel⟩,
    ⟨rg [(R.SPM_STAT_state, 4), (R.SPM_CATCH_rev_rpm, 100)], 5, by decide +kernel⟩,
    ⟨rg [], 5, by decide +kernel⟩,
    ⟨rg [(R.SPM_STAT_state, 3)], by decide +kernel⟩,
    ⟨rg [(R.SPM_STAT_state, 5)], by decide +kernel⟩,
    ⟨rg [(R.SPM_STAT_state, 6)], by decide +kernel⟩,
    ⟨rg [(R.SPM_STAT_state, 8)], by decide +kernel⟩,
    ⟨rg [(R.GCK_STAT_lock, 1)], by decide +kernel⟩,
    ⟨{ rg [(R.SPM_STAT_state, 7), (R.SPM_STAT_ang_src, 2), (R.SPM_GANG_CFG_ofs_src, 1)] with spm := { SpmState.init with gaugeValid := true } }, by decide +kernel⟩,
    ⟨{ rg [(R.SPM_STAT_state, 7), (R.SPM_STAT_ang_src, 3), (R.SPM_STAT_obs_conv, 1)] with spm := { SpmState.init with gaugeValid := true } }, by decide +kernel⟩,
    ⟨rg [(R.SPM_STAT_state, 7), (R.SPM_CTL_en, 1)], by decide +kernel⟩,
    ⟨rg [(R.SPM_STAT_state, 10), (R.SPM_CTL_en, 1)], by decide +kernel⟩⟩

/-- The conditions of the clauses of Accumulators. -/
theorem wit_Accumulators :
  (∃ (s : State) (k : Fin 8) (x : Act) (slot : BitVec 17), s.reaches 30 ∧ s.rdB R.PAR_CTL_en = true ∧ s.accIs k .free = true ∧ (∀ j : Fin 8, j ≠ k → s.accIs j .free = true ∨ s.rd (accF R.PAR_ACC_CTL_act j) ≠ x.idx ∨ s.rd (accF R.PAR_ACC_CTL_slot j) ≠ slot.toNat))
  ∧ (∃ (s : State) (k : Fin 8), s.reaches 30 ∧ (s.rdB R.PAR_CTL_en = false ∨ s.accIs k .free = false) ∧ s.rdB R.SYS_CFG_ERR_valid = false)
  ∧ (∃ (s : State) (k : Fin 8) (x : Act) (slot : BitVec 17), s.reaches 30 ∧ s.rdB R.PAR_CTL_en = true ∧ s.accIs k .free = true ∧ (∀ j : Fin 8, j ≠ k → s.accIs j .free = true ∨ s.rd (accF R.PAR_ACC_CTL_act j) ≠ x.idx ∨ s.rd (accF R.PAR_ACC_CTL_slot j) ≠ slot.toNat))
  ∧ (∃ (s : State) (k : Fin 8) (x : Act) (slot : BitVec 17), s.reaches 30 ∧ s.rdB R.PAR_CTL_en = true ∧ s.accIs k .damaged = true ∧ s.rd (accF R.PAR_ACC_CTL_act k) = x.idx ∧ s.rd (accF R.PAR_ACC_CTL_slot k) = slot.toNat)
  ∧ (∃ (s : State) (k : Fin 8), s.reaches 30 ∧ s.rdB R.PAR_CTL_en = true ∧ s.accIs k .rebuilding = true ∧ s.accLanes k = 0)
  ∧ (∃ (s : State) (k : Fin 8), s.reaches 30 ∧ s.rdB R.PAR_CTL_en = true ∧ s.accIs k .attached = true ∧ s.accLanes k = 0)
  ∧ (∃ (s : State) (k : Fin 8) (x : Act) (slot : BitVec 17), s.reaches 30 ∧ s.rdB R.PAR_CTL_en = true ∧ s.accIs k .free = true ∧ (∀ j : Fin 8, j ≠ k → s.accIs j .free = true ∨ s.rd (accF R.PAR_ACC_CTL_act j) ≠ x.idx ∨ s.rd (accF R.PAR_ACC_CTL_slot j) ≠ slot.toNat))
  ∧ (∃ (s : State) (k : Fin 8), s.reaches 30 ∧ s.rdB R.PAR_CTL_en = true ∧ s.accIs k .checking = true ∧ s.accLanes k = 0)
  ∧ (∃ (s : State) (k : Fin 8), s.rdB (accF R.PAR_ACC_STAT_scan_busy k) = true)
  ∧ (∃ (s : State) (k : Fin 8), s.rdB (accF R.PAR_ACC_STAT_scan_busy k) = false)
  ∧ (∃ (s : State) (k : Fin 8), s.reaches 30 ∧ s.rdB R.PAR_CTL_en = true ∧ s.accIs k .free = false ∧ s.accLanes k = 0)
  ∧ (∃ (s : State) (k : Fin 8), s.reaches 30 ∧ s.rdB R.PAR_CTL_en = true ∧ s.accLanes k ≠ 0 ∧ s.rdB R.SYS_CFG_ERR_valid = false)
  ∧ (∃ (s : State) (x : Act), s.par.walk.get x = none)
  ∧ (∃ (s : State) (x : Act) (w : WalkState), s.par.walk.get x = some w ∧ w.targets = [])
  ∧ (∃ (s : State) (x : Act) (w : WalkState) (v : Nat) (b : Nat), s.par.walk.get x = some w ∧ w.targets ≠ [] ∧ w.left = [v] ∧ w.again = [] ∧ w.retried = false ∧ s.walkNeeds x w v = [b]) :=
  ⟨⟨rg [(R.PAR_CTL_en, 1)], 3, .b, 77, by decide +kernel⟩,
    ⟨rg [(R.PAR_CTL_en, 1), (R.PAR_ACC_STAT_state.at 3, 3)], 3, by decide +kernel⟩,
    ⟨rg [(R.PAR_CTL_en, 1)], 3, .b, 77, by decide +kernel⟩,
    ⟨rg [(R.PAR_CTL_en, 1), (R.PAR_ACC_STAT_state.at 3, 5), (R.PAR_ACC_CTL_act.at 3, 1), (R.PAR_ACC_CTL_slot.at 3, 77)], 3, .b, 77, by decide +kernel⟩,
    ⟨rg [(R.PAR_CTL_en, 1), (R.PAR_ACC_STAT_state.at 3, 2)], 3, by decide +kernel⟩,
    ⟨rg [(R.PAR_CTL_en, 1), (R.PAR_ACC_STAT_state.at 3, 1)], 3, by decide +kernel⟩,
    ⟨rg [(R.PAR_CTL_en, 1)], 3, .b, 77, by decide +kernel⟩,
    ⟨rg [(R.PAR_CTL_en, 1), (R.PAR_ACC_STAT_state.at 3, 4)], 3, by decide +kernel⟩,
    ⟨{ rg [(R.PAR_CTL_en, 1), (R.PAR_ACC_STAT_scan_busy.at 0, 1), (R.PAR_ACC_STAT_hw.at 0, 4)] with dram := [(5000, 9)] }, 0, by decide +kernel⟩,
    ⟨rg [], 0, by decide +kernel⟩,
    ⟨rg [(R.PAR_CTL_en, 1), (R.PAR_ACC_STAT_state.at 3, 1), (R.PAR_ACC_STAT_state.at 2, 1)], 3, by decide +kernel⟩,
    ⟨{ rg [(R.PAR_CTL_en, 1), (R.PAR_ACC_STAT_state.at 3, 1)] with par := { ParState.init with bind := Vector.replicate 8 (some ⟨3, .p, true, false⟩) } }, 3, by decide +kernel⟩,
    ⟨rg [], .a, by decide +kernel⟩,
    ⟨{ rg [(R.PAR_STAT_wlk_a, 1)] with par := { ParState.init with walk := ⟨some ⟨[], false, 0, [], [], false, []⟩, none⟩ } }, .a, ⟨[], false, 0, [], [], false, []⟩, by decide +kernel⟩,
    ⟨{ ls [(R.PAR_GEO_n, 3), (R.PAR_REMAP_BASE_base, 1)] with geom := { Geometry.init with n := 3, usable := 8, annuli := [⟨0, 100, 0, 0, 4, 4, 10, 8, 0, 0⟩] }, dram := [(8, 5)], par := { ParState.init with walk := ⟨some ⟨[⟨0, 5, 0, 0, none, 0⟩], false, 0, [1], [], false, []⟩, none⟩ } }, .a, ⟨[⟨0, 5, 0, 0, none, 0⟩], false, 0, [1], [], false, []⟩, 1, 0, by decide +kernel⟩⟩

/-- The conditions of the clauses of HeadsAndGroups. -/
theorem wit_HeadsAndGroups :
  (∃ (s : State) (h : Fin 32), s.headFitted h.val = true ∧ s.rdBit R.PAR_RET_ret h.val = false ∧ s.retiredOn (s.headAct h.val) < 2)
  ∧ (∃ (s : State) (h : Fin 32), (s.headFitted h.val = false ∨ s.rdBit R.PAR_RET_ret h.val = true ∨ 2 ≤ s.retiredOn (s.headAct h.val)))
  ∧ (∃ (s : State) (index : BitVec 21) (surface : BitVec 4) (position : BitVec 17), index.toNat < s.geom.usable * (2 * s.geom.n) ∧ remapState (s.remapEntry index.toNat) ≠ .lent ∧ s.placeNext (if index.toNat % (2 * s.geom.n) < s.geom.n then .a else .b) surface.toNat position.toNat = true ∧ Memory.wf s.dram = true ∧ s.rdB R.JIG_GOLD_BASE_lock = false)
  ∧ (∃ (s : State) (k : Fin 8) (x : Act) (slot : BitVec 17), s.reaches 30 ∧ s.rdB R.PAR_CTL_en = true ∧ s.groupSealed x slot.toNat = true ∧ s.accIs k .free = true)
  ∧ (∃ (s : State) (k : Fin 8) (x : Act) (slot : BitVec 17), s.rdB R.PAR_CTL_en = true ∧ s.accOf x slot.toNat = some k ∧ s.accIs k .checking = true ∧ s.accLanes k = 0)
  ∧ (∃ (s : State) (k : Fin 8) (x : Act) (slot : BitVec 17) (unrecovered : List Nat), s.rdB R.PAR_CTL_en = true ∧ s.accOf x slot.toNat = some k ∧ s.accIs k .checking = true ∧ s.accLanes k = 0 ∧ s.rdB (accF R.PAR_ACC_STAT_scan_busy k) = false ∧ ∀ b ∈ s.nonZeroSectors k, b ∈ unrecovered)
  ∧ (∃ (s : State) (k : Fin 8) (x : Act) (slot : BitVec 17), s.host.groups.contains (x.idx, slot.toNat) = true ∧ s.scanned = true ∧ s.reaches 30 ∧ s.rdB R.PAR_CTL_en = true ∧ s.accIs k .free = true ∧ (∀ j : Fin 8, j ≠ k → s.accIs j .free = true ∨ s.rd (accF R.PAR_ACC_CTL_act j) ≠ x.idx ∨ s.rd (accF R.PAR_ACC_CTL_slot j) ≠ slot.toNat))
  ∧ (∃ (s : State) (k : Fin 8) (x : Act) (slot : BitVec 17), s.host.groups.contains (x.idx, slot.toNat) = true ∧ s.scanned = true ∧ s.rdB R.PAR_CTL_en = true ∧ s.accIs k .rebuilding = true ∧ s.accLanes k = 0 ∧ s.accOf x slot.toNat = some k) :=
  ⟨⟨{ rg [(R.PAR_GEO_n, 3), (R.PAR_REMAP_BASE_base, 1)] with positions := ⟨7, 7⟩, geom := { Geometry.init with n := 3, usable := 2, annuli := [⟨0, 100, 0, 0, 4, 4, 4, 2, 0, 0⟩] } }, 4, by decide +kernel⟩,
    ⟨rg [], 4, by decide +kernel⟩,
    ⟨{ rg [(R.PAR_GEO_n, 3), (R.PAR_REMAP_BASE_base, 1)] with positions := ⟨7, 7⟩, geom := { Geometry.init with n := 3, usable := 2, annuli := [⟨0, 100, 0, 0, 4, 4, 4, 2, 0, 0⟩] } }, 4, 1, 2, by decide +kernel⟩,
    ⟨{ rg [(R.PAR_CTL_en, 1), (R.PAR_GEO_n, 3), (R.PAR_REMAP_BASE_base, 1)] with dram := [(0, 5), (4, 5), (8, 5)] }, 3, .a, 0, by decide +kernel⟩,
    ⟨rg [(R.PAR_CTL_en, 1), (R.PAR_ACC_STAT_state.at 3, 4), (R.PAR_ACC_CTL_slot.at 3, 6)], 3, .a, 6, by decide +kernel⟩,
    ⟨rg [(R.PAR_CTL_en, 1), (R.PAR_ACC_STAT_state.at 3, 4), (R.PAR_ACC_CTL_slot.at 3, 6)], 3, .a, 6, [], by decide +kernel⟩,
    ⟨{ rg [(R.PAR_CTL_en, 1)] with host := { HostState.init with groups := [(0, 6)] } }, 3, .a, 6, by decide +kernel⟩,
    ⟨{ rg [(R.PAR_CTL_en, 1), (R.PAR_ACC_STAT_state.at 3, 2), (R.PAR_ACC_CTL_slot.at 3, 6)] with host := { HostState.init with groups := [(0, 6)] } }, 3, .a, 6, by decide +kernel⟩⟩

/-- The conditions of the frames: every command of them answers a next state, here after reset. -/
theorem wit_frames : ∀ c : Instr, ∃ t, exec c State.reset = .next t := fun c => exec_next c State.reset

/-- The conditions of MemoryStores. -/
theorem wit_MemoryStores : ∀ c : Instr, ∃ s t : State, Memory.wf s.dram = true ∧ exec c s = .next t :=
  fun c => let ⟨t, h⟩ := exec_next c State.reset; ⟨State.reset, t, by decide +kernel, h⟩

/-- The conditions of StepRunsFront, with a command waiting and with none. -/
theorem wit_StepRunsFront : ∃ (s r : State) (c : Instr), s.pending = [c] ∧ r.pending = [] :=
  ⟨{ State.reset with pending := [.warmAssert] }, State.reset, .warmAssert, rfl, rfl⟩

/-- The conditions of StoresKept, with a command waiting. -/
theorem wit_StoresKept : ∃ s t : State, s.pending = [.warmAssert] ∧ s.storesWf ∧ step s = .next t :=
  ⟨{ State.reset with pending := [.warmAssert] }, _, rfl, by unfold State.storesWf; decide +kernel, rfl⟩

/-- The conditions of FusesOneWay: a slot programmed and revoked, and the service key begun. -/
theorem wit_FusesOneWay : ∃ (c : Instr) (s t : State), exec c s = .next t ∧ s.fuses.svcBegun = true ∧ s.fuses.slots[(1 : Fin 4)].revoked = true
    ∧ s.fuses.slots[(1 : Fin 4)].begun = true :=
  ⟨.warmAssert, { State.reset with fuses := { Fuses.init with slots := Vector.replicate 4 ⟨5, true, true, true⟩, svcBegun := true } }, _, rfl,
    by decide +kernel⟩

/-! ## Ill-formed commands -/

/-- A ring frame. -/
def fr (n : Nat) : RingFrame := { type := 1, dst := 0, src := 0, hops := 0, seq := 0, payload := List.replicate n 0 }

/-- An item descriptor of so many bytes and lanes. -/
def item (n lanes : Nat) : ItemSpec := { act := .a, lanes := lanes, track := 0, phase := 0, bands := [], desc := List.replicate n 0 }

/-- One ill-formed command for each check on register addresses, decodes, wedges and images. -/
theorem test_wf_refuses_addresses_and_samples :
    Instr.wf (.registerWrite .ac0 0x40000002 0) = false ∧ Instr.wf (.registerWrite .ac0 0x100000000 0) = false
      ∧ Instr.wf (.debugPortAccess true 1 0) = false ∧ Instr.wf (.pairLowRead .ac0 6) = false
      ∧ Instr.wf (.wedgeBoundary 0 4096) = false ∧ Instr.wf (.thmConversion []) = false ∧ Instr.wf (.pmonCount []) = false
      ∧ Instr.wf (.vcmPwmPeriod .a 0 0 0 0 []) = false ∧ Instr.wf (.tapExtest [true] []) = false := by decide +kernel

/-- One for each check on host commands, items, blocks, frames, cache lines and DRAM words. -/
theorem test_wf_refuses_data :
    Instr.wf (.commandFetch 0 false (.write 1 0 [] ⟨false, false, false, false, false, 0, [], []⟩)) = false
      ∧ Instr.wf (.commandFetch 0 false (.exist (List.replicate 256 0))) = false
      ∧ Instr.wf (.commandFetch 0 false (.download 0 [1, 2, 3])) = false
      ∧ Instr.wf (.nvmRead 0 [item 255 1] []) = false ∧ Instr.wf (.nvmRead 0 [item 256 0] []) = false
      ∧ Instr.wf (.nvmRead 0 [item 256 5] []) = false ∧ Instr.wf (.nvmRead 0 [] [(0, some [1])]) = false
      ∧ Instr.wf (.getLogEvents 0 [[1]]) = false ∧ Instr.wf (.frameAck (fr 257)) = false
      ∧ Instr.wf (.frameAck { fr 0 with type := 256 }) = false
      ∧ Instr.wf (.bufRequest .hif false 0 (.write []) .none) = false ∧ Instr.wf (.bufRequest .hif false 0 (.read 129) .none) = false
      ∧ Instr.wf (.drcRequest false 0 (.write 0 []) .none) = false
      ∧ Instr.wf (.sectorDecodeDone 0 ⟨true, 0, []⟩ ⟨0, 0, 0, []⟩) = false := by decide +kernel

/-! ## The worked examples of the spec -/

/-- The state that a command gives. -/
def after (o : Out) : State := match o with
  | .next t => t
  | _ => State.reset

/-- RCH2 enabled, and source 0 sent to AC0 with priority 3. -/
def staticState : State :=
  let s := rg [(R.RCH_CTL_en.inst 2, 1), (R.SYS_IRQ_CFG_prio, 3), (R.SYS_IRQ_CFG_target, 1)]
  { s with copy := s.regs }

/-- spec/01_architecture.md, a STATIC error: RT0's write of a Static field of RCH2 is captured as 0x860A_0014 at the offset of the field,
counted, and pending on source 0. -/
theorem test_static_error :
    let t := after (exec (.registerWrite .rt0 0x40220014 0xFFFFFFFF) staticState)
    t.wordReads 0 0x10 = 0x860A0014 ∧ t.rd R.SYS_CFG_ERR_CNT_count = 1 ∧ t.irqPendWord 0 = 1 := by decide +kernel

/-- The same example: AC0's claim then returns 0x8000_0000. -/
theorem test_static_error_claim :
    (after (exec (.irqClaim 0) (after (exec (.registerWrite .rt0 0x40220014 0xFFFFFFFF) staticState)))).reply = 0x80000000 := by decide +kernel

/-- V64's layout up to annulus A06. -/
def layout : Geometry :=
  { Geometry.init with
    w := 640, n := 12, g := 128, usable := 26000, kvBase := 17000
    annuli := (List.range 6).map (fun i => (⟨25000 + i * 26624, 26624, 0, 0, 1, 1, 640, 640, i * 640, 10⟩ : AnnulusRec))
      ++ [⟨184744, 26624, 2052587520, 46189, 798, 42, 605, 603, 3836, 10⟩] }

/-- A state with that layout and 12 heads on each actuator. -/
def laid (l : List (Field × Nat)) : State :=
  { rg ([(R.GCK_RATIO_ratio.at 6, 2052587520), (R.MSQ_GEO_g.inst 1, 128), (R.MSQ_GEO_w.inst 1, 640), (R.PAR_GEO_n, 12)] ++ l) with
    geom := layout, positions := ⟨0xFFF, 0xFFF⟩ }

/-- spec/03_media_layout.md, one logical block: zone 41,237 lies in slot 4,123 on actuator B, its bands have entries 98,969 and 98,970, its
block 20,000 is on H17, the slot's first track is 197,372 in A06, and pointer 20,224 is 10,112 in both bands. -/
theorem test_one_logical_block :
    (laid []).zoneSlot 41237 = 4123 ∧ (laid []).zoneAct 41237 = 1 ∧ (laid []).zoneBands 41237 = (98969, 98970)
      ∧ (laid []).blockHead 41237 20000 = 17 ∧ (laid []).slotPlace 4123 = some (6, 197372) ∧ bandPtrs 20224 = (10112, 10112)
      ∧ zonePtr 10112 10112 = 20224 := by decide +kernel

/-- spec/04_gauge_timebase.md: sync cell 39,088 of wedge 472 in A06 is at Drive Phase 3,173,297,245 in the head's frame. -/
theorem test_sync_cell_phase : (laid []).headPhase .b 6 472 39088 = 3173297245 := by decide +kernel

/-- spec/05_read_channels.md: the report reads 0x1818_41B8 and 0x9489_7000. -/
theorem test_recovery_report :
    let s := State.reset
    let t := State.reportShow 5 { s with rch := s.rch.set 5 { s.rch[5] with reports := [⟨197384, 440, 1, 4, 17, 11, 4⟩] } }
    t.wordReads 13 R.RCH_RPT_LO_track.off = 0x181841B8 ∧ t.wordReads 13 R.RCH_RPT_HI_valid.off = 0x94897000 := by decide +kernel

/-- spec/08_servo_demod.md: H17's Gray field, wedge field and bursts give wedge 447 and position 197,384 × 256 + 13. -/
theorem test_servo_position :
    grayToBin 0x02828C 24 = 197384 ∧ wedgeParityOk 0x6FC = true ∧ wedgeNumber 0x6FC = 447
      ∧ State.reset.posOf 197384 100 900 = 50530317 := by decide +kernel

/-- The same example: H17's offset at wedge 447 is 3,600. -/
theorem test_servo_offset :
    (laid [(R.SRV_CTL_rofs_valid, 1), (R.SRV_ROFS0_ofs.at (64 * 17 + 6), 4352), (R.SRV_ROFS1_slope.at (64 * 17 + 6), 2 ^ 32 - 64),
      (R.SRV_RECC_c1.at 17, 120), (R.SRV_RECC_s1.at 17, 2 ^ 16 - 80), (R.SRV_REF_CFG_ref_b, 12)]).roff 17 197384 447 true = 3600 := by
  decide +kernel

/-- A word of slot 14's banks. -/
def coef14 (b j : Nat) : Field := R.CLE_BANK_coef.at (128 * 14 + 64 * b + j)

/-- The speed loop of the worked example before its first sample on the index. -/
def speedLoop : State :=
  rg [(R.CLE_CTL_en, 1), (R.CLE_CFG_en.at 14, 1), (R.CLE_CFG_law.at 14, 1), (R.CLE_CFG_auto_bank.at 14, 1), (R.CLE_TGT_tgt.at 14, 0x17B00000),
    (R.CLE_SSTAT_sat.at 14, 1), (R.CLE_S_HI_s.at 14, 48 * 65536), (coef14 0 40, 0x10000000), (coef14 0 41, 0x00040000),
    (coef14 0 42, 0xA0000000), (coef14 0 43, 0x60000000), (coef14 0 44, 0xA0000000), (coef14 0 45, 0x60000000), (coef14 1 40, 0x40000000),
    (coef14 1 41, 0x00600000), (coef14 1 42, 0xA0000000), (coef14 1 43, 0x60000000), (coef14 1 44, 0xC0000000), (coef14 1 45, 0x40000000)]

/-- spec/09_control_engine.md, the speed loop at gauge lock: the sum is rescaled and clamped to 0x1_5555_5555_5555, the output is 0.53125 and
the saturation ends. -/
theorem test_speed_loop :
    let t := State.slotCompute 14 ⟨0x17A00000, true, true⟩ speedLoop
    t.rd (R.CLE_U_u.at 14) = 0x44000000 ∧ t.slotSum 14 = 0x1555555555555 ∧ t.rd (R.CLE_SSTAT_sat.at 14) = 0 := by decide +kernel

/-- spec/11_slot_parity.md, a PARITY rung: byte 0 of H17's sector is 0x3A. -/
theorem test_two_erasures :
    let y := gfScale (gfInv (gfAlpha 4 1 ^^^ gfAlpha 6 1)) (xorBytes [0xDA] (gfScale (gfAlpha 4 1) [0x3F]))
    y = [0x05] ∧ xorBytes [0x3F] y = [0x3A] := by decide +kernel

/-- spec/12_host_interface.md: TLER 2 is 24 revolutions on V64, and TLER 1 is 12. -/
theorem test_tler :
    let f := fun (v : Word) => ({ rg [(R.GCK_RATE_CFG_jig_rpm, 7200)] with
      host := { HostState.init with feats := [{ fid := 5, nsid := 1, value := v, data := [] }] } } : State)
    (f 2).recoveryLimit 1 = 24 ∧ (f 1).recoveryLimit 1 = 12 := by decide +kernel

/-- spec/15_buffer_memory.md, write staging: 0x8A10_0000 is on channel 0 at 0x2772_4800, with its check slot at 0x2772_5D00. -/
theorem test_dram_address :
    drcChannel 0x8A100000 = 0 ∧ drcLocal 0x8A100000 = 0x22840000 ∧ drcDev 0x8A100000 = 0x27724800 ∧ drcChk 0x8A100000 = 0x27725D00 := by
  decide +kernel

/-- spec/16_power_states.md, Calm with a withdrawal: 117,964,837 ticks bridge Drive Time to 55,462,205,439,678 with remainder 25. -/
theorem test_bridge_time :
    let s := rg [(R.JIG_STRAP_xtal, 1)]
    let t := State.bridgeTime (1000 + 117964837) { s with pwr := { s.pwr with capDt := 51862204310528, capCount := 1000 } }
    t.driveTime = 55462205439678 ∧ t.rd R.PWR_DT_Q_frac = 25 ∧ t.rd R.PWR_DT_Q_q = 1 := by decide +kernel

/-- R336: CAP from the values of the table, put together by hand: MQES 0x0FFF, CQR bit 16, AMS bit 17, TO 0x78 in bits 31 to 24;
CSS bit 6 in bit 11 of the upper half, MPSMAX 4 in bits 23 to 20, CRMS in bits 28 and 27. R334: 0x1404 is the second doorbell of
queue 128, which port mode 1 has not. -/
theorem test_controller_registers :
    State.reset.ctrlWord 0 0 = 0x78030FFF ∧ State.reset.ctrlWord 0 4 = 0x18400800 ∧ State.reset.ctrlWord 0 0x68 = 0x00040078
    ∧ barPart false 0x1404 = .doorbell 128 true ∧ barPart true 0x1404 = .nothing ∧ barPart false 0x280F = .msixTable 128 := by
  decide +kernel

/-- R551, R547: held at POR the strobe lanes stand negative and the ring goes by; in Doldrums GPIO0 keeps its state and PWR_CORE_EN is
low; a slot unused holds its reset state while the part runs. -/
theorem test_output_pads :
    let d : State := { rg [(R.PWR_SLEEP_STAT_phase, 3)] with pwr := { PwrState.init with target := 2, coreEn := false } }
    let u : State := { rg [] with jig := { JigState.init with boot := .running } }
    State.reset.pad (.strobeLane 0) = .negative ∧ State.reset.pad .ringOut = .ringIn ∧ d.pad (.gpio 0) = .driven
    ∧ d.pad (.gpio 4) = .highZ ∧ d.pad .coreEnable = .low ∧ u.pad (.writeLane 7) = .idle ∧ u.pad (.flashSelect 1) = .driven := by
  decide +kernel

end Sys2Proof.Tests
end

/-! # Proofs: accesses to what is not there (R33, R50) and interrupt claims (R44) -/

namespace Sys2Proof.Machine

/-! ## What a command leaves alone -/

theorem State.fieldsKept_refl (s : State) (l : List Field) : s.fieldsKept l s := fun _ _ => rfl

/-- Fewer fields kept is a weaker frame. -/
theorem State.fieldsKept_mono {s t : State} {l l' : List Field} (h : s.fieldsKept l t) (hl : l ⊆ l') : s.fieldsKept l' t :=
  fun k hk => h k (fun hm => hk (List.map_subset Field.key hl hm))

/-- A write of a listed field stays within the frame. -/
theorem State.fieldsKept_wr {s t : State} {l : List Field} {f : Field} (n : Nat) (h : s.fieldsKept l t) (hf : f ∈ l) :
    s.fieldsKept l (t.wr f n) := by
  intro k hk
  have hne : k ≠ f.key := fun e => hk (e ▸ List.mem_map_of_mem hf)
  exact (regFind_regPut_ne t.regs _ hne).trans (h k hk)

/-! ## Status fields -/

/-- Setting a status field writes the field and touches the distributor (R47). -/
theorem State.setStatus_only (s : State) (f : Field) (v n : Nat) :
    s.setStatus f v n = { s.wr f v with irq := (s.setStatus f v n).irq } := by
  unfold State.setStatus
  split
  · rfl
  · exact State.statusRise_only _ _

@[simp] theorem State.setStatus_regs (s : State) (f : Field) (v n : Nat) : (s.setStatus f v n).regs = (s.wr f v).regs := by
  rw [State.setStatus_only]

@[simp] theorem State.rd_setStatus (s : State) (f g : Field) (v n : Nat) : (s.setStatus f v n).rd g = (s.wr f v).rd g :=
  State.rd_congr g (by rw [State.setStatus_regs])

/-- A status field set stays within a frame that lists it. -/
theorem State.fieldsKept_setStatus {s t : State} {l : List Field} {f : Field} (v n : Nat) (h : s.fieldsKept l t) (hf : f ∈ l) :
    s.fieldsKept l (t.setStatus f v n) := by
  intro k hk
  rw [State.setStatus_regs]
  exact State.fieldsKept_wr v h hf k hk

/-! ## The recorded error (R50) -/

/-- Counting an error leaves SYS_CFG_ERR.valid alone. -/
theorem State.rdB_valid_of_counted (s : State) :
    (s.inc R.SYS_CFG_ERR_CNT_count 1).rdB R.SYS_CFG_ERR_valid = s.rdB R.SYS_CFG_ERR_valid := by
  unfold State.rdB State.inc
  rw [State.rd_wr_ne _ _ (by decide)]

/-- An error while valid is 1: it is counted and sets overflow. -/
theorem State.cfgErr_of_valid {s : State} (c : ErrCause) (isWrite : Bool) (who : Init) (blk off : Nat)
    (h : s.rdB R.SYS_CFG_ERR_valid = true) :
    s.cfgErr c isWrite who blk off = (s.inc R.SYS_CFG_ERR_CNT_count 1).setStatus R.SYS_CFG_ERR_overflow 1 1 :=
  if_pos ((State.rdB_valid_of_counted s).trans h)

/-- An error while valid is 0: it is counted and captured. -/
theorem State.cfgErr_of_not_valid {s : State} (c : ErrCause) (isWrite : Bool) (who : Init) (blk off : Nat)
    (h : s.rdB R.SYS_CFG_ERR_valid = false) :
    s.cfgErr c isWrite who blk off =
      (((((((s.inc R.SYS_CFG_ERR_CNT_count 1).wr R.SYS_CFG_ERR_cause c.code).wrB R.SYS_CFG_ERR_write isWrite).wr
        R.SYS_CFG_ERR_initiator who.code).wr R.SYS_CFG_ERR_block blk).wr R.SYS_CFG_ERR_offset off).setStatus
        R.SYS_CFG_ERR_valid 1 0) := by
  have hv : ¬ (s.inc R.SYS_CFG_ERR_CNT_count 1).rdB R.SYS_CFG_ERR_valid = true := by
    rw [State.rdB_valid_of_counted, h]
    decide
  exact if_neg hv

/-- Recording an error touches the registers and the distributor alone. -/
theorem State.cfgErr_only (s : State) (c : ErrCause) (isWrite : Bool) (who : Init) (blk off : Nat) :
    s.cfgErr c isWrite who blk off =
      { s with regs := (s.cfgErr c isWrite who blk off).regs, irq := (s.cfgErr c isWrite who blk off).irq } := by
  cases h : s.rdB R.SYS_CFG_ERR_valid with
  | true => rw [State.cfgErr_of_valid c isWrite who blk off h, State.setStatus_only]; rfl
  | false => rw [State.cfgErr_of_not_valid c isWrite who blk off h, State.setStatus_only]; rfl

@[simp] theorem State.cfgErr_reply (s : State) (c : ErrCause) (isWrite : Bool) (who : Init) (blk off : Nat) :
    (s.cfgErr c isWrite who blk off).reply = s.reply := by rw [State.cfgErr_only]

/-- Every error is counted, captured or not. -/
theorem State.rd_cfgErr_count (s : State) (c : ErrCause) (isWrite : Bool) (who : Init) (blk off : Nat) :
    (s.cfgErr c isWrite who blk off).rd R.SYS_CFG_ERR_CNT_count
      = satAdd (2 ^ R.SYS_CFG_ERR_CNT_count.w - 1) (s.rd R.SYS_CFG_ERR_CNT_count) 1 := by
  have hcount : (s.inc R.SYS_CFG_ERR_CNT_count 1).rd R.SYS_CFG_ERR_CNT_count
      = satAdd (2 ^ R.SYS_CFG_ERR_CNT_count.w - 1) (s.rd R.SYS_CFG_ERR_CNT_count) 1 := by
    refine (State.rd_wr_same s _ _ (by decide)).trans (Nat.mod_eq_of_lt ?_)
    exact Nat.lt_of_le_of_lt (Nat.min_le_left _ _) (by decide)
  rw [← hcount]
  cases h : s.rdB R.SYS_CFG_ERR_valid with
  | true =>
    rw [State.cfgErr_of_valid c isWrite who blk off h, State.rd_setStatus, State.rd_wr_ne _ _ (by decide)]
  | false =>
    rw [State.cfgErr_of_not_valid c isWrite who blk off h, State.rd_setStatus]
    simp (disch := decide) only [State.wrB, State.rd_wr_ne]

/-- What an error captures while valid is 0. -/
theorem State.cfgErr_captures {s : State} (c : ErrCause) (isWrite : Bool) (who : Init) (blk off : Nat)
    (h : s.rdB R.SYS_CFG_ERR_valid = false) :
    (s.cfgErr c isWrite who blk off).rd R.SYS_CFG_ERR_valid = 1
      ∧ (s.cfgErr c isWrite who blk off).rd R.SYS_CFG_ERR_cause = c.code
      ∧ (s.cfgErr c isWrite who blk off).rd R.SYS_CFG_ERR_initiator = who.code
      ∧ (s.cfgErr c isWrite who blk off).rd R.SYS_CFG_ERR_offset = off % 65536
      ∧ (s.cfgErr c isWrite who blk off).rdB R.SYS_CFG_ERR_write = isWrite := by
  have hc : c.code % 2 ^ R.SYS_CFG_ERR_cause.w = c.code := by cases c <;> rfl
  have hw : who.code % 2 ^ R.SYS_CFG_ERR_initiator.w = who.code := by cases who <;> rfl
  rw [State.cfgErr_of_not_valid c isWrite who blk off h]
  simp (disch := decide) only [State.rdB, State.wrB, State.rd_setStatus, State.rd_wr_ne, State.rd_wr_same, hc, hw]
  exact ⟨rfl, trivial, trivial, rfl, by cases isWrite <;> rfl⟩

/-- Recording an error writes the fields of SYS_CFG_ERR and its counter alone. -/
theorem State.cfgErr_fieldsKept (s : State) (c : ErrCause) (isWrite : Bool) (who : Init) (blk off : Nat) :
    s.fieldsKept Touch.cfgErr (s.cfgErr c isWrite who blk off) := by
  have hcounted : s.fieldsKept Touch.cfgErr (s.inc R.SYS_CFG_ERR_CNT_count 1) :=
    State.fieldsKept_wr _ (s.fieldsKept_refl _) (by simp [Touch.cfgErr])
  cases h : s.rdB R.SYS_CFG_ERR_valid with
  | true =>
    rw [State.cfgErr_of_valid c isWrite who blk off h]
    exact State.fieldsKept_setStatus _ _ hcounted (by simp [Touch.cfgErr])
  | false =>
    rw [State.cfgErr_of_not_valid c isWrite who blk off h]
    have hcause := State.fieldsKept_wr c.code hcounted (f := R.SYS_CFG_ERR_cause) (by simp [Touch.cfgErr])
    have hwrite := State.fieldsKept_wr (if isWrite then 1 else 0) hcause (f := R.SYS_CFG_ERR_write) (by simp [Touch.cfgErr])
    have hwho := State.fieldsKept_wr who.code hwrite (f := R.SYS_CFG_ERR_initiator) (by simp [Touch.cfgErr])
    have hblk := State.fieldsKept_wr blk hwho (f := R.SYS_CFG_ERR_block) (by simp [Touch.cfgErr])
    have hoff := State.fieldsKept_wr off hblk (f := R.SYS_CFG_ERR_offset) (by simp [Touch.cfgErr])
    exact State.fieldsKept_setStatus 1 0 hoff (by simp [Touch.cfgErr])

/-! ## Accesses to what is not there (R33) -/

/-- One branch of the control-space map that names a block at the page's offset. -/
theorem offset_of_ite {c : Prop} [Decidable c] {place : Option (Nat × Nat)} {blk off : Nat} (h : ∀ p ∈ place, p.2 = off) :
    ∀ p ∈ (if c then some (blk, off) else place), p.2 = off := by
  split
  · rintro _ ⟨⟩
    rfl
  · exact h

/-- The offset in a block is the address within its 64 KiB page (R31). -/
theorem placeOf_off (addr : Nat) : ∀ p ∈ placeOf addr, p.2 = addr % 65536 := by
  unfold placeOf
  repeat' refine offset_of_ite ?_
  rintro _ ⟨⟩

/-- Nothing is at an address that no block occupies, that its block does not implement, or of a block that the Jig marks absent. -/
theorem State.registerAt_eq_none {s : State} {addr : Nat}
    (h : placeOf addr = none ∨ (placeOf addr).any (fun p => (fieldsAt p.1 p.2).isEmpty || s.absent p.1) = true) :
    s.registerAt addr = none := by
  unfold State.registerAt
  cases hp : placeOf addr with
  | none => rfl
  | some p =>
    have hgone : ((fieldsAt p.1 p.2).isEmpty || s.absent p.1) = true := by simpa [hp] using h
    exact if_pos hgone

/-- An unmapped access is recorded at its offset in the page, and a read of it returns 0. -/
theorem State.unmapped_eq (s : State) (isWrite : Bool) (who : Init) (addr : Nat) :
    ∃ blk, s.unmapped isWrite who addr =
      { s.cfgErr .unmapped isWrite who blk (addr % 65536) with reply := if isWrite then s.reply else 0 } := by
  have hrecord : ∃ blk, s.unmapped isWrite who addr =
      if isWrite then s.cfgErr .unmapped isWrite who blk (addr % 65536)
      else { s.cfgErr .unmapped isWrite who blk (addr % 65536) with reply := 0 } := by
    unfold State.unmapped
    cases hp : (if addr / 0x10000000 = 4 then placeOf addr else none) with
    | none => exact ⟨63, rfl⟩
    | some p =>
      have hoff : p.2 = addr % 65536 := placeOf_off addr p (Option.ite_none_right_eq_some.mp hp).2
      exact ⟨p.1, by rw [← hoff]⟩
  obtain ⟨blk, hblk⟩ := hrecord
  refine ⟨blk, hblk.trans ?_⟩
  cases isWrite with
  | true => rw [if_pos rfl, if_pos rfl, ← State.cfgErr_reply s .unmapped true who blk (addr % 65536)]
  | false => rfl

/-- An unmapped access touches the registers, the distributor and the reply alone. -/
theorem State.unmapped_only (s : State) (isWrite : Bool) (who : Init) (addr : Nat) :
    s.unmapped isWrite who addr =
      { s with regs := (s.unmapped isWrite who addr).regs, irq := (s.unmapped isWrite who addr).irq,
               reply := if isWrite then s.reply else 0 } := by
  obtain ⟨blk, hblk⟩ := s.unmapped_eq isWrite who addr
  rw [hblk, State.cfgErr_only]

/-- UNMAPPED_ACCESS at a control-space address where nothing is. -/
theorem exec_unmappedAccess_of_none {s : State} (who : Init) (isWrite : Bool) {addr : Nat} (hctl : addr / 0x10000000 = 4)
    (h : s.registerAt addr = none) :
    exec (.unmappedAccess who isWrite addr) s = .next (s.unmapped isWrite who addr) := by
  change execUnmappedAccess who isWrite addr s = _
  simp [execUnmappedAccess, hctl, h]

/-! ## Interrupt claims (R44) -/

/-- One comparison of a claim: the source found so far against the next one. -/
def State.irqPick (s : State) (best : Option Nat) (n : Nat) : Option Nat := some (best.elim n (fun k => s.irqBetter k n))

/-- The sources that a claim of core c chooses among. -/
def State.irqCandidates (s : State) (c : Nat) : List Nat := (List.range 256).filter (fun n => s.irqPending n && s.irqFor n c)

theorem State.irqBest_eq_foldl (s : State) (c : Nat) : s.irqBest c = (s.irqCandidates c).foldl s.irqPick none := rfl

theorem State.mem_irqCandidates {s : State} {c n : Nat} :
    n ∈ s.irqCandidates c ↔ n < 256 ∧ s.irqPending n = true ∧ s.irqFor n c = true := by
  simp [State.irqCandidates]

/-- A claim compares its sources in rising order. -/
theorem State.irqCandidates_pairwise_lt (s : State) (c : Nat) : (s.irqCandidates c).Pairwise (· < ·) :=
  List.pairwise_lt_range.filter _

/-- What the comparisons leave is what they began with or one of the sources compared. -/
theorem State.foldl_irqPick_mem (s : State) {l : List Nat} {best : Option Nat} {k : Nat}
    (h : l.foldl s.irqPick best = some k) : best = some k ∨ k ∈ l := by
  induction l generalizing best with
  | nil => exact .inl h
  | cons a l ih =>
    rcases ih h with hk | hk
    · cases best with
      | none => exact .inr (by simp_all [State.irqPick])
      | some b =>
        have hb : s.irqBetter b a = k := by simpa [State.irqPick] using hk
        unfold State.irqBetter at hb
        split at hb
        · exact .inr (by simp [hb])
        · exact .inl (by rw [hb])
    · exact .inr (List.mem_cons_of_mem a hk)

/-- A source stays the best while none that follows has a higher priority. -/
theorem State.foldl_irqPick_keep (s : State) {l : List Nat} {n : Nat}
    (h : ∀ m ∈ l, s.rd (R.SYS_IRQ_CFG_prio.at m) ≤ s.rd (R.SYS_IRQ_CFG_prio.at n)) : l.foldl s.irqPick (some n) = some n := by
  induction l with
  | nil => rfl
  | cons a l ih =>
    have hpick : s.irqPick (some n) a = some n := congrArg some (if_neg (Nat.not_lt.mpr (h a (by simp))))
    rw [List.foldl_cons, hpick]
    exact ih (fun m hm => h m (List.mem_cons_of_mem a hm))

/-- A source takes the place of any best of lower priority. -/
theorem State.irqPick_of_lower (s : State) {best : Option Nat} {n : Nat}
    (h : ∀ k, best = some k → s.rd (R.SYS_IRQ_CFG_prio.at k) < s.rd (R.SYS_IRQ_CFG_prio.at n)) : s.irqPick best n = some n := by
  cases best with
  | none => rfl
  | some k => exact congrArg some (if_pos (h k rfl))

/-- A claim takes the source of highest priority, the lowest number among equals: the sources before it in the order of the comparisons
have lower numbers, so lower priorities, and none after it has a higher one. -/
theorem State.irqBest_eq_some {s : State} {c n : Nat} (hn : n ∈ s.irqCandidates c)
    (hbest : ∀ m ∈ s.irqCandidates c, s.rd (R.SYS_IRQ_CFG_prio.at m) < s.rd (R.SYS_IRQ_CFG_prio.at n)
      ∨ (s.rd (R.SYS_IRQ_CFG_prio.at m) = s.rd (R.SYS_IRQ_CFG_prio.at n) ∧ n ≤ m)) :
    s.irqBest c = some n := by
  obtain ⟨before, after, hsplit⟩ := List.append_of_mem hn
  have horder := s.irqCandidates_pairwise_lt c
  rw [hsplit] at horder hbest
  have hlower : ∀ k ∈ before, s.rd (R.SYS_IRQ_CFG_prio.at k) < s.rd (R.SYS_IRQ_CFG_prio.at n) := by
    intro k hk
    have hkn : k < n := (List.pairwise_append.mp horder).2.2 k hk n (by simp)
    rcases hbest k (by simp [hk]) with hlt | ⟨-, hle⟩
    · exact hlt
    · omega
  have hafter : ∀ m ∈ after, s.rd (R.SYS_IRQ_CFG_prio.at m) ≤ s.rd (R.SYS_IRQ_CFG_prio.at n) := by
    intro m hm
    rcases hbest m (by simp [hm]) with hlt | ⟨heq, -⟩ <;> omega
  have hpick : s.irqPick (before.foldl s.irqPick none) n = some n := by
    refine s.irqPick_of_lower (fun k hk => hlower k ?_)
    simpa using s.foldl_irqPick_mem hk
  rw [State.irqBest_eq_foldl, hsplit, List.foldl_append, List.foldl_cons, hpick]
  exact s.foldl_irqPick_keep hafter

/-- A claim takes nothing where no source is pending for the core. -/
theorem State.irqBest_eq_none {s : State} {c : Nat} (h : s.irqCandidates c = []) : s.irqBest c = none := by
  rw [State.irqBest_eq_foldl, h, List.foldl_nil]

/-- The two fields of a claim register are apart. -/
theorem claimValid_key_ne_claimSource_key (c : Nat) : (R.SYS_IRQ_CLAIM_valid.at c).key ≠ (R.SYS_IRQ_CLAIM_source.at c).key := by
  simp only [Field.key, fieldKey, Field.at, R.SYS_IRQ_CLAIM_valid, R.SYS_IRQ_CLAIM_source]
  omega

/-- A claim register written holds both fields, each modulo its width. -/
theorem State.rd_claim_wr (s : State) (c v n : Nat) :
    ((s.wr (R.SYS_IRQ_CLAIM_valid.at c) v).wr (R.SYS_IRQ_CLAIM_source.at c) n).rd (R.SYS_IRQ_CLAIM_valid.at c) = v % 2
      ∧ ((s.wr (R.SYS_IRQ_CLAIM_valid.at c) v).wr (R.SYS_IRQ_CLAIM_source.at c) n).rd (R.SYS_IRQ_CLAIM_source.at c) = n % 256 := by
  constructor
  · rw [State.rd_wr_ne _ _ (claimValid_key_ne_claimSource_key c)]
    exact State.rd_wr_same s (R.SYS_IRQ_CLAIM_valid.at c) v (by decide : (1 : Nat) ≤ 32)
  · exact State.rd_wr_same _ (R.SYS_IRQ_CLAIM_source.at c) n (by decide : (8 : Nat) ≤ 32)

/-- Source n in service for core c, its latch cleared, and the reply naming it (R44, R573). -/
def State.irqServed (c n : Nat) (s : State) : State :=
  { s with irq := { s.irq with latch := s.irq.latch.filter (· != n), service := (n, c) :: s.irq.service }
           reply := BitVec.ofNat 32 (2 ^ 31 + n) }

/-- IRQ_CLAIM where source n is the best. -/
theorem exec_irqClaim_of_some {s : State} {core : Fin 6} {n : Nat} (h : s.irqBest core.val = some n) :
    exec (.irqClaim core) s = .next (((s.irqServed core.val n).wr (R.SYS_IRQ_CLAIM_valid.at core.val) 1).wr
      (R.SYS_IRQ_CLAIM_source.at core.val) n) := by
  change Host.Outcome.next (s.irqClaimOp core.val) = _
  rw [State.irqClaimOp, h]
  rfl

/-- IRQ_CLAIM where no source is pending for the core. -/
theorem exec_irqClaim_of_none {s : State} {core : Fin 6} (h : s.irqBest core.val = none) :
    exec (.irqClaim core) s = .next ((({ s with reply := 0 } : State).wr (R.SYS_IRQ_CLAIM_valid.at core.val) 0).wr
      (R.SYS_IRQ_CLAIM_source.at core.val) 0) := by
  change Host.Outcome.next (s.irqClaimOp core.val) = _
  rw [State.irqClaimOp, h]

/-- A source in service is not pending (R43). -/
theorem State.irqPending_eq_false_of_mem_service {s : State} {n c : Nat} (h : (n, c) ∈ s.irq.service) : s.irqPending n = false := by
  have hin : s.irqInService n = true := List.any_eq_true.mpr ⟨(n, c), h, beq_self_eq_true n⟩
  simp [State.irqPending, hin]

end Sys2Proof.Machine

/-! ## The statements -/

namespace Sys2Proof.Proofs
open Sys2Proof.Machine

/-- Settles O2: an access where nothing is records the error at its page offset and touches nothing but registers, distributor and reply. -/
theorem unmappedAccesses : Obligations.UnmappedAccesses := by
  unfold Obligations.UnmappedAccesses
  constructor
  · intro s who addr wr hctl hgone
    refine ⟨_, exec_unmappedAccess_of_none who wr hctl (State.registerAt_eq_none hgone), ?_⟩
    have honly := s.unmapped_only wr who addr
    obtain ⟨blk, hblk⟩ := s.unmapped_eq wr who addr
    have hrd : ∀ f, (s.unmapped wr who addr).rd f = (s.cfgErr .unmapped wr who blk (addr % 65536)).rd f :=
      fun f => by rw [hblk]; rfl
    have hkept : s.fieldsKept Touch.cfgErr (s.unmapped wr who addr) := by
      rw [hblk]
      exact s.cfgErr_fieldsKept .unmapped wr who blk (addr % 65536)
    have hreply : (s.unmapped wr who addr).reply = if wr then s.reply else 0 := by rw [hblk]
    refine ⟨?_, fun hv => ?_, fun hv => ?_, ?_, ?_, ?_, ?_⟩
    · rw [hrd]
      exact s.rd_cfgErr_count .unmapped wr who blk (addr % 65536)
    · obtain ⟨hvalid, hcause, hwho, hoff, -⟩ := State.cfgErr_captures .unmapped wr who blk (addr % 65536) hv
      simp only [hrd]
      exact ⟨hvalid, hcause, hwho, hoff.trans (Nat.mod_mod _ _)⟩
    · obtain ⟨-, -, -, -, hwrite⟩ := State.cfgErr_captures .unmapped wr who blk (addr % 65536) hv
      simpa only [State.rdB, hrd] using hwrite
    · rintro rfl
      exact hreply
    · rintro rfl
      exact hreply
    · rw [hreply]
      exact honly
    · exact State.fieldsKept_mono hkept (by simp [Touch.cfgErr])
  · intro s who addr hctl hgone
    have hnone : s.registerAt addr = none := by
      refine State.registerAt_eq_none (.inr ?_)
      cases hp : placeOf addr with
      | none => simp [hp] at hgone
      | some p =>
        have hempty : (fieldsAt p.1 p.2).isEmpty = true := by simpa [hp] using hgone
        simp [hempty]
    refine ⟨_, exec_unmappedAccess_of_none who false hctl hnone, ?_⟩
    rw [s.unmapped_only false who addr]
    exact ⟨rfl, rfl, rfl⟩

/-- Settles O4: the fold over the pending sources of the core in rising order keeps the best one. -/
theorem interruptClaims : Obligations.InterruptClaims := by
  unfold Obligations.InterruptClaims
  constructor
  · intro s core n hpend hfor hlt hbest
    have hsome : s.irqBest core.val = some n := by
      refine State.irqBest_eq_some (State.mem_irqCandidates.mpr ⟨hlt, hpend, hfor⟩) (fun m hm => ?_)
      obtain ⟨hm, hmp, hmf⟩ := State.mem_irqCandidates.mp hm
      exact hbest m (List.mem_range.mpr hm) hmp hmf
    obtain ⟨hvalid, hsource⟩ := (s.irqServed core.val n).rd_claim_wr core.val 1 n
    refine ⟨_, exec_irqClaim_of_some hsome, rfl, rfl, ?_, rfl, hvalid, hsource.trans (Nat.mod_eq_of_lt hlt), ?_⟩
    · exact State.irqPending_eq_false_of_mem_service (c := core.val) List.mem_cons_self
    · have hserved : s.fieldsKept [R.SYS_IRQ_CLAIM_valid.at core.val, R.SYS_IRQ_CLAIM_source.at core.val]
          (s.irqServed core.val n) := s.fieldsKept_refl _
      exact State.fieldsKept_wr n (State.fieldsKept_wr 1 hserved (by simp)) (by simp)
  · intro s core hidle
    have hempty : s.irqCandidates core.val = [] := by
      refine List.eq_nil_iff_forall_not_mem.mpr (fun m hm => ?_)
      obtain ⟨hm, hmp, hmf⟩ := State.mem_irqCandidates.mp hm
      simp [hidle m (List.mem_range.mpr hm) hmp] at hmf
    obtain ⟨hvalid, -⟩ := ({ s with reply := 0 } : State).rd_claim_wr core.val 0 0
    exact ⟨_, exec_irqClaim_of_none (State.irqBest_eq_none hempty), rfl, rfl, hvalid⟩

end Sys2Proof.Proofs

/-! # Proofs: the life cycle sensed when a reset is released (R73) -/

namespace Sys2Proof.Machine

/-! ## What leaves the fuses and the registers of other blocks alone -/

/-- t has the fuses of s, and outside the listed blocks the registers of s. -/
def State.fusesKept (l : List Nat) (s t : State) : Prop := s.blocksKept l t ∧ t.fuses = s.fuses

/-- An update of neither registers nor fuses. -/
theorem State.fusesKept_of_eq {l : List Nat} {s t : State} (hr : t.regs = s.regs) (hf : t.fuses = s.fuses) : s.fusesKept l t :=
  ⟨fun _ _ => by rw [hr], hf⟩

theorem State.fusesKept_refl (s : State) (l : List Nat) : s.fusesKept l s := State.fusesKept_of_eq rfl rfl

theorem State.fusesKept_trans {l : List Nat} {s t u : State} (h : s.fusesKept l t) (h' : t.fusesKept l u) : s.fusesKept l u :=
  ⟨fun k hk => (h'.1 k hk).trans (h.1 k hk), h'.2.trans h.2⟩

/-- The key of a field names the field's block. -/
theorem keyBlk_key {f : Field} (ho : f.off < 65536) (hl : f.lo < 32) : keyBlk f.key = f.blk := by
  simp only [keyBlk, Field.key, fieldKey]
  omega

/-- A write of a field stays within the field's block. -/
theorem State.wr_fusesKept {l : List Nat} {f : Field} (s : State) (n : Nat) (ho : f.off < 65536) (hl : f.lo < 32) (hb : f.blk ∈ l) :
    s.fusesKept l (s.wr f n) := by
  refine ⟨fun k hk => regFind_regPut_ne s.regs _ ?_, rfl⟩
  rintro rfl
  exact hk ((keyBlk_key ho hl).symm ▸ hb)

theorem State.raise_fusesKept (s : State) (l : List Nat) (n : Nat) : s.fusesKept l (s.raise n) :=
  State.fusesKept_of_eq (s.raise_regs n) (s.raise_fuses n)

theorem State.when_fusesKept {l : List Nat} (s : State) {c : Prop} [Decidable c] {f : State → State} (h : s.fusesKept l (f s)) :
    s.fusesKept l (s.when c f) := by
  by_cases hc : c
  · rwa [State.when_pos s f hc]
  · rw [State.when_neg s f hc]
    exact s.fusesKept_refl l

theorem State.forEach_fusesKept {α : Type} {l : List Nat} (s : State) (xs : List α) {f : α → State → State}
    (h : ∀ x ∈ xs, ∀ t : State, t.fusesKept l (f x t)) : s.fusesKept l (s.forEach xs f) :=
  State.forEach_keeps (s.fusesKept l) xs f s (s.fusesKept_refl l) (fun x hx t ht => State.fusesKept_trans ht (h x hx t))

/-- The life cycle is read from JIG, block 1. -/
theorem State.fusesKept_lc {l : List Nat} {s t : State} (h : s.fusesKept l t) (hl : 1 ∉ l) : t.lc = s.lc :=
  congrArg Lc.ofCode (State.rd_congr R.JIG_STAT_lc_state (h.1 _ hl))

/-! ## A store of the recorder in service again (R525, R530): only EVR, block 4, and FRK, block 36, are written -/

/-- An event posted to a controller touches the host side alone (R360). -/
theorem State.asyncPost_only (s : State) (c : Nat) (e : AsyncEvent) : s.asyncPost c e = { s with host := (s.asyncPost c e).host } := by
  unfold State.asyncPost
  dsimp only
  split
  · rfl
  · split <;> rfl

theorem State.asyncAll_fusesKept (s : State) (l : List Nat) (e : AsyncEvent) : s.fusesKept l (s.asyncAll e) := by
  have hpost : ∀ (t : State) (c : Nat), t.fusesKept l (t.asyncPost c e) := fun t c =>
    State.fusesKept_of_eq (by rw [State.asyncPost_only]) (by rw [State.asyncPost_only])
  exact State.fusesKept_trans (hpost s 0) (hpost _ 1)

theorem State.floorAdvance_fusesKept (s : State) : s.fusesKept [4, 36] s.floorAdvance :=
  State.when_fusesKept s (s.wr_fusesKept _ (by decide) (by decide) (by decide))

theorem State.evrCount_lost_fusesKept (s : State) (n : Nat) : s.fusesKept [4, 36] (s.evrCount R.EVR_CNT_lost n) :=
  State.fusesKept_trans (s.wr_fusesKept _ (by decide) (by decide) (by decide)) (State.when_fusesKept _ (State.raise_fusesKept _ _ 37))

theorem State.frkCount_drop_fusesKept (s : State) : s.fusesKept [4, 36] (s.frkCount R.FRK_CNT_evt_drop) :=
  State.fusesKept_trans (s.wr_fusesKept _ (by decide) (by decide) (by decide)) (State.when_fusesKept _ (State.raise_fusesKept _ _ 247))

/-- A frame sent touches FRK's own state alone. -/
theorem State.frkSendAcked_fusesKept (s : State) (l : List Nat) (x : FrameType) (dst : Nat) (p : List Byte) :
    s.fusesKept l (s.frkSendAcked x dst p) := State.fusesKept_of_eq rfl rfl

/-- Forwarding a record sends a frame, or counts the record dropped (R505). -/
theorem State.frkForwardEvent_fusesKept (s : State) (sev : Nat) (bytes : List Byte) :
    s.fusesKept [4, 36] (s.frkForwardEvent sev bytes) := by
  unfold State.frkForwardEvent
  split
  · extract_lets sec n
    split
    · refine State.fusesKept_trans ?_ (State.frkSendAcked_fusesKept _ _ _ _ _)
      exact State.fusesKept_of_eq rfl rfl
    · exact s.frkCount_drop_fusesKept
  · exact s.fusesKept_refl _

/-- A record committed goes to the ring, EVR_SEQ and the floor, the hosts and the Fretik ring. -/
theorem State.evrCommit_fusesKept (s : State) (code sev source : Nat) (byHw : Bool) (params : List Nat) :
    s.fusesKept [4, 36] (s.evrCommit code sev source byHw params) := by
  unfold State.evrCommit
  refine State.fusesKept_trans ?_ (State.frkForwardEvent_fusesKept _ _ _)
  refine State.fusesKept_trans ?_ (State.when_fusesKept _ (State.raise_fusesKept _ _ 36))
  refine State.fusesKept_trans ?_ (State.when_fusesKept _ (State.asyncAll_fusesKept _ _ _))
  refine State.fusesKept_trans ?_ (State.when_fusesKept _ (State.raise_fusesKept _ _ 33))
  refine State.fusesKept_trans ?_ (State.floorAdvance_fusesKept _)
  refine State.fusesKept_trans ?_ (State.wr_fusesKept _ _ (by decide) (by decide) (by decide))
  exact State.fusesKept_of_eq rfl rfl

/-- The pointer of a store lies in EVR. -/
theorem evrNextF_place {k : Nat} : (evrNextF k).off < 65536 ∧ (evrNextF k).lo < 32 ∧ (evrNextF k).blk = 4 := by
  unfold evrNextF
  split
  next hk =>
    refine ⟨?_, (by decide : R.EVR_STORE_NEXT01_next.lo < 32), rfl⟩
    simp only [Field.at, R.EVR_STORE_NEXT01_next]
    omega
  next => decide

theorem State.storeLag_fusesKept (s : State) (k : Nat) : s.fusesKept [4, 36] (s.storeLag k) := by
  obtain ⟨hoff, hlo, hblk⟩ := evrNextF_place (k := k)
  unfold State.storeLag
  split
  · refine State.fusesKept_trans ?_ (State.raise_fusesKept _ _ 35)
    refine State.fusesKept_trans ?_ (State.evrCommit_fusesKept _ _ _ _ _ _)
    refine State.fusesKept_trans ?_ (State.evrCount_lost_fusesKept _ _)
    exact s.wr_fusesKept _ hoff hlo (by simp [hblk])
  · exact s.fusesKept_refl _

/-! ## The fuses sensed (R64, R73, R509) -/

/-- The trims and references that CAL, block 5, takes from the fuses. -/
theorem State.calFuses_fusesKept (s : State) : s.fusesKept [5] s.calFuses := by
  have hat : ∀ {f : Field} {i : Nat} (t : State) (n : Nat), f.off + i * f.stride < 65536 → f.lo < 32 → f.blk = 5 →
      t.fusesKept [5] (t.wr (f.at i) n) := fun t n ho hl hb => t.wr_fusesKept n ho hl (by simp [Field.at, hb])
  refine State.fusesKept_trans (State.forEach_fusesKept s _ (fun i hi t => ?_)) (State.forEach_fusesKept _ _ (fun i hi t => ?_))
  · have hlt : i < 52 := List.mem_range.mp (List.mem_filter.mp hi).1
    refine State.fusesKept_trans (hat (f := R.CAL_TRIM_shadow) t _ ?_ (by decide) rfl)
      (hat (f := R.CAL_TRIM_active) _ _ ?_ (by decide) rfl)
    · simp only [R.CAL_TRIM_shadow]; omega
    · simp only [R.CAL_TRIM_active]; omega
  · have hlt : i < 7 := List.mem_range.mp hi
    refine hat (f := R.CAL_PMON_ref) t _ ?_ (by decide) rfl
    simp only [R.CAL_PMON_ref]
    omega

/-- A life-cycle state is read back from its code. -/
@[simp] theorem Lc.ofCode_code (x : Lc) : Lc.ofCode x.code = x := by cases x <;> rfl

/-- A life-cycle state written to JIG_STAT.lc_state is in force. -/
theorem State.lc_wr_lc_state (s : State) (x : Lc) : (s.wr R.JIG_STAT_lc_state x.code).lc = x := by
  have hfits : x.code % 2 ^ R.JIG_STAT_lc_state.w = x.code := by cases x <;> rfl
  rw [State.lc, State.rd_wr_same _ _ _ (by decide), hfits, Lc.ofCode_code]

/-- A write of another field leaves the life cycle in force. -/
theorem State.lc_wr_ne (s : State) {f : Field} (n : Nat) (h : R.JIG_STAT_lc_state.key ≠ f.key) : (s.wr f n).lc = s.lc :=
  congrArg Lc.ofCode (s.rd_wr_ne n h)

/-- Sensing the fuses puts in force the life-cycle state that they hold. -/
theorem State.fusesSense_lc (s : State) : s.fusesSense.lc = s.fuses.state := by
  unfold State.fusesSense
  rw [State.fusesKept_lc (State.calFuses_fusesKept _) (by decide)]
  simp (disch := decide) only [State.keyShow, State.wrB, State.wr64, State.lc_wr_ne, State.lc_wr_lc_state]

@[simp] theorem State.fusesSense_fuses (s : State) : s.fusesSense.fuses = s.fuses := (State.calFuses_fusesKept _).2

/-- A pattern other than those of BLANK, MANUFACTURE and DEPLOYED stands for RETIRED. -/
theorem Fuses.state_eq_retired {f : Fuses} (h0 : f.lifecycle ≠ 0) (h1 : f.lifecycle ≠ 1) (h2 : f.lifecycle ≠ 2) :
    f.state = .retired := by
  unfold Fuses.state
  split
  · rfl
  next h3 => simp only [Lc.ofCode]

/-! ## The release of a reset -/

/-- The start of AC0 touches the cores alone (R578). -/
theorem State.bootGo_only (s : State) : s.bootGo = { s with cores := s.bootGo.cores } := by
  unfold State.bootGo
  split <;> rfl

/-- The copy to try shown and the training begun leave the life cycle and the fuses. -/
theorem State.bootGo_tryCopy_lc (s : State) (copy : Nat) (other : Bool) (b : BootPhase) :
    (State.bootGo ((s.tryCopy copy other).setBoot b)).lc = s.lc := by
  rw [State.bootGo_only]
  exact State.lc_wr_ne _ copy (by decide)

theorem State.bootGo_tryCopy_fuses (s : State) (copy : Nat) (other : Bool) (b : BootPhase) :
    (State.bootGo ((s.tryCopy copy other).setBoot b)).fuses = s.fuses := by
  rw [State.bootGo_only]
  rfl

/-- POR_RELEASE puts in force the life-cycle state that the fuses hold, and leaves the fuses. -/
theorem exec_porRelease_lc {s : State} (strapBoot strapRole : BitVec 2) (strapXtal : Bool) (h : s.jig.boot = .reset) :
    ∃ t, exec (.porRelease strapBoot strapRole strapXtal) s = .next t ∧ t.lc = s.fuses.state ∧ t.fuses = s.fuses := by
  have hlag : ∀ u : State, u.fusesKept [4, 36] (u.forEach [0, 1, 2] State.storeLag) := fun u =>
    u.forEach_fusesKept _ (fun k _ t => t.storeLag_fusesKept k)
  refine ⟨_, congrArg Host.Outcome.next (if_neg (not_not_intro h)), ?_, ?_⟩
  · rw [State.fusesKept_lc (hlag _) (by decide), State.bootGo_tryCopy_lc, State.fusesSense_lc]
    rfl
  · rw [(hlag _).2, State.bootGo_tryCopy_fuses, State.fusesSense_fuses]
    rfl

end Sys2Proof.Machine

namespace Sys2Proof.Proofs
open Sys2Proof.Machine

/-- Settles O7: the release senses the fuses, and nothing that follows it writes JIG_STAT.lc_state. -/
theorem fusePatterns : Obligations.FusePatterns := by
  unfold Obligations.FusePatterns
  intro s strapBoot strapRole strapXtal hreset h0 h1 h2
  obtain ⟨t, hexec, hlc, hfuses⟩ := exec_porRelease_lc strapBoot strapRole strapXtal hreset
  exact ⟨t, hexec, hlc.trans (Fuses.state_eq_retired h0 h1 h2), hfuses⟩

end Sys2Proof.Proofs
